-- ==== Sys2Proof/Word.lean ====
section
/-! DEFINITION. The data units of 00_scope (R5, R6, R9, R10): words, pairs, triples, and the
canonical sparse map that every addressed store of the block is held in. -/

namespace Sys2Proof

/-- A word is 24 bits (R5). -/
abbrev Word := BitVec 24
/-- A pair is 48 bits, word 0 least significant (R5). -/
abbrev Pair := BitVec 48
/-- A triple is 72 bits, word 0 least significant (R5). -/
abbrev Triple := BitVec 72

/-- Word `n` (0, 1 or 2) of a triple (R5). -/
def Triple.word (t : Triple) (n : Nat) : Word := t.extractLsb' (24 * n) 24

/-- The triple made of words 0, 1 and 2 (R5). -/
def Triple.ofWords (w0 w1 w2 : Word) : Triple := w2 ++ w1 ++ w0

/-- Bits `[lo + len - 1 : lo]` of a word as a number. -/
def Word.field (w : Word) (lo len : Nat) : Nat := (w.toNat >>> lo) % 2 ^ len

/-- Bit `i` of a word. -/
def Word.bit (w : Word) (i : Nat) : Bool := w.getLsbD i

/-- The word with bits `[lo + len - 1 : lo]` replaced by `v` modulo `2 ^ len`. -/
def Word.setField (w : Word) (lo len v : Nat) : Word :=
  let mask : Word := BitVec.ofNat 24 ((2 ^ len - 1) <<< lo)
  (w &&& ~~~mask) ||| BitVec.ofNat 24 ((v % 2 ^ len) <<< lo)

/-- Bits of a triple as a number. -/
def Triple.field (t : Triple) (lo len : Nat) : Nat := (t.toNat >>> lo) % 2 ^ len

/-- The triple with bits `[lo + len - 1 : lo]` replaced by `v` modulo `2 ^ len`. -/
def Triple.setField (t : Triple) (lo len v : Nat) : Triple :=
  let mask : Triple := BitVec.ofNat 72 ((2 ^ len - 1) <<< lo)
  (t &&& ~~~mask) ||| BitVec.ofNat 72 ((v % 2 ^ len) <<< lo)

/-- A sparse store keyed by number: strictly rising keys, no entry equal to the default. -/
abbrev Map (α : Type) := List (Nat × α)

/-- The value at key `k`; an unlisted key reads as `d k`. -/
def Map.get {α : Type} (d : Nat → α) : Map α → Nat → α
  | [], k => d k
  | (j, v) :: m, k => if k = j then v else Map.get d m k

/-- The list without key `k`. -/
def Map.erase {α : Type} : Map α → Nat → Map α
  | [], _ => []
  | (j, v) :: m, k => if k = j then Map.erase m k else (j, v) :: Map.erase m k

/-- Put `(k, v)` before the first greater key. -/
def Map.put {α : Type} (k : Nat) (v : α) : Map α → Map α
  | [] => [(k, v)]
  | (j, w) :: m => if k < j then (k, v) :: (j, w) :: m else (j, w) :: Map.put k v m

/-- Write `v` at `k`, keeping the canonical form: writing the default removes the entry. -/
def Map.set {α : Type} [DecidableEq α] (d : Nat → α) (m : Map α) (k : Nat) (v : α) : Map α :=
  if v = d k then Map.erase m k else Map.put k v (Map.erase m k)

/-- Every key of the list is above `k`. -/
def Map.above {α : Type} (k : Nat) : Map α → Bool
  | [] => true
  | (j, _) :: m => decide (k < j) && Map.above k m

/-- The canonical form: keys strictly rise and no entry equals the default. -/
def Map.wf {α : Type} [DecidableEq α] (d : Nat → α) : Map α → Bool
  | [] => true
  | (j, v) :: m => Map.above j m && decide (v ≠ d j) && Map.wf d m

end Sys2Proof
end

