-- ==== Sys2Proof/Syntax.lean ====
section
/-! DEFINITION. The commands of the block: one constructor of Instr for each row of the spec's
table of operations and events, with the operands that the row's rule gives it. -/

namespace Sys2Proof

/-- A five-bit register field of a strand instruction (R190). -/
abbrev Reg := BitVec 5

/-- A context: pavilion, pipeline 0 to 3, context 0 to 3 (R26). -/
structure CtxId where
  pav : Nat
  pipe : Nat
  ctx : Nat
deriving DecidableEq, Repr

/-- A frame token or port token as it crosses the Trellis (R45, R68): source node, the issuing
context or cell of that node, master identity word (Table 12-8; 0 for a cell), source tenant (R73),
virtual channel, tag, value and, on VC3, the complement; `poison` is 1 when a unit arrived poisoned. -/
structure Token where
  node : Nat
  unit : Nat
  master : Word
  tenant : Nat
  vc : Nat
  tag : Triple
  value : Triple
  comp : Triple
  poison : Bool
deriving DecidableEq, Repr

/-- An event-log record as its reporter forms it (R601): code, reporting node, master, detail,
TIME of the event and the continuation triple that Table 18-9 names. -/
structure LogRec where
  code : Nat
  node : Nat
  master : Word
  detail : Word
  time : Triple
  cont : Option Triple
deriving DecidableEq, Repr

/-- Who asks flags to be set in a task (R145): a master with its tenant, the device acting as tenant 0, or a
source that a DISP.BIND entry of KIND 1 to 3 names (already resolved to its entry's flags). -/
inductive SevSource where
  | master (tenant : Nat) (master : Word) (node : Nat)
  | device
  | bind (kind src : Nat)
deriving DecidableEq, Repr

/-- A FREE as it travels (R99), with the node that sent it: `record` marks a release from the record of a cut-short
strand (R101). -/
structure FreePkt where
  handle : Triple
  tenant : Nat
  master : Word
  node : Nat
  record : Bool
deriving DecidableEq, Repr

/-- An allocation request (R102, R104, R208): the asking context, its request number, tenant, template, epoch and
whether it is an ALLOCW. -/
structure AllocReq where
  c : CtxId
  rid : Nat
  tenant : Nat
  tmpl : Nat
  epoch : Nat
  wait : Bool
deriving DecidableEq, Repr

/-- A SPAWN reservation request (R142). -/
structure SpawnReq where
  c : CtxId
  rid : Nat
  tenant : Nat
  wgrp : Nat
  entry : Nat
  arg : Triple
deriving DecidableEq, Repr


/-- Outcome of the SEC-DED check of what a command reads (R83, R281, R323, R383, R486): the bit errors that strike
a store are the environment's. -/
inductive Ecc where
  | sound | single | double
deriving DecidableEq, Repr

/-- The header of a request packet (Table 11-3): destination node, source node, context of a pavilion source, RID,
source tenant, master identity, and a mask of its poisoned data units. -/
structure Req where
  dest : Nat
  node : Nat
  unit : Nat
  rid : Nat
  tenant : Nat
  master : Word
  poison : Nat
deriving DecidableEq, Repr

/-- Why a pavilion is fenced (R584): a residue check, a parity check, a double-bit error in its code store, decode table or
micro-op store, or a write of DEP.PAV[p] by the warden. -/
inductive FenceWhy where
  | residue | parity | store
  | warden (q : Req) (v : Word)
deriving DecidableEq, Repr

/-- The header of a response packet (Table 11-3): the requester's node, context and RID, source node, STATUS, DUP, and
a mask of its poisoned data units. -/
structure Rsp where
  node : Nat
  unit : Nat
  rid : Nat
  src : Nat
  status : Nat
  dup : Bool
  poison : Nat
deriving DecidableEq, Repr

/-- A state word with its poison mark (R309). -/
structure SWord where
  v : Word
  bad : Bool
deriving DecidableEq, Repr

/-- Header fields of a packet on a Finsuri link (Table 11-3, R465): source device and node, context or cell of that
node, source tenant, master identity, RID of a request or its response, and destination device. -/
structure LinkHdr where
  sdev : Nat
  snode : Nat
  unit : Nat
  tenant : Nat
  master : Word
  rid : Nat
  ddev : Nat
deriving DecidableEq, Repr

/-- A packet on a Finsuri link (R466); `other` is a packet that a link does not carry. -/
inductive LinkPkt where
  | ftok (h : LinkHdr) (vc : Nat) (tag value comp : Triple) (poison : Bool)
  | ptok (h : LinkHdr) (vc : Nat) (tag value comp : Triple) (poison : Bool)
  | free (h : LinkHdr) (handle : Triple)
  | sev (h : LinkHdr) (task : Nat) (flags : Word)
  | regrd (h : LinkHdr) (a : Nat)
  | regwr (h : LinkHdr) (a : Nat) (v : Word)
  | rsp (h : LinkHdr) (status : Nat) (dup : Bool)
  | rdata (h : LinkHdr) (status : Nat) (ws : List Word)
  | other (h : LinkHdr) (vc cmd : Nat)
deriving DecidableEq, Repr

/-- A Finsuri frame as it arrives (R467, R470): CRC outcome, SEQ, ACK, NAK, and its packets. -/
structure LinkFrame where
  crcOk : Bool
  seq : Nat
  ack : Nat
  nak : Bool
  pkts : List LinkPkt
deriving DecidableEq, Repr


/-- A request from outside the die at its ingress node (R354, R479): the link header of a request that came over a link
(none for a mailbox), the ingress node, the source (entry of the source map, or host function), its RID, what it asks (1
read, 2 write, 3 SET alias write, 4 CLEAR alias write), word address, write data and width in words. -/
structure Ingress where
  link : Option LinkHdr
  node : Nat
  src : Nat
  rid : Nat
  cmd : Nat
  addr : Word
  data : List Word
  width : Nat
deriving DecidableEq, Repr

/-- An Ethernet frame as it arrives (R483, R484): outcome of its FCS, its bytes without FCS, and the TIME at which its
start-of-frame delimiter passed the reference plane. -/
structure EthFrame where
  fcsOk : Bool
  bytes : List (BitVec 8)
  stamp : Triple
deriving DecidableEq, Repr

/-- An input from outside the die, as the lead of a duplex pair forwards it to its shadow (R592), with the two kinds of
message that carry a result of the lead: a port capture, and an access of a task to the legacy port's storage (R596). -/
inductive ExtInput where
  | barRead (f bar a tag : Nat)
  | barWrite (f bar a : Nat) (v : Word) (whole : Bool)
  | mailbox (f cmd : Nat)
  | noticeRead (f : Nat)
  | sevFlags (f : Nat) (v : Word)
  | functionReset (f : Nat)
  | packet (l : Nat) (p : LinkPkt)
  | eth (e : Nat) (f : EthFrame)
  | legRead (a : BitVec 16) (coll late : Bool)
  | legWrite (a : BitVec 16) (v : BitVec 16) (coll late : Bool)
  | legTry (k : BitVec 3)
  | legRelease (k : BitVec 3)
  | capture (c ty : Nat) (v : Triple) (g : Nat)
  | legResult (task n status : Nat) (ws : List Word)
deriving DecidableEq, Repr

/-- What an intent, an agreement and a DONE name (R594): kind of stream (0 Finsuri request, 1 posted Finsuri packet, 2
Finsuri response, 3 Ethernet port, 4 queue), stream, and pair sequence number. -/
structure PairKey where
  kind : Nat
  strm : Nat
  psn : Nat
deriving DecidableEq, Repr


/-- The commands of the block: one constructor for each row of the spec's table of operations and events. -/
inductive Instr where
  /-- NOP (R211). The all-zero instruction issues and does nothing. -/
  | nop (c : CtxId) (a b : Reg) (k : BitVec 2)
  /-- SYNC (R211). Makes every earlier SY write of the context take effect before the next instruction issues. -/
  | sync (c : CtxId) (a b : Reg) (k : BitVec 2)
  /-- SYNC_I (R237). Drains the code-write buffer and refetches the instructions after itself. -/
  | syncI (c : CtxId) (a b : Reg) (k : BitVec 2)
  /-- END (R211). Releases the staged set, releases the activation's slots or frees the task, and frees the context. -/
  | endStrand (c : CtxId) (a b : Reg) (k : BitVec 2) (svc : Nat)
  /-- FENCE (R320). FENCE with K = 0 orders every earlier state access before every later one. -/
  | fence (c : CtxId) (a b : Reg) (k : BitVec 2)
  /-- FENCE_WRITES (R320). FENCE with K = 1 holds later stores until every earlier store is visible. -/
  | fenceWrites (c : CtxId) (a b : Reg)
  /-- ARET (R242). Returns from an alert handler, or chains to the next pending alert cause. -/
  | aret (c : CtxId) (a b : Reg) (k : BitVec 2)
  /-- BRK (R211). Halts the context for the debug port when BRK is enabled, else raises BREAK. -/
  | brk (c : CtxId) (a b : Reg) (k : BitVec 2)
  /-- LPOP (R211). Ends the innermost active loop level. -/
  | lpop (c : CtxId) (a b : Reg) (k : BitVec 2)
  /-- MCOMMIT (R217). Makes every staged write of a restartable micro-routine take effect in order. -/
  | mcommit (c : CtxId) (a b : Reg) (k : BitVec 2)
  /-- ADD (R201). Adds two registers and sets the arithmetic flags. -/
  | add (c : CtxId) (d a b : Reg)
  /-- ADC (R201). Adds two registers and the carry. -/
  | adc (c : CtxId) (d a b : Reg)
  /-- SUB (R201). Subtracts two registers and sets the arithmetic flags. -/
  | sub (c : CtxId) (d a b : Reg)
  /-- SBC (R201). Subtracts with borrow. -/
  | sbc (c : CtxId) (d a b : Reg)
  /-- AND (R201). Bitwise AND of two registers. -/
  | andW (c : CtxId) (d a b : Reg)
  /-- OR (R201). Bitwise OR of two registers. -/
  | orW (c : CtxId) (d a b : Reg)
  /-- XOR (R201). Bitwise XOR of two registers. -/
  | xorW (c : CtxId) (d a b : Reg)
  /-- ANDN (R201). AND of a register with the complement of another. -/
  | andn (c : CtxId) (d a b : Reg)
  /-- SHL (R253). Shifts left by a register count and sets C. -/
  | shl (c : CtxId) (d a b : Reg)
  /-- SHR (R253). Shifts right logically by a register count. -/
  | shr (c : CtxId) (d a b : Reg)
  /-- SAR (R253). Shifts right arithmetically by a register count. -/
  | sar (c : CtxId) (d a b : Reg)
  /-- ROL (R201). Rotates left by the count modulo 24. -/
  | rol (c : CtxId) (d a b : Reg)
  /-- MIN (R201). Signed lesser of two registers. -/
  | minW (c : CtxId) (d a b : Reg)
  /-- MAX (R201). Signed greater of two registers. -/
  | maxW (c : CtxId) (d a b : Reg)
  /-- MINU (R201). Unsigned lesser of two registers. -/
  | minu (c : CtxId) (d a b : Reg)
  /-- MAXU (R201). Unsigned greater of two registers. -/
  | maxu (c : CtxId) (d a b : Reg)
  /-- CMP (R201). Sets the flags of a subtraction without writing a result. -/
  | cmp (c : CtxId) (d a b : Reg)
  /-- TST (R201). Sets the flags of an AND without writing a result. -/
  | tst (c : CtxId) (d a b : Reg)
  /-- SLT (R201). Writes 1 if the first register is less, signed. -/
  | slt (c : CtxId) (d a b : Reg)
  /-- SLTU (R201). Writes 1 if the first register is less, unsigned. -/
  | sltu (c : CtxId) (d a b : Reg)
  /-- SEQ (R201). Writes 1 if the registers are equal. -/
  | seq (c : CtxId) (d a b : Reg)
  /-- ADDI (R201). Adds a sign-extended immediate. -/
  | addi (c : CtxId) (d a : Reg) (imm : BitVec 8)
  /-- ANDI (R201). ANDs a zero-extended immediate. -/
  | andi (c : CtxId) (d a : Reg) (imm : BitVec 8)
  /-- ORI (R201). ORs a zero-extended immediate. -/
  | ori (c : CtxId) (d a : Reg) (imm : BitVec 8)
  /-- XORI (R201). XORs a zero-extended immediate. -/
  | xori (c : CtxId) (d a : Reg) (imm : BitVec 8)
  /-- SHLI (R201). Shifts left by an immediate count. -/
  | shli (c : CtxId) (d a : Reg) (imm : BitVec 8)
  /-- SHRI (R201). Shifts right logically by an immediate count. -/
  | shri (c : CtxId) (d a : Reg) (imm : BitVec 8)
  /-- SARI (R201). Shifts right arithmetically by an immediate count. -/
  | sari (c : CtxId) (d a : Reg) (imm : BitVec 8)
  /-- CMPI (R201). Sets the flags of a subtraction of an immediate. -/
  | cmpi (c : CtxId) (d a : Reg) (imm : BitVec 8)
  /-- MOVI (R201). Loads a sign-extended 13-bit immediate. -/
  | movi (c : CtxId) (d : Reg) (imm : BitVec 13)
  /-- MOVH (R201). Replaces the upper bits of a register with an immediate. -/
  | movh (c : CtxId) (d : Reg) (imm : BitVec 13)
  /-- MOV (R201). Copies one word. -/
  | mov (c : CtxId) (d a b : Reg)
  /-- MOVP (R201). Copies a pair. -/
  | movp (c : CtxId) (d a b : Reg)
  /-- MOVT (R201). Copies a triple. -/
  | movt (c : CtxId) (d a b : Reg)
  /-- NOT (R201). Writes the complement of a register. -/
  | notW (c : CtxId) (d a b : Reg)
  /-- NEG (R201). Writes zero minus a register. -/
  | neg (c : CtxId) (d a b : Reg)
  /-- CLZ (R201). Counts leading zeros. -/
  | clz (c : CtxId) (d a b : Reg)
  /-- POPC (R201). Counts set bits. -/
  | popc (c : CtxId) (d a b : Reg)
  /-- MFS (R187). Reads a special register. -/
  | mfs (c : CtxId) (d a b : Reg)
  /-- MTS (R187). Writes a special register. -/
  | mts (c : CtxId) (d a b : Reg)
  /-- LD (R195). Loads one word through the segment map. -/
  | ld (c : CtxId) (d a : Reg) (mode : BitVec 3) (x : Reg) (ecc : Ecc)
  /-- LDP (R195). Loads a pair through the segment map. -/
  | ldp (c : CtxId) (d a : Reg) (mode : BitVec 3) (x : Reg) (ecc : Ecc)
  /-- LDT (R195). Loads a triple through the segment map. -/
  | ldt (c : CtxId) (d a : Reg) (mode : BitVec 3) (x : Reg) (ecc : Ecc)
  /-- ST (R195). Stores one word through the segment map. -/
  | st (c : CtxId) (d a : Reg) (mode : BitVec 3) (x : Reg)
  /-- STP (R195). Stores a pair through the segment map. -/
  | stp (c : CtxId) (d a : Reg) (mode : BitVec 3) (x : Reg)
  /-- STT (R195). Stores a triple through the segment map. -/
  | stt (c : CtxId) (d a : Reg) (mode : BitVec 3) (x : Reg)
  /-- LDS (R196). Reads a slot of the activation's own frame. -/
  | lds (c : CtxId) (d a : Reg) (imm : BitVec 8)
  /-- STS (R196). Writes a slot of the activation's own frame. -/
  | sts (c : CtxId) (d a : Reg) (imm : BitVec 8)
  /-- MUL (R254). Forms the signed 48-bit product in PH:PL. -/
  | mul (c : CtxId) (d a b : Reg)
  /-- MULU (R254). Forms the unsigned 48-bit product in PH:PL. -/
  | mulu (c : CtxId) (d a b : Reg)
  /-- MAC (R255). Adds a signed product to ACC. -/
  | mac (c : CtxId) (d a b : Reg)
  /-- MACU (R255). Adds an unsigned product to ACC. -/
  | macu (c : CtxId) (d a b : Reg)
  /-- MSU (R255). Subtracts a signed product from ACC. -/
  | msu (c : CtxId) (d a b : Reg)
  /-- MSUU (R255). Subtracts an unsigned product from ACC. -/
  | msuu (c : CtxId) (d a b : Reg)
  /-- MULW (R254). Writes the low word of the product. -/
  | mulw (c : CtxId) (d a b : Reg)
  /-- DIV (R256). Signed division into PL and PH. -/
  | div (c : CtxId) (d a b : Reg)
  /-- DIVU (R256). Unsigned division into PL and PH. -/
  | divu (c : CtxId) (d a b : Reg)
  /-- CLRACC (R202). Clears ACC. -/
  | clracc (c : CtxId) (d a b : Reg)
  /-- ACCSR (R255). Shifts ACC right arithmetically. -/
  | accsr (c : CtxId) (d a b : Reg)
  /-- ACCSAT (R255). Writes ACC clamped to 24 bits and sets V. -/
  | accsat (c : CtxId) (d a b : Reg)
  /-- FADD_D (R203). Double-precision addition. -/
  | faddD (c : CtxId) (d a b : Reg)
  /-- FSUB_D (R203). Double-precision subtraction. -/
  | fsubD (c : CtxId) (d a b : Reg)
  /-- FMUL_D (R203). Double-precision multiplication. -/
  | fmulD (c : CtxId) (d a b : Reg)
  /-- FDIV_D (R203). Double-precision division. -/
  | fdivD (c : CtxId) (d a b : Reg)
  /-- FADD_S (R203). Single-precision addition. -/
  | faddS (c : CtxId) (d a b : Reg)
  /-- FSUB_S (R203). Single-precision subtraction. -/
  | fsubS (c : CtxId) (d a b : Reg)
  /-- FMUL_S (R203). Single-precision multiplication. -/
  | fmulS (c : CtxId) (d a b : Reg)
  /-- FDIV_S (R203). Single-precision division. -/
  | fdivS (c : CtxId) (d a b : Reg)
  /-- FMA_D (R266). Double-precision fused multiply-add, rounded once. -/
  | fmaD (c : CtxId) (d a b : Reg)
  /-- FMS_D (R266). Double-precision fused Fd minus product, rounded once. -/
  | fmsD (c : CtxId) (d a b : Reg)
  /-- FMA_S (R266). Single-precision fused multiply-add. -/
  | fmaS (c : CtxId) (d a b : Reg)
  /-- FMS_S (R266). Single-precision fused multiply-subtract. -/
  | fmsS (c : CtxId) (d a b : Reg)
  /-- FSQRT_D (R203). Double-precision square root. -/
  | fsqrtD (c : CtxId) (d a b : Reg)
  /-- FSQRT_S (R203). Single-precision square root. -/
  | fsqrtS (c : CtxId) (d a b : Reg)
  /-- FMIN_D (R269). minimumNumber of two doubles. -/
  | fminD (c : CtxId) (d a b : Reg)
  /-- FMAX_D (R269). maximumNumber of two doubles. -/
  | fmaxD (c : CtxId) (d a b : Reg)
  /-- FCMP_D (R204). Quiet double comparison setting FL. -/
  | fcmpD (c : CtxId) (d a b : Reg)
  /-- FCMP_S (R204). Quiet single comparison setting FL. -/
  | fcmpS (c : CtxId) (d a b : Reg)
  /-- FNEG_D (R269). Inverts the sign bit. -/
  | fnegD (c : CtxId) (d a b : Reg)
  /-- FABS_D (R269). Clears the sign bit. -/
  | fabsD (c : CtxId) (d a b : Reg)
  /-- FCVT_SD (R268). Converts binary64 to binary32 under RM. -/
  | fcvtSd (c : CtxId) (d a b : Reg)
  /-- FCVT_DS (R268). Converts binary32 to binary64 exactly. -/
  | fcvtDs (c : CtxId) (d a b : Reg)
  /-- FITOF_D (R268). Converts a signed word to binary64 exactly. -/
  | fitofD (c : CtxId) (d a b : Reg)
  /-- FFTOI_D (R268). Converts binary64 to a saturated signed word under RM. -/
  | fftoiD (c : CtxId) (d a b : Reg)
  /-- FMVW_D (R203). Moves an F64 window triple into an F register. -/
  | fmvwD (c : CtxId) (d a b : Reg)
  /-- FMVW_S (R203). Moves an F32 window pair into an F register. -/
  | fmvwS (c : CtxId) (d a b : Reg)
  /-- WMVF_D (R203). Moves an F register into a W triple. -/
  | wmvfD (c : CtxId) (d a b : Reg)
  /-- WMVF_S (R203). Moves the single part of an F register into a W pair. -/
  | wmvfS (c : CtxId) (d a b : Reg)
  /-- B_COND (R198). Branches by condition code to a relative target. -/
  | bCond (c : CtxId) (cond : BitVec 4) (off : BitVec 14)
  /-- BRA (R198). Branches unconditionally to a relative target. -/
  | bra (c : CtxId) (off : BitVec 18)
  /-- CALL (R185). Slides the window up, saves LNK and transfers control. -/
  | call (c : CtxId) (off : BitVec 18)
  /-- JR (R198). Jumps to the address in a register. -/
  | jr (c : CtxId) (d a b : Reg)
  /-- CALLR (R198). Calls the address in a register. -/
  | callr (c : CtxId) (d a b : Reg)
  /-- RET (R185). Ends the callee's loop levels, slides the window back and returns to LNK. -/
  | ret (c : CtxId) (d a b : Reg)
  /-- LOOP (R199). Opens a loop level with a register count. -/
  | loop (c : CtxId) (a : Reg) (last : BitVec 13)
  /-- LOOPI (R199). Opens a loop level with an immediate count. -/
  | loopi (c : CtxId) (cnt : BitVec 8) (last : BitVec 10)
  /-- SEND (R205). Stages a frame token built from a handle. -/
  | send (c : CtxId) (h v : Reg) (ty : BitVec 3) (off : Reg)
  /-- SEND_C (R205). Stages a critical frame token built from a handle. -/
  | sendC (c : CtxId) (h v : Reg) (ty : BitVec 3) (off : Reg)
  /-- SENDC (R206). Stages a frame token to a continuation as it stands. -/
  | sendc (c : CtxId) (d a b : Reg)
  /-- SENDC_C (R206). Stages a critical frame token to a continuation. -/
  | sendcC (c : CtxId) (d a b : Reg)
  /-- SENDP (R206). Stages a port token. -/
  | sendp (c : CtxId) (d a b : Reg)
  /-- SENDP_C (R206). Stages a critical port token. -/
  | sendpC (c : CtxId) (d a b : Reg)
  /-- ALLOC (R208). Requests a frame from a template and returns a handle or NONE. -/
  | alloc (c : CtxId) (d a : Reg) (imm : BitVec 8)
  /-- ALLOCW (R208). Releases the staged set and allocates a frame, parking the task if none is free. -/
  | allocw (c : CtxId) (d a : Reg) (imm : BitVec 8) (svc : Nat)
  /-- FREE (R209). Stages the release of a frame. -/
  | freeF (c : CtxId) (d a b : Reg)
  /-- SPAWN (R142). Reserves a task number and stages the task's creation. -/
  | spawn (c : CtxId) (d a b : Reg)
  /-- SEV (R145). Stages the setting of flags in a target task's EVF. -/
  | sev (c : CtxId) (d a b : Reg)
  /-- WFE (R144). Releases the staged set and waits for EVF AND EVM to be nonzero. -/
  | wfe (c : CtxId) (d a b : Reg) (svc : Nat)
  /-- WAITT (R146). Releases the staged set and waits until TIME reaches a target. -/
  | waitt (c : CtxId) (d a b : Reg) (svc : Nat)
  /-- GETT (R417). Reads TIME into a register triple. -/
  | gett (c : CtxId) (d a b : Reg)
  /-- QPUT (R209). Sends a word to be appended to the queue's open packet. -/
  | qput (c : CtxId) (d a b : Reg)
  /-- QGET (R209). Requests the next word of the head packet. -/
  | qget (c : CtxId) (d a b : Reg)
  /-- QCMT (R375). Stages the commit of the open packet. -/
  | qcmt (c : CtxId) (d a b : Reg)
  /-- QRWD (R376). Rewinds the open packet at once. -/
  | qrwd (c : CtxId) (d a b : Reg)
  /-- QDROP (R380). Drops the rest of the claimed packet at once. -/
  | qdrop (c : CtxId) (d a b : Reg)
  /-- QSTAT (R382). Requests the queue status word. -/
  | qstat (c : CtxId) (d a b : Reg)
  /-- CUSTOM_INSTRUCTION (R213). Runs the micro-routine of a decode-table entry. -/
  | customInstruction (c : CtxId) (sub : BitVec 6) (ops : BitVec 12)
  /-- LONG_OP_COMPLETE (R227). A long operation writes its result and clears its scoreboard bits. -/
  | longOpComplete (c : CtxId) (n : Nat)
  /-- TIME_SLICE_EXPIRY (R231). A context has issued for SLICE x 64 steps while another is READY. -/
  | timeSliceExpiry (c : CtxId)
  /-- PRELOAD_COMPLETE (R232). Operand preload ends and the context becomes READY, or the activation is dropped or cut short. -/
  | preloadComplete (c : CtxId) (reread : Bool) (ecc : Ecc) (k : Nat)
  /-- PREEMPTION (R131). A pipeline suspends a group 1-63 context for a ready group-0 context at an instruction boundary. -/
  | preemption (c : CtxId)
  /-- TASK_SAVE_COMPLETE (R233). A waiting task's save area is written and its context becomes FREE. -/
  | taskSaveComplete (c : CtxId)
  /-- TASK_RESTORE_COMPLETE (R233). A woken task's save area is read back and it issues from its resume address. -/
  | taskRestoreComplete (c : CtxId)
  /-- BUDGET (R240). A strand's service passes its group's budget and raises the BUDGET alert. -/
  | budgetAlert (c : CtxId)
  /-- ALERT_ENTRY (R241). A context takes a pending alert at an instruction boundary and enters its handler. -/
  | alertEntry (c : CtxId)
  /-- FTOK (R72). A frame token reaches its slice and is checked and matched. -/
  | ftok (t : Token)
  /-- FIRE_NOTICE (R134). A flow activation's fire notice reaches the hub and joins the flow's order list. -/
  | fireNotice (sl : Nat)
  /-- HAND_OVER (R95). A slice hands a fired activation to its port against a credit. -/
  | handOver (sl : Nat)
  /-- DISPATCH_DECISION (R121). A port runs SELECT and PLACE to bind or queue an entry. -/
  | dispatchDecision (r : Nat)
  /-- PAVILION_QUEUE_BIND (R127). A freed context takes the head of its pavilion queue. -/
  | pavilionQueueBind (p : Nat)
  /-- RECALL_ANSWER (R138). A slice's answer to a flow-head recall reaches the port. -/
  | recallAnswer (f : Nat)
  /-- LAND (R135). A landing reply reaches the pacing source, which may send its next held token. -/
  | land (sl node unit flow : Nat)
  /-- PACE_TIMEOUT (R136). No landing reply arrives within the on-chip timeout. -/
  | paceTimeout (node unit flow : Nat)
  /-- WAKE_REQUEST (R130). An entry without candidates waits past WAKE_AFTER and the port asks a wake. -/
  | wakeRequest (r g : Nat)
  /-- SLOT_RELEASE (R97). The END release of an activation's slots takes effect at the slice. -/
  | slotRelease (h : Triple)
  /-- FREE_PACKET (R99). A FREE reaches the frame's slice and releases it if owner and GEN match. -/
  | freePacket (q : FreePkt)
  /-- ALLOC_REQUEST (R102). An allocation request reaches its first slice and walks the slices. -/
  | allocRequest (q : AllocReq)
  /-- ALLOC_REPLY (R103). The handle or NONE of an ALLOC reaches the context. -/
  | allocReply (c : CtxId) (rid : Nat) (h : Triple) (ok : Bool)
  /-- ALLOCW_RERUN (R105). A release notice reaches the hub, which reruns the oldest parked ALLOCW. -/
  | allocwRerun
  /-- GEN_QUARANTINE_END (R169). A frame number's GEN quarantine ends and it joins its pool's free list. -/
  | genQuarantineEnd (f : Nat)
  /-- SEV_ARRIVAL (R145). An SEV reaches the task table and ORs flags into EVF, waking a waiting task. -/
  | sevArrival (task : Nat) (flags : Word) (src : SevSource)
  /-- SPRES (R142). A SPAWN reservation request reaches the hub and reserves a task number. -/
  | spres (q : SpawnReq)
  /-- SPAWN_RELEASE (R142). A released SPAWN makes the reserved task READY. -/
  | spawnRelease (n entry wgrp : Nat) (c : CtxId) (tenant : Nat) (arg : Triple)
  /-- WAITT_TARGET_REACHED (R146). TIME reaches a waiting task's target and the task becomes READY. -/
  | waittTargetReached (n : Nat)
  /-- DOMAIN_VISIT (R168). The hub evaluates one wait domain for deadlock. -/
  | domainVisit (d : Nat)
  /-- FLOWHANG (R177). A flow stays busy past HANG_US with a later member waiting. -/
  | flowhang (f : Nat)
  /-- KILL (R148). A warden write of KILL ends a task as if cut short. -/
  | taskKill (q : Req) (n : Nat) (v : Word)
  /-- EVF_WRITE (R162). A warden write of 1 to an EVF bit sets it as an SEV would. -/
  | evfWrite (q : Req) (n : Nat) (v : Word)
  /-- PTOK (R441). A port token reaches its bank and is checked. -/
  | ptok (b : Nat) (t : Token)
  /-- PORT_COMMIT (R442). A COMMIT enters the cell's commit queue or meets the late policy. -/
  | portCommit (b : Nat)
  /-- PORT_ARM (R449). An ARM records a continuation target in the cell. -/
  | portArm (b : Nat)
  /-- PORT_DISARM (R449). A DISARM clears the cell's target. -/
  | portDisarm (b : Nat)
  /-- COMMIT_ACT (R443). At the head entry's grid instant the cell applies the commit. -/
  | commitAct (c : Nat)
  /-- EXPECT_DEADLINE (R444). No commit is queued at the EXPECT deadline and the cell counts a miss. -/
  | expectDeadline (c : Nat)
  /-- SCHEDULE_INSTANT (R435). A cell reaches a schedule instant and samples or starts a PWM period. -/
  | scheduleInstant (c : Nat)
  /-- INPUT_EDGE (R436). A selected edge at a TSIN or TIMER pin makes a capture. -/
  | inputEdge (c : Nat) (level : Bool)
  /-- QUAD_TRANSITION (R436). A transition of A or B changes the quadrature count. -/
  | quadTransition (c : Nat) (a b : Bool)
  /-- PULSE_EDGE (R436). A PULSE cell emits the next pulse of its burst. -/
  | pulseEdge (c : Nat)
  /-- SSI_TRANSFER_DONE (R436). An SSI transfer reads its last bit and makes a capture. -/
  | ssiTransferDone (c data : Nat)
  /-- UART_RX_CHARACTER (R436). A UART cell receives a character and makes a capture. -/
  | uartRxCharacter (c ch : Nat) (ferr perr : Bool) (start : Nat)
  /-- SPI_TRANSFER_DONE (R436). An SPI transfer ends and makes a capture. -/
  | spiTransferDone (c data : Nat)
  /-- CAPTURE_INJECT (R450). An armed cell injects the tokens of its head capture. -/
  | captureInject (c : Nat)
  /-- RESUME (R446). An owner write of RESUME returns a cell from SAFE to RUN. -/
  | cellResume (q : Req) (c : Nat)
  /-- FLUSH (R459). A CONTROL write discards the cell's capture queue. -/
  | cellFlush (q : Req) (c : Nat)
  /-- POP (R453). A read of the POP view takes the head capture. -/
  | cellPop (q : Req) (c : Nat)
  /-- RECOVER (R446). A warden write returns a cell from SAFE or FAULTED to RUN. -/
  | cellRecover (q : Req) (c : Nat) (v : Word)
  /-- CALGO (R439). A write starts a bank calibration run. -/
  | calgo (q : Req) (b : Nat) (v : Word)
  /-- CALIBRATION_DONE (R439). A calibration run ends and CALOK is set. -/
  | calibrationDone (b : Nat)
  /-- VIO_LOSS (R456). A bank's VIOOK falls and its cells enter SAFE. -/
  | vioLoss (b : Nat)
  /-- VIO_RETURN (R619). A bank's VIO stays in range for 100 us and VIOOK returns. -/
  | vioReturn (b : Nat)
  /-- TICK (R402). TIME and ELAPSED advance by one tick. -/
  | tick
  /-- PPS_EDGE (R405). A rising edge on TK_PPS gives an offset sample. -/
  | ppsEdge
  /-- OFFSET (R428). A warden write delivers a PTP offset sample. -/
  | ptpOffset (q : Req) (v : Word)
  /-- SOURCE_TIMEOUT (R407). A source passes TMO_MS without a sample and loses validity. -/
  | sourceTimeout (i : Nat)
  /-- HOLD_LIMIT_EXCEEDED (R412). HOLDERR passes HOLD_LIMIT and the keeper goes to FREERUN. -/
  | holdLimitExceeded
  /-- STEP (R413). A warden write asks a step of TIME. -/
  | timeStep (q : Req) (v : Word)
  /-- SECONDS_KEEPER_SECOND (R419). The seconds keeper's divider rolls over and SECS advances. -/
  | secondsKeeperSecond
  /-- HOP_RESEND (R345). A hop receiver finds a bad unit and the sender resends from it. -/
  | hopResend (cl port fail idx unit : Nat)
  /-- REQUEST_TIMEOUT (R350). A request's end-to-end timer expires and it completes as timed out. -/
  | requestTimeout (node rid : Nat)
  /-- INGRESS_REQUEST (R355). A request from outside the die meets its source's duplicate window. -/
  | ingressRequest (g : Ingress)
  /-- HOLD (R358). A HOLD response reaches the requester and restarts its timer. -/
  | holdRsp (p : Rsp)
  /-- RD (R315). A read-shared request reaches the home. -/
  | rdLine (q : Req) (n : Nat) (ecc : Ecc)
  /-- RDX (R315). A read-exclusive request reaches the home. -/
  | rdxLine (q : Req) (n : Nat) (ecc : Ecc)
  /-- RDU (R315). An uncached read reaches the home. -/
  | rduLine (q : Req) (n : Nat) (ecc : Ecc)
  /-- WRU (R315). An uncached write reaches the home. -/
  | wruLine (q : Req) (n : Nat) (v : Word)
  /-- WB (R314). An M-line eviction notice with data reaches the home. -/
  | wbLine (q : Req) (line : Nat) (ws : List SWord)
  /-- EVC (R315). An E-line eviction notice reaches the home. -/
  | evcLine (q : Req) (line : Nat)
  /-- FWD_S (R316). A forward to share reaches the owning cache. -/
  | fwdS (q : Req) (line : Nat) (ecc : Ecc)
  /-- FWD_X (R316). A forward to give up a line reaches the owning cache. -/
  | fwdX (q : Req) (line : Nat) (ecc : Ecc)
  /-- INV (R316). An invalidation reaches a cache. -/
  | invLine (q : Req) (line : Nat)
  /-- FDATA (R315). A cache's answer to a forward reaches the home. -/
  | fdata (p : Rsp) (line : Nat) (ws : List SWord) (dirty : Bool)
  /-- ACK (R315). A cache's acknowledgement of an INV reaches the home. -/
  | ackLine (p : Rsp) (line : Nat)
  /-- GONE (R317). A cache answers a forward for an evicted line and the home waits for the notice. -/
  | goneLine (p : Rsp) (line : Nat)
  /-- DATA_S (R311). A shared fill reaches the requesting cache. -/
  | dataS (p : Rsp) (ws : List SWord)
  /-- DATA_E (R311). An exclusive clean fill reaches the requesting cache. -/
  | dataE (p : Rsp) (ws : List SWord)
  /-- DATA_M (R318). A modified fill reaches the cache and buffered stores apply. -/
  | dataM (p : Rsp) (ws : List SWord)
  /-- WB_ACK (R317). The home's acknowledgement frees a victim buffer entry. -/
  | wbAck (p : Rsp) (line : Nat)
  /-- RDATA (R351). A read response reaches the requester, or is absorbed if late. -/
  | rdata (p : Rsp) (ws : List Word)
  /-- RSP (R341). A status-only response reaches the requester. -/
  | rsp (p : Rsp)
  /-- RDW (R287). A remote word read reaches its target. -/
  | rdw (q : Req) (a n : Nat) (ecc : Ecc) (coll : Nat) (late : Bool)
  /-- WRW (R287). A remote word write reaches its target. -/
  | wrw (q : Req) (a : Nat) (ws : List Word) (coll : Nat) (late : Bool)
  /-- SETW (R288). A SET alias write reaches a scratchpad. -/
  | setw (q : Req) (a : Nat) (ws : List Word)
  /-- CLRW (R288). A CLEAR alias write reaches a scratchpad. -/
  | clrw (q : Req) (a : Nat) (ws : List Word)
  /-- CWR (R297). A drained code-store word write reaches another pavilion. -/
  | cwr (q : Req) (n : Nat) (v : Word)
  /-- RRD (R343). A Rolvia-mode read reaches its target. -/
  | rrd (q : Req) (a n : Nat) (ecc : Ecc) (coll : Nat) (late : Bool)
  /-- RWR (R344). A Rolvia-mode posted write reaches its target or is discarded. -/
  | rwr (q : Req) (a : Nat) (ws : List Word) (coll : Nat) (late : Bool)
  /-- RRSP (R343). A Rolvia-mode read response reaches the pavilion sink. -/
  | rrsp (p : Rsp) (ws : List Word)
  /-- REGISTER_WRITE (R15). A write reaches a device register that has no row of its own. -/
  | registerWrite (q : Req) (a : Nat) (v : Word)
  /-- EVLOG (R600). An event-log record reaches the log ring. -/
  | evlog (r : LogRec)
  /-- TESTER_OPERATION (R289). The scratchpad background tester runs its next operation on a row. -/
  | testerOperation (p : Nat) (ok forced : Bool)
  /-- STATE_FLUSH (R325). A write of FLUSH flushes the pavilion's state cache. -/
  | stateFlush (q : Req) (p : Nat) (v : Word)
  /-- QUEUE_PUT (R374). A put reaches the queue bank and appends a word or is refused. -/
  | queuePut (q : Req) (n : Nat) (v : Word)
  /-- QUEUE_GET (R379). A get reaches the bank and returns a word or the underrun value. -/
  | queueGet (q : Req) (n : Nat) (ecc : Ecc)
  /-- QUEUE_COMMIT (R375). A commit makes the open packet readable and sends its notice. -/
  | queueCommit (q : Req) (n : Nat)
  /-- QUEUE_REWIND (R376). A rewind reaches the bank and frees the owner's open packet. -/
  | queueRewind (q : Req) (n : Nat)
  /-- QUEUE_DROP (R380). A drop reaches the bank and discards the rest of the claimed packet. -/
  | queueDrop (q : Req) (n : Nat)
  /-- QUEUE_STATUS (R382). A STATUS read returns the consumer or producer status. -/
  | queueStatus (q : Req) (n : Nat)
  /-- PSTATUS (R382). A PSTATUS read returns the producer status. -/
  | pstatus (q : Req) (n : Nat)
  /-- QUEUE_RECORD (R385). A device producer's record reaches its queue as one committed packet. -/
  | queueRecord (n node : Nat) (ws : List Word)
  /-- TRY (R392). A TRY read acquires a free locket or reports its state. -/
  | lockTry (q : Req) (l : Nat)
  /-- WAIT (R392). A WAIT read acquires or parks behind the locket's waiters. -/
  | lockWait (q : Req) (l : Nat)
  /-- WAIT_TIMEOUT (R392). A parked WAIT read passes its limit and returns TMO. -/
  | waitTimeout (l : Nat) (m : Word)
  /-- PEEK (R391). A PEEK read returns the owner's identity. -/
  | lockPeek (q : Req) (l : Nat)
  /-- LOCKET_RELEASE (R392). A write to TRY or WAIT releases the locket or hands it to a waiter. -/
  | locketRelease (q : Req) (l : Nat)
  /-- LOCKET_RECOVERY (R392). A write to PEEK by a master with REC releases an orphan. -/
  | locketRecovery (q : Req) (l : Nat)
  /-- FORCE (R401). A warden write releases a locket as its owner would. -/
  | lockForce (q : Req) (l : Nat) (v : Word)
  /-- ISO (R359). A warden write isolates a node or releases its isolation. -/
  | nodeIso (q : Req) (n : Nat) (v : Word)
  /-- AREQ (R247). A write of GO raises the WARDEN alert in a context. -/
  | alertRequest (q : Req) (p : Nat) (v : Word)
  /-- LINK_FRAME_RECEIVE (R470). A Finsuri frame arrives and is accepted or answered with a NAK. -/
  | linkFrameReceive (l : Nat) (f : LinkFrame)
  /-- REPLAY_TIMEOUT (R470). An unacknowledged frame passes REPLAY_US and is resent. -/
  | replayTimeout (l : Nat)
  /-- LANE_LOCK_LOSS (R470). A lane loses block lock for over 1 us and the link goes DOWN. -/
  | laneLockLoss (l : Nat)
  /-- LINK_RETRAIN (R471). 10 ms after DOWN an enabled link returns to TRAINING. -/
  | linkRetrain (l : Nat)
  /-- LINK_UP (R471). Both ends lock and exchange distinct device numbers. -/
  | linkUp (l peer : Nat)
  /-- LINK_ENABLE (R471). A write of EN starts or stops a link. -/
  | linkEnable (q : Req) (l : Nat) (v : Word)
  /-- TIME_EXCHANGE_START (R473). A time-transmitting link starts an exchange every TTI_MS. -/
  | timeExchangeStart (l : Nat)
  /-- SYNC_FRAME (R473). A SYNC control frame arrives and is stamped. -/
  | syncFrame (l : Nat) (f : LinkFrame) (xno : BitVec 16)
  /-- DELREQ (R473). A DELREQ control frame arrives and is stamped. -/
  | delreq (l : Nat) (f : LinkFrame) (xno : BitVec 16)
  /-- TIMES (R473). A TIMES frame arrives and the receiver delivers an offset to source 1. -/
  | timesFrame (l : Nat) (f : LinkFrame) (xno : BitVec 16) (t1 t4 : Triple)
  /-- PAIR_INPUT (R592). The shadow receives a forwarded external input and applies it. -/
  | pairInput (l : Nat) (f : LinkFrame) (n : Nat) (x : ExtInput)
  /-- PAIR_ACKNOWLEDGEMENT (R592). The lead receives the shadow's acknowledgement and applies the input. -/
  | pairAcknowledgement (l : Nat) (f : LinkFrame) (n : Nat)
  /-- PAIR_INTENT (R594). The shadow receives an intent and agrees once its own effect matches. -/
  | pairIntent (l : Nat) (f : LinkFrame) (k : PairKey) (crc : BitVec 32)
  /-- PAIR_AGREEMENT (R594). The lead receives agreement and releases the effect. -/
  | pairAgreement (l : Nat) (f : LinkFrame) (k : PairKey)
  /-- PAIR_DONE (R594). The shadow receives DONE and drops its copy. -/
  | pairDone (l : Nat) (f : LinkFrame) (k : PairKey)
  /-- PAIR_HEARTBEAT (R592). A heartbeat pair message arrives. -/
  | pairHeartbeat (l : Nat) (f : LinkFrame)
  /-- PCIE_BAR_READ (R478). A host read of BAR0 or BAR2 becomes one Trellis request. -/
  | pcieBarRead (f bar a tag : Nat)
  /-- PCIE_BAR_WRITE (R478). A host write of BAR0 or BAR2 becomes one Trellis request. -/
  | pcieBarWrite (f bar a : Nat) (v : Word) (whole : Bool)
  /-- MAILBOX_READ (R479). CMD 1 submits a mailbox read with the host's RID. -/
  | mailboxRead (f : Nat)
  /-- MAILBOX_WRITE (R479). CMD 2 submits a mailbox write with the host's RID. -/
  | mailboxWrite (f : Nat)
  /-- MAILBOX_SET_WRITE (R479). CMD 3 submits a SET alias write. -/
  | mailboxSetWrite (f : Nat)
  /-- MAILBOX_CLEAR_WRITE (R479). CMD 4 submits a CLEAR alias write. -/
  | mailboxClearWrite (f : Nat)
  /-- NOTICE_READ (R481). A read of word 10 takes one queue notice from the FIFO. -/
  | noticeRead (f : Nat)
  /-- SEVFLAGS (R481). A host write sets flags in a task through KIND 3 binds. -/
  | sevflags (f : Nat) (v : Word)
  /-- FUNCTION_LEVEL_RESET (R480). A function resets, forgetting its window, rewinding packets and orphaning lockets. -/
  | functionLevelReset (f : Nat)
  /-- ETH_FRAME_RECEIVE (R484). An accepted Ethernet frame is written to the RX queue. -/
  | ethFrameReceive (e : Nat) (f : EthFrame)
  /-- ETH_FRAME_TRANSMIT (R484). The port takes a committed TX packet, sends it and may commit a timestamp. -/
  | ethFrameTransmit (e : Nat) (ecc : Ecc)
  /-- PATROL_SCRUB (R486). The DDR patrol scrub reads the next line. -/
  | patrolScrub (d : Nat) (ecc : Ecc)
  /-- LEGACY_READ (R489). An old-host read cycle returns a legacy RAM word. -/
  | legacyRead (a : BitVec 16) (coll late : Bool)
  /-- LEGACY_WRITE (R489). An old-host write cycle writes a legacy RAM word. -/
  | legacyWrite (a v : BitVec 16) (coll late : Bool)
  /-- LEGACY_MAILBOX_WRITE (R490). A write to 0x7FFE also commits a one-word packet to MBQ. -/
  | legacyMailboxWrite (v : BitVec 16) (coll late : Bool)
  /-- LEGACY_INT_READ (R490). A read of 0x7FFF clears INTPEND. -/
  | legacyIntRead (coll late : Bool)
  /-- LEGACY_LOCKET_TRY (R396). An old-host read at 0x8000-0x8007 acts as a TRY read. -/
  | legacyLocketTry (k : BitVec 3)
  /-- LEGACY_LOCKET_RELEASE (R396). An old-host write at 0x8000-0x8007 releases the locket. -/
  | legacyLocketRelease (k : BitVec 3)
  /-- LEG_RST_N (R493). LEG_RST_N low resets the legacy port's state. -/
  | legRstN (low : Bool)
  /-- LEGACY_ENABLE (R493). A write of LEG.CTL.EN enables or disables the legacy port. -/
  | legacyEnable (q : Req) (v : Word)
  /-- I2C_WAKE (R494). A matching address with a data byte records the wake code and raises a wake. -/
  | i2cWake (addr : BitVec 7) (data : BitVec 8)
  /-- I2C_STATUS_READ (R494). An I2C read returns the AON status byte. -/
  | i2cStatusRead (addr : BitVec 7)
  /-- BYPASS (R495). JTAG BYPASS instruction. -/
  | jtagBypass
  /-- IDCODE (R628). JTAG IDCODE instruction returns the identity. -/
  | jtagIdcode
  /-- SAMPLE_PRELOAD (R495). JTAG SAMPLE/PRELOAD instruction. -/
  | jtagSamplePreload (load : List (Nat × Bool))
  /-- EXTEST (R495). JTAG EXTEST drives pins from the boundary register. -/
  | jtagExtest (load : List (Nat × Bool))
  /-- CLAMP (R495). JTAG CLAMP instruction. -/
  | jtagClamp
  /-- HIGHZ (R495). JTAG HIGHZ floats the outputs. -/
  | jtagHighz
  /-- DBGACC (R495). JTAG access to the device register window as host function 0x3F. -/
  | dbgacc (a : Nat) (w : Option Word)
  /-- DBGCTX_HALT (R495). DBGCTX halts a context. -/
  | dbgctxHalt (c : CtxId)
  /-- DBGCTX_STEP (R495). DBGCTX steps a HALTED context. -/
  | dbgctxStep (c : CtxId)
  /-- DBGCTX_RESUME (R495). DBGCTX resumes a HALTED context. -/
  | dbgctxResume (c : CtxId)
  /-- DBGCTX_BRK_ENABLE (R495). DBGCTX enables BRK for the die. -/
  | dbgctxBrkEnable
  /-- DBGCTX_BRK_DISABLE (R495). DBGCTX disables BRK for the die. -/
  | dbgctxBrkDisable
  /-- DOMAIN_IDLE_ENTRY (R511). A domain idle for IDLE x 64 us starts automatic entry to RET or OFF. -/
  | domainIdleEntry (d : Nat)
  /-- REQ_RET (R511). A warden REQ of 1 takes a domain to RET or is refused. -/
  | reqRet (q : Req) (d : Nat) (v : Word)
  /-- REQ_OFF (R511). A warden REQ of 2 takes a domain to OFF or is refused. -/
  | reqOff (q : Req) (d : Nat) (v : Word)
  /-- REQ_WAKE (R513). A warden REQ of 3 wakes a domain. -/
  | reqWake (q : Req) (d : Nat) (v : Word)
  /-- DOMAIN_ENTRY_COMPLETE (R512). The drain ends and the power switch opens. -/
  | domainEntryComplete (d : Nat) (opened : Bool)
  /-- DOMAIN_WAKE_COMPLETE (R515). A woken domain is ON and its parked requests are released. -/
  | domainWakeComplete (d : Nat)
  /-- RAIL_POLL (R523). Every 250 us during soft start the sequencer reads a rail's status. -/
  | railPoll (r : Nat) (uv oc good pin : Bool) (err : Nat)
  /-- RAIL_TIMEOUT (R523). A ramping rail passes TMO_MS without power good. -/
  | railTimeout (r : Nat)
  /-- RAIL_PAUSE_END (R523). PAUSE_MS ends and the next soft-start attempt begins. -/
  | railPauseEnd (r : Nat)
  /-- PGOOD_FALL (R526). A rail's PGOOD pin falls while ON and the rail fails. -/
  | pgoodFall (r : Nat)
  /-- PMB_ALERT (R526). PMB_ALERT_N falls and the sequencer reads each ON rail. -/
  | pmbAlert (st : List (Nat × Bool × Bool))
  /-- CLR (R527). A warden write retries a FAILED rail. -/
  | railClr (q : Req) (r : Nat) (v : Word)
  /-- GOVERN (R528). Every PERIOD_MS the governor adjusts the VCORE setpoint from the slack minima. -/
  | govern
  /-- VSET_MV (R529). A write of the VCORE setpoint is clamped and sent to the VCORE rails. -/
  | vsetMv (q : Req) (v : Word)
  /-- STANDBY_ENTRY (R530). A write of KEY 0xA5C to AON.SBY starts standby. -/
  | standbyEntry (q : Req) (v : Word)
  /-- STANDBY_COMPLETE (R530). The rails are off and the always-on oscillator stops. -/
  | standbyComplete
  /-- WAKE_N (R531). A falling edge on WAKE_N wakes the die from standby. -/
  | wakeN
  /-- ALARM (R531). SECS reaches AON.ALARM and wakes the die. -/
  | secondsAlarm
  /-- VAON_APPLIED (R624). VAON rises through 2.55 V and starts a power-on reset. -/
  | vaonApplied
  /-- VAON_LOSS (R624). VAON stays below 2.55 V for over 1 us and the core is reset. -/
  | vaonLoss
  /-- RST_N (R552). RST_N low for at least 1 us causes a pin reset. -/
  | rstN
  /-- WARDEN_RESET (R570). A write of KEY 0x5E7 to FIL.RESET resets the die. -/
  | wardenReset (q : Req) (v : Word)
  /-- TRIAL_EXPIRY (R562). The trial timer expires without CONFIRM and resets the die. -/
  | trialExpiry
  /-- CHOOSE (R561). The boot ROM chooses the slot to boot from the update record. -/
  | bootChoose (strap : Bool)
  /-- IMAGE_LOAD (R549). The loader checks and loads the image, or rejects it with an error code. -/
  | imageLoad (fail differs : Bool) (oks : List (Nat × Nat)) (retain : List Nat)
  /-- DIGEST_EXCHANGE (R589). The dies of a Z256-D compare image digests at the end of boot. -/
  | digestExchange (digest : List (BitVec 8))
  /-- BEGIN (R560). Record command 1 marks a slot DOWNLOADING. -/
  | updBegin (q : Req) (v : Word)
  /-- VERIFY (R560). Record command 2 checks a downloaded slot. -/
  | updVerify (q : Req) (v : Word)
  /-- ARM (R560). Record command 3 marks a verified slot PENDING. -/
  | updArm (q : Req) (v : Word)
  /-- DISARM (R560). Record command 4 returns a PENDING slot to VERIFIED. -/
  | updDisarm (q : Req) (v : Word)
  /-- CONFIRM (R560). Record command 5 confirms the trial slot. -/
  | updConfirm (q : Req) (v : Word)
  /-- REJECT (R560). Record command 6 rejects the trial slot and resets. -/
  | updReject (q : Req) (v : Word)
  /-- ERASE (R560). Record command 7 marks a slot EMPTY. -/
  | updErase (q : Req) (v : Word)
  /-- CLRC (R571). A write invalidates AON.UPDC. -/
  | clrc (q : Req) (v : Word)
  /-- FLASH_ERASE (R572). FLASHCMD OP 1 erases the sectors of a range. -/
  | flashErase (q : Req) (v : Word)
  /-- FLASH_PROGRAM (R572). FLASHCMD OP 2 programs flash from DDR or RBUF. -/
  | flashProgram (q : Req) (v : Word)
  /-- FLASH_READ (R572). FLASHCMD OP 3 reads flash into DDR or RBUF. -/
  | flashRead (q : Req) (v : Word)
  /-- FLASH_OP_DONE (R572). A flash operation ends and BUSY clears with its result. -/
  | flashOpDone (ok : Bool)
  /-- GO (R564). A write of GO starts loading a tenant exchange. -/
  | exchangeGo (q : Req) (v : Word)
  /-- EXCHANGE_LOADED (R564). The tenant image finishes loading and the exchange is ARMED or rejected. -/
  | exchangeLoaded
  /-- ABORT (R568). A write of ABORT removes a loading or armed exchange. -/
  | exchangeAbort (q : Req) (v : Word)
  /-- T_SWITCH (R566). TIME reaches T_switch and the tenant switches epochs. -/
  | tSwitch
  /-- REPROGRAMMING_END (R458). A cell whose function changed ends reprogramming and enters RUN. -/
  | reprogrammingEnd (c : Nat)
  /-- DRAIN_END (R567). The old epoch drains or the drain deadline passes and old resources are released. -/
  | drainEnd
  /-- START (R557). A write of START starts a tenant. -/
  | tenantStart (q : Req) (t : Nat) (v : Word)
  /-- STOP (R557). A write of STOP stops a tenant. -/
  | tenantStop (q : Option Req) (t : Nat) (v : Word)
  /-- FUSE_BURN (R576). Fuse OP 1 burns a key slot. -/
  | fuseBurn (q : Req) (v : Word)
  /-- FUSE_REVOKE (R576). Fuse OP 2 revokes a key slot. -/
  | fuseRevoke (q : Req) (v : Word)
  /-- FUSE_RAISE_SVN (R576). Fuse OP 3 raises the fuse SVN. -/
  | fuseRaiseSvn (q : Req) (v : Word)
  /-- PAVILION_FENCE (R584). A pavilion is fenced, its strands cut short and its node isolated. -/
  | pavilionFence (p : Nat) (why : FenceWhy) (bad : List Nat)
  /-- RETIRE (R586). A warden write fences and retires a pavilion. -/
  | pavRetire (q : Req) (p : Nat) (v : Word) (bad : List Nat)
  /-- SELF_TEST_DONE (R586). A fenced pavilion's self-test ends and it returns to service or retires. -/
  | selfTestDone (p : Nat) (ok : Bool)
  /-- DIE_FAULT (R588). A write of KEY 0xD1E to DEP.CTL fences the die. -/
  | dieFault (q : Req) (v : Word)
  /-- REFCLK_LOSS (R578). REFCLK is absent for over 1 us and the die faults. -/
  | refclkLoss
  /-- TAKEOVER (R596). The shadow sees FENCE_N low and takes over as lead. -/
  | takeover (fell : Triple)
  /-- PAD_MISMATCH (R593). A pad differs from the shadow's level for longer than COMPWIN. -/
  | padMismatch (c : Nat) (other : Bool)
  /-- CAPTURE_DISAGREEMENT (R593). A capture has no match on the other die within CAPWAIT. -/
  | captureDisagreement (c : Nat) (other : Bool)
  /-- EFFECT_DISAGREEMENT (R594). An agreement is missing after PAIRWAIT. -/
  | effectDisagreement (k : PairKey) (other : Bool)
  /-- SIMPLEX (R589). A write of SIMPLEX fences the other die and runs alone. -/
  | pairSimplex (q : Option Req) (v : Word)
  /-- NEXT (R607). A write of NEXT drops the oldest unread log record. -/
  | logNext (q : Req) (v : Word)
  /-- FAULT_CLEAR (R605). A W1C write clears the FAULT latch. -/
  | faultClear (q : Req) (v : Word)
  /-- LEAD_SEES_FENCE_N_LOW (R595). The lead of a Z256-D sees the shadow's FENCE_N line fall, because the shadow fenced itself or lost its supply, and goes on as SIMPLEX lead. -/
  | leadSeesFenceNLow
  /-- RECORD_COMMAND_END (R559). A FIL.UPDCMD record command finishes its AON.UPDC write, flash erase, program and read-back, and BUSY clears with its RESULT. -/
  | recordCommandEnd (ok : Bool)
  /-- REGISTER_READ (R19). A read of a device register reaches its serving node; a read of word 0 captures the reading master's snapshot of the whole register. -/
  | registerRead (q : Req) (a : Nat)
deriving DecidableEq, Repr

end Sys2Proof
end

