-- ==== Sys2Proof/Decode.lean ====
section
/-! DEFINITION. The words of the spec's table of operations. No row of the table gives bits: commands reach the block as
packets, pin events and ticks, so no word spells one. -/

namespace Sys2Proof

/-- The command that a word spells by the table's bits: none, since the table gives no row bits. (log 2, DESIGN CHOICE) -/
def decodeTableWord (_nbits _w : Nat) : Option Instr := none

end Sys2Proof
end

