-- ==== Sys2Proof/Config.lean ====
section
/-! DEFINITION. What the spec leaves without a value or without a function that it states: each is an
opaque constant, so that nothing can be proved of the value itself. -/

namespace Sys2Proof

/-- A value that the spec calls undefined, one for each draw (the counter State.free numbers them). (log 10, DESIGN CHOICE) -/
opaque Config.freeWord : Nat → Word

/-- The eight SEC-DED check bits of a slot over words 0 to 2 (R87): the spec names the code and gives no matrix. (log 11, DESIGN CHOICE) -/
opaque Config.chkOf : Triple → BitVec 8

/-- The CRC-32C of an effect's packet over its words (R594): the order of its bits is not stated. (log 11, DESIGN CHOICE) -/
opaque Config.effectCrc : List Word → BitVec 32

/-- A flash byte whose program or erase failed or was cut off (R559, R572): draw number and byte address. (log 11, DESIGN CHOICE) -/
opaque Config.flashByte : Nat → Nat → BitVec 8

end Sys2Proof
end

