-- ==== Sys2Proof/Machine/State.lean ====
section
/-! DEFINITION. The state of one die: every register, table, queue, buffer and mode that the spec gives
the block, as plain data. Each structure names the rules that give its fields. -/

namespace Sys2Proof.Machine

/-- The members of the family (R1, Table 0-1). (log 6, DESIGN CHOICE) -/
inductive Member where
  | z16 | z64 | z256 | z256d
deriving DecidableEq, Repr

/-- Why a command cannot act at all. (log 5, DESIGN CHOICE) -/
inductive Fault where
  /-- Raised by every command that names a unit which the member does not carry (R2): the spec gives
  such a unit no existence. Safe: the model stops where the hardware has nothing to act on. -/
  | absentUnit
deriving DecidableEq, Repr

/-- Why a command has no meaning. -/
inductive Refusal where
  /-- Answered by an arm of exec whose command has not been modelled. Safe: nothing can be proved of it. -/
  | notModelled (mnemonic : String)
deriving DecidableEq, Repr

/-! ### The strand side (06, 07, 08) -/

/-- Causes of an instruction fault, codes 1 to 16 (Table 6-13). -/
inductive Cause where
  | illegal | regRange | segment | callDepth | retDepth | loopDepth | taskOnly | frameOnly
  | slotRange | staged | allocRec | template | rights | ipRange | break | slotWrite
  /-- A bus error: STATUS 2 to 6 of a response (R276). -/
  | bus (status : Nat)
deriving DecidableEq, Repr

/-- States of a context (Table 7-6). -/
inductive CtxState where
  | free | preload | restoring | issuing | ready | longwait | suspended | saving | halted
deriving DecidableEq, Repr

/-- One register write of an instruction. Window registers are named by their ring word (R183). -/
inductive RegWrite where
  | ring (i : Nat) (v : Word)
  | freg (i : Nat) (v : BitVec 64)
  | pl (v : Word)
  | ph (v : Word)
  | acc (v : Triple)
  | fl (v : BitVec 5)
  | lnk (v : Word)
  | ls (n : Nat) (v : Word)
  | le (n : Nat) (v : Word)
  | lc (n : Nat) (v : Word)
  | evm (v : Word)
  | fpsc (v : Word)
  | wb (v : Word)
  | lcfg (v : Word)
deriving DecidableEq, Repr

/-- The four long-operation units of a pipeline (R227). -/
inductive LongUnit where
  | mult | fpPipe | divider | fpIter
deriving DecidableEq, Repr

/-- An outstanding long operation (R224 to R227): its destinations are the targets of `writes`, which hold
the scoreboard bits. `mac` marks the MAC group, whose ACC forwards to a further MAC (Table 7-5). -/
structure LongOp where
  unit : LongUnit
  mac : Bool
  writes : List RegWrite
  fpFlags : Word
  isFp : Bool
  addr : Nat
  micro : Bool
deriving DecidableEq, Repr

/-- What an outstanding long-wait access of a context does with its response (R229). -/
inductive WaitKind where
  /-- A load writes these ring words. -/
  | load (dests : List Nat)
  | store
  /-- ALLOC: handle to three ring words. -/
  | alloc (dests : List Nat)
  /-- ALLOCW: as ALLOC, and nothing of the context issues before the grant (R208). -/
  | allocw (reg : Nat)
  /-- SPAWN: number to a ring word, then the effect is staged. -/
  | spawn (dest : Nat) (entry wgrp : Nat) (arg : Triple)
  | qput
  | qget (dest : Nat)
  | qstat (dest : Nat)
  | qctl
  /-- A load of the locket window (R321). -/
  | lock (dest : Nat)
  /-- A state load that waits for a line: state word and ring word of each word still owed. -/
  | state (line : Nat) (ws : List (Nat × Nat))
deriving DecidableEq, Repr

/-- An outstanding long-wait access: the RID of its request and what the response does. -/
structure WaitRec where
  rid : Nat
  kind : WaitKind
  micro : Bool
deriving DecidableEq, Repr

/-- A staged effect of a strand (Table 1-2, R207). -/
inductive Staged where
  | token (tag value : Triple)
  | port (tag value : Triple)
  | freeFrame (handle : Triple)
  | sev (task : Nat) (flags : Word)
  | qcommit (queue : Nat)
  | spawn (task : Nat) (entry wgrp : Nat) (arg : Triple)
deriving DecidableEq, Repr

/-- One of the three loop levels (R199). -/
structure LoopLevel where
  ls : Word
  le : Word
  lc : Word
  ld : Nat
deriving DecidableEq, Repr

/-- A staged write of a restartable micro-routine (R217). -/
inductive MicroWrite where
  | reg (w : RegWrite)
  | mem (addr : Word) (v : Word)
  /-- STS to a slot of the own frame. -/
  | slot (n : Nat) (v : Triple)
  | fpFlags (flags : Word)
deriving DecidableEq, Repr

/-- The routine state of a custom instruction in progress (R216, R217, R238). -/
structure Micro where
  entry : Nat
  ops : BitVec 12
  start : Nat
  len : Nat
  index : Nat
  atomic : Bool
  committed : Bool
  staging : List MicroWrite
deriving DecidableEq, Repr

/-- A sync-class write of a context not yet in effect (R235). -/
inductive SyncWrite where
  | wb (v : Word)
  | lcfg (v : Word)
  | ls (n : Nat) (v : Word)
  | le (n : Nat) (v : Word)
  /-- A word of a SY device register: address and value. -/
  | devReg (addr : Nat) (v : Word)
deriving DecidableEq, Repr

/-- A word that waits in a code-write buffer (R237). -/
structure CodeWrite where
  pav : Nat
  addr : Nat
  word : Word
deriving DecidableEq, Repr

/-- A pipeline context (R183 to R189, R224, R230, R238 to R243). -/
structure Context where
  state : CtxState
  isTask : Bool
  tenant : Nat
  wgrp : Nat
  entry : Nat
  flow : Nat
  /-- Dispatch port that placed the strand (R123). -/
  port : Nat
  task : Nat
  /-- Frame handle of the activation (Table 6-1). -/
  handle : Triple
  epoch : Nat
  replayable : Bool
  replays : Nat
  /-- Binding awaits preload or restore with this first-issue word address (R232, R233). -/
  resume : Bool
  ring : Map Word
  f : Map (BitVec 64)
  wb : Nat
  depth : Nat
  res : Nat
  lnk : Word
  pl : Word
  ph : Word
  acc : Triple
  loops : Map LoopLevel
  lcfgDepth : Nat
  fl : BitVec 5
  fpsc : Word
  mimm : Word
  ip : Nat
  sync : List SyncWrite
  longOps : List LongOp
  waits : List WaitRec
  staged : List Staged
  allocs : List Triple
  lockets : List Nat
  codeBuf : List CodeWrite
  micro : Option Micro
  inAlert : Bool
  /-- Pending alert causes with their INFO, lowest cause first (R240). -/
  alerts : List (Nat × Nat)
  budgetLimit : Nat
  budgetRaised : Bool
  /-- The strand read QGET, QDROP or a POP view (Table 18-3). -/
  readQueue : Bool
  /-- Segment descriptor words that this context still reads as they were (Table 7-8): address and old word. -/
  segOld : List (Nat × Word)
  /-- A SYNC of the context waits for the micro-routines of its pavilion (R236). -/
  syncWait : Bool
  /-- An imprecise bus error of a buffered store (R318): STATUS and state-word address. -/
  lateErr : Option (Nat × Word)
  /-- A FENCE with K = 1 holds later stores until the store buffer is empty (R320). -/
  fenced : Bool
  /-- DBGCTX steps the context: it halts again after its next instruction (R495). -/
  stepping : Bool
deriving DecidableEq, Repr

/-- Zero loop level. -/
def LoopLevel.zero : LoopLevel := ⟨0, 0, 0, 0⟩

/-- A FREE context (R230). (log 7, DESIGN CHOICE) -/
def Context.idle : Context where
  state := .free
  isTask := false
  tenant := 0
  wgrp := 0
  entry := 0
  flow := 0
  port := 0
  task := 0
  handle := 0
  epoch := 0
  replayable := false
  replays := 0
  resume := false
  ring := []
  f := []
  wb := 0
  depth := 0
  res := 32
  lnk := 0
  pl := 0
  ph := 0
  acc := 0
  loops := []
  lcfgDepth := 0
  fl := 0
  fpsc := 0
  mimm := 0
  ip := 0
  sync := []
  longOps := []
  waits := []
  staged := []
  allocs := []
  lockets := []
  codeBuf := []
  micro := none
  inAlert := false
  alerts := []
  budgetLimit := 0
  budgetRaised := false
  readQueue := false
  segOld := []
  syncWait := false
  lateErr := none
  fenced := false
  stepping := false

/-- The pipelines: contexts keyed by 16 × pavilion + 4 × pipeline + context, the last context that issued on
each pipeline, and the code stores and microcode tables of each pavilion (R220, R214, R237). -/
structure Strands where
  ctxs : Map Context
  /-- Keyed by 4 × pavilion + pipeline. -/
  lastIssued : Map Nat
  /-- Code-store words, keyed by 16,384 × pavilion + address. -/
  code : Map Word
  /-- Sync-class device words in effect for execution, keyed by device address (R214, R235). -/
  syncEff : Map Word
deriving DecidableEq, Repr

/-! ### The central store (03) -/

/-- One slot (R87, Table 3-5). -/
structure Slot where
  val : Triple
  pres : Bool
  ty : Nat
  crit : Bool
  cpl : Bool
  chk : BitVec 8
deriving DecidableEq, Repr

/-- A frame-number entry (Table 3-3). -/
structure FrameEntry where
  alloc : Bool
  quar : Bool
  gen : BitVec 9
  /-- Granules minus 1. -/
  size : Nat
  base : Nat
  pool : Nat
  /-- An init record allocated the frame, and it was never released (R590). -/
  init : Bool
deriving DecidableEq, Repr

/-- Group states (Table 3-6). -/
inductive GState where
  | idle | waiting | held | handed | done
deriving DecidableEq, Repr

/-- A group descriptor (Table 3-4). -/
structure Group where
  opmask : BitVec 16
  arity : Nat
  join : Nat
  gst : GState
  wgrp : Nat
  entry : Nat
  owner : Nat
  win : Nat
  oneshot : Bool
  lead : Bool
deriving DecidableEq, Repr

/-- A pool of frame numbers (R83). `size` counts granules. -/
structure Pool where
  tenant : Nat
  size : Nat
  frames : List Nat
  free : List Nat
  waiters : Bool
deriving DecidableEq, Repr

/-- What a template says of one granule (Table 3-2). -/
structure TmplGranule where
  arity : Nat
  opmask : BitVec 16
  entry : Nat
  wgrp : Nat
deriving DecidableEq, Repr

/-- A frame template (Table 3-2). -/
structure Template where
  oneshot : Bool
  win : Nat
  granules : List TmplGranule
deriving DecidableEq, Repr

/-- A fired activation (R92): tenant, handle with SLOT = 16 × granule, entry, weight group and flow. -/
structure Activation where
  tenant : Nat
  handle : Triple
  entry : Nat
  wgrp : Nat
  flow : Nat
  epoch : Nat
  replays : Nat
deriving DecidableEq, Repr

/-- A fire notice with the landing reply it holds back: source node and unit (R134, R135). -/
structure Notice where
  act : Activation
  node : Nat
  unit : Nat
  reply : Bool
deriving DecidableEq, Repr

/-- A release notice (R105): the slice it starts at, and the pool key or window that was waited on. -/
structure Rerun where
  slice : Nat
  byWin : Bool
  tenant : Nat
  size : Nat
  win : Nat
deriving DecidableEq, Repr

/-- A parked ALLOCW (R104). -/
structure AllocWait where
  tenant : Nat
  size : Nat
  win : Nat
  tmpl : Nat
  task : Nat
deriving DecidableEq, Repr

/-- The central store: slot memory, slice tables, pools, templates, fired queues and wait lists. -/
structure Store where
  /-- Keyed by 65,536 × slice + slot (R79). -/
  slots : Map Slot
  /-- Keyed by frame number. -/
  frames : Map FrameEntry
  /-- Keyed by 4,096 × slice + granule. -/
  groups : Map Group
  /-- Keyed by 256 × slice + pool. -/
  pools : Map Pool
  /-- Keyed by 256 × tenant + template. -/
  templates : Map (Option Template)
  /-- Fired queues, keyed by 2 × slice + class (0: group 0; 1: groups 1 to 63) (R95). -/
  fired : Map (List Activation)
  /-- Fire notices on their way to the hub, keyed by slice (R134). -/
  notices : Map (List Notice)
  /-- HOME[r], 0 to 3 (R102). -/
  home : Map Nat
  /-- Parked ALLOCW requests in park order (R104). -/
  waits : List AllocWait
  /-- Release notices that the hub has not yet rerun a request for (R105, R169). -/
  rerun : List Rerun
  /-- End of the quarantine of a frame number in ELAPSED, keyed by frame number (R98, R404). -/
  quarEnd : Map Nat
deriving DecidableEq, Repr

/-! ### Packets in flight -/

/-- What a request packet asks (Table 11-4). Addresses are local words, line numbers, state words, queue or
locket numbers or device register addresses, as the command has them. -/
inductive ReqOp where
  | rdw (a n : Nat)
  | wrw (a : Nat) (ws : List Word)
  | setw (a : Nat) (ws : List Word)
  | clrw (a : Nat) (ws : List Word)
  | cwr (a : Nat) (v : Word)
  | rd (line : Nat)
  | rdx (line : Nat)
  | rdu (w : Nat)
  | wru (w : Nat) (v : Word)
  | wb (line : Nat) (ws : List SWord)
  | evc (line : Nat)
  | fwdS (line : Nat)
  | fwdX (line : Nat)
  | inv (line : Nat)
  | qput (n : Nat) (v : Word)
  | qget (n : Nat)
  | qcommit (n : Nat)
  | qrwd (n : Nat)
  | qdrop (n : Nat)
  | qstat (n : Nat)
  | qpstat (n : Nat)
  | lkTry (l : Nat)
  | lkWait (l : Nat)
  | lkPeek (l : Nat)
  | lkRel (l : Nat)
  | lkRec (l : Nat)
  | regrd (a : Nat)
  | regwr (a : Nat) (v : Word)
  | rrd (a n : Nat)
  | rwr (a : Nat) (ws : List Word)
  /-- ALLOC and SPRES, whose packets are of their own; these name them among the outstanding requests. -/
  | alloc
  | spres
deriving DecidableEq, Repr

/-- Kinds of state-cache fills (Table 10-2). -/
inductive FillKind where
  | shared | exclusive | modified
deriving DecidableEq, Repr

/-- What a sender put on the Trellis or the dispatch fabric and no target has taken yet. Each constructor
carries what the command of its arrival carries. -/
inductive Packet where
  | evlog (r : LogRec)
  | sev (task : Nat) (flags : Word) (src : SevSource)
  | stopTenant (t : Nat)
  | ftok (t : Token)
  | ptok (t : Token)
  | land (sl node unit flow : Nat)
  | free (p : FreePkt)
  | slotRelease (handle : Triple)
  | allocReq (q : AllocReq)
  | allocReply (c : CtxId) (rid : Nat) (handle : Triple) (ok : Bool)
  | spres (q : SpawnReq)
  | spawn (task entry wgrp : Nat) (c : CtxId) (tenant : Nat) (arg : Triple)
  /-- A request from outside the die that has reached its ingress node (R354). -/
  | ingress (g : Ingress)
  /-- A device producer's record for a queue (R385): producer node, words. -/
  | queueRec (queue node : Nat) (words : List Word)
  | req (q : Req) (op : ReqOp)
  | rsp (p : Rsp)
  | rdata (p : Rsp) (ws : List Word)
  | rrsp (p : Rsp) (ws : List Word)
  | hold (p : Rsp)
  | fill (k : FillKind) (p : Rsp) (ws : List SWord)
  | fdata (p : Rsp) (line : Nat) (ws : List SWord) (dirty : Bool)
  | ack (p : Rsp) (line : Nat)
  | gone (p : Rsp) (line : Nat)
  | wbAck (p : Rsp) (line : Nat)
deriving DecidableEq, Repr

/-! ### Requests of the Trellis (11) -/

/-- Who awaits a response. -/
inductive Requester where
  /-- An access of a strand; its context's wait list says what the response does. -/
  | strand (c : CtxId)
  /-- A code word written to another pavilion (R297): the context that waits. -/
  | drain (c : CtxId)
  /-- An access of a strand that was cut short: its response is dropped. -/
  | dropped
  /-- A fill of pavilion `p`'s state cache. -/
  | fill (p line : Nat)
  /-- An eviction notice of pavilion `p`. -/
  | evict (p line : Nat)
  /-- A forward or INV of a home. -/
  | home (line : Nat)
  /-- A word of the deadlock snapshot of a domain for a tenant (R171). -/
  | snapshot (domain tenant : Nat)
  /-- A BAR access of a host function: word address, write, host tag. -/
  | bar (fn addr : Nat) (write : Bool) (tag : Nat)
  /-- A request of a host function's mailbox, with the place of its first word in RDATA. -/
  | mailbox (fn off : Nat)
  /-- An access of the debug port (DBGACC, R495). -/
  | debug
  /-- A request that entered over a Finsuri link: link, source-map entry, and its header there. -/
  | ingress (link src : Nat) (h : LinkHdr)
deriving DecidableEq, Repr

/-- A request whose response is awaited (R341, R349): its header fields, target address, ELAPSED at which its timer
started, the microseconds that it runs (R364) and those that a HOLD response added (R516), and who awaits it. -/
structure Outst where
  q : Req
  op : ReqOp
  addr : Word
  since : Nat
  limit : Nat
  held : Option Nat
  who : Requester
deriving DecidableEq, Repr

/-- A request parked in a hold buffer (R358). -/
structure ParkedReq where
  cluster : Nat
  q : Req
  op : ReqOp
deriving DecidableEq, Repr

/-- The duplicate window of an ingress source (R355): newest RID and the recorded RIDs with their STATUS. -/
structure Window where
  newest : Option Nat
  recs : List (Nat × Option Nat)
deriving DecidableEq, Repr

/-- Requests outstanding, request numbers, hold buffers and duplicate windows. -/
structure Net where
  outst : List Outst
  /-- Next request number of a node. -/
  ridNext : Map Nat
  parked : List ParkedReq
  /-- Keyed by 4,096 × ingress node + source. -/
  windows : Map Window
deriving DecidableEq, Repr

/-! ### Memories (09) -/

/-- The background tester of a pavilion (R289): row, and the operation that comes next, 0 to 5. From the save to the
restore the save buffer is the row (R290), so the row's words stand in `spad` throughout. -/
structure Tester where
  row : Nat
  op : Nat
deriving DecidableEq, Repr

/-- Scratchpads, DDR and legacy RAM. -/
structure Memory where
  /-- Scratchpad words, keyed by 65,536 × pavilion + local word. -/
  spad : Map Word
  /-- Written bits of the context areas, keyed by 8,192 × pavilion + row (R282). -/
  written : Map Bool
  /-- Single-bit corrections of a row since the last reset (R291). -/
  rowCorr : Map Nat
  /-- Words that a remap left poisoned (R586), keyed as `spad`. -/
  poisoned : Map Bool
  tester : Map Tester
  ddr : Map Word
  /-- Line that the patrol scrub of a DDR channel reads next (R486). -/
  scrub : Map Nat
  legacy : Map Word
deriving DecidableEq, Repr

/-- The canonical form of the memories: every list has rising keys and no entry equal to what an unlisted key reads as, and a
legacy word holds 16 bits (R489). -/
def Memory.wf (m : Memory) : Bool :=
  Map.wf (fun _ => 0) m.spad && Map.wf (fun _ => false) m.written && Map.wf (fun _ => 0) m.rowCorr
    && Map.wf (fun _ => false) m.poisoned && Map.wf (fun _ => (⟨0, 0⟩ : Tester)) m.tester && Map.wf (fun _ => 0) m.ddr
    && Map.wf (fun _ => 0) m.scrub && Map.wf (fun _ => 0) m.legacy
    && m.legacy.all (fun e => decide (e.2.toNat < 65536))

/-! ### Coherent state memory (10) -/

/-- States of a cached line (Table 10-1); I is a line that is not held. -/
inductive LineSt where
  | sh | ex | mo
deriving DecidableEq, Repr

/-- A cached line. -/
structure CLine where
  line : Nat
  st : LineSt
  ws : List SWord
deriving DecidableEq, Repr

/-- A line in the victim buffer (R312): it awaits WB_ACK. -/
structure Victim where
  line : Nat
  dirty : Bool
  ws : List SWord
deriving DecidableEq, Repr

/-- A fill that is awaited: its request number once sent (a line in the victim buffer waits, R317), whether it is
an RDX, whether an INV met it, a forward held until it completes (R316), and its data if the fill itself waits for
a victim entry (R312). -/
structure Miss where
  line : Nat
  excl : Bool
  sent : Bool
  dropped : Bool
  fwd : List (Bool × Req)
  data : Option (FillKind × List SWord)
deriving DecidableEq, Repr

/-- A store-buffer entry (R318): context slot, line, words written (index and value), whether its strand still
runs. -/
structure StoreEntry where
  slot : Nat
  line : Nat
  ws : List (Nat × Word)
  live : Bool
deriving DecidableEq, Repr

/-- The state cache of a pavilion (R311). Each set lists its lines, most recently used first. -/
structure Cache where
  sets : Map (List CLine)
  victims : List Victim
  misses : List Miss
  buffer : List StoreEntry
  flushing : Bool
deriving DecidableEq, Repr

/-- Directory states (R313). -/
inductive DState where
  | uncached
  | shared (mask : BitVec 16)
  | exclusive (o : Nat)
deriving DecidableEq, Repr

/-- A request that the home serves: its packet, and the pavilions whose answers it awaits. `gone` is 1 once the
owner answered GONE, `notice` once the owner's eviction notice arrived, with the request to acknowledge. -/
structure Active where
  q : Req
  op : ReqOp
  awaits : List Nat
  gone : Bool
  notice : Option Req
deriving DecidableEq, Repr

/-- A directory entry with its queue (R313, R314). -/
structure DirEntry where
  st : DState
  busy : Option Active
  queue : List (Req × ReqOp)
deriving DecidableEq, Repr

/-- State memory: the store, the directory and the caches. -/
structure Coherence where
  /-- The state words of R308, keyed by state word number. -/
  mem : Map SWord
  dir : Map DirEntry
  caches : Map Cache
deriving DecidableEq, Repr

/-! ### Queues and lockets (12) -/

/-- A committed packet. -/
structure QPacket where
  words : List Word
  gap : Bool
deriving DecidableEq, Repr

/-- A hardware queue (R368 to R380): readable packets, oldest first, the open packet and the read claim. -/
structure Queue where
  packets : List QPacket
  /-- Committed packets for a host that the other die of a duplex pair has not agreed to (R594). -/
  held : List QPacket
  opened : Bool
  openW : List Word
  lost : Bool
  putOwner : Word
  getOwner : Word
deriving DecidableEq, Repr

/-- A waiter of a locket: its request, and the ELAPSED at which its WAIT read gives up (R392, R399). -/
structure Waiter where
  q : Req
  due : Nat
deriving DecidableEq, Repr

/-- A locket (R389, R392): state 0 FREE, 1 HELD, 2 ORPHANED. -/
structure Locket where
  st : Nat
  owner : Word
  hcount : BitVec 16
  waiters : List Waiter
deriving DecidableEq, Repr

/-- Queues by number and lockets by 64 × group + locket. -/
structure Banks where
  queues : Map Queue
  lockets : Map Locket
deriving DecidableEq, Repr

/-- What a direct BAR read returned to the host (R478): completed with data, or Completer Abort. -/
structure Completion where
  tag : Nat
  abort : Bool
  data : Word
deriving DecidableEq, Repr

/-- A host function's page (R480) with its notice FIFO; `waiting` holds the notices that found it full (R481). `owed`
counts the Trellis requests that the mailbox operation still awaits, and `cpl` is the last completion of a BAR read. -/
structure HostFn where
  rid : Nat
  addr : Word
  data : List Word
  busy : Bool
  done : Bool
  dup : Bool
  status : Nat
  ovr : Bool
  width : Nat
  rrid : Nat
  rdata : List Word
  sevTask : Nat
  busyRd : Bool
  werr : Bool
  notices : List Nat
  waiting : List Nat
  owed : Nat
  cpl : Option Completion
deriving DecidableEq, Repr

/-- Register snapshots and write buffers (R19), keyed by 2²⁴ × master identity word + base address: the words of a
snapshot, and the lower words written with their numbers. -/
structure RegBufs where
  snaps : Map (List Word)
  wbufs : Map (List (Nat × Word))
deriving DecidableEq, Repr

/-! ### The hub (04, 05) -/

/-- A ready-list or pavilion-queue entry (R120): a fired activation, a recalled flow head or a woken task. -/
structure Entry where
  isTask : Bool
  act : Activation
  task : Nat
  recalled : Bool
  /-- Slice whose credit the entry holds, class included (2 × slice + class); 0 when none is held. -/
  credit : Option Nat
  /-- ELAPSED at which it joined the list (R130). -/
  since : Nat
  /-- Port that queued it at a pavilion (R123). -/
  port : Nat
deriving DecidableEq, Repr

/-- Task states (Table 4-5). -/
inductive TaskState where
  | free | reserved | ready | running | waitEv | waitTime | waitAlloc
deriving DecidableEq, Repr

/-- The task table entry (R141 to R147, R162). -/
structure Task where
  st : TaskState
  owner : Nat
  wgrp : Nat
  valid : Bool
  evf : Word
  evm : Word
  lastpav : Nat
  homepav : Nat
  entry : Nat
  arg : Triple
  /-- 1 once the task has issued and has a save area to resume from. -/
  saved : Bool
  target : Triple
  /-- Ring result held for the resume: register number D and the triple (WFE bits, ALLOCW handle). -/
  result : Option (Nat × Nat × Triple)
  epoch : Nat
  image : Bool
  /-- LIMIT of PIPE.BUDGET at the task's first issue (R250). -/
  budget : Nat
deriving DecidableEq, Repr

/-- A flow (R133 to R140, R161, R177). -/
structure Flow where
  busy : Bool
  affv : Bool
  owner : Nat
  lastpav : Nat
  order : List Triple
  parked : List Activation
  busySince : Nat
  hangReported : Bool
deriving DecidableEq, Repr

/-- The landing pacer of a source for one flow (R135): last token's frame and VC, and the tag of each token whose landing
reply is owed, oldest first, and the ELAPSED at which its timer ends (R136, R352). -/
structure Pace where
  frame : Nat
  vc : Nat
  sent : List (Triple × Nat)
deriving DecidableEq, Repr

/-- A tenant's part of a deadlock report (R171): word 7 of its header, with its address, and the words before it that
still await their WACK. -/
structure SnapJob where
  tenant : Nat
  addr : Nat
  done : Word
  owed : Nat
  last : Bool
deriving DecidableEq, Repr

/-- A deadlock report in progress: domain, waiting tasks, SEQ of the lowest tenant, and the snapshots still being
written (R171). -/
structure Report where
  domain : Nat
  nwait : Nat
  seq : Word
  tenants : List Nat
  jobs : List SnapJob
deriving DecidableEq, Repr

/-- The hub: ready lists, deficits, credits, flows, tasks, deadlock detector. -/
structure Hub where
  /-- RL[g][r], keyed by 64 × port + group. -/
  rl : Map (List Entry)
  /-- DEF[r][g], keyed by 64 × port + group. -/
  deficit : Map Int
  /-- TURN[r]; 0 stands for NONE. -/
  turn : Map Nat
  /-- Hand-over credits in use, keyed by 2 × slice + class. -/
  creditUsed : Map Nat
  /-- PQ[p]. -/
  pq : Map (List Entry)
  flows : Map Flow
  tasks : Map Task
  /-- Recalls on their way: flow number and activation (R138). -/
  recalls : List (Nat × Activation)
  /-- QSTART[d] in ELAPSED (R168, R404). -/
  qstart : Map Nat
  /-- Domains with activity since their last visit. -/
  active : List Nat
  reports : List Report
  /-- Landing pacers, keyed by source (1,024 × node + unit) × 32,768 + flow. -/
  pace : Map Pace
  /-- Held tokens of a source behind a pacer, keyed by 1,024 × node + unit, in order. -/
  heldTok : Map (List Packet)
  /-- Current epoch of each tenant (R565). -/
  epoch : Map Nat
  /-- Strand entries marked replayable (FIL.ENTRY images), by entry number. -/
  replayMark : List Nat
deriving DecidableEq, Repr

/-! ### Finsuri links (15) -/

/-- A frame in the replay window (R470): SEQ, packets, since when it awaits its ACK. -/
structure SentFrame where
  seq : Nat
  pkts : List LinkPkt
  since : Nat
deriving DecidableEq, Repr

/-- A link control frame that a link sends (R473, R474, R592). -/
inductive CtlFrame where
  | sync (xno : BitVec 16)
  | delreq (xno : BitVec 16)
  | times (xno : BitVec 16) (t1 t4 : Triple)
  | input (n : Nat) (x : ExtInput)
  | acknowledge (n : Nat)
  | intent (k : PairKey) (crc : BitVec 32)
  | agreement (k : PairKey)
  | finished (k : PairKey)
deriving DecidableEq, Repr

/-- One link (R467 to R474): next SEQ to send, SEQ expected, replay window, packets that wait for room in it, whether
a NAK is out, replays without an advance of the ACK, since when it is DOWN, the PEER it had before, the number of the
exchange in progress (none: no exchange), its stamps t1 (transmitter) or t2 and t3 (receiver), since when it runs, the
last exchange number used, when the next exchange starts, and the last control frame sent. -/
structure Link where
  txSeq : Nat
  rxSeq : Nat
  window : List SentFrame
  txq : List LinkPkt
  nakOut : Bool
  replays : Nat
  downAt : Nat
  hadPeer : Option Nat
  exchange : Option (BitVec 16)
  sender : Bool
  stampA : Triple
  stampB : Triple
  since : Nat
  xno : BitVec 16
  nextAt : Nat
  ctl : Option CtlFrame
deriving DecidableEq, Repr

/-- An egress stream (R469): destination device, source tenant, next RID, and next posted number (R594). -/
structure Stream where
  dev : Nat
  tenant : Nat
  next : Nat
  posted : Nat
deriving DecidableEq, Repr

/-- Links and egress streams. -/
structure Finsuri where
  links : Map Link
  streams : List Stream
deriving DecidableEq, Repr

/-! ### Time -/

/-- TIME, ELAPSED and their 32-bit extensions (R402 to R404). -/
structure Clock where
  time : Triple
  timeExt : BitVec 32
  elapsed : Triple
  elapsedExt : BitVec 32
deriving DecidableEq, Repr

/-- The time keeper (R407 to R413): the integrator and whether it was ever set, each source's run of samples without
OVER and the ELAPSED of its last sample, the run of samples toward LOCKED or ACQUIRE, steps that wait for the next tick
(signed, 2⁻³² s), ELAPSED of the last step, and ELAPSED of the next HOLDERR second. -/
structure Keeper where
  integ : Int
  integSet : Bool
  runs : Map Nat
  last : Map Nat
  lockRun : Nat
  steps : List Int
  stepAt : Option Nat
  holdNext : Nat
deriving DecidableEq, Repr

/-- JTAG instructions. -/
inductive JtagInstr where
  | bypass | idcode | sample | extest | clamp | highz | dbgacc | dbgctx
deriving DecidableEq, Repr

/-- The JTAG port (R495): the instruction in force (its IEEE 1149.1 name), the boundary register as it last captured the pins,
the levels preloaded to its outputs (keyed by pin), what another data register holds to shift out, whether DBGCTX enabled
BRK, and the STATUS of the last DBGACC access (none: it is out). -/
structure Jtag where
  ir : JtagInstr
  boundary : Map Bool
  latch : Map Bool
  dr : BitVec 32
  brk : Bool
  status : Option Nat
deriving DecidableEq, Repr

/-! ### Port cells (14) -/

/-- A commit that waits: grid instant in ns of TIME, and value (R442). -/
structure Commit where
  g : Nat
  v : Triple
deriving DecidableEq, Repr

/-- A capture: TYPE, value and stamp (R448). -/
structure Capture where
  ty : Nat
  v : Triple
  stamp : Triple
deriving DecidableEq, Repr

/-- A burst of a PULSE cell: grid instant of its first pulse, spacing, pulses left, pulses emitted, direction. -/
structure Burst where
  start : Nat
  sp : Nat
  left : Nat
  done : Nat
  up : Bool
deriving DecidableEq, Repr

/-- What a port cell holds beside its registers: commit queue, capture queue, arm, EXPECT deadline (ELAPSED), whether the
pins keep their safe levels, output of TSOUT, counts of QUAD and PULSE with the ELAPSED of the last transition, burst
and direction of PULSE, duty in force and duties that wait for a period start, transfers in progress (grid instant,
word) and the instant from which the next may start, last selected edge of TIMER (ELAPSED), last schedule instant
served, the last capture each master popped, and T_switch of the last exchange (R436, R442 to R449, R458, R459). -/
structure Cell where
  commits : List Commit
  captures : List Capture
  cont : Option Triple
  deadline : Option Nat
  safeOut : Bool
  out : Nat
  count : Word
  lastTrans : Option Nat
  burst : Option Burst
  dir : Bool
  duty : Nat
  duties : List Commit
  xfers : List Commit
  freeAt : Nat
  lastEdge : Option Nat
  sched : Option Nat
  popped : Map (Option Capture)
  switchAt : Option Triple
deriving DecidableEq, Repr

/-- Port cells, levels at the port pins, accepted port tokens of each bank in arrival order, and banks in a calibration
run. -/
structure Ports where
  cells : Map Cell
  pins : Map Bool
  inbox : Map (List Token)
  caling : Map Bool
deriving DecidableEq, Repr

/-! ### Power (16) -/

/-- A rail: the last OPERATION and VOUT_COMMAND that the sequencer sent it (R520, R523). -/
structure Rail where
  on : Bool
  vout : Nat
deriving DecidableEq, Repr

/-- The domain controller, the sequencer and the always-on domain. -/
structure Power where
  /-- VAON is in range (R624). -/
  vaon : Bool
  /-- The core is powered and out of reset. -/
  core : Bool
  /-- Standby: 0 not, 1 entering, 2 in standby (R530). -/
  standby : Nat
  /-- The ORDER whose rails the sequencer brings up (R521). -/
  seq : Option Nat
  /-- The sequence under way ends in the release of reset: a power-up, not row 7 of Table 17-8. -/
  release : Bool
  /-- Wake source latched during standby entry: SRC and CODE (R530). -/
  latched : Option (Nat × Nat)
  /-- The last standby followed R525. -/
  stopped : Bool
  /-- Rail failures whose record awaits the event log: rail and cause (R523). -/
  owed : List (Nat × Nat)
  /-- Pavilions with a partition that carries the RETAIN mark (R293). -/
  retain : List Nat
  /-- State that an ENTERING domain goes to: 1 RET, 2 OFF (R511). -/
  target : Map Nat
  /-- REQ that waits for a wake to complete: 1 RET, 2 OFF (R519). -/
  later : Map Nat
  /-- Isolated nodes whose domain has been through OFF since (R359). -/
  beenOff : List Nat
  rails : Map Rail
deriving DecidableEq, Repr

/-! ### The legacy port (15) -/

/-- The legacy port (R488 to R493): the word that the last read cycle drove on LEG_D, and whether the last cycle drove
LEG_BUSY_N low. -/
structure LegPort where
  d : BitVec 16
  busy : Bool
deriving DecidableEq, Repr

/-! ### The event log (18) -/

/-- A record of the event log: its six words, and whether it is a continuation (R600). -/
structure LogEntry where
  words : List Word
  cont : Bool
deriving DecidableEq, Repr

/-! ### The duplex pair (18) -/

/-- An effect that a die of a duplex pair holds (R594): a packet for a Finsuri link with the node that sent it, a frame
of an Ethernet port with its TAG where it asks for a stamp, or the next held packet of a queue that a host reads. -/
inductive Effect where
  | link (node : Nat) (p : LinkPkt)
  | eth (e : Nat) (bytes : List (BitVec 8)) (tag : Option Nat)
  | queue (n : Nat)
deriving DecidableEq, Repr

/-- A held effect: its name, the packet and its CRC, whether the shadow agreed (on the lead) or it gave agreement (on the shadow), whether the
CRCs differ, and since when an intent of it is out. -/
structure HeldEffect where
  key : PairKey
  body : Effect
  crc : BitVec 32
  agreed : Bool
  differs : Bool
  since : Nat
deriving DecidableEq, Repr

/-- A port capture that the shadow compares (R593): cell, whether it is the lead's, value, grid instant, when it came, and
whether its match differed. -/
structure PairCapture where
  cell : Nat
  lead : Bool
  v : Triple
  g : Nat
  since : Nat
  differs : Bool
deriving DecidableEq, Repr

/-- The pair (R588 to R598): whether this die is fenced, whether the other die's FENCE_N is low, inputs numbered and not
yet acknowledged, held effects, intents that came before their effect, next number of each counted stream, captures to
compare, ELAPSED of this die's last record of SEV 2 or higher from a detector, exchanges in a row beyond PAIRTIME, accesses
of each task to legacy storage since its creation, the lead's results of such accesses, the requests that await one, and
ELAPSED of a disagreement that no die was blamed for. -/
structure DiePair where
  fenced : Bool
  otherLow : Bool
  nextIn : Nat
  inputs : List (Nat × ExtInput)
  effects : List HeldEffect
  intents : List (PairKey × BitVec 32)
  counts : Map Nat
  captures : List PairCapture
  detected : Option Nat
  timeRun : Nat
  legCount : Map Nat
  legResults : List ((Nat × Nat) × (Nat × List Word))
  legWaits : List ((Nat × Nat) × (Req × ReqOp))
  disagreedAt : Option Nat
deriving DecidableEq, Repr

/-! ### Filigree, boot and update (17) -/

/-- An init record of the image (Table 17-5): a frame for a handle, a token to a slot of a handle's frame, or a port token. -/
inductive InitRec where
  | alloc (tmpl j : Nat)
  | token (slot ty : Nat) (crit : Bool) (j flow : Nat) (v : Triple)
  | port (tag v : Triple)
deriving DecidableEq, Repr

/-- The boot under way (R561): slot, whether in trial, RESCUE, whether no record was valid, and whether the first pass has
authenticated the image, so that the rails of row 7 run. -/
structure BootJob where
  slot : Nat
  trial : Bool
  rescue : Bool
  fresh : Bool
  passed : Bool
deriving DecidableEq, Repr

/-- A record write under way (R559): the RESULT that its command ends with, the flash copy that is being written with the
record's words, whether a warden reset follows, and the fuse SVN that a confirmation raises. -/
structure UpdJob where
  result : Nat
  write : Option (Nat × List Word)
  reset : Bool
  svn : Option Nat
deriving DecidableEq, Repr

/-- A flash operation under way (R572): OP, first byte, words, and DDR word, or FIL.RBUF. -/
structure FlashJob where
  op : Nat
  addr : Nat
  words : Nat
  ddr : Option Nat
deriving DecidableEq, Repr

/-- A record of an image. -/
inductive ImgRec where
  | reg (a : Nat) (ws : List Word)
  | code (c off : Nat) (ws : List Word)
  | pool (slice tenant size pool first n base : Nat)
  | template (tenant k : Nat) (t : Template)
  | task (n entry : Nat) (arg : Triple)
  | words (a : Nat) (ws : List Word)
  | initAlloc (tenant k j : Nat)
  | initToken (slot ty : Nat) (crit : Bool) (j flow : Nat) (v : Triple)
  | initPort (tag v : Triple)
deriving DecidableEq, Repr

/-- A tenant exchange (R564 to R568): tenant, T_switch, drain limit in µs, and whether the tenant was RUNNING. What the
loader placed beside the running image, so that an abort can remove it: register words, tasks, flows and code words with
what they held before. What waits for T_switch: register words and records. And the registers of the old image that the
end of the drain clears. -/
structure Exchange where
  tenant : Nat
  tsw : Triple
  drain : Nat
  running : Bool
  wrote : List (Nat × Word)
  tasksWas : List (Nat × Task)
  flowsWas : List (Nat × Flow)
  code : List (Nat × Word)
  later : List (Nat × Word)
  recs : List ImgRec
  old : List Nat
deriving DecidableEq, Repr

/-- The filigree loader, the flash and the exchange. -/
structure Filigree where
  flash : Map (BitVec 8)
  /-- Bytes of the flash (R487); never written. -/
  flashSize : Nat
  boot : Option BootJob
  upd : Option UpdJob
  flashOp : Option FlashJob
  /-- ELAPSED at which the trial timer expires (R562). -/
  trialEnd : Option Nat
  /-- Init records by tenant, until the tenant's first START. -/
  init : Map (List InitRec)
  /-- The handle table of each image: 4,096 × tenant + handle (R548). -/
  handles : Map Triple
  /-- Tenants that had their first START. -/
  started : List Nat
  exchange : Option Exchange
  /-- The dies of a pair have not exchanged their digests since the boot (R589). -/
  digestDue : Bool
deriving DecidableEq, Repr

/-- One die and the commands that wait for it. -/
structure State where
  /-- The commands that are waiting, first in, first out. -/
  pending : List Instr
  /-- Which member this is; never written. -/
  member : Member
  /-- Die number of a Z256-D; never written. -/
  die : Nat
  /-- Packets in flight on the Trellis and the dispatch fabric, oldest first. -/
  flight : List Packet
  /-- Device registers, keyed by device register address; an unlisted one reads as its reset word. -/
  regs : Map Word
  /-- Draws of free values so far. -/
  free : Nat
  clock : Clock
  keeper : Keeper
  strands : Strands
  store : Store
  hub : Hub
  net : Net
  memory : Memory
  coh : Coherence
  banks : Banks
  bufs : RegBufs
  /-- Host functions 0 to 63. -/
  host : Map HostFn
  fsl : Finsuri
  ports : Ports
  jtag : Jtag
  power : Power
  leg : LegPort
  /-- Unread records of the event log, oldest first. -/
  evlog : List LogEntry
  pair : DiePair
  /-- Bytes of the last frame that each Ethernet port sent. -/
  ethSent : Map (List (BitVec 8))
  fil : Filigree
  /-- Status byte that the wake port returned last (R494). -/
  i2cOut : Option (BitVec 8)
deriving DecidableEq, Repr

/-- The machine right after reset. (log 6, DESIGN CHOICE) (log 9, DEDUCED) -/
def State.reset : State where
  pending := []
  member := .z256
  die := 0
  flight := []
  regs := [(0x002013, 0x480000), (0x002017, 0x480000)]
  free := 0
  clock := ⟨0, 0, 0, 0⟩
  keeper := ⟨0, false, [], [], 0, [], none, 0⟩
  strands := ⟨[], [], [], []⟩
  store := ⟨[], [], [], [], [], [], [], [], [], [], []⟩
  hub := ⟨[], [], [], [], [], [], [], [], [], [], [], [], [], [], []⟩
  net := ⟨[], [], [], []⟩
  memory := ⟨[], [], [], [], [], [], [], []⟩
  coh := ⟨[], [], []⟩
  banks := ⟨[], []⟩
  bufs := ⟨[], []⟩
  host := []
  fsl := ⟨[], []⟩
  ports := ⟨[], [], [], []⟩
  jtag := ⟨.idcode, [], [], 0, false, some 0⟩
  power := ⟨true, true, 0, none, false, none, false, [], [], [], [], [], [(0, ⟨true, 850⟩), (1, ⟨true, 850⟩)]⟩
  leg := ⟨0, false⟩
  evlog := []
  pair := ⟨false, false, 0, [], [], [], [], [], none, 0, [], [], [], none⟩
  ethSent := []
  fil := ⟨[], 16777216, none, none, none, none, [], [], [], none, false⟩
  i2cOut := none

end Sys2Proof.Machine
end

