-- ==== Sys2Proof/Machine/Units.lean ====
section
/-! DEFINITION. Unit counts of each member (Table 0-1), node numbers, clusters and hops (R331, R332). -/

namespace Sys2Proof.Machine

/-- Kinds of counted units. -/
inductive UnitKind where
  | fixed (n : Nat)
  | pavs | terraces | slices | ports | cells | banks | links | eths | ddrs | queues | lockets | clusters
deriving DecidableEq, Repr

/-- Scale of the member: terraces (Table 0-1). -/
def terraceCount : Member → Nat
  | .z16 => 1
  | .z64 => 4
  | .z256 => 16
  | .z256d => 16

/-- Units of one die (Table 0-1, Tables 3-1, 4-1, 11-2). -/
def unitCount (m : Member) : UnitKind → Nat
  | .fixed n => n
  | .pavs => 16 * terraceCount m
  | .terraces => terraceCount m
  | .slices => 4 * terraceCount m
  | .ports => terraceCount m
  | .cells => 64 * terraceCount m
  | .banks => 2 * terraceCount m
  | .links => match m with | .z16 => 4 | .z64 => 8 | .z256 => 16 | .z256d => 16
  | .eths => match m with | .z16 => 2 | .z64 => 4 | .z256 => 4 | .z256d => 4
  | .ddrs => match m with | .z16 => 1 | .z64 => 1 | .z256 => 2 | .z256d => 2
  | .queues => 64 * terraceCount m
  | .lockets => 4 * terraceCount m
  | .clusters => terraceCount m

/-- The slice count S of Table 3-1. -/
def sliceCount (m : Member) : Nat := unitCount m .slices

/-- The unit exists on the member. -/
def unitPresent (m : Member) (k : UnitKind) (i : Nat) : Bool := decide (i < unitCount m k)

/-- The context exists on the member (R2, R183). -/
def ctxPresent (m : Member) (c : CtxId) : Bool :=
  unitPresent m .pavs c.pav && decide (c.pipe < 4) && decide (c.ctx < 4)

/-- Key of a context in the context map. -/
def ctxKey (c : CtxId) : Nat := 16 * c.pav + 4 * c.pipe + c.ctx

/-- The context of a key. -/
def ctxOfKey (k : Nat) : CtxId := ⟨k / 16, (k / 4) % 4, k % 4⟩

/-! ### Nodes (Table 11-1) -/

def nodeSlice (s : Nat) : Nat := 0x100 + s
def nodeHub : Nat := 0x150
def nodeBank (b : Nat) : Nat := 0x160 + b
def nodeLink (l : Nat) : Nat := 0x180 + l
def nodeEth (e : Nat) : Nat := 0x190 + e
def nodePcie (f : Nat) : Nat := 0x1A0 + f
def nodeDdr (c : Nat) : Nat := 0x1E0 + c
def nodeLegacy : Nat := 0x1E8
def nodeTime : Nat := 0x1E9
def nodeQueues : Nat := 0x1EA
def nodeLockets : Nat := 0x1EB
def nodeLoader : Nat := 0x1EC
def nodeLog : Nat := 0x1ED
def nodeAon : Nat := 0x1EE
def nodePwr : Nat := 0x1EF

/-- The node exists on the member (Table 11-1, Table 0-1). -/
def nodePresent (m : Member) (n : Nat) : Bool :=
  if n < 0x100 then unitPresent m .pavs n
  else if n < 0x140 then unitPresent m .slices (n - 0x100)
  else if n = 0x150 then true
  else if 0x160 ≤ n ∧ n < 0x180 then unitPresent m .banks (n - 0x160)
  else if 0x180 ≤ n ∧ n < 0x190 then unitPresent m .links (n - 0x180)
  else if 0x190 ≤ n ∧ n < 0x194 then unitPresent m .eths (n - 0x190)
  else if 0x1A0 ≤ n ∧ n < 0x1E0 then true
  else if n = 0x1E0 ∨ n = 0x1E1 then unitPresent m .ddrs (n - 0x1E0)
  else decide (0x1E8 ≤ n ∧ n < 0x1F0)

/-- The power domain exists on the member (Table 16-1). -/
def domainPresent (m : Member) (d : Nat) : Bool :=
  nodePresent m d && (decide (d ≤ 0x1A0) || decide (0x1E0 ≤ d ∧ d ≤ 0x1E8))

/-- The cluster of a node (Table 11-1A); absent nodes give 0. -/
def clusterOf (m : Member) (n : Nat) : Nat :=
  match m with
  | .z16 => 0
  | .z64 =>
    if n < 0x100 then n / 16
    else if n < 0x140 then (n - 0x100) / 4
    else if n = 0x150 then 0
    else if 0x160 ≤ n ∧ n < 0x180 then (n - 0x160) / 2
    else if 0x180 ≤ n ∧ n < 0x190 then (n - 0x180) / 2
    else if 0x190 ≤ n ∧ n < 0x194 then n - 0x190
    else if 0x1A0 ≤ n ∧ n < 0x1E0 then 1
    else if n = 0x1E0 then 2
    else if n = 0x1E8 then 0
    else if 0x1E9 ≤ n ∧ n < 0x1F0 then 3
    else 0
  | _ =>
    if n < 0x100 then n / 16
    else if n < 0x140 then (n - 0x100) / 4
    else if n = 0x150 then 5
    else if 0x160 ≤ n ∧ n < 0x180 then (n - 0x160) / 2
    else if 0x180 ≤ n ∧ n < 0x190 then n - 0x180
    else if n = 0x190 then 0
    else if n = 0x191 then 3
    else if n = 0x192 then 12
    else if n = 0x193 then 15
    else if 0x1A0 ≤ n ∧ n < 0x1E0 then 10
    else if n = 0x1E0 then 4
    else if n = 0x1E1 then 7
    else if n = 0x1E8 then 0
    else if 0x1E9 ≤ n ∧ n < 0x1F0 then 6
    else 0

/-- Mesh width (R332). -/
def meshWidth : Member → Nat
  | .z16 => 1
  | .z64 => 2
  | _ => 4

def clusterX (m : Member) (c : Nat) : Nat := c % meshWidth m
def clusterY (m : Member) (c : Nat) : Nat := c / meshWidth m

/-- Distance of two numbers. -/
def natDist (a b : Nat) : Nat := (a - b) + (b - a)

/-- HOPS between two clusters (R332). -/
def clusterHops (m : Member) (a b : Nat) : Nat :=
  1 + natDist (clusterX m a) (clusterX m b) + natDist (clusterY m a) (clusterY m b)

/-- HOPS(r, p) from terrace `r` to the terrace of pavilion `p` (R126). -/
def hopsTo (m : Member) (r p : Nat) : Nat := clusterHops m r (clusterOf m p)

/-- The dispatch port of a slice (R117). -/
def portOfSlice (m : Member) (s : Nat) : Nat :=
  match m with
  | .z16 => 0
  | _ => s / 4

/-! ### Master identity words (Table 12-8) -/

/-- Identity of a context. -/
def masterCtx (tenant : Nat) (c : CtxId) : Word :=
  BitVec.ofNat 24 (0x400000 + (tenant % 512) * 0x1000 + (c.pav % 256) * 16 + (c.pipe % 4) * 4 + c.ctx % 4)

/-- Identity of a host function. -/
def masterHost (tenant fn : Nat) : Word :=
  BitVec.ofNat 24 (0x800000 + (tenant % 512) * 0x1000 + fn % 64)

/-- Identity of the legacy port. -/
def masterLegacy (tenant : Nat) : Word := BitVec.ofNat 24 (0xC00000 + (tenant % 512) * 0x1000)

def Master.kind (w : Word) : Nat := w.field 22 2
def Master.tenant (w : Word) : Nat := w.field 12 9
def Master.fn (w : Word) : Nat := w.field 0 6
/-- The context that a MKIND 1 word names. -/
def Master.ctx (w : Word) : CtxId := ⟨w.field 4 8, w.field 2 2, w.field 0 2⟩

end Sys2Proof.Machine
end

