-- ==== Sys2Proof/Machine/RegMap.lean ====
section
/-! DEFINITION. The register maps: for each map of the spec its address, its indexes, its access domain
and, word by word, which bits read back, which a write sets, which a written 1 clears or sets, which only
trigger, which the filigree loads, and whether the word is sync-class (R15 to R19, Table 0-3). A bit in none of the masks
is reserved. -/

namespace Sys2Proof.Machine

/-- One word of a register map: masks of the bits that read back, that RW writes, W1C, W1S, WO, IMG, and whether
the RW bits are sync-class. -/
structure RegWord where
  rd : Nat
  rw : Nat
  w1c : Nat
  w1s : Nat
  wo : Nat
  img : Nat
  sy : Bool
deriving DecidableEq, Repr

/-- One index of a register array: stride, first valid index, number of valid indexes. -/
structure RegDim where
  stride : Nat
  first : Nat
  count : UnitKind
deriving DecidableEq, Repr

/-- A register map: base address (or offset in a pavilion page), indexes, host access, whether R19 applies to it, words. -/
structure RegBlock where
  base : Nat
  dims : List RegDim
  host : Bool
  whole : Bool
  words : List RegWord
deriving DecidableEq, Repr

/-- Register maps from w:0x0 on. -/
def regBlocks0 : List RegBlock := [
  -- DEP.ID (R604)
  ⟨0x0, [], true, true, [⟨0xFFFFF0, 0x0, 0x0, 0x0, 0x0, 0x0, false⟩, ⟨0x1FFF, 0x0, 0x0, 0x0, 0x0, 0x0, false⟩]⟩,
  -- DEP.CTL (R605)
  ⟨0x2, [], false, true, [⟨0xFFFF00, 0xFFFE00, 0x100, 0x0, 0x0, 0x0, false⟩, ⟨0xFFF, 0xFFF, 0x0, 0x0, 0xFFF000, 0x0, false⟩]⟩,
  -- DEP.MIN (R606)
  ⟨0x4, [], false, false, [⟨0x1FF, 0x0, 0x0, 0x0, 0x0, 0x1FF, false⟩]⟩,
  -- DEP.LOGSTAT (R607)
  ⟨0x10, [], true, true, [⟨0x7FF, 0x0, 0x0, 0x0, 0x800000, 0x0, false⟩, ⟨0xFFFFFF, 0xFFFFFF, 0x0, 0x0, 0x0, 0x0, false⟩]⟩,
  -- DEP.LOGRD (R607)
  ⟨0x14, [], true, true, List.replicate 6 ⟨0xFFFFFF, 0x0, 0x0, 0x0, 0x0, 0x0, false⟩⟩,
  -- DEP.FIRST (R607)
  ⟨0x1A, [], true, true, List.replicate 6 ⟨0xFFFFFF, 0x0, 0x0, 0x0, 0x0, 0x0, false⟩⟩,
  -- DEP.STAT (R608)
  ⟨0x20, [], false, false, [⟨0xFFFFFF, 0xFFFFFF, 0x0, 0x0, 0x0, 0x0, false⟩, ⟨0xFFFFFF, 0xFFFFFF, 0x0, 0x0, 0x0, 0x0, false⟩, ⟨0xFFFFFF, 0xFFFFFF, 0x0, 0x0, 0x0, 0x0, false⟩, ⟨0x1FF, 0x0, 0x0, 0x0, 0x0, 0x0, false⟩]⟩,
  -- DEP.PAIR (R609)
  ⟨0x40, [], true, false, [⟨0xFE0000, 0x0, 0x0, 0x0, 0x10000, 0x60000, false⟩, ⟨0xFFFFFF, 0x0, 0x0, 0x0, 0x0, 0xFFFFFF, false⟩, ⟨0xFFFFFF, 0x0, 0x0, 0x0, 0x0, 0xFFFFFF, false⟩, ⟨0xFFFFFF, 0x0, 0x0, 0x0, 0x0, 0xFFFFFF, false⟩] ++ List.replicate 7 ⟨0xFFFFFF, 0xFFFFFF, 0x0, 0x0, 0x0, 0x0, false⟩ ++ [⟨0xFFFFFF, 0x0, 0x0, 0x0, 0x0, 0x0, false⟩] ++ List.replicate 4 ⟨0x0, 0x0, 0x0, 0x0, 0x0, 0x0, false⟩⟩,
  -- DEP.TEN (R610)
  ⟨0x400, [⟨2, 0, .fixed 512⟩], false, true, [⟨0xFC0000, 0x0, 0x0, 0x0, 0x0, 0xFC0000, false⟩, ⟨0xFFFFFF, 0xFFFFFF, 0x0, 0x0, 0x0, 0x0, false⟩]⟩,
  -- DEP.PAV (R611)
  ⟨0x800, [⟨1, 0, .pavs⟩], false, false, [⟨0xC8FFFF, 0x0, 0x0, 0x0, 0x300000, 0xFF, false⟩]⟩,
  -- PWR.CTL (R533)
  ⟨0x1000, [], false, false, [⟨0x800000, 0x800000, 0x0, 0x0, 0x0, 0x0, false⟩]⟩,
  -- PWR.GOV (R534)
  ⟨0x1010, [], false, false, [⟨0xFFFFFF, 0x800FFF, 0x0, 0x0, 0x0, 0x7FF000, false⟩, ⟨0xFFFFFF, 0xFFFFFF, 0x0, 0x0, 0x0, 0x0, false⟩, ⟨0xFFFF00, 0xFFFF00, 0x0, 0x0, 0x0, 0x0, false⟩, ⟨0x7FF, 0x7FF, 0x0, 0x0, 0x0, 0x0, false⟩, ⟨0xFFFFFF, 0x0, 0x0, 0x0, 0x0, 0x0, false⟩, ⟨0xFFFFFF, 0xFFFFFF, 0x0, 0x0, 0x0, 0x0, false⟩]⟩,
  -- PWR.STAT (R535)
  ⟨0x1040, [], false, false, List.replicate 5 ⟨0xFFFFFF, 0xFFFFFF, 0x0, 0x0, 0x0, 0x0, false⟩⟩,
  -- PWR.DOM (R536)
  ⟨0x1200, [⟨1, 0, .fixed 512⟩], false, false, [⟨0xFC8FFF, 0xC0FFF, 0x0, 0x0, 0x30000, 0x0, false⟩]⟩,
  -- AON.CTL (R537)
  ⟨0x2000, [], false, false, [⟨0xFFC0FF, 0xFFC0FF, 0x0, 0x0, 0x0, 0x0, false⟩]⟩,
  -- AON.SBY (R538)
  ⟨0x2001, [], false, false, [⟨0x0, 0x0, 0x0, 0x0, 0xFFF000, 0x0, false⟩]⟩,
  -- AON.WSRC (R539)
  ⟨0x2002, [], true, true, [⟨0xFFF000, 0x0, 0x0, 0x0, 0x0, 0x0, false⟩, ⟨0xFFFF, 0x0, 0x0, 0x0, 0x0, 0x0, false⟩, ⟨0xFFFFFF, 0x0, 0x0, 0x0, 0x0, 0x0, false⟩, ⟨0xFF0000, 0x0, 0x0, 0x0, 0x0, 0x0, false⟩]⟩,
  -- AON.ALARM (R540)
  ⟨0x2006, [], false, true, [⟨0xFFFF, 0xFFFF, 0x0, 0x0, 0x0, 0x0, false⟩, ⟨0xFFFFFF, 0xFFFFFF, 0x0, 0x0, 0x0, 0x0, false⟩]⟩,
  -- AON.RAIL (R541)
  ⟨0x2010, [⟨4, 0, .fixed 16⟩], false, true, [⟨0xFFFFF8, 0xFFFFF8, 0x0, 0x0, 0x0, 0x0, false⟩, ⟨0xFFFFFF, 0xFFFFFF, 0x0, 0x0, 0x0, 0x0, false⟩, ⟨0xFFFFFF, 0xFFFFFF, 0x0, 0x0, 0x0, 0x0, false⟩, ⟨0xFF4000, 0x4000, 0x0, 0x0, 0x8000, 0x0, false⟩]⟩,
  -- AON.UPDC (R577)
  ⟨0x2080, [], true, false, List.replicate 32 ⟨0xFFFFFF, 0x0, 0x0, 0x0, 0x0, 0x0, false⟩⟩,
  -- FIL.STATUS (R569)
  ⟨0x3000, [], true, false, [⟨0xFFFFFF, 0x0, 0x0, 0x0, 0x0, 0x0, false⟩]⟩,
  -- FIL.ERRPOS (R569)
  ⟨0x3001, [], true, false, [⟨0xFFFFFF, 0x0, 0x0, 0x0, 0x0, 0x0, false⟩]⟩,
  -- FIL.RESET (R570)
  ⟨0x3002, [], false, false, [⟨0x0, 0x0, 0x0, 0x0, 0xFFF000, 0x0, false⟩]⟩,
  -- FIL.TASKAREA (R307)
  ⟨0x3010, [], false, true, [⟨0xFFFFFF, 0x0, 0x0, 0x0, 0x0, 0xFFFFFF, false⟩, ⟨0x1FFF, 0x0, 0x0, 0x0, 0x0, 0x1FFF, false⟩]⟩,
  -- FIL.UPDCMD (R571)
  ⟨0x3020, [], false, true, [⟨0xFFFFFF, 0xFFFFFF, 0x0, 0x0, 0x0, 0x0, false⟩, ⟨0x1FFF00, 0x10FF00, 0x0, 0x0, 0xE00080, 0x0, false⟩]⟩]

/-- Register maps from w:0x3024 on. -/
def regBlocks1 : List RegBlock := [
  -- FIL.FLASHCMD (R572)
  ⟨0x3024, [], false, true, [⟨0xFFFFFF, 0xFFFFFF, 0x0, 0x0, 0x0, 0x0, false⟩, ⟨0xFFFFFF, 0xFFFFFF, 0x0, 0x0, 0x0, 0x0, false⟩, ⟨0xFFFFFF, 0xFFFFFF, 0x0, 0x0, 0x0, 0x0, false⟩, ⟨0x3C0000, 0x40000, 0x0, 0x0, 0xC00000, 0x0, false⟩]⟩,
  -- FIL.XCHG (R573)
  ⟨0x3040, [], false, true, List.replicate 5 ⟨0xFFFFFF, 0xFFFFFF, 0x0, 0x0, 0x0, 0x0, false⟩ ++ [⟨0x3FF, 0x3FF, 0x0, 0x0, 0x0, 0x0, false⟩, ⟨0x39FFFF, 0x1FF, 0x0, 0x0, 0xC00000, 0x0, false⟩]⟩,
  -- FIL.XSTAT (R573)
  ⟨0x3048, [], false, true, [⟨0xFFFFFF, 0xFFFFFF, 0x0, 0x0, 0x0, 0x0, false⟩, ⟨0xFFFFFF, 0xFFFFFF, 0x0, 0x0, 0x0, 0x0, false⟩, ⟨0xFFFFFF, 0xFFFFFF, 0x0, 0x0, 0x0, 0x0, false⟩]⟩,
  -- FIL.FUSE (R576)
  ⟨0x3080, [], true, false, [⟨0xFF00FF, 0x0, 0x0, 0x0, 0x0, 0x0, false⟩] ++ List.replicate 64 ⟨0xFFFFFF, 0xFFFFFF, 0x0, 0x0, 0x0, 0x0, false⟩ ++ [⟨0x0, 0x0, 0x0, 0x0, 0xFFFFFF, 0x0, false⟩]⟩,
  -- FIL.RBUF (R572)
  ⟨0x3100, [⟨1, 0, .fixed 256⟩], false, false, [⟨0xFFFFFF, 0xFFFFFF, 0x0, 0x0, 0x0, 0x0, false⟩]⟩,
  -- FIL.TEN (R575)
  ⟨0x3400, [⟨2, 0, .fixed 512⟩], false, true, [⟨0xF80000, 0x0, 0x0, 0x0, 0x60000, 0x180000, false⟩, ⟨0xC1F00, 0x0, 0x0, 0x0, 0x0, 0xC1F00, false⟩]⟩,
  -- TKEEP.CTL (R421)
  ⟨0x4000, [], false, false, [⟨0xF00000, 0xF00000, 0x0, 0x0, 0x0, 0x0, false⟩]⟩,
  -- TKEEP.STATUS (R422)
  ⟨0x4001, [], true, false, [⟨0xFE0007, 0x0, 0x0, 0x0, 0x0, 0x0, false⟩]⟩,
  -- TKEEP.TIME (R423)
  ⟨0x4002, [], true, true, [⟨0xFFFFFF, 0x0, 0x0, 0x0, 0x0, 0x0, false⟩, ⟨0xFFFFFF, 0x0, 0x0, 0x0, 0x0, 0x0, false⟩, ⟨0xFFFFFF, 0x0, 0x0, 0x0, 0x0, 0x0, false⟩]⟩,
  -- TKEEP.ELAPSED (R423)
  ⟨0x4005, [], true, true, [⟨0xFFFFFF, 0x0, 0x0, 0x0, 0x0, 0x0, false⟩, ⟨0xFFFFFF, 0x0, 0x0, 0x0, 0x0, 0x0, false⟩, ⟨0xFFFFFF, 0x0, 0x0, 0x0, 0x0, 0x0, false⟩]⟩,
  -- TKEEP.STEP (R424)
  ⟨0x4008, [], false, true, [⟨0xFFFFFF, 0xFFFFFF, 0x0, 0x0, 0x0, 0x0, false⟩, ⟨0xFFFFFF, 0xFFFFFF, 0x0, 0x0, 0x0, 0x0, false⟩, ⟨0xFFFFFF, 0xFFFFFF, 0x0, 0x0, 0x0, 0x0, false⟩]⟩,
  -- TKEEP.FREQ (R425)
  ⟨0x400B, [], false, false, [⟨0xFFFFFF, 0x0, 0x0, 0x0, 0x0, 0x0, false⟩, ⟨0xFFFFFF, 0xFFFFFF, 0x0, 0x0, 0x0, 0x0, false⟩]⟩,
  -- TKEEP.SERVO (R426)
  ⟨0x400D, [], false, false, [⟨0xFFFFFF, 0xFFFFFF, 0x0, 0x0, 0x0, 0x0, false⟩, ⟨0xFFFFFF, 0xFFFFFF, 0x0, 0x0, 0x0, 0x0, false⟩, ⟨0xFFFFFF, 0xFFFFFF, 0x0, 0x0, 0x0, 0x0, false⟩]⟩,
  -- TKEEP.HOLD (R427)
  ⟨0x4010, [], false, false, [⟨0xFFFFFF, 0xFFFFFF, 0x0, 0x0, 0x0, 0x0, false⟩, ⟨0xFFFFFF, 0xFFFFFF, 0x0, 0x0, 0x0, 0x0, false⟩, ⟨0xFFFFFF, 0x0, 0x0, 0x0, 0x0, 0x0, false⟩]⟩,
  -- TKEEP.SRC (R428)
  ⟨0x4020, [⟨4, 0, .fixed 3⟩], false, false, [⟨0xFF0000, 0xFE0000, 0x0, 0x0, 0x0, 0x0, false⟩, ⟨0xFFFFFF, 0xFFFFFF, 0x0, 0x0, 0x0, 0x0, false⟩, ⟨0xFFFFFF, 0xFFFFFF, 0x0, 0x0, 0x0, 0x0, false⟩, ⟨0xFFFFFF, 0x0, 0x0, 0x0, 0x0, 0x0, false⟩]⟩,
  -- TKEEP.TOD (R429)
  ⟨0x4030, [], false, true, [⟨0x80FFFF, 0x80FFFF, 0x0, 0x0, 0x0, 0x0, false⟩, ⟨0xFFFFFF, 0xFFFFFF, 0x0, 0x0, 0x0, 0x0, false⟩]⟩,
  -- TKEEP.STAT (R430)
  ⟨0x4034, [], false, false, List.replicate 5 ⟨0xFFFFFF, 0xFFFFFF, 0x0, 0x0, 0x0, 0x0, false⟩⟩,
  -- TKEEP.SECK (R431)
  ⟨0x4040, [], false, true, [⟨0xC0FFFF, 0x800000, 0x0, 0x0, 0x0, 0x0, false⟩, ⟨0xFFFFFF, 0x0, 0x0, 0x0, 0x0, 0x0, false⟩]⟩,
  -- SPAD.REMAP (R302)
  ⟨0x5000, [⟨8, 0, .pavs⟩, ⟨1, 0, .fixed 8⟩], true, false, [⟨0x801FFF, 0x0, 0x0, 0x0, 0x0, 0x0, false⟩]⟩,
  -- STATE.ID (R327)
  ⟨0x6000, [], true, false, [⟨0xF0FFF, 0x0, 0x0, 0x0, 0x0, 0x0, false⟩]⟩,
  -- STATE.HOME (R328)
  ⟨0x6100, [⟨8, 0, .slices⟩], false, false, List.replicate 8 ⟨0xFFFFFF, 0xFFFFFF, 0x0, 0x0, 0x0, 0x0, false⟩⟩,
  -- TRL.ID (R363)
  ⟨0x7000, [], true, false, [⟨0x1FFFFF, 0x0, 0x0, 0x0, 0x0, 0x0, false⟩]⟩,
  -- TRL.TMO (R364)
  ⟨0x7001, [], false, true, [⟨0xFFFFFF, 0xFFFFFF, 0x0, 0x0, 0x0, 0x0, false⟩, ⟨0xFFFFFF, 0xFFFFFF, 0x0, 0x0, 0x0, 0x0, false⟩]⟩,
  -- TRL.CLUSTER (R365)
  ⟨0x7100, [⟨16, 0, .clusters⟩], false, false, [⟨0xF, 0x0, 0x0, 0x0, 0x0, 0x0, false⟩] ++ List.replicate 8 ⟨0xFFFFFF, 0xFFFFFF, 0x0, 0x0, 0x0, 0x0, false⟩ ++ [⟨0x1F, 0x0, 0x0, 0x0, 0x0, 0x0, false⟩, ⟨0xFFFFFF, 0xFFFFFF, 0x0, 0x0, 0x0, 0x0, false⟩] ++ List.replicate 5 ⟨0x0, 0x0, 0x0, 0x0, 0x0, 0x0, false⟩⟩,
  -- TRL.NODE (R366)
  ⟨0x7400, [⟨1, 0, .fixed 1024⟩], false, false, [⟨0xFF003F, 0x200000, 0x0, 0x0, 0x0, 0x0, false⟩]⟩]

/-- Register maps from w:0x7800 on. -/
def regBlocks2 : List RegBlock := [
  -- BLV.F (R367)
  ⟨0x7800, [⟨64, 0, .clusters⟩, ⟨16, 0, .fixed 4⟩], false, false, [⟨0xF0FFFF, 0xF0FFFF, 0x0, 0x0, 0x0, 0x0, false⟩] ++ List.replicate 8 ⟨0xFFFFFF, 0xFFFFFF, 0x0, 0x0, 0x0, 0x0, false⟩ ++ List.replicate 7 ⟨0x0, 0x0, 0x0, 0x0, 0x0, 0x0, false⟩⟩,
  -- CSTORE.REGION (R111)
  ⟨0x8000, [], false, false, [⟨0x3FFF, 0x0, 0x0, 0x0, 0x0, 0x3FFF, false⟩]⟩,
  -- CSTORE.GEN_QUAR (R112)
  ⟨0x8001, [], false, false, [⟨0xFFFFFF, 0xFFFFFF, 0x0, 0x0, 0x0, 0x0, false⟩]⟩,
  -- CSTORE.ID (R113)
  ⟨0x8002, [], true, false, [⟨0xFF, 0x0, 0x0, 0x0, 0x0, 0x0, false⟩]⟩,
  -- CSTORE.QUOTA (R114)
  ⟨0x8400, [⟨4, 0, .fixed 512⟩], false, true, [⟨0x7FFFFF, 0x0, 0x0, 0x0, 0x0, 0x7FFFFF, false⟩, ⟨0x7FFFFF, 0x0, 0x0, 0x0, 0x0, 0x0, false⟩, ⟨0x7FFFFF, 0x7FFFFF, 0x0, 0x0, 0x0, 0x0, false⟩, ⟨0x1FFF, 0x0, 0x0, 0x0, 0x0, 0x0, false⟩]⟩,
  -- CSTORE.SLICE (R115)
  ⟨0x9000, [⟨16, 0, .slices⟩], false, false, List.replicate 9 ⟨0xFFFFFF, 0xFFFFFF, 0x0, 0x0, 0x0, 0x0, false⟩ ++ [⟨0x1FFF, 0x0, 0x0, 0x0, 0x0, 0x0, false⟩, ⟨0x1FFF, 0x0, 0x0, 0x0, 0x0, 0x0, false⟩, ⟨0x1FFF, 0x0, 0x0, 0x0, 0x0, 0x0, false⟩, ⟨0x1FFFF, 0x0, 0x0, 0x0, 0x0, 0x0, false⟩, ⟨0xFFFFFF, 0xFFFFFF, 0x0, 0x0, 0x0, 0x0, false⟩, ⟨0x0, 0x0, 0x0, 0x0, 0x0, 0x0, false⟩, ⟨0x0, 0x0, 0x0, 0x0, 0x0, 0x0, false⟩]⟩,
  -- CSTORE.LWIN (R116)
  ⟨0xA000, [⟨2, 1, .fixed 4095⟩], false, false, [⟨0xFFFFFF, 0x0, 0x0, 0x0, 0x0, 0xFFF000, false⟩, ⟨0x9FF000, 0x0, 0x0, 0x0, 0x0, 0x1FF000, false⟩]⟩,
  -- DISP.CTL (R154)
  ⟨0xC000, [], false, false, [⟨0xFF0F30, 0xFF0F30, 0x0, 0x0, 0x0, 0x0, false⟩]⟩,
  -- DISP.ID (R155)
  ⟨0xC001, [], true, false, [⟨0x1F, 0x0, 0x0, 0x0, 0x0, 0x0, false⟩]⟩,
  -- DISP.TRACE (R156)
  ⟨0xC002, [], false, true, [⟨0xFFE07F, 0xFFE07F, 0x0, 0x0, 0x0, 0x0, false⟩, ⟨0x8001FF, 0x8001FF, 0x0, 0x0, 0x0, 0x0, false⟩, ⟨0xFFFFFF, 0xFFFFFF, 0x0, 0x0, 0x0, 0x0, false⟩]⟩,
  -- DISP.STAT (R157)
  ⟨0xC008, [], false, false, List.replicate 4 ⟨0xFFFFFF, 0xFFFFFF, 0x0, 0x0, 0x0, 0x0, false⟩⟩,
  -- DISP.DLK_CTL (R179)
  ⟨0xC010, [], false, true, [⟨0x81FFFF, 0x81FFFF, 0x0, 0x0, 0x0, 0x0, false⟩, ⟨0xFFFFFF, 0xFFFFFF, 0x0, 0x0, 0x0, 0x0, false⟩, ⟨0xFFFFFF, 0xFFFFFF, 0x0, 0x0, 0x0, 0x0, false⟩]⟩,
  -- DISP.DLK_STAT (R180)
  ⟨0xC014, [], false, false, [⟨0xFFFFFF, 0xFFFFFF, 0x0, 0x0, 0x0, 0x0, false⟩, ⟨0xFFFFFF, 0xFFFFFF, 0x0, 0x0, 0x0, 0x0, false⟩, ⟨0xFFFFFF, 0xFFFFFF, 0x0, 0x0, 0x0, 0x0, false⟩]⟩,
  -- DISP.GRP_WEIGHT (R158)
  ⟨0xC040, [⟨1, 1, .fixed 63⟩], false, false, [⟨0xFF, 0xFF, 0x0, 0x0, 0x0, 0x0, false⟩]⟩,
  -- DISP.PORT (R159)
  ⟨0xC100, [⟨8, 0, .ports⟩], false, false, List.replicate 6 ⟨0xFFFFFF, 0xFFFFFF, 0x0, 0x0, 0x0, 0x0, false⟩ ++ [⟨0x3FF, 0x0, 0x0, 0x0, 0x0, 0x0, false⟩, ⟨0xFFFFFF, 0xFFFFFF, 0x0, 0x0, 0x0, 0x0, false⟩]⟩,
  -- DISP.BIND (R160)
  ⟨0xC800, [⟨2, 0, .fixed 1024⟩], false, false, [⟨0xFFFFFF, 0x0, 0x0, 0x0, 0x0, 0xFFFFFF, false⟩, ⟨0xFFFFFF, 0x0, 0x0, 0x0, 0x0, 0xFFFFFF, false⟩]⟩,
  -- DISP.DLK_TEN (R181)
  ⟨0xD000, [⟨4, 1, .fixed 511⟩], false, true, [⟨0xDFFFFF, 0x0, 0x0, 0x0, 0x0, 0x9FFFFF, false⟩, ⟨0xFFC0FF, 0x0, 0x0, 0x0, 0x0, 0xFFC0FF, false⟩, ⟨0xFFFFFF, 0x0, 0x0, 0x0, 0x0, 0xFFFFFF, false⟩, ⟨0xFFFFFF, 0x0, 0x0, 0x0, 0x0, 0x0, false⟩]⟩,
  -- PIPE.BUDGET (R250)
  ⟨0xE000, [⟨1, 0, .fixed 64⟩], false, false, [⟨0xFFFF, 0xFFFF, 0x0, 0x0, 0x0, 0x0, false⟩]⟩,
  -- DISP.FLOW (R161)
  ⟨0x10000, [⟨1, 1, .fixed 32767⟩], false, false, [⟨0xDFF0FF, 0x0, 0x0, 0x0, 0x0, 0x1FF000, false⟩]⟩,
  -- DISP.TASK (R162)
  ⟨0x18000, [⟨4, 0, .fixed 4096⟩], false, true, [⟨0xFFFFE0, 0x0, 0x0, 0x0, 0x0, 0x1FFFE0, false⟩, ⟨0xFFFFFF, 0x0, 0x0, 0xFFFFFF, 0x0, 0x0, false⟩, ⟨0xFFFFFF, 0x0, 0x0, 0x0, 0x0, 0x0, false⟩, ⟨0xFFFF00, 0x0, 0x0, 0x0, 0x2, 0xFF00, false⟩]⟩,
  -- DISP.SIGNAL (R182)
  ⟨0x1C000, [⟨2, 0, .fixed 8192⟩], false, false, [⟨0xFFFFFF, 0x0, 0x0, 0x0, 0x0, 0xFFFFFF, false⟩, ⟨0xFFFFFF, 0x0, 0x0, 0x0, 0x0, 0xFFFFFF, false⟩]⟩,
  -- QUE.ID (R397)
  ⟨0x20000, [], true, false, [⟨0xFFF, 0x0, 0x0, 0x0, 0x0, 0x0, false⟩]⟩,
  -- QUE.Q (R398)
  ⟨0x20400, [⟨16, 0, .queues⟩], false, true, [⟨0xFFFFFF, 0x0, 0x0, 0x0, 0x0, 0xFFFFFF, false⟩, ⟨0xFC0FFF, 0x0, 0x0, 0x0, 0x0, 0xFC0FFF, false⟩, ⟨0xFFFFFF, 0xFFFFFF, 0x0, 0x0, 0x0, 0x0, false⟩, ⟨0x1FFF, 0x0, 0x0, 0x0, 0x0, 0x0, false⟩, ⟨0x1FFF, 0x0, 0x0, 0x0, 0x0, 0x0, false⟩, ⟨0xFFFFFF, 0x0, 0x0, 0x0, 0x0, 0x0, false⟩, ⟨0xFFFFFF, 0x0, 0x0, 0x0, 0x0, 0x0, false⟩, ⟨0x7F, 0x0, 0x0, 0x0, 0x0, 0x0, false⟩] ++ List.replicate 8 ⟨0xFFFFFF, 0xFFFFFF, 0x0, 0x0, 0x0, 0x0, false⟩⟩,
  -- LKT.CTL (R399)
  ⟨0x28000, [], false, false, [⟨0xFF007F, 0xFF0000, 0x0, 0x0, 0x0, 0x0, false⟩]⟩,
  -- LKT.GRP (R400)
  ⟨0x28100, [⟨8, 0, .lockets⟩], false, false, List.replicate 4 ⟨0xE001FF, 0x0, 0x0, 0x0, 0x0, 0xE001FF, false⟩ ++ [⟨0xC00000, 0x0, 0x0, 0x0, 0x0, 0x800000, false⟩, ⟨0xFFFFFF, 0xFFFFFF, 0x0, 0x0, 0x0, 0x0, false⟩, ⟨0xFFFFFF, 0xFFFFFF, 0x0, 0x0, 0x0, 0x0, false⟩, ⟨0xFFFFFF, 0xFFFFFF, 0x0, 0x0, 0x0, 0x0, false⟩]⟩]

/-- Register maps from w:0x29000 on. -/
def regBlocks3 : List RegBlock := [
  -- LKT.L (R401)
  ⟨0x29000, [⟨128, 0, .lockets⟩, ⟨2, 0, .fixed 64⟩], false, true, [⟨0xFFFFFF, 0x0, 0x0, 0x0, 0x0, 0x0, false⟩, ⟨0xDFFFFF, 0x0, 0x0, 0x0, 0x200000, 0x0, false⟩]⟩,
  -- FIL.SEG (R303)
  ⟨0x40000, [⟨128, 0, .fixed 512⟩, ⟨2, 0, .fixed 63⟩], false, true, [⟨0xFF1FFF, 0xFF1FFF, 0x0, 0x0, 0x0, 0x0, true⟩, ⟨0xFFFFFF, 0xFFFFFF, 0x0, 0x0, 0x0, 0x0, true⟩]⟩,
  -- FIL.ENTRY (R304)
  ⟨0x50000, [⟨1, 0, .fixed 32768⟩], false, false, [⟨0xFFFFFF, 0x0, 0x0, 0x0, 0x0, 0xFFFFFF, false⟩]⟩,
  -- FIL.CODESET (R305)
  ⟨0x58000, [⟨16, 0, .fixed 1023⟩], false, true, [⟨0x9FF000, 0x0, 0x0, 0x0, 0x0, 0x9FF000, false⟩, ⟨0x3FFF, 0x0, 0x0, 0x0, 0x0, 0x3FFF, false⟩, ⟨0x7FFF, 0x0, 0x0, 0x0, 0x0, 0x7FFF, false⟩] ++ List.replicate 11 ⟨0xFFFFFF, 0x0, 0x0, 0x0, 0x0, 0xFFFFFF, false⟩ ++ [⟨0x0, 0x0, 0x0, 0x0, 0x0, 0x0, false⟩, ⟨0x0, 0x0, 0x0, 0x0, 0x0, 0x0, false⟩]⟩,
  -- FIL.TASKREC (R306)
  ⟨0x5C000, [⟨1, 0, .fixed 4096⟩], false, false, [⟨0xFF03FF, 0x0, 0x0, 0x0, 0x0, 0xFF03FF, false⟩]⟩,
  -- FIL.SEGNEXT (R574)
  ⟨0x5D000, [⟨2, 0, .fixed 63⟩], false, false, [⟨0xFFFFFF, 0x0, 0x0, 0x0, 0x0, 0x0, false⟩, ⟨0xFFFFFF, 0x0, 0x0, 0x0, 0x0, 0x0, false⟩]⟩,
  -- PORT.ID (R460)
  ⟨0x80000, [], true, false, [⟨0x7FF, 0x0, 0x0, 0x0, 0x0, 0x0, false⟩]⟩,
  -- PORT.TSLACK (R461)
  ⟨0x80200, [⟨1, 0, .fixed 512⟩], false, false, [⟨0xFFFFFF, 0xFFFFFF, 0x0, 0x0, 0x0, 0x0, false⟩]⟩,
  -- PORT.BANK (R462)
  ⟨0x81000, [⟨4, 0, .banks⟩], false, false, [⟨0xD00000, 0x0, 0x0, 0x0, 0x200000, 0x100000, false⟩, ⟨0xFFFFFF, 0xFFFFFF, 0x0, 0x0, 0x0, 0x0, false⟩, ⟨0xFFFFFF, 0xFFFFFF, 0x0, 0x0, 0x0, 0x0, false⟩, ⟨0x0, 0x0, 0x0, 0x0, 0x0, 0x0, false⟩]⟩,
  -- PORT.CELL (R463)
  ⟨0x88000, [⟨32, 0, .cells⟩], false, true, [⟨0xFFFF80, 0x0, 0x0, 0x0, 0x0, 0xFFFF80, false⟩] ++ List.replicate 5 ⟨0xFFFFFF, 0x0, 0x0, 0x0, 0x0, 0xFFFFFF, false⟩ ++ [⟨0xFFFFFF, 0x0, 0x0, 0x0, 0x0, 0xFF, false⟩, ⟨0xFFFFFF, 0xFFFFFF, 0x0, 0x0, 0x0, 0x0, false⟩, ⟨0xFFF800, 0x0, 0x800, 0x0, 0x400, 0x0, false⟩] ++ List.replicate 6 ⟨0xFFFFFF, 0xFFFFFF, 0x0, 0x0, 0x0, 0x0, false⟩ ++ [⟨0x0, 0x0, 0x0, 0x0, 0x0, 0x0, false⟩] ++ List.replicate 7 ⟨0xFFFFFF, 0x0, 0x0, 0x0, 0x0, 0xFFFFFF, false⟩ ++ [⟨0xC00000, 0x0, 0x0, 0x0, 0x0, 0xC00000, false⟩] ++ List.replicate 8 ⟨0x0, 0x0, 0x0, 0x0, 0x0, 0x0, false⟩⟩,
  -- FSL.ID (R496)
  ⟨0xC0000, [], true, false, [⟨0xFFFF1F, 0x0, 0x0, 0x0, 0x0, 0xFFFF00, false⟩]⟩,
  -- FSL.CTL (R497)
  ⟨0xC0001, [], false, false, [⟨0xFFF000, 0xFFF000, 0x0, 0x0, 0x0, 0x0, false⟩]⟩,
  -- FSL.STAT (R498)
  ⟨0xC0002, [], false, false, [⟨0xFFFFFF, 0xFFFFFF, 0x0, 0x0, 0x0, 0x0, false⟩, ⟨0xFFFFFF, 0xFFFFFF, 0x0, 0x0, 0x0, 0x0, false⟩, ⟨0xFFFFFF, 0xFFFFFF, 0x0, 0x0, 0x0, 0x0, false⟩]⟩,
  -- FSL.LINK (R499)
  ⟨0xC0100, [⟨8, 0, .links⟩], false, false, [⟨0xF8FFFF, 0x300000, 0x0, 0x0, 0x0, 0x0, false⟩] ++ List.replicate 4 ⟨0xFFFFFF, 0xFFFFFF, 0x0, 0x0, 0x0, 0x0, false⟩ ++ [⟨0xFFFF, 0xFFFF, 0x0, 0x0, 0x0, 0x0, false⟩, ⟨0x0, 0x0, 0x0, 0x0, 0x0, 0x0, false⟩, ⟨0x0, 0x0, 0x0, 0x0, 0x0, 0x0, false⟩]⟩,
  -- FSL.ROUTE.REGION (R500)
  ⟨0xC1000, [⟨1, 0, .fixed 256⟩], false, false, [⟨0xFFC000, 0xFFC000, 0x0, 0x0, 0x0, 0x0, false⟩]⟩,
  -- FSL.ROUTE.SITE (R500)
  ⟨0xC1100, [⟨1, 0, .fixed 256⟩], false, false, [⟨0xFFC000, 0xFFC000, 0x0, 0x0, 0x0, 0x0, false⟩]⟩,
  -- FSL.SRCMAP (R501)
  ⟨0xC2000, [⟨2, 0, .fixed 256⟩], false, true, [⟨0xC3FFFF, 0x0, 0x0, 0x0, 0x0, 0xC3FFFF, false⟩, ⟨0xFFFF, 0x0, 0x0, 0x0, 0x0, 0xFFFF, false⟩]⟩,
  -- ETH.PORT (R504)
  ⟨0xD0000, [⟨16, 0, .eths⟩], false, false, [⟨0xFFFFFF, 0xE00000, 0x0, 0x0, 0x0, 0xFFFFF, false⟩, ⟨0x3FF, 0x0, 0x0, 0x0, 0x0, 0x3FF, false⟩] ++ List.replicate 5 ⟨0xFFFFFF, 0xFFFFFF, 0x0, 0x0, 0x0, 0x0, false⟩ ++ [⟨0x0, 0x0, 0x0, 0x0, 0x0, 0x0, false⟩]⟩,
  -- PCIE.VF (R502)
  ⟨0xD4000, [⟨1, 1, .fixed 63⟩], true, false, [⟨0x8001FF, 0x0, 0x0, 0x0, 0x0, 0x8001FF, false⟩]⟩,
  -- PCIE.STAT (R503)
  ⟨0xD4040, [], true, false, [⟨0xFFFFFF, 0xFFFFFF, 0x0, 0x0, 0x0, 0x0, false⟩]⟩,
  -- DDR.CH (R505)
  ⟨0xD8000, [⟨16, 0, .ddrs⟩], true, false, [⟨0x8FFFFF, 0x0, 0x0, 0x0, 0x0, 0x0, false⟩, ⟨0xFFFFFF, 0xFFFFFF, 0x0, 0x0, 0x0, 0x0, false⟩, ⟨0xFFFFFF, 0xFFFFFF, 0x0, 0x0, 0x0, 0x0, false⟩, ⟨0xFFFF00, 0xFFFF00, 0x0, 0x0, 0x0, 0x0, false⟩, ⟨0xFFFFF, 0x0, 0x0, 0x0, 0x0, 0xFFFFF, false⟩]⟩,
  -- LEG.CTL (R506)
  ⟨0xDC000, [], false, false, [⟨0xFFFDFF, 0x900000, 0x0, 0x0, 0x0, 0x6FFDFF, false⟩]⟩,
  -- LEG.STAT (R507)
  ⟨0xDC001, [], false, false, [⟨0xC00000, 0x0, 0x0, 0x0, 0x0, 0x0, false⟩, ⟨0xFFFFFF, 0xFFFFFF, 0x0, 0x0, 0x0, 0x0, false⟩, ⟨0xFFFFFF, 0xFFFFFF, 0x0, 0x0, 0x0, 0x0, false⟩, ⟨0xFFFFFF, 0xFFFFFF, 0x0, 0x0, 0x0, 0x0, false⟩]⟩]

/-- Register maps of a pavilion page, by offset (Table 9-3). -/
def regBlocksPav : List RegBlock := [
  -- PIPE.CTL (R246)
  ⟨0x100, [], false, false, [⟨0xFF, 0xFF, 0x0, 0x0, 0x0, 0x0, false⟩]⟩,
  -- PIPE.AREQ (R247)
  ⟨0x101, [], false, false, [⟨0x0, 0x0, 0x0, 0x0, 0x8F3FFF, 0x0, false⟩]⟩,
  -- PIPE.CTXST (R248)
  ⟨0x110, [⟨4, 0, .fixed 4⟩, ⟨1, 0, .fixed 4⟩], false, false, [⟨0xFFF1FF, 0x0, 0x0, 0x0, 0x0, 0x0, false⟩]⟩,
  -- PIPE.STAT (R249)
  ⟨0x140, [⟨8, 0, .fixed 4⟩], false, false, List.replicate 8 ⟨0xFFFFFF, 0xFFFFFF, 0x0, 0x0, 0x0, 0x0, false⟩⟩,
  -- SPAD.CTL (R298)
  ⟨0x200, [], false, false, [⟨0x80FFFF, 0x80FFFF, 0x0, 0x0, 0x0, 0x0, false⟩]⟩,
  -- SPAD.LAYOUT (R299)
  ⟨0x201, [], false, true, [⟨0x1F, 0x0, 0x0, 0x0, 0x0, 0x1F, false⟩, ⟨0xFFFFF, 0x0, 0x0, 0x0, 0x0, 0xFFFFF, false⟩]⟩,
  -- SPAD.STAT (R300)
  ⟨0x204, [], false, false, List.replicate 4 ⟨0xFFFFFF, 0xFFFFFF, 0x0, 0x0, 0x0, 0x0, false⟩ ++ [⟨0xF, 0x0, 0x0, 0x0, 0x0, 0x0, false⟩, ⟨0xFFFFFF, 0xFFFFFF, 0x0, 0x0, 0x0, 0x0, false⟩, ⟨0xFFFFFF, 0xFFFFFF, 0x0, 0x0, 0x0, 0x0, false⟩, ⟨0xFFFFFF, 0xFFFFFF, 0x0, 0x0, 0x0, 0x0, false⟩]⟩,
  -- SPAD.TESTPOS (R301)
  ⟨0x20C, [], false, false, [⟨0x803FFF, 0x0, 0x0, 0x0, 0x0, 0x0, false⟩]⟩,
  -- STATE.CCTL (R329)
  ⟨0x300, [], false, false, [⟨0x400007, 0x0, 0x0, 0x0, 0x800000, 0x0, false⟩]⟩,
  -- STATE.CSTAT (R330)
  ⟨0x301, [], false, false, List.replicate 8 ⟨0xFFFFFF, 0xFFFFFF, 0x0, 0x0, 0x0, 0x0, false⟩⟩,
  -- PAV.DECODE (R214)
  ⟨0x1000, [⟨2, 0, .fixed 64⟩], false, true, [⟨0xF00FFF, 0xF00FFF, 0x0, 0x0, 0x0, 0x0, true⟩, ⟨0x1FFF, 0x1FFF, 0x0, 0x0, 0x0, 0x0, true⟩]⟩,
  -- PAV.UOP (R214)
  ⟨0x2000, [⟨2, 0, .fixed 4096⟩], false, true, [⟨0xFFFFFF, 0xFFFFFF, 0x0, 0x0, 0x0, 0x0, true⟩, ⟨0xFFF800, 0xFFF800, 0x0, 0x0, 0x0, 0x0, true⟩]⟩]

/-- Every register map outside the pavilion pages. -/
def regBlocks : List RegBlock := regBlocks0 ++ regBlocks1 ++ regBlocks2 ++ regBlocks3

end Sys2Proof.Machine
end

