-- ==== Sys2Proof/Machine/Regs.lean ====
section
/-! DEFINITION. The one home of the device registers: reset words, named addresses, field access,
saturating counters, and the search of the register maps (R14 to R19, Table 9-2). -/

namespace Sys2Proof.Machine

/-- PAVBASE(p) of Table 9-2. -/
def pavBase (p : Nat) : Nat := 0x800000 + 0x8000 * p

/-- Nonzero reset words of a pavilion page, by offset (R246, R298). -/
def pavResetWord (off : Nat) : Word :=
  if off = 0x100 then 0x000004
  else if off = 0x200 then 0x801004
  else 0

/-- Word `i` of AON.RAIL at reset, counted from rail 0 on (Table 16-6). (log 9, DEDUCED) -/
def railResetWord (i : Nat) : Word :=
  match i with
  | 0 => 0x800200
  | 1 => 0x00000A
  | 2 => 0x140352
  | 4 => 0x900208
  | 5 => 0x00110A
  | 6 => 0x140352
  | _ => 0

/-- TRL.NODE[n] at reset: STATE ON for present nodes, fixed CLUSTER (R366). PORT is computed on a read. -/
def nodeResetWord (m : Member) (n : Nat) : Word :=
  if nodePresent m n then BitVec.ofNat 24 (0x100000 + clusterOf m n * 0x10000) else 0

/-- Word 0 of DEP.ID (Table 18-10). -/
def depIdWord : Member → Word
  | .z16 => 0x100100
  | .z64 => 0x100400
  | .z256 => 0x101000
  | .z256d => 0x101010

/-- The word an unlisted device register reads as: its reset value, 0 where the map gives none. (log 7, DESIGN CHOICE) -/
def regReset (m : Member) (a : Nat) : Word :=
  if a ≥ 0x800000 then pavResetWord ((a - 0x800000) % 0x8000)
  else if 0x002010 ≤ a ∧ a < 0x002050 then railResetWord (a - 0x002010)
  else if a = 0x000000 then depIdWord m
  else if a = 0x000002 then 0x220000
  else if a = 0x001000 then 0x800000
  else if a = 0x001012 then 0x0A0500
  else if a = 0x001013 then 0x000352
  else if a = 0x008001 then 0x000FA0
  else if a = 0x008002 then BitVec.ofNat 24 (unitCount m .slices)
  else if a = 0x00C000 then 0x0A0210
  else if a = 0x00C001 then BitVec.ofNat 24 (unitCount m .ports)
  else if a = 0x00C010 then 0x81F000
  else if a = 0x00C012 then 0x002710
  else if 0x00C041 ≤ a ∧ a < 0x00C080 then 1
  else if 0x001200 ≤ a ∧ a < 0x001400 then (if domainPresent m (a - 0x001200) then 0x100000 else 0)
  else if 0x007400 ≤ a ∧ a < 0x007800 then nodeResetWord m (a - 0x007400)
  else if a = 0x007001 then 0x000032
  else if a = 0x007002 then 0x0007D0
  else if a = 0x028000 then 0x0A0000
  else if a = 0x0C0000 then BitVec.ofNat 24 (unitCount m .links)
  else if a = 0x0C0001 then 0x084000
  else if 0x050000 ≤ a ∧ a < 0x058000 then 0xFFC000
  else if 0x080200 ≤ a ∧ a < 0x080400 then 0x7FFFFF
  else if 0x088000 ≤ a ∧ a < 0x088000 + 32 * unitCount m .cells ∧ (a - 0x088000) % 32 = 9 then 0x7FFFFF
  else if a = 0x080000 then BitVec.ofNat 24 (unitCount m .cells)
  else if a = 0x004000 then 0xC00000
  else if a = 0x004001 then 0x180000
  else if a = 0x00400D then 0x040004
  else if a = 0x00400E then 0x02D093
  else if a = 0x00400F then 0x06440A
  else if a = 0x004010 then 0x000032
  else if a = 0x004011 then 0x002710
  else if a = 0x004020 then 0x080000
  else if a = 0x004024 then 0x280000
  else if a = 0x004028 then 0x480000
  else if a = 0x004021 ∨ a = 0x004025 ∨ a = 0x004029 then 0x000BB8
  else 0

/-- A stored device register. -/
def State.reg (s : State) (a : Nat) : Word := Map.get (regReset s.member) s.regs a

/-- Write a stored device register. -/
def State.setReg (s : State) (a : Nat) (v : Word) : State :=
  { s with regs := Map.set (regReset s.member) s.regs a v }

/-- Bits `[lo + len - 1 : lo]` of a stored register. -/
def State.regField (s : State) (a lo len : Nat) : Nat := (s.reg a).field lo len

/-- One bit of a stored register. -/
def State.regBit (s : State) (a i : Nat) : Bool := (s.reg a).bit i

/-- Replace bits of a stored register. -/
def State.setRegField (s : State) (a lo len v : Nat) : State := s.setReg a ((s.reg a).setField lo len v)

/-- A counter one higher, saturating at 0xFFFFFF (R115 and its kind). -/
def satInc (w : Word) : Word := if w = 0xFFFFFF then w else w + 1

/-- Add 1 to a saturating counter register. -/
def State.bump (s : State) (a : Nat) : State := s.setReg a (satInc (s.reg a))

/-- Add `n` to a saturating counter register. -/
def State.bumpBy (s : State) (a n : Nat) : State :=
  s.setReg a (BitVec.ofNat 24 (min 0xFFFFFF ((s.reg a).toNat + n)))

/-! ### Named addresses -/

def Reg.sliceStat (sl w : Nat) : Nat := 0x009000 + 16 * sl + w
def Reg.quota (t w : Nat) : Nat := 0x008400 + 4 * t + w
def Reg.lwin (w k : Nat) : Nat := 0x00A000 + 2 * w + k
def Reg.dispStat (w : Nat) : Nat := 0x00C008 + w
def Reg.grpWeight (g : Nat) : Nat := 0x00C040 + g
def Reg.port (r w : Nat) : Nat := 0x00C100 + 8 * r + w
def Reg.bind (i w : Nat) : Nat := 0x00C800 + 2 * i + w
def Reg.dlkTen (t w : Nat) : Nat := 0x00D000 + 4 * t + w
def Reg.signal (i w : Nat) : Nat := 0x01C000 + 2 * i + w
def Reg.pipeStat (p q w : Nat) : Nat := pavBase p + 0x140 + 8 * q + w
def Reg.budget (g : Nat) : Nat := 0x00E000 + g
def Reg.spadStat (p w : Nat) : Nat := pavBase p + 0x204 + w
def Reg.remap (p k : Nat) : Nat := 0x005000 + 8 * p + k
def Reg.seg (t sg w : Nat) : Nat := 0x040000 + 128 * t + 2 * sg + w
def Reg.entry (e : Nat) : Nat := 0x050000 + e
def Reg.codeset (c w : Nat) : Nat := 0x058000 + 16 * c + w
def Reg.taskRec (n : Nat) : Nat := 0x05C000 + n
def Reg.depTen (t w : Nat) : Nat := 0x000400 + 2 * t + w
def Reg.depPav (p : Nat) : Nat := 0x000800 + p
def Reg.cluster (c w : Nat) : Nat := 0x007100 + 16 * c + w
def Reg.node (n : Nat) : Nat := 0x007400 + n
def Reg.filTen (t w : Nat) : Nat := 0x003400 + 2 * t + w
def Reg.pwrDom (d : Nat) : Nat := 0x001200 + d

/-! ### The search of the register maps -/

/-- Offsets inside the indexed array: word number of the register if every index is valid. -/
def dimsMatch (m : Member) : List RegDim → Nat → Nat → Option Nat
  | [], words, r => if r < words then some r else none
  | d :: ds, words, r =>
    let i := r / d.stride
    if d.first ≤ i ∧ i < d.first + unitCount m d.count then dimsMatch m ds words (r % d.stride)
    else none

/-- The map word at offset `a` of a list of maps. -/
def findIn (m : Member) : List RegBlock → Nat → Option (RegBlock × Nat)
  | [], _ => none
  | b :: bs, a =>
    if b.base ≤ a then
      match dimsMatch m b.dims b.words.length (a - b.base) with
      | some w => some (b, w)
      | none => findIn m bs a
    else findIn m bs a

/-- The map and word number of a device register address, if the member has it. (log 31, DEDUCED) -/
def findReg (m : Member) (a : Nat) : Option (RegBlock × Nat) :=
  if a ≥ 0x800000 then
    let p := (a - 0x800000) / 0x8000
    if unitPresent m .pavs p then findIn m regBlocksPav ((a - 0x800000) % 0x8000) else none
  else findIn m regBlocks a

/-- The access masks of word `w` of a map. -/
def RegBlock.word (b : RegBlock) (w : Nat) : RegWord :=
  (b.words[w]?).getD ⟨0, 0, 0, 0, 0, 0, false⟩

end Sys2Proof.Machine
end

