-- ==== Sys2Proof/Machine/Ops.lean ====
section
/-! DEFINITION. Operations that every family shares: answers, packets in flight, free values, event-log
records, tenant faults, and the typed views of the tables in State. -/

namespace Sys2Proof.Machine

/-- The answer of a command. -/
abbrev Out := Host.Outcome State Fault Refusal

/-- Act if the unit exists on the member, else fault (R2). (log 5, DESIGN CHOICE) -/
def onUnit (s : State) (k : UnitKind) (i : Nat) (t : State) : Out :=
  if unitPresent s.member k i then .next t else .fault .absentUnit

/-- Act if the context exists on the member, else fault (R2). (log 5, DESIGN CHOICE) -/
def onCtx (s : State) (c : CtxId) (t : State) : Out :=
  if ctxPresent s.member c then .next t else .fault .absentUnit

/-! ### Packets in flight -/

/-- Put a packet in flight. (log 13, DESIGN CHOICE) -/
def State.send (s : State) (p : Packet) : State := { s with flight := s.flight ++ [p] }

/-- Put packets in flight, in order. -/
def State.sendAll (s : State) (ps : List Packet) : State := { s with flight := s.flight ++ ps }

/-- Take one packet out of flight, if it is there. (log 13, DESIGN CHOICE) -/
def State.take (s : State) (p : Packet) : State := { s with flight := s.flight.erase p }

/-! ### Free values -/

/-- Draw a free value (a value that the spec leaves undefined). (log 10, DESIGN CHOICE) -/
def State.draw (s : State) : Word × State := (Config.freeWord s.free, { s with free := s.free + 1 })

/-! ### Time -/

def State.time (s : State) : Triple := s.clock.time
def State.elapsed (s : State) : Nat := s.clock.elapsed.toNat

/-- Microseconds in units of 2⁻³² s, rounded up (R10). (log 45, DESIGN CHOICE) -/
def usTicks (us : Nat) : Nat := (us * 4294967296 + 999999) / 1000000
/-- Milliseconds in units of 2⁻³² s, rounded up. (log 45, DESIGN CHOICE) -/
def msTicks (ms : Nat) : Nat := (ms * 4294967296 + 999) / 1000
/-- Nanoseconds in units of 2⁻³² s, rounded up. -/
def nsTicks (ns : Nat) : Nat := (ns * 4294967296 + 999999999) / 1000000000

/-! ### The event log (R600 to R602) -/

/-- SEV of an event code (Table 18-9). (log 91, DEDUCED) -/
def logSev (code : Nat) : Nat :=
  if code ∈ [0x72] then 0
  else if code ∈ [0x05, 0x18, 0x20, 0x21, 0x29, 0x33, 0x38, 0x39, 0x48, 0x49, 0x4A, 0x4B, 0x50, 0x51,
      0x54, 0x55, 0x57, 0x59, 0x5B, 0x71, 0x7A] then 1
  else if code ∈ [0x22, 0x41, 0x53, 0x56, 0x60, 0x61, 0x73, 0x77, 0x78, 0x79, 0x7B] then 3
  else 2

/-- Send an event-log record; it reaches the log ring as an EVLOG command. (log 91, DEDUCED) -/
def State.log (s : State) (code node : Nat) (master detail : Word) (cont : Option Triple) : State :=
  s.send (.evlog ⟨code, node, master, detail, s.time, cont⟩)

/-! ### Typed views of the tables -/

def State.ctx (s : State) (c : CtxId) : Context := Map.get (fun _ => Context.idle) s.strands.ctxs (ctxKey c)

def State.setCtx (s : State) (c : CtxId) (x : Context) : State :=
  { s with strands := { s.strands with ctxs := Map.set (fun _ => Context.idle) s.strands.ctxs (ctxKey c) x } }

/-- An empty slot. (log 7, DESIGN CHOICE) -/
def Slot.empty : Slot := ⟨0, false, 0, false, false, 0⟩
def FrameEntry.zero : FrameEntry := ⟨false, false, 0, 0, 0, 0, false⟩
def Group.zero : Group := ⟨0, 0, 0, .idle, 0, 0, 0, 0, false, false⟩
def Pool.none : Pool := ⟨0, 0, [], [], false⟩
def Task.zero : Task := ⟨.free, 0, 0, false, 0, 0, 0, 0, 0, 0, false, 0, .none, 0, false, 0⟩
def Flow.zero : Flow := ⟨false, false, 0, 0, [], [], 0, false⟩

def State.slot (s : State) (k : Nat) : Slot := Map.get (fun _ => Slot.empty) s.store.slots k
def State.setSlot (s : State) (k : Nat) (v : Slot) : State :=
  { s with store := { s.store with slots := Map.set (fun _ => Slot.empty) s.store.slots k v } }
def State.frame (s : State) (f : Nat) : FrameEntry := Map.get (fun _ => FrameEntry.zero) s.store.frames f
def State.setFrame (s : State) (f : Nat) (v : FrameEntry) : State :=
  { s with store := { s.store with frames := Map.set (fun _ => FrameEntry.zero) s.store.frames f v } }
def State.group (s : State) (k : Nat) : Group := Map.get (fun _ => Group.zero) s.store.groups k
def State.setGroup (s : State) (k : Nat) (v : Group) : State :=
  { s with store := { s.store with groups := Map.set (fun _ => Group.zero) s.store.groups k v } }
def State.pool (s : State) (k : Nat) : Pool := Map.get (fun _ => Pool.none) s.store.pools k
def State.setPool (s : State) (k : Nat) (v : Pool) : State :=
  { s with store := { s.store with pools := Map.set (fun _ => Pool.none) s.store.pools k v } }
def State.template (s : State) (t k : Nat) : Option Template :=
  Map.get (fun _ => Option.none) s.store.templates (256 * t + k)
def State.firedQ (s : State) (k : Nat) : List Activation := Map.get (fun _ => []) s.store.fired k
def State.setFiredQ (s : State) (k : Nat) (v : List Activation) : State :=
  { s with store := { s.store with fired := Map.set (fun _ => []) s.store.fired k v } }
def State.notices (s : State) (sl : Nat) : List Notice := Map.get (fun _ => []) s.store.notices sl
def State.setNotices (s : State) (sl : Nat) (v : List Notice) : State :=
  { s with store := { s.store with notices := Map.set (fun _ => []) s.store.notices sl v } }
def State.home (s : State) (r : Nat) : Nat := Map.get (fun _ => 0) s.store.home r
def State.setHome (s : State) (r v : Nat) : State :=
  { s with store := { s.store with home := Map.set (fun _ => 0) s.store.home r v } }

def State.rl (s : State) (r g : Nat) : List Entry := Map.get (fun _ => []) s.hub.rl (64 * r + g)
def State.setRl (s : State) (r g : Nat) (v : List Entry) : State :=
  { s with hub := { s.hub with rl := Map.set (fun _ => []) s.hub.rl (64 * r + g) v } }
def State.deficit (s : State) (r g : Nat) : Int := Map.get (fun _ => 0) s.hub.deficit (64 * r + g)
def State.setDeficit (s : State) (r g : Nat) (v : Int) : State :=
  { s with hub := { s.hub with deficit := Map.set (fun _ => 0) s.hub.deficit (64 * r + g) v } }
def State.turn (s : State) (r : Nat) : Nat := Map.get (fun _ => 0) s.hub.turn r
def State.setTurn (s : State) (r v : Nat) : State :=
  { s with hub := { s.hub with turn := Map.set (fun _ => 0) s.hub.turn r v } }
def State.creditUsed (s : State) (k : Nat) : Nat := Map.get (fun _ => 0) s.hub.creditUsed k
def State.setCreditUsed (s : State) (k v : Nat) : State :=
  { s with hub := { s.hub with creditUsed := Map.set (fun _ => 0) s.hub.creditUsed k v } }
def State.pq (s : State) (p : Nat) : List Entry := Map.get (fun _ => []) s.hub.pq p
def State.setPq (s : State) (p : Nat) (v : List Entry) : State :=
  { s with hub := { s.hub with pq := Map.set (fun _ => []) s.hub.pq p v } }
def State.task (s : State) (n : Nat) : Task := Map.get (fun _ => Task.zero) s.hub.tasks n
def State.setTask (s : State) (n : Nat) (v : Task) : State :=
  { s with hub := { s.hub with tasks := Map.set (fun _ => Task.zero) s.hub.tasks n v } }
def State.flow (s : State) (f : Nat) : Flow := Map.get (fun _ => Flow.zero) s.hub.flows f
def State.setFlow (s : State) (f : Nat) (v : Flow) : State :=
  { s with hub := { s.hub with flows := Map.set (fun _ => Flow.zero) s.hub.flows f v } }
/-- The wait domain of a tenant (R181). -/
def State.domain (s : State) (t : Nat) : Nat := s.regField (Reg.dlkTen t 0) 12 9
/-- Mark activity in the wait domain of a tenant (R167). Tenant 0 belongs to none. -/
def State.activity (s : State) (t : Nat) : State :=
  if t = 0 then s
  else
    let d := s.domain t
    if d ∈ s.hub.active then s else { s with hub := { s.hub with active := s.hub.active ++ [d] } }

/-! ### Flags set by the device, and tenant faults (R579) -/

/-- Send an SEV by tenant 0 of flag `fl` to a task; a flag number of 24 to 31 sends none. -/
def State.sevFlag (s : State) (task fl : Nat) : State :=
  if fl < 24 then s.send (Packet.sev task (BitVec.ofNat 24 (2 ^ fl)) .device) else s

/-- A tenant fault (R579): record 0x08, FAULTS, FAULTFLAG, and a STOP where STOPFAULT asks it. -/
def State.tenantFault (s : State) (t node : Nat) (master : Word) (reason addr : Nat) (handle : Triple) : State :=
  let s1 := s.log 0x08 node master (BitVec.ofNat 24 (reason % 256 * 0x10000 + addr % 0x4000)) (some handle)
  let s2 := s1.bump (Reg.depTen t 1)
  let fl := s2.regField (Reg.depTen t 0) 18 5
  let task := if t = 0 then s2.regField 0x000003 0 12 else s2.regField (Reg.dlkTen t 0) 0 12
  let s3 := s2.sevFlag task fl
  if s3.regBit (Reg.depTen t 0) 23 then s3.send (.stopTenant t) else s3

end Sys2Proof.Machine
end

