-- ==== Sys2Proof/Machine/Fp.lean ====
section
/-! DEFINITION. Floating-point results and flags (R259 to R269): exact arithmetic on dyadic numbers, rounded
once under RM, with the NaN, infinity, overflow, underflow and conversion rules of 08_arithmetic. -/

namespace Sys2Proof.Machine

/-- A binary format: precision in bits (hidden bit included) and width of the exponent field. -/
structure FpFmt where
  prec : Nat
  ebits : Nat
deriving DecidableEq, Repr

/-- binary64. -/
def fmtD : FpFmt := ⟨53, 11⟩
/-- binary32. -/
def fmtS : FpFmt := ⟨24, 8⟩

def FpFmt.bias (f : FpFmt) : Nat := 2 ^ (f.ebits - 1) - 1
def FpFmt.fracBits (f : FpFmt) : Nat := f.prec - 1
def FpFmt.expMax (f : FpFmt) : Nat := 2 ^ f.ebits - 1
/-- Exponent of the least quantum: emin - prec + 1. -/
def FpFmt.qmin (f : FpFmt) : Int := 1 - (f.bias : Int) - (f.prec : Int) + 1
def FpFmt.emin (f : FpFmt) : Int := 1 - (f.bias : Int)

/-- A decoded operand. -/
inductive FpVal where
  /-- Quiet or signalling NaN. -/
  | nan (signalling : Bool)
  | inf (neg : Bool)
  /-- (-1)^neg × m × 2^e, with m = 0 for a zero. -/
  | fin (neg : Bool) (m : Nat) (e : Int)
deriving DecidableEq, Repr

/-- Decode the bits of a format. -/
def fpDecode (f : FpFmt) (b : Nat) : FpVal :=
  let frac := b % 2 ^ f.fracBits
  let ex := (b / 2 ^ f.fracBits) % 2 ^ f.ebits
  let neg := decide ((b / 2 ^ (f.fracBits + f.ebits)) % 2 = 1)
  if ex = f.expMax then
    if frac = 0 then .inf neg else .nan (decide (frac < 2 ^ (f.fracBits - 1)))
  else if ex = 0 then .fin neg frac f.qmin
  else .fin neg (2 ^ f.fracBits + frac) ((ex : Int) - 1 + f.qmin)

def fpSignBit (f : FpFmt) (neg : Bool) : Nat := if neg then 2 ^ (f.fracBits + f.ebits) else 0
def fpInf (f : FpFmt) (neg : Bool) : Nat := fpSignBit f neg + f.expMax * 2 ^ f.fracBits
def fpMaxFinite (f : FpFmt) (neg : Bool) : Nat := fpInf f neg - 1
def fpZero (f : FpFmt) (neg : Bool) : Nat := fpSignBit f neg
/-- The default NaN (R264). -/
def fpDefaultNan (f : FpFmt) : Nat := f.expMax * 2 ^ f.fracBits + 2 ^ (f.fracBits - 1)
/-- A NaN operand with its quiet bit set (R264). -/
def fpQuiet (f : FpFmt) (b : Nat) : Nat := b ||| 2 ^ (f.fracBits - 1)

/-- FPSC flag bits (R258). -/
def fpNV : Nat := 16
def fpDZ : Nat := 8
def fpOF : Nat := 4
def fpUF : Nat := 2
def fpNX : Nat := 1

/-- Round up the magnitude? `rem` of `2^sh` discarded, `odd` the last kept bit (Table 8-4). -/
def roundUp (rm : Nat) (neg odd : Bool) (rem sh : Nat) : Bool :=
  match rm with
  | 0 => decide (2 * rem > 2 ^ sh) || (decide (2 * rem = 2 ^ sh) && odd)
  | 1 => false
  | 2 => !neg && decide (rem ≠ 0)
  | _ => neg && decide (rem ≠ 0)

/-- `m` × 2^e rounded to a multiple of 2^q: quotient and whether it was inexact. -/
def roundAt (rm : Nat) (neg : Bool) (m : Nat) (e q : Int) : Nat × Bool :=
  if q ≤ e then (m <<< (e - q).toNat, false)
  else
    let sh := (q - e).toNat
    let k := m >>> sh
    let rem := m % 2 ^ sh
    (if roundUp rm neg (decide (k % 2 = 1)) rem sh then k + 1 else k, decide (rem ≠ 0))

/-- Result of an overflow (Table 8-6). -/
def fpOverflow (f : FpFmt) (rm : Nat) (neg : Bool) : Nat :=
  match rm with
  | 0 => fpInf f neg
  | 1 => fpMaxFinite f neg
  | 2 => if neg then fpMaxFinite f neg else fpInf f neg
  | _ => if neg then fpInf f neg else fpMaxFinite f neg

/-- Round the nonzero (-1)^neg × m × 2^e into the format: bits and flags (R259, R263, R267). -/
def fpRound (f : FpFmt) (rm : Nat) (neg : Bool) (m : Nat) (e : Int) : Nat × Nat :=
  if m = 0 then (fpZero f neg, 0)
  else
    let len : Int := (m.log2 : Int) + 1
    let q0 := e + len - f.prec
    let q := if q0 < f.qmin then f.qmin else q0
    let (k, inexact) := roundAt rm neg m e q
    let (k0, _) := roundAt rm neg m e q0
    let top := if k0 ≥ 2 ^ f.prec then q0 + f.prec else q0 + f.prec - 1
    let tiny := decide (top < f.emin)
    let (k, q) := if k ≥ 2 ^ f.prec then (2 ^ (f.prec - 1), q + 1) else (k, q)
    let nx := if inexact then fpNX else 0
    let uf := if tiny && inexact then fpUF else 0
    if k < 2 ^ (f.prec - 1) then (fpSignBit f neg + k, nx + uf)
    else
      let biased := (q - f.qmin).toNat + 1
      if biased ≥ f.expMax then (fpOverflow f rm neg, fpOF + fpNX)
      else (fpSignBit f neg + biased * 2 ^ f.fracBits + (k - 2 ^ (f.prec - 1)), nx + uf)

/-- The NaN result of an operation with these operand bits, if any is a NaN (R264 rules 1 and 3). -/
def fpNanOf (f : FpFmt) (ops : List Nat) : Option (Nat × Nat) :=
  let isNan := fun b => match fpDecode f b with | .nan _ => true | _ => false
  let isSnan := fun b => match fpDecode f b with | .nan s => s | _ => false
  match ops.find? isNan with
  | none => none
  | some b => some (fpQuiet f b, if ops.any isSnan then fpNV else 0)

/-- Exact sum of two finite numbers, rounded; the zero sign rule of Table 8-5. -/
def fpSum (f : FpFmt) (rm : Nat) (n1 : Bool) (m1 : Nat) (e1 : Int) (n2 : Bool) (m2 : Nat) (e2 : Int) : Nat × Nat :=
  let e := if e1 < e2 then e1 else e2
  let a : Int := (m1 <<< (e1 - e).toNat : Nat)
  let b : Int := (m2 <<< (e2 - e).toNat : Nat)
  let v := (if n1 then -a else a) + (if n2 then -b else b)
  if v = 0 then
    (fpZero f (if n1 = n2 then n1 else decide (rm = 3)), 0)
  else fpRound f rm (decide (v < 0)) v.natAbs e

/-- FADD and, with the second sign inverted, FSUB. -/
def fpAdd (f : FpFmt) (rm : Nat) (sub : Bool) (a b : Nat) : Nat × Nat :=
  match fpNanOf f [a, b] with
  | some r => r
  | none =>
    match fpDecode f a, fpDecode f b with
    | .inf n1, .inf n2 =>
      if n1 = (n2 != sub) then (fpInf f n1, 0) else (fpDefaultNan f, fpNV)
    | .inf n1, _ => (fpInf f n1, 0)
    | _, .inf n2 => (fpInf f (n2 != sub), 0)
    | .fin n1 m1 e1, .fin n2 m2 e2 => fpSum f rm n1 m1 e1 (n2 != sub) m2 e2
    | _, _ => (fpDefaultNan f, 0)

/-- FMUL. -/
def fpMul (f : FpFmt) (rm : Nat) (a b : Nat) : Nat × Nat :=
  match fpNanOf f [a, b] with
  | some r => r
  | none =>
    match fpDecode f a, fpDecode f b with
    | .inf n1, .inf n2 => (fpInf f (n1 != n2), 0)
    | .inf n1, .fin n2 m2 _ => if m2 = 0 then (fpDefaultNan f, fpNV) else (fpInf f (n1 != n2), 0)
    | .fin n1 m1 _, .inf n2 => if m1 = 0 then (fpDefaultNan f, fpNV) else (fpInf f (n1 != n2), 0)
    | .fin n1 m1 e1, .fin n2 m2 e2 =>
      if m1 * m2 = 0 then (fpZero f (n1 != n2), 0) else fpRound f rm (n1 != n2) (m1 * m2) (e1 + e2)
    | _, _ => (fpDefaultNan f, 0)

/-- FDIV. The quotient carries three bits beyond the precision and a sticky bit. -/
def fpDiv (f : FpFmt) (rm : Nat) (a b : Nat) : Nat × Nat :=
  match fpNanOf f [a, b] with
  | some r => r
  | none =>
    match fpDecode f a, fpDecode f b with
    | .inf _, .inf _ => (fpDefaultNan f, fpNV)
    | .inf n1, .fin n2 _ _ => (fpInf f (n1 != n2), 0)
    | .fin n1 _ _, .inf n2 => (fpZero f (n1 != n2), 0)
    | .fin n1 m1 e1, .fin n2 m2 e2 =>
      if m2 = 0 then
        (if m1 = 0 then (fpDefaultNan f, fpNV) else (fpInf f (n1 != n2), fpDZ))
      else if m1 = 0 then (fpZero f (n1 != n2), 0)
      else
        let sh := 2 * f.prec + 3
        let num := m1 <<< sh
        let q := num / m2
        let sticky := if num % m2 = 0 then 0 else 1
        fpRound f rm (n1 != n2) (2 * q + sticky) (e1 - e2 - sh - 1)
    | _, _ => (fpDefaultNan f, 0)

/-- FMA (`neg` false: Fa × Fb + Fd) and FMS (`neg` true: Fd − Fa × Fb), rounded once (R266). -/
def fpFma (f : FpFmt) (rm : Nat) (neg : Bool) (a b d : Nat) : Nat × Nat :=
  let zeroInf := match fpDecode f a, fpDecode f b with
    | .inf _, .fin _ m _ => decide (m = 0)
    | .fin _ m _, .inf _ => decide (m = 0)
    | _, _ => false
  match fpNanOf f [a, b, d] with
  | some (r, fl) => (r, if zeroInf then fpNV else fl)
  | none =>
    if zeroInf then (fpDefaultNan f, fpNV)
    else
      let sgn := fun (n1 n2 : Bool) => (n1 != n2) != neg
      match fpDecode f a, fpDecode f b, fpDecode f d with
      | .fin n1 m1 e1, .fin n2 m2 e2, .fin n3 m3 e3 => fpSum f rm (sgn n1 n2) (m1 * m2) (e1 + e2) n3 m3 e3
      | .fin _ _ _, .fin _ _ _, .inf n3 => (fpInf f n3, 0)
      | va, vb, vd =>
        let s1 := match va with | .inf n => n | .fin n _ _ => n | .nan _ => false
        let s2 := match vb with | .inf n => n | .fin n _ _ => n | .nan _ => false
        match vd with
        | .inf n3 => if sgn s1 s2 = n3 then (fpInf f n3, 0) else (fpDefaultNan f, fpNV)
        | _ => (fpInf f (sgn s1 s2), 0)

/-- Integer square root of `n` by its bits from `k` down. -/
def isqrtFrom : Nat → Nat → Nat → Nat
  | 0, _, r => r
  | k + 1, n, r => let c := r + 2 ^ k; isqrtFrom k n (if c * c ≤ n then c else r)

/-- FSQRT. -/
def fpSqrt (f : FpFmt) (rm : Nat) (a : Nat) : Nat × Nat :=
  match fpNanOf f [a] with
  | some r => r
  | none =>
    match fpDecode f a with
    | .inf n => if n then (fpDefaultNan f, fpNV) else (a, 0)
    | .fin n m e =>
      if m = 0 then (a, 0)
      else if n then (fpDefaultNan f, fpNV)
      else
        let m' := if e % 2 = 0 then m else 2 * m
        let e' := if e % 2 = 0 then e else e - 1
        let sh := f.prec + 3
        let n' := m' <<< (2 * sh)
        let r := isqrtFrom (2 * f.prec + 8) n' 0
        let sticky := if r * r = n' then 0 else 1
        fpRound f rm false (2 * r + sticky) (e' / 2 - sh - 1)
    | .nan _ => (fpDefaultNan f, 0)

/-- Signed order key of two finite or infinite operands: -1, 0 or 1; zeros compare equal. -/
def fpOrder (f : FpFmt) (a b : Nat) : Int :=
  let key := fun (x : Nat) =>
    let mag := x % 2 ^ (f.fracBits + f.ebits)
    if x / 2 ^ (f.fracBits + f.ebits) % 2 = 1 then -(mag : Int) else (mag : Int)
  if key a < key b then -1 else if key b < key a then 1 else 0

/-- FMIN (`max` false) and FMAX: minimumNumber and maximumNumber (R269). -/
def fpMinMax (f : FpFmt) (max : Bool) (a b : Nat) : Nat × Nat :=
  let isNan := fun v => match v with | FpVal.nan _ => true | _ => false
  let isSnan := fun v => match v with | FpVal.nan s => s | _ => false
  let va := fpDecode f a
  let vb := fpDecode f b
  let nv := if isSnan va || isSnan vb then fpNV else 0
  if isNan va && isNan vb then (fpQuiet f a, nv)
  else if isNan va then (b, nv)
  else if isNan vb then (a, nv)
  else
    let negA := decide (a / 2 ^ (f.fracBits + f.ebits) % 2 = 1)
    let aLess := decide (fpOrder f a b < 0) || (decide (fpOrder f a b = 0) && negA)
    (if aLess = max then b else a, nv)

/-- FCMP: N, Z, C, V of Table 6-10 and the flags raised (R269). -/
def fpCmp (f : FpFmt) (a b : Nat) : (Bool × Bool × Bool × Bool) × Nat :=
  let isNan := fun v => match v with | FpVal.nan _ => true | _ => false
  let isSnan := fun v => match v with | FpVal.nan s => s | _ => false
  let va := fpDecode f a
  let vb := fpDecode f b
  let nv := if isSnan va || isSnan vb then fpNV else 0
  if isNan va || isNan vb then ((false, false, false, true), nv)
  else if fpOrder f a b < 0 then ((true, false, false, false), nv)
  else if fpOrder f a b = 0 then ((false, true, true, false), nv)
  else ((false, false, true, false), nv)

/-- FCVT.SD: binary64 to binary32 (R268). -/
def fpCvtSD (rm a : Nat) : Nat × Nat :=
  match fpDecode fmtD a with
  | .nan s => ((a / 2 ^ 63 % 2) * 2 ^ 31 + 0x7FC00000 ||| (a / 2 ^ 29 % 2 ^ 22), if s then fpNV else 0)
  | .inf n => (fpInf fmtS n, 0)
  | .fin n m e => if m = 0 then (fpZero fmtS n, 0) else fpRound fmtS rm n m e

/-- FCVT.DS: binary32 to binary64, exact (R268). -/
def fpCvtDS (a : Nat) : Nat × Nat :=
  match fpDecode fmtS a with
  | .nan s => ((a / 2 ^ 31 % 2) * 2 ^ 63 + 0x7FF8000000000000 ||| (a % 2 ^ 22 * 2 ^ 29), if s then fpNV else 0)
  | .inf n => (fpInf fmtD n, 0)
  | .fin n m e => if m = 0 then (fpZero fmtD n, 0) else fpRound fmtD 0 n m e

/-- FITOF.D: a signed word to binary64, exact (R268). -/
def fpItoF (w : Word) : Nat :=
  (fpRound fmtD 0 w.msb w.toInt.natAbs 0).1

/-- FFTOI.D: binary64 to a saturated signed word under RM (R268). -/
def fpFtoI (rm a : Nat) : Word × Nat :=
  match fpDecode fmtD a with
  | .nan _ => (0, fpNV)
  | .inf n => (if n then 0x800000 else 0x7FFFFF, fpNV)
  | .fin n m e =>
    let (k, inexact) := roundAt rm n m e 0
    let v : Int := if n then -(k : Int) else (k : Int)
    if v > 8388607 then (0x7FFFFF, fpNV)
    else if v < -8388608 then (0x800000, fpNV)
    else (BitVec.ofInt 24 v, if inexact then fpNX else 0)

end Sys2Proof.Machine
end

