-- ==== Sys2Proof/Machine/Flags.lean ====
section
/-! DEFINITION. The flag computations of the strand instructions (R188, R197, R201, R252, R253, R204). -/

namespace Sys2Proof.Machine

/-- FL with bits T, N, Z, C, V in [4] to [0] (R188). -/
abbrev Fl := BitVec 5

def Fl.ofBools (t n z c v : Bool) : Fl :=
  BitVec.ofBool t ++ BitVec.ofBool n ++ BitVec.ofBool z ++ BitVec.ofBool c ++ BitVec.ofBool v

def Fl.t (f : Fl) : Bool := f.getLsbD 4
def Fl.n (f : Fl) : Bool := f.getLsbD 3
def Fl.z (f : Fl) : Bool := f.getLsbD 2
def Fl.c (f : Fl) : Bool := f.getLsbD 1
def Fl.v (f : Fl) : Bool := f.getLsbD 0

/-- "logic" flags: N and Z follow the result (R252). -/
def flLogic (f : Fl) (r : Word) : Fl := Fl.ofBools f.t r.msb (r == 0) f.c f.v

/-- Logic flags with a carry (R253). -/
def flShift (f : Fl) (r : Word) (c : Bool) : Fl := Fl.ofBools f.t r.msb (r == 0) c f.v

/-- T alone (R188). -/
def flT (f : Fl) (t : Bool) : Fl := Fl.ofBools t f.n f.z f.c f.v

/-- V alone (R255). -/
def flV (f : Fl) (v : Bool) : Fl := Fl.ofBools f.t f.n f.z f.c v

/-- Addition with carry in: result and "arith" flags (Table 8-1). -/
def addWord (f : Fl) (a b : Word) (cin : Bool) : Word × Fl :=
  let r := a + b + (if cin then 1 else 0)
  (r, Fl.ofBools f.t r.msb (r == 0) (decide (a.toNat + b.toNat + cin.toNat ≥ 2 ^ 24))
    (a.msb == b.msb && r.msb != a.msb))

/-- Subtraction with borrow in: result and "arith" flags (Table 8-1). -/
def subWord (f : Fl) (a b : Word) (bin : Bool) : Word × Fl :=
  let r := a - b - (if bin then 1 else 0)
  (r, Fl.ofBools f.t r.msb (r == 0) (decide (a.toNat ≥ b.toNat + bin.toNat))
    (a.msb != b.msb && r.msb != a.msb))

/-- SHL by an unsigned count (Tables 6-7 and 8-2). -/
def shlWord (f : Fl) (a : Word) (n : Nat) : Word × Fl :=
  let r := if n ≥ 24 then 0 else a <<< n
  (r, flShift f r (if n = 0 then f.c else if n ≤ 24 then a.getLsbD (24 - n) else false))

/-- SHR by an unsigned count (Tables 6-7 and 8-2). -/
def shrWord (f : Fl) (a : Word) (n : Nat) : Word × Fl :=
  let r := if n ≥ 24 then 0 else a >>> n
  (r, flShift f r (if n = 0 then f.c else if n ≤ 24 then a.getLsbD (n - 1) else false))

/-- SAR by an unsigned count (Tables 6-7 and 8-2). -/
def sarWord (f : Fl) (a : Word) (n : Nat) : Word × Fl :=
  let r := if n ≥ 24 then (if a.msb then 0xFFFFFF else 0) else a.sshiftRight n
  (r, flShift f r (if n = 0 then f.c else if n ≤ 23 then a.getLsbD (n - 1) else a.msb))

/-- ROL by the count modulo 24 (Table 6-7). -/
def rolWord (f : Fl) (a : Word) (n : Nat) : Word × Fl :=
  let r := a.rotateLeft (n % 24)
  (r, flLogic f r)

/-- The condition codes of B cond (Table 6-6). -/
def condTrue (f : Fl) (cond : BitVec 4) : Bool :=
  match cond.toNat with
  | 0 => f.z
  | 1 => !f.z
  | 2 => f.c
  | 3 => !f.c
  | 4 => f.n
  | 5 => !f.n
  | 6 => f.v
  | 7 => !f.v
  | 8 => f.c && !f.z
  | 9 => !f.c || f.z
  | 10 => f.n == f.v
  | 11 => f.n != f.v
  | 12 => !f.z && f.n == f.v
  | 13 => f.z || f.n != f.v
  | 14 => f.t
  | _ => !f.t

/-- Leading zeros of a word, 0 to 24 (Table 6-7). -/
def clzWord (a : Word) : Word := if a = 0 then 24 else BitVec.ofNat 24 (23 - a.toNat.log2)

/-- Set bits among the low `n` bits of a number. -/
def countOnes : Nat → Nat → Nat
  | 0, _ => 0
  | n + 1, v => v % 2 + countOnes n (v / 2)

/-- Set bits of a word (Table 6-7). -/
def popcWord (a : Word) : Word := BitVec.ofNat 24 (countOnes 24 a.toNat)

end Sys2Proof.Machine
end

