-- ==== Sys2Proof/Machine/Operands.lean ====
section
/-! DEFINITION. Operand access of strand instructions: the sliding window, special registers, the scoreboard,
field checks, and what one instruction answers (R183, R187, R189, R191, R224, R225). -/

namespace Sys2Proof.Machine

/-- A register as the scoreboard sees it (R224). -/
inductive RegRef where
  | ring (i : Nat)
  | freg (i : Nat)
  | pl | ph | acc | fl
deriving DecidableEq, Repr

/-- Ring word of window register `i` within the quarter (R183). Numbers 32 to 39 name U0 to U7 in a micro-op, which are
held behind the ring (R216). -/
def Context.wi (x : Context) (i : Nat) : Nat := if i < 32 then (x.wb + i) % 192 else 160 + i

/-- Window register W(i). -/
def Context.w (x : Context) (i : Nat) : Word := Map.get (fun _ => 0) x.ring (x.wi i)

/-- Floating register F(i). -/
def Context.fr (x : Context) (i : Nat) : BitVec 64 := Map.get (fun _ => 0) x.f i

def Context.loop (x : Context) (n : Nat) : LoopLevel := Map.get (fun _ => LoopLevel.zero) x.loops n

def Context.setLoop (x : Context) (n : Nat) (l : LoopLevel) : Context :=
  { x with loops := Map.set (fun _ => LoopLevel.zero) x.loops n l }

/-- The triple in W(i) to W(i+2), word 0 first. -/
def Context.wTriple (x : Context) (i : Nat) : Triple := Triple.ofWords (x.w i) (x.w (i + 1)) (x.w (i + 2))

/-- Write one ring word. -/
def Context.setRing (x : Context) (i : Nat) (v : Word) : Context :=
  { x with ring := Map.set (fun _ => 0) x.ring i v }

/-- LCFG as a word (Table 6-2). -/
def Context.lcfgWord (x : Context) : Word :=
  BitVec.ofNat 24 ((x.loop 2).ld % 32 * 0x2000 + (x.loop 1).ld % 32 * 0x100 + (x.loop 0).ld % 32 * 8 + x.lcfgDepth % 4)

/-- Set LCFG from a word (Table 6-2). -/
def Context.setLcfg (x : Context) (v : Word) : Context :=
  let x0 := x.setLoop 0 { x.loop 0 with ld := v.field 3 5 }
  let x1 := x0.setLoop 1 { x0.loop 1 with ld := v.field 8 5 }
  let x2 := x1.setLoop 2 { x1.loop 2 with ld := v.field 13 5 }
  { x2 with lcfgDepth := v.field 0 2 }

/-- Bits of FPSC that exist (R258). -/
def fpscMask : Word := 0x0C1F1F

/-- Apply one register write to a context. EVM is kept in the task table, WB and LCFG act under SYNC. -/
def Context.apply (x : Context) : RegWrite → Context
  | .ring i v => x.setRing i v
  | .freg i v => { x with f := Map.set (fun _ => 0) x.f i v }
  | .pl v => { x with pl := v }
  | .ph v => { x with ph := v }
  | .acc v => { x with acc := v }
  | .fl v => { x with fl := v }
  | .lnk v => { x with lnk := v &&& 0x003FFF }
  | .ls n v => { x with sync := x.sync ++ [.ls n (v &&& 0x003FFF)] }
  | .le n v => { x with sync := x.sync ++ [.le n (v &&& 0x003FFF)] }
  | .lc n v => x.setLoop n { x.loop n with lc := v }
  | .evm _ => x
  | .fpsc v => { x with fpsc := v &&& fpscMask }
  | .wb v => { x with sync := x.sync ++ [.wb v] }
  | .lcfg v => { x with sync := x.sync ++ [.lcfg (v &&& 0x03FFFB)] }

/-- Apply register writes in order. -/
def Context.applyAll (x : Context) (ws : List RegWrite) : Context := ws.foldl Context.apply x

/-- The scoreboard destination of a write. -/
def RegWrite.ref : RegWrite → List RegRef
  | .ring i _ => [.ring i]
  | .freg i _ => [.freg i]
  | .pl _ => [.pl]
  | .ph _ => [.ph]
  | .acc _ => [.acc]
  | .fl _ => [.fl]
  | _ => []

/-- Destinations of a long-wait access (R229): QPUT and the T of ALLOC, SPAWN, QGET land in FL. -/
def WaitKind.refs : WaitKind → List RegRef
  | .load ds => ds.map .ring
  | .store => []
  | .alloc ds => ds.map .ring ++ [.fl]
  | .allocw _ => []
  | .spawn d _ _ _ => [.ring d, .fl]
  | .qput => [.fl]
  | .qget d => [.ring d, .fl]
  | .qstat d => [.ring d]
  | .qctl => []
  | .lock d => [.ring d]
  | .state _ ws => ws.map (fun e => .ring e.2)

/-- A result of a long-wait access is owed to one of these registers. -/
def Context.waitBusy (x : Context) (rs : List RegRef) : Bool :=
  x.waits.any (fun w => w.kind.refs.any (fun r => decide (r ∈ rs)))

/-- A result of a long operation is owed to one of these registers. -/
def Context.longBusy (x : Context) (rs : List RegRef) : Bool :=
  x.longOps.any (fun o => o.writes.any (fun w => w.ref.any (fun r => decide (r ∈ rs))))

/-- What one instruction answers. -/
inductive BodyOut where
  /-- An instruction fault (R193). -/
  | raise (k : Cause)
  /-- Stall at R (R225); `long` when a long-wait result holds it (R230). -/
  | stall (long : Bool)
  /-- Register writes, then the next address in sequence. -/
  | ok (ws : List RegWrite)
  /-- Register writes, then a taken transfer. -/
  | jump (ws : List RegWrite) (target : Nat)
  /-- A long operation goes to its unit. -/
  | long (op : LongOp)
deriving DecidableEq, Repr

/-- The checks in the order of Table 6-13, then the scoreboard, then the work. -/
def gate (x : Context) (ill rng : Bool) (refs : List RegRef) (k : BodyOut) : BodyOut :=
  if ill then .raise .illegal
  else if rng then .raise .regRange
  else if x.waitBusy refs then .stall true
  else if x.longBusy refs then .stall false
  else k

/-- A field marked "must be 0" that is not (R191). -/
def nz {bw : Nat} (r : BitVec bw) : Bool := r != 0

/-- The register names a pair or triple that leaves W0 to W31 (R191). -/
def pairOut {bw : Nat} (r : BitVec bw) : Bool := decide (r.toNat > 30)
def tripleOut {bw : Nat} (r : BitVec bw) : Bool := decide (r.toNat > 29)
/-- An F register field with bit 4 set (R190). -/
def fOut {bw : Nat} (r : BitVec bw) : Bool := r.getLsbD 4

/-- Scoreboard names of W(r) to W(r + n - 1). -/
def Context.wRefs (x : Context) {bw : Nat} (r : BitVec bw) (n : Nat) : List RegRef :=
  (List.range n).map (fun k => .ring (x.wi (r.toNat + k)))

/-- Write of W(r). -/
def Context.wr (x : Context) {bw : Nat} (r : BitVec bw) (v : Word) : RegWrite := .ring (x.wi r.toNat) v

/-- Writes of the triple W(r) to W(r+2). -/
def Context.wrTriple (x : Context) (r : Nat) (t : Triple) : List RegWrite :=
  [.ring (x.wi r) (t.word 0), .ring (x.wi (r + 1)) (t.word 1), .ring (x.wi (r + 2)) (t.word 2)]

/-- FPSC.RM (R258). -/
def Context.rm (x : Context) : Nat := x.fpsc.field 18 2

end Sys2Proof.Machine
end

