-- ==== Sys2Proof/Machine/Bodies.lean ====
section
/-! DEFINITION. What each register-only strand instruction computes: integer, move, multiply, divide,
accumulator, floating-point, branch and loop operations (Tables 6-7 to 6-10, R185 to R200, R251 to R270). A
body reads the context and answers register writes, a transfer, a long operation, a stall or a fault. -/

namespace Sys2Proof.Machine

/-! ### Integer operations (Table 6-7) -/

/-- d := op(a, b) with flags. -/
def bodyAlu (op : Fl → Word → Word → Word × Fl) (x : Context) {bw : Nat} (d a b : BitVec bw) : BodyOut :=
  gate x false false (x.wRefs a 1 ++ x.wRefs b 1 ++ x.wRefs d 1 ++ [.fl])
    (let r := op x.fl (x.w a.toNat) (x.w b.toNat); .ok [x.wr d r.1, .fl r.2])

/-- d := op(a, b) without flags. -/
def bodyAluQuiet (op : Word → Word → Word) (x : Context) {bw : Nat} (d a b : BitVec bw) : BodyOut :=
  gate x false false (x.wRefs a 1 ++ x.wRefs b 1 ++ x.wRefs d 1)
    (.ok [x.wr d (op (x.w a.toNat) (x.w b.toNat))])

/-- Flags of op(a, b); D must be 0. -/
def bodyCmp (op : Fl → Word → Word → Word × Fl) (x : Context) {bw : Nat} (d a b : BitVec bw) : BodyOut :=
  gate x (nz d) false (x.wRefs a 1 ++ x.wRefs b 1 ++ [.fl])
    (.ok [.fl (op x.fl (x.w a.toNat) (x.w b.toNat)).2])

/-- d := op(a, imm) with flags; `ill` says an immediate bit that must be 0 is not. -/
def bodyImm (op : Fl → Word → Word → Word × Fl) (ill : Bool) (x : Context) {bw : Nat} (d a : BitVec bw) (imm : Word) : BodyOut :=
  gate x ill false (x.wRefs a 1 ++ x.wRefs d 1 ++ [.fl])
    (let r := op x.fl (x.w a.toNat) imm; .ok [x.wr d r.1, .fl r.2])

def opAnd (f : Fl) (a b : Word) : Word × Fl := (a &&& b, flLogic f (a &&& b))
def opOr (f : Fl) (a b : Word) : Word × Fl := (a ||| b, flLogic f (a ||| b))
def opXor (f : Fl) (a b : Word) : Word × Fl := (a ^^^ b, flLogic f (a ^^^ b))
def opAndn (f : Fl) (a b : Word) : Word × Fl := (a &&& ~~~b, flLogic f (a &&& ~~~b))
def opAdd (f : Fl) (a b : Word) : Word × Fl := addWord f a b false
def opAdc (f : Fl) (a b : Word) : Word × Fl := addWord f a b f.c
def opSub (f : Fl) (a b : Word) : Word × Fl := subWord f a b false
def opSbc (f : Fl) (a b : Word) : Word × Fl := subWord f a b (!f.c)
def opShl (f : Fl) (a b : Word) : Word × Fl := shlWord f a b.toNat
def opShr (f : Fl) (a b : Word) : Word × Fl := shrWord f a b.toNat
def opSar (f : Fl) (a b : Word) : Word × Fl := sarWord f a b.toNat
def opRol (f : Fl) (a b : Word) : Word × Fl := rolWord f a b.toNat
def opMin (a b : Word) : Word := if a.slt b then a else b
def opMax (a b : Word) : Word := if a.slt b then b else a
def opMinu (a b : Word) : Word := if a.ult b then a else b
def opMaxu (a b : Word) : Word := if a.ult b then b else a
def opSlt (a b : Word) : Word := if a.slt b then 1 else 0
def opSltu (a b : Word) : Word := if a.ult b then 1 else 0
def opSeq (a b : Word) : Word := if a = b then 1 else 0

/-- sext(IMM8) and zext(IMM8). -/
def sext8 (i : BitVec 8) : Word := i.signExtend 24
def zext8 (i : BitVec 8) : Word := i.zeroExtend 24

/-- MOVI (Table 6-7). -/
def bodyMovi (x : Context) {bw : Nat} (d : BitVec bw) (imm : BitVec 13) : BodyOut :=
  gate x false false (x.wRefs d 1) (.ok [x.wr d (imm.signExtend 24)])

/-- MOVH: IMM13[10:0] × 2¹³ + d[12:0]; IMM13[12:11] must be 0. -/
def bodyMovh (x : Context) {bw : Nat} (d : BitVec bw) (imm : BitVec 13) : BodyOut :=
  gate x (imm.getLsbD 12 || imm.getLsbD 11) false (x.wRefs d 1)
    (.ok [x.wr d (imm.extractLsb' 0 11 ++ (x.w d.toNat).extractLsb' 0 13)])

/-- MOV, MOVP, MOVT of `n` words; B must be 0. -/
def bodyMov (n : Nat) (x : Context) {bw : Nat} (d a b : BitVec bw) : BodyOut :=
  gate x (nz b) (decide (d.toNat + n > 32) || decide (a.toNat + n > 32)) (x.wRefs a n ++ x.wRefs d n)
    (.ok ((List.range n).map (fun k => .ring (x.wi (d.toNat + k)) (x.w (a.toNat + k)))))

/-- NOT and NEG: d := op(a); B must be 0. -/
def bodyUn (op : Fl → Word → Word × Fl) (x : Context) {bw : Nat} (d a b : BitVec bw) : BodyOut :=
  gate x (nz b) false (x.wRefs a 1 ++ x.wRefs d 1 ++ [.fl])
    (let r := op x.fl (x.w a.toNat); .ok [x.wr d r.1, .fl r.2])

def opNot (f : Fl) (a : Word) : Word × Fl := (~~~a, flLogic f (~~~a))
def opNeg (f : Fl) (a : Word) : Word × Fl := subWord f 0 a false

/-- CLZ and POPC; B must be 0. -/
def bodyUnQuiet (op : Word → Word) (x : Context) {bw : Nat} (d a b : BitVec bw) : BodyOut :=
  gate x (nz b) false (x.wRefs a 1 ++ x.wRefs d 1) (.ok [x.wr d (op (x.w a.toNat))])

/-! ### Special registers (Table 6-2) -/

/-- CTXID (Table 6-2). -/
def ctxIdWord (c : CtxId) (x : Context) : Word :=
  BitVec.ofNat 24 (c.pav % 256 * 0x10000 + c.pipe % 4 * 0x4000 + c.ctx % 4 * 0x1000 + x.depth % 32)

/-- An FP operation of the context is outstanding (R261). -/
def Context.fpOut (x : Context) : Bool := x.longOps.any (·.isFp)

/-- A special is reserved, or microcode-only outside a routine (R187). -/
def spIllegal (n : Nat) (micro : Bool) : Bool := decide (n = 23) || (decide (n = 22 ∨ n ≥ 24) && !micro)

/-- Value of a special register for MFS. -/
def spRead (c : CtxId) (x : Context) (evm evf : Word) (n : Nat) : Word :=
  match n with
  | 0 => x.lnk
  | 1 => x.pl
  | 2 => x.ph
  | 3 => x.acc.word 0
  | 4 => x.acc.word 1
  | 5 => x.acc.word 2
  | 6 => (x.loop 0).ls
  | 7 => (x.loop 0).le
  | 8 => (x.loop 0).lc
  | 9 => (x.loop 1).ls
  | 10 => (x.loop 1).le
  | 11 => (x.loop 1).lc
  | 12 => (x.loop 2).ls
  | 13 => (x.loop 2).le
  | 14 => (x.loop 2).lc
  | 15 => x.fl.zeroExtend 24
  | 16 => evm
  | 17 => evf
  | 18 => x.fpsc
  | 19 => BitVec.ofNat 24 x.wb
  | 20 => x.lcfgWord
  | 21 => ctxIdWord c x
  | 22 => x.mimm
  | n => Map.get (fun _ => 0) x.ring (168 + n)

/-- The last written value of a SY special (Table 0-3: SY returns the value last written). -/
def syRead (x : Context) (n : Nat) (v : Word) : Word :=
  x.sync.foldl (fun acc w => match w, n with
    | .wb u, 19 => u
    | .lcfg u, 20 => u
    | .ls k u, n => if k < 3 ∧ n = 6 + 3 * k then u else acc
    | .le k u, n => if k < 3 ∧ n = 7 + 3 * k then u else acc
    | _, _ => acc) v

/-- Scoreboard names of a special register. -/
def spRefs (n : Nat) : List RegRef :=
  match n with
  | 1 => [.pl]
  | 2 => [.ph]
  | 3 => [.acc]
  | 4 => [.acc]
  | 5 => [.acc]
  | 15 => [.fl]
  | _ => []

/-- CMPI; D must be 0. -/
def bodyCmpi (x : Context) {bw : Nat} (d a : BitVec bw) (imm : Word) : BodyOut :=
  gate x (nz d) false (x.wRefs a 1 ++ [.fl]) (.ok [.fl (opSub x.fl (x.w a.toNat) imm).2])

/-- MFS d, #b; A must be 0 (R187). EVM and EVF are the task's, EVF only in a task. -/
def bodyMfs (c : CtxId) (evm evf : Word) (micro : Bool) (x : Context) {bw : Nat} (d a b : BitVec bw) : BodyOut :=
  let n := b.toNat
  if nz a || spIllegal n micro then .raise .illegal
  else if n = 17 && !x.isTask then .raise .taskOnly
  else if n = 18 && x.fpOut then .stall false
  else gate x false false (spRefs n ++ x.wRefs d 1) (.ok [x.wr d (syRead x n (spRead c x evm evf n))])

/-- The write that MTS #d makes (R187). -/
def spWrite (x : Context) (n : Nat) (v : Word) : RegWrite :=
  match n with
  | 0 => .lnk v
  | 1 => .pl v
  | 2 => .ph v
  | 3 => .acc (Triple.ofWords v (x.acc.word 1) (x.acc.word 2))
  | 4 => .acc (Triple.ofWords (x.acc.word 0) v (x.acc.word 2))
  | 5 => .acc (Triple.ofWords (x.acc.word 0) (x.acc.word 1) v)
  | 6 => .ls 0 v
  | 7 => .le 0 v
  | 8 => .lc 0 v
  | 9 => .ls 1 v
  | 10 => .le 1 v
  | 11 => .lc 1 v
  | 12 => .ls 2 v
  | 13 => .le 2 v
  | 14 => .lc 2 v
  | 15 => .fl (v.extractLsb' 0 5)
  | 16 => .evm v
  | 18 => .fpsc v
  | 19 => .wb (v &&& 0x0000FF)
  | 20 => .lcfg v
  | n => .ring (168 + n) v

/-- MTS #d, a; B must be 0 (R187). -/
def bodyMts (micro : Bool) (x : Context) {bw : Nat} (d a b : BitVec bw) : BodyOut :=
  let n := d.toNat
  let v := x.w a.toNat
  if nz b || spIllegal n micro || decide (n = 17 ∨ n = 21 ∨ n = 22) then .raise .illegal
  else if x.waitBusy (x.wRefs a 1 ++ spRefs n) then .stall true
  else if x.longBusy (x.wRefs a 1 ++ spRefs n) then .stall false
  else if n = 19 && decide (v.field 0 8 ≥ 192) then .raise .illegal
  else if n = 16 && !x.isTask then .raise .taskOnly
  else if n = 18 && x.fpOut then .stall false
  else .ok [spWrite x n v]

/-! ### Multiply, divide, accumulate (Tables 6-8 and 8-3) -/

/-- Exact product of two words, 48 bits (R254). -/
def product (signed : Bool) (a b : Word) : Pair :=
  if signed then a.signExtend 48 * b.signExtend 48 else a.zeroExtend 48 * b.zeroExtend 48

/-- The product extended to 72 bits (R255). -/
def productExt (signed : Bool) (a b : Word) : Triple :=
  if signed then (product true a b).signExtend 72 else (product false a b).zeroExtend 72

/-- A long operation that is not an FP one. -/
def longInt (u : LongUnit) (mac : Bool) (addr : Nat) (ws : List RegWrite) : BodyOut :=
  .long ⟨u, mac, ws, 0, false, addr, false⟩

/-- MUL, MULU: PH:PL := product; D must be 0. -/
def bodyMul (signed : Bool) (x : Context) {bw : Nat} (d a b : BitVec bw) : BodyOut :=
  gate x (nz d) false (x.wRefs a 1 ++ x.wRefs b 1 ++ [.pl, .ph])
    (let p := product signed (x.w a.toNat) (x.w b.toNat)
     longInt .mult false x.ip [.pl (p.extractLsb' 0 24), .ph (p.extractLsb' 24 24)])

/-- MULW: d := low word of the product. -/
def bodyMulw (x : Context) {bw : Nat} (d a b : BitVec bw) : BodyOut :=
  gate x false false (x.wRefs a 1 ++ x.wRefs b 1 ++ x.wRefs d 1)
    (longInt .mult false x.ip [x.wr d ((product false (x.w a.toNat) (x.w b.toNat)).extractLsb' 0 24)])

/-- The last ACC value among outstanding MAC-group operations, or ACC (Table 7-5: a further MAC reads it). -/
def Context.accNow (x : Context) : Triple :=
  x.longOps.foldl (fun v o => o.writes.foldl (fun v w => match w with | .acc u => u | _ => v) v) x.acc

/-- ACC is owed by an operation outside the MAC group. -/
def Context.accHeld (x : Context) : Bool :=
  x.longOps.any (fun o => !o.mac && o.writes.any (fun w => match w with | .acc _ => true | _ => false))

/-- MAC, MACU, MSU, MSUU: ACC := ACC ± product, modulo 2⁷²; D must be 0. -/
def bodyMac (signed sub : Bool) (x : Context) {bw : Nat} (d a b : BitVec bw) : BodyOut :=
  gate x (nz d) false (x.wRefs a 1 ++ x.wRefs b 1)
    (if x.accHeld then .stall false
     else
       let p := productExt signed (x.w a.toNat) (x.w b.toNat)
       longInt .mult true x.ip [.acc (if sub then x.accNow - p else x.accNow + p)])

/-- Quotient and remainder (Table 8-3, R256). -/
def divide (signed : Bool) (a b : Word) : Word × Word :=
  if b = 0 then (0xFFFFFF, a)
  else if signed then (BitVec.ofInt 24 (a.toInt.tdiv b.toInt), BitVec.ofInt 24 (a.toInt.tmod b.toInt))
  else (a / b, a % b)

/-- DIV, DIVU: PL := quotient, PH := remainder; D must be 0. -/
def bodyDiv (signed : Bool) (x : Context) {bw : Nat} (d a b : BitVec bw) : BodyOut :=
  gate x (nz d) false (x.wRefs a 1 ++ x.wRefs b 1 ++ [.pl, .ph])
    (let r := divide signed (x.w a.toNat) (x.w b.toNat)
     longInt .divider false x.ip [.pl r.1, .ph r.2])

/-- CLRACC: D, A and B must be 0. -/
def bodyClracc (x : Context) {bw : Nat} (d a b : BitVec bw) : BodyOut :=
  gate x (nz d || nz a || nz b) false [.acc] (.ok [.acc 0])

/-- ACCSR: ACC shifted right arithmetically by W[A][6:0]; D and B must be 0. -/
def bodyAccsr (x : Context) {bw : Nat} (d a b : BitVec bw) : BodyOut :=
  gate x (nz d || nz b) false (x.wRefs a 1 ++ [.acc])
    (.ok [.acc (x.acc.sshiftRight ((x.w a.toNat).field 0 7))])

/-- ACC clamped to a signed word, and whether it was clamped (R255). -/
def accSat (v : Triple) : Word × Bool :=
  if v.toInt > 8388607 then (0x7FFFFF, true)
  else if v.toInt < -8388608 then (0x800000, true)
  else (v.word 0, false)

/-- ACCSAT: d := clamped ACC, V; A and B must be 0. -/
def bodyAccsat (x : Context) {bw : Nat} (d a b : BitVec bw) : BodyOut :=
  gate x (nz a || nz b) false (x.wRefs d 1 ++ [.acc, .fl])
    (let r := accSat x.acc
     longInt .mult false x.ip [x.wr d r.1, .fl (flV x.fl r.2)])

/-! ### Floating point (Tables 6-9 and 6-10) -/

/-- An FP long operation with its flags. -/
def longFp (u : LongUnit) (addr : Nat) (ws : List RegWrite) (flags : Nat) : BodyOut :=
  .long ⟨u, false, ws, BitVec.ofNat 24 flags, true, addr, false⟩

/-- The bits of F(r) as a double or as its single part. -/
def Context.fdAt (x : Context) (i : Nat) : Nat := (x.fr i).toNat
def Context.fsAt (x : Context) (i : Nat) : Nat := (x.fr i).toNat % 2 ^ 32
def Context.fd (x : Context) {bw : Nat} (r : BitVec bw) : Nat := x.fdAt r.toNat
def Context.fs (x : Context) {bw : Nat} (r : BitVec bw) : Nat := x.fsAt r.toNat

/-- A two-operand FP operation on doubles. -/
def bodyFp2D (u : LongUnit) (op : Nat → Nat → Nat → Nat × Nat) (x : Context) {bw : Nat} (d a b : BitVec bw) : BodyOut :=
  gate x (fOut d || fOut a || fOut b) false [.freg d.toNat, .freg a.toNat, .freg b.toNat]
    (let r := op x.rm (x.fd a) (x.fd b)
     longFp u x.ip [.freg d.toNat (BitVec.ofNat 64 r.1)] r.2)

/-- A two-operand FP operation on singles; the upper half of Fd becomes zero (R189). -/
def bodyFp2S (u : LongUnit) (op : Nat → Nat → Nat → Nat × Nat) (x : Context) {bw : Nat} (d a b : BitVec bw) : BodyOut :=
  gate x (fOut d || fOut a || fOut b) false [.freg d.toNat, .freg a.toNat, .freg b.toNat]
    (let r := op x.rm (x.fs a) (x.fs b)
     longFp u x.ip [.freg d.toNat (BitVec.ofNat 64 (r.1 % 2 ^ 32))] r.2)

/-- FMA, FMS. -/
def bodyFmaD (neg : Bool) (x : Context) {bw : Nat} (d a b : BitVec bw) : BodyOut :=
  gate x (fOut d || fOut a || fOut b) false [.freg d.toNat, .freg a.toNat, .freg b.toNat]
    (let r := fpFma fmtD x.rm neg (x.fd a) (x.fd b) (x.fd d)
     longFp .fpPipe x.ip [.freg d.toNat (BitVec.ofNat 64 r.1)] r.2)
def bodyFmaS (neg : Bool) (x : Context) {bw : Nat} (d a b : BitVec bw) : BodyOut :=
  gate x (fOut d || fOut a || fOut b) false [.freg d.toNat, .freg a.toNat, .freg b.toNat]
    (let r := fpFma fmtS x.rm neg (x.fs a) (x.fs b) (x.fs d)
     longFp .fpPipe x.ip [.freg d.toNat (BitVec.ofNat 64 (r.1 % 2 ^ 32))] r.2)

/-- FSQRT; B must be 0. -/
def bodyFsqrtD (x : Context) {bw : Nat} (d a b : BitVec bw) : BodyOut :=
  gate x (nz b || fOut d || fOut a) false [.freg d.toNat, .freg a.toNat]
    (let r := fpSqrt fmtD x.rm (x.fd a)
     longFp .fpIter x.ip [.freg d.toNat (BitVec.ofNat 64 r.1)] r.2)
def bodyFsqrtS (x : Context) {bw : Nat} (d a b : BitVec bw) : BodyOut :=
  gate x (nz b || fOut d || fOut a) false [.freg d.toNat, .freg a.toNat]
    (let r := fpSqrt fmtS x.rm (x.fs a)
     longFp .fpIter x.ip [.freg d.toNat (BitVec.ofNat 64 (r.1 % 2 ^ 32))] r.2)

/-- FCMP; D must be 0. -/
def bodyFcmp (f : FpFmt) (sel : Context → Nat → Nat) (x : Context) {bw : Nat} (d a b : BitVec bw) : BodyOut :=
  gate x (nz d || fOut a || fOut b) false [.freg a.toNat, .freg b.toNat, .fl]
    (let r := fpCmp f (sel x a.toNat) (sel x b.toNat)
     longFp .fpPipe x.ip [.fl (Fl.ofBools (Fl.t x.fl) r.1.1 r.1.2.1 r.1.2.2.1 r.1.2.2.2)] r.2)

/-- FNEG.D and FABS.D change bit 63 only; B must be 0. -/
def bodyFsign (op : BitVec 64 → BitVec 64) (x : Context) {bw : Nat} (d a b : BitVec bw) : BodyOut :=
  gate x (nz b || fOut d || fOut a) false [.freg d.toNat, .freg a.toNat]
    (longFp .fpPipe x.ip [.freg d.toNat (op (x.fr a.toNat))] 0)
def opFneg (v : BitVec 64) : BitVec 64 := v ^^^ 0x8000000000000000
def opFabs (v : BitVec 64) : BitVec 64 := v &&& 0x7FFFFFFFFFFFFFFF

/-- FCVT.SD. No row of Table 6-9's FCVT group marks B "must be 0", so B is not looked at. -/
def bodyFcvtSD (x : Context) {bw : Nat} (d a b : BitVec bw) : BodyOut :=
  gate x (fOut d || fOut a) false [.freg d.toNat, .freg a.toNat]
    (let r := fpCvtSD x.rm (x.fd a)
     longFp .fpPipe x.ip [.freg d.toNat (BitVec.ofNat 64 (r.1 % 2 ^ 32))] r.2)
def bodyFcvtDS (x : Context) {bw : Nat} (d a b : BitVec bw) : BodyOut :=
  gate x (fOut d || fOut a) false [.freg d.toNat, .freg a.toNat]
    (let r := fpCvtDS (x.fs a)
     longFp .fpPipe x.ip [.freg d.toNat (BitVec.ofNat 64 r.1)] r.2)
def bodyFitof (x : Context) {bw : Nat} (d a b : BitVec bw) : BodyOut :=
  gate x (fOut d) false (.freg d.toNat :: x.wRefs a 1)
    (longFp .fpPipe x.ip [.freg d.toNat (BitVec.ofNat 64 (fpItoF (x.w a.toNat)))] 0)
def bodyFftoi (x : Context) {bw : Nat} (d a b : BitVec bw) : BodyOut :=
  gate x (fOut a) false (.freg a.toNat :: x.wRefs d 1)
    (let r := fpFtoI x.rm (x.fd a)
     longFp .fpPipe x.ip [x.wr d r.1] r.2)

/-- FMVW.D, FMVW.S, WMVF.D, WMVF.S (Table 6-9, layouts of Table 2-2). -/
def bodyFmvwD (x : Context) {bw : Nat} (d a b : BitVec bw) : BodyOut :=
  gate x (fOut d) (tripleOut a) (.freg d.toNat :: x.wRefs a 3)
    (.ok [.freg d.toNat ((x.w (a.toNat + 2)).extractLsb' 0 16 ++ x.w (a.toNat + 1) ++ x.w a.toNat)])
def bodyFmvwS (x : Context) {bw : Nat} (d a b : BitVec bw) : BodyOut :=
  gate x (fOut d) (pairOut a) (.freg d.toNat :: x.wRefs a 2)
    (.ok [.freg d.toNat ((0 : BitVec 32) ++ ((x.w (a.toNat + 1)).extractLsb' 0 8 ++ x.w a.toNat))])
def bodyWmvfD (x : Context) {bw : Nat} (d a b : BitVec bw) : BodyOut :=
  gate x (fOut a) (tripleOut d) (.freg a.toNat :: x.wRefs d 3)
    (let v := x.fr a.toNat
     .ok [.ring (x.wi d.toNat) (v.extractLsb' 0 24), .ring (x.wi (d.toNat + 1)) (v.extractLsb' 24 24),
       .ring (x.wi (d.toNat + 2)) ((v.extractLsb' 48 16).zeroExtend 24)])
def bodyWmvfS (x : Context) {bw : Nat} (d a b : BitVec bw) : BodyOut :=
  gate x (fOut a) (pairOut d) (.freg a.toNat :: x.wRefs d 2)
    (let v := x.fr a.toNat
     .ok [.ring (x.wi d.toNat) (v.extractLsb' 0 24),
       .ring (x.wi (d.toNat + 1)) ((v.extractLsb' 24 8).zeroExtend 24)])

/-! ### Branches (R198) -/

/-- Target of a relative transfer: the instruction's own address plus a signed offset. -/
def relTarget (x : Context) (off : Int) : Int := (x.ip : Int) + off

/-- A taken transfer, or IPRANGE (R198). -/
def takeTo (ws : List RegWrite) (t : Int) : BodyOut :=
  if 0 ≤ t ∧ t ≤ 16383 then .jump ws t.toNat else .raise .ipRange

/-- B cond. -/
def bodyBcond (x : Context) (cond : BitVec 4) (off : BitVec 14) : BodyOut :=
  gate x false false [.fl]
    (if condTrue x.fl cond then takeTo [] (relTarget x off.toInt) else .ok [])

/-- BRA. -/
def bodyBra (x : Context) (off : BitVec 18) : BodyOut := takeTo [] (relTarget x off.toInt)

/-- JR: D and B must be 0. -/
def bodyJr (x : Context) {bw : Nat} (d a b : BitVec bw) : BodyOut :=
  gate x (nz d || nz b) false (x.wRefs a 1) (takeTo [] ((x.w a.toNat).toNat : Int))

end Sys2Proof.Machine
end

