-- ==== Sys2Proof/Machine/PowerOps.lean ====
section
/-! DEFINITION. Power domains: their units, their states, and what wakes one (R508 to R519, R522). -/

namespace Sys2Proof.Machine

/-! ### Domains (R508, Table 16-1) -/

/-- The domain of a node. -/
def domainOf (n : Nat) : Nat :=
  if 0x1A0 ≤ n ∧ n < 0x1E0 then 0x1A0
  else if 0x1E9 ≤ n ∧ n < 0x1F0 then 0x150
  else n

/-- The nodes of a domain. -/
def nodesOf (d : Nat) : List Nat :=
  if d = 0x1A0 then (List.range 64).map (fun k => 0x1A0 + k)
  else if d = 0x150 then [0x150, 0x1E9, 0x1EA, 0x1EB, 0x1EC, 0x1ED, 0x1EE, 0x1EF]
  else [d]

/-- PWR.DOM[d].STATE: 0 ON, 1 RET, 2 OFF, 3 ENTERING, 4 WAKING, 5 FAILED. -/
def State.powerOf (s : State) (d : Nat) : Nat := s.regField (Reg.pwrDom d) 21 3
def State.setPower (s : State) (d v : Nat) : State := s.setRegField (Reg.pwrDom d) 21 3 v

/-- The domain exists and is ON. -/
def State.domainOn (s : State) (d : Nat) : Bool := domainPresent s.member d && decide (s.powerOf d = 0)

def Reg.pwrStat (w : Nat) : Nat := 0x001040 + w

/-- TRL.NODE[n].STATE: 0 ON, 1 HOLD, 2 FENCING, 3 ISOLATED. -/
def State.nodeState (s : State) (n : Nat) : Nat := s.regField (Reg.node n) 22 2

/-- Set the routing state of a domain's nodes; an isolated node stays isolated (R359). -/
def State.setNodes (s : State) (d v : Nat) : State :=
  (nodesOf d).foldl (fun s n => if s.nodeState n = 3 then s else s.setRegField (Reg.node n) 22 2 v) s

/-- The node is ON again: its parked requests go on, in the order in which they were parked. -/
def State.releaseParked (s : State) (n : Nat) : State :=
  let mine := s.net.parked.filter (fun k => decide (k.q.dest = n))
  { s with
    net := { s.net with parked := s.net.parked.filter (fun k => decide (k.q.dest ≠ n)) }
    flight := s.flight ++ mine.map (fun k => .req k.q k.op) }

/-- The domain's nodes are ON again. -/
def State.openNodes (s : State) (d : Nat) : State := (nodesOf d).foldl State.releaseParked (s.setNodes d 0)

/-! ### Rails (R521 to R523) -/

def Reg.rail (r w : Nat) : Nat := 0x002010 + 4 * r + w
def Rail.off : Rail := ⟨false, 0⟩
def State.rail (s : State) (r : Nat) : Rail := Map.get (fun _ => Rail.off) s.power.rails r
def State.setRail (s : State) (r : Nat) (v : Rail) : State :=
  { s with power := { s.power with rails := Map.set (fun _ => Rail.off) s.power.rails r v } }

/-- RSTATE of a rail: 0 OFF, 1 RAMPING, 2 ON, 3 PAUSE, 4 FAILED. -/
def State.railState (s : State) (r : Nat) : Nat := s.regField (Reg.rail r 3) 21 3
def State.setRailState (s : State) (r v : Nat) : State := s.setRegField (Reg.rail r 3) 21 3 v

/-- The rail feeds the domain (R521). -/
def State.railFeeds (s : State) (r d : Nat) : Bool :=
  let w := s.reg (Reg.rail r 0)
  w.bit 23 && match w.field 20 3 with
    | 0 => true
    | 1 => true
    | 2 => decide (0x180 ≤ d ∧ d < 0x194) || decide (d = 0x1A0)
    | 3 => decide (0x180 ≤ d ∧ d < 0x194) || decide (d = 0x1A0)
    | 4 => decide (d = nodeDdr (w.field 15 5))
    | 5 => decide (nodeBank (w.field 15 5) ≤ d ∧ d ≤ nodeBank (w.field 10 5))
    | _ => false

/-- Rails that go off with the domains they feed (R522). -/
def State.offIdle (s : State) (r : Nat) : Bool :=
  s.regBit (Reg.rail r 3) 14 && decide (s.regField (Reg.rail r 0) 20 3 = 4 ∨ s.regField (Reg.rail r 0) 20 3 = 5)

/-- An attempt of SOFTSTART begins: the output voltage and OPERATION on are sent (R523). -/
def State.railAttempt (s : State) (r n : Nat) : State :=
  let vset := s.regField 0x001013 0 11
  let v := if s.power.core ∧ s.regField (Reg.rail r 0) 20 3 = 0 ∧ vset ≠ 0 then vset else s.regField (Reg.rail r 2) 0 16
  ((s.setRegField (Reg.rail r 3) 19 2 n).setRail r ⟨true, v⟩).setRailState r 1

/-! ### Waking (R513, R518, R519) -/

/-- An OFFIDLE rail that is off comes back before its domain wakes. -/
def State.wakeRails (s : State) (d : Nat) : State :=
  (List.range 16).foldl (fun s r =>
    if s.railFeeds r d && s.offIdle r && decide (s.railState r = 0) then s.railAttempt r 1 else s) s

/-- A wake starts from RET or OFF. -/
def State.startWake (s : State) (d : Nat) : State := (s.setPower d 4).wakeRails d

/-- The domain is that of a pavilion that DEP.PAV shows fenced, testing or retired. -/
def State.pavOut (s : State) (d : Nat) : Bool := decide (d < 0x100) && decide (s.regField (Reg.depPav d) 22 2 ≠ 0)

/-- A wake cause reaches the domain controller: a sleeping domain wakes, an entry is abandoned before the last row of
Table 11-9 and latches the cause after it; several causes make one wake, and a FAILED domain ignores them. So does a
pavilion that is fenced or retired (R586). (log 38, DEDUCED) -/
def State.askWake (s : State) (n : Nat) : State :=
  let d := domainOf n
  if s.pavOut d then s else match s.powerOf d with
  | 1 => s.startWake d
  | 2 => s.startWake d
  | 3 =>
    if s.nodeState d = 1 then s.setRegField (Reg.pwrDom d) 15 1 1
    else ((s.setPower d 0).bump (Reg.pwrStat 2)).openNodes d
  | _ => s

end Sys2Proof.Machine
end

