-- ==== Sys2Proof/Machine/StoreOps.lean ====
section
/-! DEFINITION. Operations of the central store: tags, arrival checks, matching, firing, slot release, frame
release, FREE and the allocation walk (02_tokens_and_tags, 03_central_store_and_matching). -/

namespace Sys2Proof.Machine

/-! ### Tags and values (Tables 2-1, 2-2) -/

def Tag.device (t : Triple) : Nat := t.field 56 16
def Tag.frame (t : Triple) : Nat := t.field 38 18
def Tag.gen (t : Triple) : Nat := t.field 29 9
def Tag.slot (t : Triple) : Nat := t.field 21 8
def Tag.flow (t : Triple) : Nat := t.field 6 15
def Tag.ty (t : Triple) : Nat := t.field 3 3
def Tag.crit (t : Triple) : Bool := t.getLsbD 2

/-- The tag of these fields, bits [1:0] zero (R46, R47). -/
def Tag.mk (device frame gen slot flow ty crit : Nat) : Triple :=
  BitVec.ofNat 72 (device % 2 ^ 16 * 2 ^ 56 + frame % 2 ^ 18 * 2 ^ 38 + gen % 2 ^ 9 * 2 ^ 29 +
    slot % 2 ^ 8 * 2 ^ 21 + flow % 2 ^ 15 * 2 ^ 6 + ty % 8 * 8 + crit % 2 * 4)

/-- The used bits of a value of TYPE `ty` (Tables 2-2 and 2-3). -/
def typeMask (ty : Nat) : Triple :=
  match ty with
  | 0 => BitVec.ofNat 72 (2 ^ 24 - 1)
  | 1 => BitVec.ofNat 72 (2 ^ 48 - 1)
  | 3 => BitVec.ofNat 72 (2 ^ 32 - 1)
  | 4 => BitVec.ofNat 72 (2 ^ 64 - 1)
  | 6 => ~~~(3 : Triple)
  | 7 => BitVec.ofNat 72 (2 ^ 48 - 1 - 2 ^ 45)
  | _ => BitVec.allOnes 72

/-- The value with the unused bits of its type cleared (R57, R205). -/
def clearUnused (ty : Nat) (v : Triple) : Triple := v &&& typeMask ty

/-- The local device number (R464, R496). -/
def State.deviceNo (s : State) : Nat := s.regField 0x0C0000 8 16

/-! ### Places (R74, R79) -/

def State.sliceOf (s : State) (frame : Nat) : Nat := frame % sliceCount s.member
/-- Slots of a frame. -/
def FrameEntry.slots (e : FrameEntry) : Nat := 16 * (e.size + 1)
/-- Key of slot `sl` of a frame. -/
def State.slotKey (s : State) (frame sl : Nat) : Nat :=
  65536 * s.sliceOf frame + 16 * (s.frame frame).base + sl
/-- Key of granule `g` of a frame. -/
def State.groupKey (s : State) (frame g : Nat) : Nat :=
  4096 * s.sliceOf frame + (s.frame frame).base + g

/-- The group descriptor that covers slot `sl` of a frame. -/
def State.groupOf (s : State) (frame sl : Nat) : Group := s.group (s.groupKey frame (sl / 16))

/-- Slot `sl` of the frame is an operand slot (R82). -/
def State.operandSlot (s : State) (frame sl : Nat) : Bool := (s.groupOf frame sl).opmask.getLsbD (sl % 16)

/-- A read of a slot (R88). -/
def slotRead (v : Slot) : Triple := if v.pres || v.cpl then v.val else 0

/-- Write a value to a slot with its control word (R87, R90). -/
def State.putSlot (s : State) (frame sl : Nat) (v : Triple) (ty : Nat) (crit : Bool) : State :=
  let k := s.slotKey frame sl
  s.setSlot k { s.slot k with val := v, pres := true, ty := ty, crit := crit, chk := Config.chkOf v }

/-- Write the complement above a critical value (R64). -/
def State.putCpl (s : State) (frame sl : Nat) (v : Triple) : State :=
  let k := s.slotKey frame sl
  s.setSlot k { s.slot k with val := v, cpl := true, chk := Config.chkOf v }

def State.clearCpl (s : State) (frame sl : Nat) : State :=
  let k := s.slotKey frame sl
  s.setSlot k { s.slot k with cpl := false }

/-! ### Windows, quotas, quarantine -/

def State.lwinOut (s : State) (w : Nat) : Nat := s.regField (Reg.lwin w 0) 0 12
def State.lwinLimit (s : State) (w : Nat) : Nat := s.regField (Reg.lwin w 0) 12 12
def State.lwinOwner (s : State) (w : Nat) : Nat := s.regField (Reg.lwin w 1) 12 9
def State.lwinWaiters (s : State) (w : Nat) : Bool := s.regBit (Reg.lwin w 1) 23
def State.setLwinOut (s : State) (w v : Nat) : State := s.setRegField (Reg.lwin w 0) 0 12 v
def State.setLwinWaiters (s : State) (w : Nat) (b : Bool) : State := s.setRegField (Reg.lwin w 1) 23 1 b.toNat

/-- USED rises; PEAK follows (R114). -/
def State.useSlots (s : State) (t n : Nat) : State :=
  let used := s.regField (Reg.quota t 1) 0 23 + n
  let s1 := s.setRegField (Reg.quota t 1) 0 23 used
  if s1.regField (Reg.quota t 2) 0 23 < used then s1.setRegField (Reg.quota t 2) 0 23 used else s1

def State.dropSlots (s : State) (t n : Nat) : State :=
  s.setRegField (Reg.quota t 1) 0 23 (s.regField (Reg.quota t 1) 0 23 - n)

/-- The longest end-to-end timeout configured, in microseconds (R349, R364). -/
def State.longestTmo (s : State) : Nat := max (s.reg 0x007001).toNat (s.reg 0x007002).toNat

/-- The GEN quarantine in microseconds (R55, R112). -/
def State.quarUs (s : State) : Nat := max (s.reg 0x008001).toNat (2 * s.longestTmo)

/-! ### Episodes of the deadlock detector (R175) -/

/-- Clear INDL in word 0 of DISP.DLK_TEN at address `a`, if its tenant is in domain `d`. -/
def State.clearIndl1 (d : Nat) (s : State) (a : Nat) : State :=
  if 0x00D004 ≤ a ∧ a < 0x00D800 ∧ a % 4 = 0 ∧ s.domain ((a - 0x00D000) / 4) = d ∧ s.regBit a 22 = true then s.setRegField a 22 1 0 else s

/-- Clear INDL for every tenant of domain `d`; a register that reads as its reset word has it clear. -/
def State.clearIndl (s : State) (d : Nat) : State := (s.regs.map Prod.fst).foldl (State.clearIndl1 d) s

/-- The episode of the tenant's domain ends (R175). -/
def State.endEpisode (s : State) (t : Nat) : State :=
  if t = 0 then s else s.clearIndl (s.domain t)

/-! ### Arrival checks (Table 2-4) -/

/-- Why a token is discarded. -/
inductive TokenCause where
  | poisoned | malformed | critical | stale | foreign | slotRange
deriving DecidableEq, Repr

/-- The first check of Table 2-4 that fails, if one does. -/
def State.checkToken (s : State) (t : Token) : Option TokenCause :=
  let e := s.frame (Tag.frame t.tag)
  let sl := Tag.slot t.tag
  if t.poison then some .poisoned
  else if decide (Tag.crit t.tag ≠ decide (t.vc = 3)) || decide (t.tag.field 0 2 ≠ 0)
      || decide (clearUnused (Tag.ty t.tag) t.value ≠ t.value) then some .malformed
  else if Tag.crit t.tag && decide (t.comp ≠ ~~~t.value) then some .critical
  else if !e.alloc || decide (e.gen.toNat ≠ Tag.gen t.tag) then some .stale
  else if decide (t.tenant ≠ 0) && decide (t.tenant ≠ (s.groupOf (Tag.frame t.tag) 0).owner) then some .foreign
  else if decide (sl ≥ e.slots) || (Tag.crit t.tag && decide (sl + 1 ≥ e.slots)) then some .slotRange
  else none

/-- Counter word of CSTORE.SLICE and log cause of a discard (R72, R115, Table 18-9). -/
def TokenCause.counter : TokenCause → Nat
  | .stale => 0
  | .poisoned => 1
  | .malformed => 2
  | .slotRange => 2
  | .critical => 3
  | .foreign => 4
def TokenCause.logCause : TokenCause → Nat
  | .poisoned => 1
  | .malformed => 2
  | .slotRange => 2
  | .critical => 3
  | .foreign => 4
  | .stale => 0

/-- Record 0x01 of a token discard. (log 62, DESIGN CHOICE) -/
def State.logDiscard (s : State) (sl : Nat) (t : Token) (cause : Nat) : State :=
  s.log 0x01 (nodeSlice sl) t.master (BitVec.ofNat 24 (cause * 0x200000)) (some t.tag)

/-- Discard a token at slice `sl`: count, and log unless it is stale. (log 99, DEDUCED) -/
def State.discardToken (s : State) (sl : Nat) (t : Token) (c : TokenCause) : State :=
  let s1 := s.bump (Reg.sliceStat sl c.counter)
  if c = .stale then s1 else s1.logDiscard sl t c.logCause

/-! ### Matching (Table 3-7) -/

/-- Outcome rows of Table 3-7 that discard: LAYOUT (row 1) or COLLISION (rows 2 to 4). -/
inductive MatchRow where
  | layout | collision | operand | passive
deriving DecidableEq, Repr

/-- The first row of Table 3-7 whose condition holds. -/
def State.matchRow (s : State) (frame sl : Nat) (crit : Bool) : MatchRow :=
  let g := s.groupOf frame sl
  let v := s.slot (s.slotKey frame sl)
  let op := s.operandSlot frame sl
  if crit && (decide (sl % 16 = 15) || s.operandSlot frame (sl + 1)) then .layout
  else if op && (v.pres || decide (g.gst ≠ .waiting)) then .collision
  else if v.cpl then .collision
  else if crit && (s.slot (s.slotKey frame (sl + 1))).pres then .collision
  else if op then .operand
  else .passive

/-- The epoch of a tenant's new work (R565). -/
def State.epochOf (s : State) (t : Nat) : Nat := Map.get (fun _ => 0) s.hub.epoch t
/-- The bank of pools and templates that a strand of an epoch uses: while an exchange drains, the old image's stand at
the tenant's number plus 512 (R565). -/
def State.bankOf (s : State) (t epoch : Nat) : Nat := if epoch = s.epochOf t then t else t + 512
/-- The epoch of what a frame fires: that of the pool that it came from. -/
def State.frameEpoch (s : State) (frame owner : Nat) : Nat :=
  if (s.pool (256 * s.sliceOf frame + (s.frame frame).pool)).tenant = owner + 512 then s.epochOf owner - 1 else s.epochOf owner

/-- The entry fires (R92): the group goes to HELD, a fire notice leaves for a flow, the activation enters its
fired queue. `reply` holds back the landing reply until the hub accepts the notice (R135). -/
def State.fire (s : State) (frame sl flow : Nat) (node unit : Nat) (reply : Bool) : State :=
  let k := s.groupKey frame (sl / 16)
  let g := s.group k
  let sc := s.sliceOf frame
  let h := Tag.mk s.deviceNo frame (s.frame frame).gen.toNat (16 * (sl / 16)) flow 0 0
  let act : Activation := ⟨g.owner, h, g.entry, g.wgrp, flow, s.frameEpoch frame g.owner, 0⟩
  let s1 := s.setGroup k { g with gst := .held }
  let s2 := if flow = 0 then s1
    else s1.setNotices sc (s1.notices sc ++ [⟨act, node, unit, reply⟩])
  let q := 2 * sc + (if g.wgrp = 0 then 0 else 1)
  let s3 := s2.setFiredQ q (s2.firedQ q ++ [act])
  (s3.activity g.owner).endEpisode g.owner

/-- The source paces its tokens of this flow and awaits a landing reply (R135): a strand's release buffer or a
port cell, for a FLOW other than 0. (log 27, DESIGN CHOICE) -/
def tokenPaced (t : Token) : Bool :=
  decide (Tag.flow t.tag ≠ 0) && (decide (t.node < 0x100) || decide (0x160 ≤ t.node ∧ t.node < 0x180))

/-- Send the landing reply of a token (R135). -/
def State.landReply (s : State) (t : Token) : State :=
  if (tokenPaced t) then s.send (.land (s.sliceOf (Tag.frame t.tag)) t.node t.unit (Tag.flow t.tag)) else s

/-- Match an accepted token and answer the source (R90, R92, R135). (log 99, DEDUCED) -/
def State.matchToken (s : State) (t : Token) : State :=
  let f := Tag.frame t.tag
  let sl := Tag.slot t.tag
  let sc := s.sliceOf f
  let crit := Tag.crit t.tag
  match s.matchRow f sl crit with
  | .layout => ((s.bump (Reg.sliceStat sc 6)).logDiscard sc t 6).landReply t
  | .collision => ((s.bump (Reg.sliceStat sc 5)).logDiscard sc t 5).landReply t
  | .operand =>
    let s1 := s.putSlot f sl t.value (Tag.ty t.tag) crit
    let s2 := if crit then s1.putCpl f (sl + 1) t.comp else s1
    let k := s2.groupKey f (sl / 16)
    let g := s2.group k
    let s3 := s2.setGroup k { g with join := g.join + 1 }
    if g.join + 1 = g.arity then
      let s4 := s3.fire f sl (Tag.flow t.tag) t.node t.unit (tokenPaced t)
      if Tag.flow t.tag = 0 then s4.landReply t else s4
    else s3.landReply t
  | .passive =>
    let s1 := s.putSlot f sl t.value (Tag.ty t.tag) crit
    let s2 := if crit then s1.putCpl f (sl + 1) t.comp
      else if sl % 16 = 15 then s1 else s1.clearCpl f (sl + 1)
    s2.landReply t

/-- A frame token at its slice (R72, R90). -/
def State.acceptToken (s : State) (t : Token) : State :=
  match s.checkToken t with
  | some c => (s.discardToken (s.sliceOf (Tag.frame t.tag)) t c).landReply t
  | none => s.matchToken t

/-! ### Releasing (R97 to R101) -/

/-- Clear the operand slots `b` below `n` of a granule, and the complements above critical operands (R97). -/
def State.clearOperands (s : State) (frame gr : Nat) (mask : BitVec 16) : Nat → State
  | 0 => s
  | n + 1 =>
    let s1 := s.clearOperands frame gr mask n
    if mask.getLsbD n then
      let k := s1.slotKey frame (16 * gr + n)
      let v := s1.slot k
      let s2 := s1.setSlot k { v with pres := false }
      if v.crit && decide (n < 15) then s2.clearCpl frame (16 * gr + n + 1) else s2
    else s1

/-- Keys of the groups of a frame. -/
def State.groupKeys (s : State) (frame : Nat) : List Nat :=
  (List.range ((s.frame frame).size + 1)).map (fun g => s.groupKey frame g)

/-- The handle of granule `g` without its flow: how the hub's lists name an activation. -/
def actId (h : Triple) : Triple := h.setField 6 15 0

/-- Tracing takes a record of this KIND for this tenant. -/
def State.traced (s : State) (kind tenant : Nat) : Bool :=
  s.regBit 0x00C002 23 && s.regBit 0x00C002 kind
    && (s.regBit 0x00C003 23 || decide (s.regField 0x00C003 0 9 = tenant))

/-- Send a decision-trace record: words 0 to 2, then TIME. -/
def State.traceSend (s : State) (w0 w1 w2 : Nat) : State :=
  s.send (.queueRec (s.regField 0x00C002 13 10) nodeHub
    [BitVec.ofNat 24 w0, BitVec.ofNat 24 w1, BitVec.ofNat 24 w2, s.time.word 0, s.time.word 1, s.time.word 2])

/-- Word 0 of a record. -/
def traceW0 (kind wgrp tenant rule look : Nat) : Nat :=
  kind * 0x200000 + wgrp % 64 * 0x8000 + tenant % 512 * 64 + rule * 8 + look % 4

/-- The record of another decision (KIND 3 to 6) about pavilion `pav`. LOOK, which has no meaning for it, is a free
value, and so are PAV, BACKLOG and HOPS where the decision names no pavilion (KIND 4 and 5). -/
def State.traceEvent (s : State) (kind wgrp tenant : Nat) (pav : Option Nat) (pipe ctx port w2 : Nat) : State :=
  if s.traced kind tenant then
    let u := s.draw
    let w1 := match pav with
      | some p => p % 256 * 0x10000 + pipe % 4 * 0x4000 + ctx % 4 * 0x1000 + (s.pq p).length % 16 * 256
          + hopsTo s.member port p % 16 * 16 + port % 16
      | none => u.1.field 16 8 * 0x10000 + u.1.field 4 8 * 16 + port % 16
    u.2.traceSend (traceW0 kind wgrp tenant 2 (u.1.field 0 2)) w1 w2
  else s

/-- Recall the head of a free flow if it is parked (R138). -/
def State.flowRecall (s : State) (f : Nat) : State :=
  let x := s.flow f
  match x.order with
  | [] => s
  | h :: _ =>
    match x.parked.find? (fun a => decide (actId a.handle = h)) with
    | none => s
    | some a =>
      let r := portOfSlice s.member (s.sliceOf (Tag.frame a.handle))
      let s1 := s.setFlow f { x with parked := x.parked.filter (fun b => decide (actId b.handle ≠ h)) }
      let s2 := { s1 with hub := { s1.hub with recalls := s1.hub.recalls ++ [(f, a)] } }
      let s3 := (s2.bump (Reg.port r 5)).traceEvent 5 a.wgrp a.tenant .none 0 0 r (f * 512)
      s3.activity a.tenant

/-- Recall the head of a flow that is free. -/
def State.recallFree (s : State) (f : Nat) : State := if (s.flow f).busy then s else s.flowRecall f

/-- Remove a released frame's activations from every order list; drop and count parked ones; a flow that is free goes on
with its next head (R138). -/
def State.unlistFrame (s : State) (frame gen : Nat) : State :=
  let own := fun (h : Triple) => decide (Tag.frame h = frame ∧ Tag.gen h = gen)
  let dropped := (s.hub.flows.map (fun e => (e.2.parked.filter (fun a => own a.handle)).length)).foldl (· + ·) 0
  let flows := (s.hub.flows.map (fun e => (e.1, { e.2 with
      order := e.2.order.filter (fun h => !(own h) || (e.2.busy && decide (e.2.order.head? = some h))),
      parked := e.2.parked.filter (fun a => !(own a.handle)) }))).filter (fun e => decide (e.2 ≠ Flow.zero))
  let s1 := State.bumpBy { s with hub := { s.hub with flows := flows } } (Reg.sliceStat (s.sliceOf frame) 7) dropped
  (flows.map Prod.fst).foldl State.recallFree s1

/-- Cancel the frame's HELD activations (R98 step 3). -/
def State.cancelHeld (s : State) (frame : Nat) (q : Nat) : State :=
  let acts := s.firedQ q
  let mine := acts.filter (fun a => decide (Tag.frame a.handle = frame))
  (s.setFiredQ q (acts.filter (fun a => decide (Tag.frame a.handle ≠ frame)))).bumpBy
    (Reg.sliceStat (s.sliceOf frame) 7) mine.length

/-- Put a frame number at the tail of its pool's free list; a waited-on pool sends a release notice. -/
def State.joinFree (s : State) (frame : Nat) : State :=
  let sc := s.sliceOf frame
  let k := 256 * sc + (s.frame frame).pool
  let p := s.pool k
  let s1 := s.setPool k { p with free := p.free ++ [frame] }
  if p.waiters then
    { s1 with store := { s1.store with rerun := s1.store.rerun ++ [⟨sc, false, p.tenant, p.size, 0⟩] } }
  else s1

/-- OUT of a window falls by 1 at a release; a waited-on window sends a release notice (R98 step 6, R105). -/
def State.windowRelease (s : State) (sc w tenant : Nat) : State :=
  if w = 0 then s
  else
    let s1 := s.setLwinOut w (s.lwinOut w - 1)
    if s.lwinWaiters w then
      { s1 with store := { s1.store with rerun := s1.store.rerun ++ [⟨sc, true, tenant, 0, w⟩] } }
    else s1

/-- The quarantine of a frame number starts (R55, R98). -/
def State.startQuar (s : State) (frame : Nat) : State :=
  let e := s.elapsed + usTicks s.quarUs
  { s with store := { s.store with quarEnd := Map.set (fun _ => 0) s.store.quarEnd frame e } }

/-- Release a frame (R98). -/
def State.releaseFrame (s : State) (frame : Nat) : State :=
  let e := s.frame frame
  let sc := s.sliceOf frame
  let g := s.groupOf frame 0
  let gen' := e.gen + 1
  let wrap := decide (gen' = 0)
  let s0 := (s.unlistFrame frame e.gen.toNat)
  let s1 := s0.setFrame frame { e with alloc := false, gen := gen', quar := wrap, init := false }
  let s2 := (s1.cancelHeld frame (2 * sc)).cancelHeld frame (2 * sc + 1)
  let s3 := if wrap then s2.startQuar frame else s2.joinFree frame
  (s3.dropSlots g.owner e.slots).windowRelease sc g.win g.owner

/-- Every granule with an entry is DONE (R97). -/
def State.allDone (s : State) (frame : Nat) : Bool :=
  (s.groupKeys frame).all (fun k => decide ((s.group k).arity = 0) || decide ((s.group k).gst = .done))

/-- The END release of an activation's slots (R97); of a released frame it has no effect (Table 3-9). -/
def State.slotRelease (s : State) (h : Triple) : State :=
  let f := Tag.frame h
  let e := s.frame f
  if !e.alloc || decide (e.gen.toNat ≠ Tag.gen h) then s
  else
    let gr := Tag.slot h / 16
    let k := s.groupKey f gr
    let g := s.group k
    let s1 := s.clearOperands f gr g.opmask 16
    let s2 := s1.setGroup k { g with join := 0, gst := if g.oneshot then .done else .waiting }
    if g.oneshot && s2.allDone f then s2.releaseFrame f else s2

/-- A FREE at the frame's slice (R99, R101). -/
def State.freeFrame (s : State) (q : FreePkt) : State :=
  let f := Tag.frame q.handle
  let e := s.frame f
  let sc := s.sliceOf f
  if !e.alloc || decide (e.gen.toNat ≠ Tag.gen q.handle) then s.bump (Reg.sliceStat sc 0)
  else if decide (q.tenant ≠ 0) && decide (q.tenant ≠ (s.groupOf f 0).owner) then
    (s.bump (Reg.sliceStat sc 4)).log 0x04 (nodeSlice sc) q.master 0 (some q.handle)
  else s.releaseFrame f

/-! ### Allocation (R102 to R105) -/

/-- The lowest-numbered usable pool of a slice from number `256 - n` on. -/
def State.usablePool (s : State) (sc t size : Nat) (ignore : Bool) : Nat → Option Nat
  | 0 => none
  | n + 1 =>
    let p := s.pool (256 * sc + (255 - n))
    if p.tenant = t ∧ p.size = size ∧ (ignore ∨ p.waiters = false) ∧ p.free ≠ [] then some (255 - n)
    else s.usablePool sc t size ignore n

/-- The slice holds a pool of the tenant with a free frame number (R513). -/
def State.holdsPool (s : State) (sc t : Nat) : Bool :=
  s.store.pools.any (fun e => decide (e.1 / 256 = sc) && decide (e.2.tenant = t) && decide (e.2.free ≠ []))

/-- Clear PRES and CPL of `n` slots of a frame. -/
def State.clearSlots (s : State) (frame : Nat) : Nat → State
  | 0 => s
  | n + 1 =>
    let s1 := s.clearSlots frame n
    let k := s1.slotKey frame n
    s1.setSlot k { s1.slot k with pres := false, cpl := false }

/-- Write the group descriptors of a frame from its template (R86, R102). -/
def State.writeGroups (s : State) (frame owner : Nat) (t : Template) : List TmplGranule → Nat → State
  | [], _ => s
  | g :: gs, n =>
    let d : Group := ⟨g.opmask, g.arity, 0, if g.arity > 0 then .waiting else .idle, g.wgrp, g.entry, owner,
      t.win, t.oneshot, decide (n = 0)⟩
    (s.setGroup (s.groupKey frame n) d).writeGroups frame owner t gs (n + 1)

/-- Allocate the head of a pool's free list (R102). -/
def State.allocFrom (s : State) (sc p owner : Nat) (t : Template) : Option (Triple × State) :=
  let pl := s.pool (256 * sc + p)
  match pl.free with
  | [] => none
  | f :: rest =>
    let s1 := s.setPool (256 * sc + p) { pl with free := rest }
    let e := s1.frame f
    let s2 := s1.setFrame f { e with alloc := true }
    let s3 := s2.clearSlots f e.slots
    let s4 := s3.writeGroups f owner t t.granules 0
    some (Tag.mk s.deviceNo f e.gen.toNat 0 0 0 0, s4.useSlots owner (16 * t.granules.length))

/-- The walk over at most `n` slices from `sc` (R102). A slice not ON holds no usable pool; one that is OFF and
holds a pool of the tenant is asked to wake (R514): it is answered in the second list. (log 38, DEDUCED) -/
def State.allocWalk (s : State) (owner bank : Nat) (t : Template) (ignore : Bool) (sc : Nat) :
    Nat → Option (Triple × State) × List Nat
  | 0 => (none, [])
  | n + 1 =>
    let next := (sc + 1) % sliceCount s.member
    if s.domainOn (nodeSlice sc) then
      match s.usablePool sc bank t.granules.length ignore 256 with
      | some p => (s.allocFrom sc p owner t, [])
      | none => s.allocWalk owner bank t ignore next n
    else
      let r := s.allocWalk owner bank t ignore next n
      if s.holdsPool sc bank && decide (s.powerOf (nodeSlice sc) = 2) then (r.1, nodeSlice sc :: r.2) else r

/-- The template that a tenant's number names in an epoch (R102, R565): a draining epoch uses the old bank. -/
def State.templateIn (s : State) (t k epoch : Nat) : Option Template :=
  s.template (s.bankOf t epoch) k

/-- ALLOC of R102: the handle if a frame was allocated, and the state after it. -/
def State.allocRun (s : State) (owner bank terrace : Nat) (t : Template) : Option Triple × State :=
  let w := t.win
  if w ≠ 0 ∧ (s.lwinOut w = s.lwinLimit w ∨ s.lwinWaiters w = true) then (none, s)
  else
    let sc := if w ≠ 0 then w % sliceCount s.member else 4 * terrace + s.home terrace
    let s1 := if w ≠ 0 then s.setLwinOut w (s.lwinOut w + 1)
      else s.setHome terrace ((s.home terrace + 1) % 4)
    let r := s1.allocWalk owner bank t false sc (sliceCount s.member)
    match r.1 with
    | some (h, s2) => (some h, r.2.foldl State.askWake s2)
    | none =>
      let s2 := if w ≠ 0 then s1.setLwinOut w (s1.lwinOut w - 1) else s1
      (none, r.2.foldl State.askWake s2)

/-- Set or clear WAITERS on every pool of the tenant and SIZE (R104). -/
def State.markPools (s : State) (t size : Nat) (b : Bool) : State :=
  { s with store := { s.store with pools := s.store.pools.map (fun e =>
      if e.2.tenant = t ∧ e.2.size = size ∧ e.2 ≠ Pool.none then (e.1, { e.2 with waiters := b }) else e) } }

/-- WAITERS follows the wait lists for a key (R104, R105). -/
def State.syncWaiters (s : State) (t size win : Nat) : State :=
  let s1 := s.markPools t size (s.store.waits.any (fun a => decide (a.tenant = t ∧ a.size = size)))
  if win = 0 then s1
  else s1.setLwinWaiters win (s.store.waits.any (fun a => decide (a.win = win)))

/-- Park an ALLOCW (R104). -/
def State.parkAlloc (s : State) (a : AllocWait) : State :=
  let s1 := { s with store := { s.store with waits := s.store.waits ++ [a] } }
  (s1.syncWaiters a.tenant a.size a.win).setRegField (Reg.quota a.tenant 3) 0 13
    (s.regField (Reg.quota a.tenant 3) 0 13 + 1)

/-- Take a parked ALLOCW off its list (R101, R105). -/
def State.unparkAlloc (s : State) (a : AllocWait) : State :=
  let s1 := { s with store := { s.store with waits := s.store.waits.erase a } }
  (s1.syncWaiters a.tenant a.size a.win).setRegField (Reg.quota a.tenant 3) 0 13
    (s.regField (Reg.quota a.tenant 3) 0 13 - 1)

/-- One run of a parked request from the slice of a release, ignoring WAITERS (R105). -/
def State.rerunAlloc (s : State) (a : AllocWait) (t : Template) (sc : Nat) : Option Triple × State :=
  let w := a.win
  if w ≠ 0 ∧ s.lwinOut w = s.lwinLimit w then (none, s)
  else
    let s1 := if w ≠ 0 then s.setLwinOut w (s.lwinOut w + 1) else s
    match (s1.allocWalk a.tenant (s.bankOf a.tenant (s.task a.task).epoch) t true sc (sliceCount s.member)).1 with
    | some (h, s2) => (some h, s2)
    | none => (none, s)

end Sys2Proof.Machine
end

