-- ==== Sys2Proof/Machine/LinkOps.lean ====
section
/-! DEFINITION. Headers of packets, and how a packet leaves its source: to a node of the die, or through a Finsuri link
(R336, R441, R464 to R470). -/

namespace Sys2Proof.Machine

/-- Virtual channel of a command (Table 11-4). (log 98, DEDUCED) -/
def cmdVc (cmd : Nat) : Nat :=
  if cmd < 0x10 then 2
  else if cmd < 0x28 then 0
  else if cmd < 0x34 then 1
  else if cmd < 0x38 then 4
  else if cmd < 0x3C then 5
  else if cmd = 0x3E then 7
  else 6

/-- A header of Table 11-3; `low` is TENANT, or STATUS and DUP of a response. -/
def mkHeader (vc cmd dnode snode ctx low rid ddev : Nat) : Triple :=
  BitVec.ofNat 72 (vc % 8 * 2 ^ 69 + cmd % 64 * 2 ^ 63 + dnode % 1024 * 2 ^ 53 + snode % 1024 * 2 ^ 43
    + ctx % 16 * 2 ^ 39 + low % 512 * 2 ^ 30 + rid % 16384 * 2 ^ 16 + ddev % 65536)

/-- Count in word `w` of the cluster of node `n`. -/
def State.bumpCluster (s : State) (n w : Nat) : State := s.bump (Reg.cluster (clusterOf s.member n) w)

end Sys2Proof.Machine

namespace Sys2Proof

/-- Header fields of a packet on a link. -/
def LinkPkt.hdr : LinkPkt → LinkHdr
  | .ftok h _ _ _ _ _ => h
  | .ptok h _ _ _ _ _ => h
  | .free h _ => h
  | .sev h _ _ => h
  | .regrd h _ => h
  | .regwr h _ _ => h
  | .rsp h _ _ => h
  | .rdata h _ _ => h
  | .other h _ _ => h

/-- CMD and VC of a packet on a link (Table 11-4). -/
def LinkPkt.cmd : LinkPkt → Nat × Nat
  | .ftok _ vc _ _ _ _ => (1, vc)
  | .ptok _ vc _ _ _ _ => (2, vc)
  | .free _ _ => (3, 2)
  | .sev _ _ _ => (4, 2)
  | .regrd _ _ => (0x38, 5)
  | .regwr _ _ _ => (0x39, 5)
  | .rsp _ _ _ => (0x28, 1)
  | .rdata _ _ _ => (0x29, 1)
  | .other _ vc cmd => (cmd, vc)

/-- A packet without a response of its own. -/
def LinkPkt.posted : LinkPkt → Bool
  | .ftok _ _ _ _ _ _ => true
  | .ptok _ _ _ _ _ _ => true
  | .free _ _ => true
  | .sev _ _ _ => true
  | _ => false

/-- Header unit of a packet on a link. -/
def LinkPkt.header (p : LinkPkt) (dnode : Nat) : Triple :=
  let low := match p with
    | .rsp _ st dup => (if dup then 256 else 0) + st % 8 * 32
    | .rdata _ st _ => st % 8 * 32
    | _ => p.hdr.tenant
  Machine.mkHeader p.cmd.2 p.cmd.1 dnode p.hdr.snode (if p.hdr.snode < 256 then p.hdr.unit else 0) low
    (if p.posted then 0 else p.hdr.rid) p.hdr.ddev

/-- The link header of a token. -/
def Token.linkHdr (t : Token) (sdev : Nat) : LinkHdr := ⟨sdev, t.node, t.unit, t.tenant, t.master, 0, Machine.Tag.device t.tag⟩

end Sys2Proof

namespace Sys2Proof.Machine

/-! ### Links (R465, R469, R475) -/

def Reg.fslStat (w : Nat) : Nat := 0x0C0002 + w
def Reg.fslLink (l w : Nat) : Nat := 0x0C0100 + 8 * l + w

def Link.off : Link := ⟨0, 0, [], [], false, 0, 0, .none, .none, false, 0, 0, 0, 0, 0, .none⟩
def State.link (s : State) (l : Nat) : Link := Map.get (fun _ => Link.off) s.fsl.links l
def State.setLink (s : State) (l : Nat) (v : Link) : State :=
  { s with fsl := { s.fsl with links := Map.set (fun _ => Link.off) s.fsl.links l v } }

/-- STATE of a link: 0 OFF, 1 TRAINING, 2 UP, 3 DOWN (Table 15-1). -/
def State.linkState (s : State) (l : Nat) : Nat := s.regField (Reg.fslLink l 0) 22 2
def State.linkUp (s : State) (l : Nat) : Bool := unitPresent s.member .links l && decide (s.linkState l = 2)
def State.linkPeer (s : State) (l : Nat) : Nat := s.regField (Reg.fslLink l 0) 0 16

/-! ### The duplex pair (R589 to R594) -/

def Reg.depPair (w : Nat) : Nat := 0x000040 + w

/-- STATE of the pair: 0 DUPLEX, 1 SIMPLEX, 2 DISAGREED, 3 DIGEST, 4 FENCED. -/
def State.pairState (s : State) : Nat := s.regField (Reg.depPair 0) 21 3
/-- ROLE of the die: 0 lead, 1 shadow, 2 SIMPLEX lead, 3 fenced. -/
def State.pairRole (s : State) : Nat := s.regField (Reg.depPair 0) 19 2
def State.setPairState (s : State) (v : Nat) : State := s.setRegField (Reg.depPair 0) 21 3 v
def State.setPairRole (s : State) (v : Nat) : State := s.setRegField (Reg.depPair 0) 19 2 v

/-- The pair runs duplex. -/
def State.duplex (s : State) : Bool := decide (s.member = .z256d) && decide (s.pairState = 0) && !s.pair.fenced
def State.pairLead (s : State) : Bool := s.duplex && decide (s.pairRole = 0)
/-- The die that only watches: the shadow, also of a pair that is DISAGREED. -/
def State.pairShadow (s : State) : Bool :=
  decide (s.member = .z256d) && decide (s.pairState = 0 ∨ s.pairState = 2) && !s.pair.fenced && decide (s.pairRole = 1)

/-- The number of the other die of a Z256-D (R464). -/
def State.pairDevice (s : State) : Nat := if s.deviceNo % 2 = 0 then s.deviceNo + 1 else s.deviceNo - 1

/-- Source device of a packet: toward the outside, a pair carries the number of die 0 (R590). -/
def State.sourceNo (s : State) (ddev : Nat) : Nat :=
  if s.member = .z256d ∧ ddev ≠ s.pairDevice then s.deviceNo - s.deviceNo % 2 else s.deviceNo

/-- A control frame leaves on a link. -/
def State.sendCtl (s : State) (l : Nat) (f : CtlFrame) : State := s.setLink l { s.link l with ctl := some f }

/-- A pair message leaves: on link 14, or on link 15 while link 14 is not UP. -/
def State.sendPair (s : State) (f : CtlFrame) : State := s.sendCtl (if s.linkState 14 = 2 then 14 else 15) f

/-- A die of the pair forms an effect (R594): the lead holds it and sends an intent; the shadow holds its copy and, where
the intent came first, agrees to it. (log 56, DEDUCED) -/
def State.holdEffect (s : State) (k : PairKey) (b : Effect) (crc : BitVec 32) : State :=
  let add := fun (s : State) (agreed differs : Bool) =>
    { s with pair := { s.pair with
      effects := s.pair.effects ++ [(⟨k, b, crc, agreed, differs, s.elapsed⟩ : HeldEffect)]
      intents := s.pair.intents.filter (fun e => decide (e.1 ≠ k)) } }
  if s.pairShadow then
    match s.pair.intents.find? (fun e => decide (e.1 = k)) with
    | none => add s false false
    | some e => if e.2 = crc then (add s true false).sendPair (.agreement k) else add s false true
  else (add s false false).sendPair (.intent k crc)

/-- The next number of a counted stream. -/
def pairCountKey (kind strm : Nat) : Nat := 8 * strm + kind
def State.pairCount (s : State) (kind strm : Nat) : Nat × State :=
  let n := Map.get (fun _ => 0) s.pair.counts (pairCountKey kind strm)
  (n, { s with pair := { s.pair with counts := Map.set (fun _ => 0) s.pair.counts (pairCountKey kind strm) (n + 1) } })

/-- The lead forwards an input to the shadow (R592). -/
def State.forwardInput (s : State) (x : ExtInput) (waits : Bool) : State :=
  let n := s.pair.nextIn
  let s1 := { s with pair := { s.pair with
    nextIn := n + 1
    inputs := if waits then s.pair.inputs ++ [(n, x)] else s.pair.inputs } }
  s1.sendPair (.input n x)

/-! ### Routes and streams (R465, R469, R475) -/

/-- The route entry of a device number; the routes to the other die of a pair are fixed (R475). -/
def State.routeEntry (s : State) (d : Nat) : Word :=
  if s.member = .z256d ∧ d = s.pairDevice then 0xF7C000
  else if d / 256 = s.deviceNo / 256 then s.reg (0x0C1100 + d % 256) else s.reg (0x0C1000 + d / 256)

/-- The link that ROUTE selects for a remote device. (log 60, DEDUCED) -/
def State.routeLink (s : State) (d : Nat) : Option Nat :=
  let e := s.routeEntry d
  if e.bit 23 = false then none
  else if s.linkUp (e.field 19 4) then some (e.field 19 4)
  else if e.bit 14 && s.linkUp (e.field 15 4) then some (e.field 15 4)
  else none

/-- Put a packet on a link: in a frame of its own, or behind a full replay window. (log 59, DEDUCED) -/
def State.linkSend (s : State) (l : Nat) (p : LinkPkt) : State :=
  let k := s.link l
  if k.window.length < 256 ∧ k.txq = [] then
    s.setLink l { k with txSeq := (k.txSeq + 1) % 2048, window := k.window ++ [⟨k.txSeq, [p], s.elapsed⟩] }
  else s.setLink l { k with txq := k.txq ++ [p] }

/-- The egress stream of a packet is there, or can be allocated (R469). (log 60, DEDUCED) -/
def State.streamFor (s : State) (dev tenant : Nat) : Option State :=
  if s.fsl.streams.any (fun e => decide (e.dev = dev ∧ e.tenant = tenant)) then some s
  else if s.fsl.streams.length ≥ 1024 then none
  else some { s with fsl := { s.fsl with streams := s.fsl.streams ++ [(⟨dev, tenant, 0, 0⟩ : Stream)] } }

/-- A packet without a usable route is counted and logged (R465, R633). -/
def State.noRoute (s : State) (node : Nat) (p : LinkPkt) : State :=
  (s.bump (Reg.fslStat 0)).log 0x5B node p.hdr.master (BitVec.ofNat 24 (p.hdr.ddev % 65536)) (some (p.header 0))

/-- Words of a packet, for its CRC (R594). -/
def tripleWords (t : Triple) : List Word := [t.word 0, t.word 1, t.word 2]
def pktWords (p : LinkPkt) : List Word :=
  tripleWords (p.header 0) ++ (match p with
    | .ftok _ _ tag v c _ => tripleWords tag ++ tripleWords v ++ tripleWords c
    | .ptok _ _ tag v c _ => tripleWords tag ++ tripleWords v ++ tripleWords c
    | .free _ h => tripleWords h
    | .sev _ n f => [BitVec.ofNat 24 n, f]
    | .regrd _ a => [BitVec.ofNat 24 a]
    | .regwr _ a v => [BitVec.ofNat 24 a, v]
    | .rdata _ _ ws => ws
    | _ => [])

/-- A response leaves for the device that its header names; the lead of a pair sends it after agreement. -/
def State.linkReply (s : State) (node : Nat) (p : LinkPkt) : State :=
  if s.duplex && decide (p.hdr.ddev ≠ s.pairDevice) then
    s.holdEffect ⟨2, 512 * p.hdr.ddev + p.hdr.tenant, p.hdr.rid⟩ (.link node p) (Config.effectCrc (pktWords p))
  else
    match s.routeLink p.hdr.ddev with
    | some l => s.linkSend l p
    | none => s.noRoute node p

/-- The header of the response to a packet: DNODE and CTX name the requester. -/
def State.replyHdr (s : State) (h : LinkHdr) : LinkHdr := { h with sdev := s.sourceNo h.sdev, ddev := h.sdev }

/-- Held packets of a die that runs alone leave as their links come UP (R596). -/
def State.resolveHeld (s : State) : State :=
  if s.pairRole ≠ 2 ∨ s.member ≠ .z256d then s
  else
    let go := fun (e : HeldEffect) => match e.body with
      | .link _ p => s.routeLink p.hdr.ddev
      | _ => none
    let s1 : State := { s with pair := { s.pair with effects := s.pair.effects.filter (fun e => (go e).isNone) } }
    s.pair.effects.foldl (fun s e => match e.body, go e with
      | .link _ p, some l => s.linkSend l p
      | _, _ => s) s1

/-- A request that cannot go on is answered to its source (R465, R469). -/
def State.egressRsp (s : State) (node : Nat) (p : LinkPkt) (status : Nat) : State :=
  if p.posted then s else s.linkReply node (.rsp (s.replyHdr p.hdr) status false)

/-- A packet that has a stream leaves by its route. -/
def State.egressNow (s : State) (node : Nat) (p : LinkPkt) : State :=
  match s.routeLink p.hdr.ddev with
  | none => (s.noRoute node p).egressRsp node p 3
  | some l => s.linkSend l p

/-- The pair sequence number of a packet: the stream RID of a request, the posted counter of the stream (R594). (log 56, DEDUCED) -/
def State.streamPsn (s : State) (dev tenant : Nat) (posted : Bool) : Nat × State :=
  let here := fun (e : Stream) => decide (e.dev = dev ∧ e.tenant = tenant)
  match s.fsl.streams.find? here with
  | none => (0, s)
  | some e => (if posted then e.posted else e.next, { s with fsl := { s.fsl with streams := s.fsl.streams.map (fun (x : Stream) =>
      if here x then (if posted then { x with posted := x.posted + 1 } else { x with next := (x.next + 1) % 16384 }) else x) } })

/-- A packet leaves for another device (R465, R469, R633); the lead of a pair sends it after agreement. (log 60, DEDUCED) -/
def State.egress (s : State) (node : Nat) (p : LinkPkt) : State :=
  let h := p.hdr
  let held := s.duplex && decide (h.ddev ≠ s.pairDevice)
  let inner := decide (s.member = .z256d) && decide (h.ddev = s.pairDevice)
  if inner || (!held && (s.routeLink h.ddev).isNone) then s.egressNow node p
  else
    match s.streamFor h.ddev h.tenant with
    | none => ((s.bump (Reg.fslStat 2)).log 0x58 node h.master (BitVec.ofNat 24 (h.ddev % 65536))
        (some (p.header ((s.routeLink h.ddev).elim 0 nodeLink)))).egressRsp node p 2
    | some s1 =>
      if held then
        let r := s1.streamPsn h.ddev h.tenant p.posted
        r.2.holdEffect ⟨p.posted.toNat, 512 * h.ddev + h.tenant, r.1⟩ (.link node p) (Config.effectCrc (pktWords p))
      else s1.egressNow node p

/-! ### Injection (R441, R465) -/

/-- CELL of a port-token tag (Table 14-2). -/
def portCell (t : Triple) : Nat := t.field 46 10

/-- A source injects a packet: its destination is a node of the die, or a link. -/
def State.inject (s : State) (node : Nat) (p : Packet) : State :=
  match p with
  | .ftok t =>
    if Tag.device t.tag = s.deviceNo then s.send p
    else s.egress node (.ftok (t.linkHdr (s.sourceNo (Tag.device t.tag))) t.vc t.tag t.value t.comp t.poison)
  | .ptok t =>
    if Tag.device t.tag ≠ s.deviceNo then
      s.egress node (.ptok (t.linkHdr (s.sourceNo (Tag.device t.tag))) t.vc t.tag t.value t.comp t.poison)
    else if unitPresent s.member .cells (portCell t.tag) then s.send p
    else (s.bumpCluster node 3).log 0x02 node t.master (BitVec.ofNat 24 (2 * 0x200000 + portCell t.tag)) (some t.tag)
  | .free q =>
    if Tag.device q.handle = s.deviceNo then s.send p
    else s.egress node (.free ⟨s.sourceNo (Tag.device q.handle), node, 0, q.tenant, q.master, 0, Tag.device q.handle⟩ q.handle)
  | _ => s.send p

end Sys2Proof.Machine
end

