-- ==== Sys2Proof/Machine/HubOps.lean ====
section
/-! DEFINITION. Operations of the hub: candidates, selection, placement, binding, flows, pacing, tasks and their
flags (04_dispatch_flows_and_tasks). -/

namespace Sys2Proof.Machine

/-! ### Code sets (R295, R296) -/

/-- Code set of an entry; 1,023 names none. -/
def State.entrySet (s : State) (e : Nat) : Nat := s.regField (Reg.entry e) 14 10
def State.entryOffset (s : State) (e : Nat) : Nat := s.regField (Reg.entry e) 0 14
def State.setValid (s : State) (c : Nat) : Bool := decide (c < 1023) && s.regBit (Reg.codeset c 0) 23
def State.setOwner (s : State) (c : Nat) : Nat := s.regField (Reg.codeset c 0) 12 9
def State.setBase (s : State) (c : Nat) : Nat := s.regField (Reg.codeset c 1) 0 14
/-- Pavilion `p` holds the code set. -/
def State.setOn (s : State) (c p : Nat) : Bool := s.setValid c && s.regBit (Reg.codeset c (3 + p / 24)) (p % 24)
/-- Code-store address of an entry. -/
def State.entryAddr (s : State) (e : Nat) : Nat := s.setBase (s.entrySet e) + s.entryOffset e
/-- The entry belongs to a code set of the tenant (R296). -/
def State.entryOwned (s : State) (e t : Nat) : Bool := s.setValid (s.entrySet e) && decide (s.setOwner (s.entrySet e) = t)

/-! ### Pavilions and free contexts (R125) -/

/-- DEP.PAV[p].STATE is in service. -/
def State.pavInService (s : State) (p : Nat) : Bool := decide (s.regField (Reg.depPav p) 22 2 = 0)

/-- The tenant is STOPPED: the hub binds nothing more of it (R557). -/
def State.tenantStopped (s : State) (t : Nat) : Bool := decide (s.regField (Reg.filTen t 0) 21 3 = 1)

/-- Pavilion `p` is a candidate for an entry; the hub of a fenced die binds nothing (R588). -/
def State.candidate (s : State) (e p : Nat) : Bool :=
  !s.pair.fenced && s.setOn (s.entrySet e) p && s.pavInService p && s.domainOn p

/-- DISP.CTL fields (R154). -/
def State.resv0 (s : State) : Nat := s.regField 0x00C000 4 2
def State.affThresh (s : State) : Nat := s.regField 0x00C000 8 4
def State.wakeAfter (s : State) : Nat := s.regField 0x00C000 16 8

def State.ctxFree (s : State) (p q c : Nat) : Bool := decide ((s.ctx ⟨p, q, c⟩).state = .free)

/-- Free contexts of a pipeline. -/
def State.freeOn (s : State) (p q : Nat) : Nat := ((List.range 4).filter (fun c => s.ctxFree p q c)).length
/-- Contexts of a pipeline that groups 1 to 63 hold. -/
def State.lowOn (s : State) (p q : Nat) : Nat :=
  ((List.range 4).filter (fun c => !(s.ctxFree p q c) && decide ((s.ctx ⟨p, q, c⟩).wgrp ≠ 0))).length
/-- Free contexts of a pipeline that group `g` may use (R125). -/
def State.usableOn (s : State) (p q g : Nat) : Nat :=
  if g = 0 then s.freeOn p q else min (s.freeOn p q) (4 - s.resv0 - s.lowOn p q)
/-- FREECTX(p, g). -/
def State.freeCtx (s : State) (p g : Nat) : Nat :=
  s.usableOn p 0 g + s.usableOn p 1 g + s.usableOn p 2 g + s.usableOn p 3 g

/-- The pipeline a binding goes to: fewest occupied contexts among those usable, lowest number (R127). -/
def State.pickPipe (s : State) (p g : Nat) : Option Nat :=
  (List.range 4).foldl (fun best q =>
    if s.usableOn p q g = 0 then best
    else match best with
      | none => some q
      | some b => if s.freeOn p q > s.freeOn p b then some q else best) none

/-- The lowest-numbered free context of a pipeline. -/
def State.pickCtx (s : State) (p q : Nat) : Option Nat := (List.range 4).find? (fun c => s.ctxFree p q c)

/-! ### The decision trace (R152, R153) -/

/-- The record of a placement (KIND 0 to 2), if tracing takes it. -/
def State.trace (s : State) (kind wgrp tenant rule look pav pipe ctx backlog hops port w2 : Nat) : State :=
  if s.traced kind tenant then
    s.traceSend (traceW0 kind wgrp tenant rule look)
      (pav % 256 * 0x10000 + pipe % 4 * 0x4000 + ctx % 4 * 0x1000 + backlog % 16 * 256 + hops % 16 * 16 + port % 16) w2
  else s

/-! ### Flows (R133 to R140) -/

/-- A flow's activation goes into service on a pavilion (R128, R133). One that a release took off the order list meanwhile
is dropped at preload and leaves the flow free (R138). (log 36, DEDUCED) -/
def State.flowStart (s : State) (f p : Nat) (h : Triple) : State :=
  if f = 0 then s
  else
    let x := s.flow f
    let starts := !x.busy && decide (actId h ∈ x.order)
    s.setFlow f { x with
      busy := x.busy || starts
      affv := true
      lastpav := p
      busySince := if starts then s.elapsed else x.busySince
      hangReported := x.hangReported && !starts }

/-- The activation of a flow leaves service or the order list; the next one proceeds (R133, R139). One that a release took
off the list has left it already (R138). -/
def State.flowNext (s : State) (f : Nat) (h : Triple) : State :=
  if f = 0 ∨ actId h ∉ (s.flow f).order then s
  else
    let x := s.flow f
    (s.setFlow f { x with busy := false, hangReported := false, order := x.order.filter (fun k => decide (k ≠ actId h)) }).flowRecall f

/-! ### Ready lists and tasks -/

/-- The dispatch port of a pavilion's terrace. -/
def portOfPav (m : Member) (p : Nat) : Nat :=
  match m with
  | .z16 => 0
  | _ => p / 16

/-- An activation's entry in a ready list. -/
def entryOfAct (a : Activation) (credit : Option Nat) (recalled : Bool) (now : Nat) : Entry :=
  ⟨false, a, 0, recalled, credit, now, 0⟩

/-- The null activation that a task's entry carries. -/
def Activation.nil : Activation := ⟨0, 0, 0, 0, 0, 0, 0⟩

/-- A woken task's entry. -/
def entryOfTask (t : Task) (n now : Nat) : Entry :=
  ⟨true, { Activation.nil with tenant := t.owner, entry := t.entry, wgrp := t.wgrp, epoch := t.epoch }, n, false, none, now, 0⟩

/-- Task `n` is the SUPTASK of a tenant of domain `d`; a tenant whose DISP.DLK_TEN reads as its reset word is in none. -/
def State.isSup (s : State) (d n : Nat) : Bool :=
  s.regs.any (fun e => decide (0x00D004 ≤ e.1 ∧ e.1 < 0x00D800 ∧ e.1 % 4 = 0 ∧ e.2.field 12 9 = d ∧ e.2.field 0 12 = n))

/-- A task changed state: activity, and the end of an episode unless it is a SUPTASK (R167, R175). -/
def State.taskChanged (s : State) (n : Nat) : State :=
  let t := s.task n
  let s1 := s.activity t.owner
  if s.isSup (s.domain t.owner) n then s1 else s1.endEpisode t.owner

/-- The task becomes READY and joins its ready list (R120, Table 4-5). -/
def State.taskReady (s : State) (n : Nat) : State :=
  let t := s.task n
  let r := portOfPav s.member t.lastpav
  let s1 := s.setTask n { t with st := .ready }
  (s1.setRl r t.wgrp (s1.rl r t.wgrp ++ [entryOfTask t n s.elapsed])).taskChanged n

/-- The hub clears and returns the bits of EVF AND EVM; the waiting task wakes (R144). -/
def State.wakeOnFlags (s : State) (n : Nat) : State :=
  let t := s.task n
  let hit := t.evf &&& t.evm
  if t.st = .waitEv ∧ hit ≠ 0 then
    let res : Option (Nat × Nat × Triple) := match t.result with
      | some (d, _, _) => some (d, 1, hit.zeroExtend 72)
      | none => none
    (s.setTask n { t with evf := t.evf &&& ~~~hit, result := res }).taskReady n
  else s

/-- OR flags into a task's EVF (R145); a FREE or RESERVED task counts in SEV_LOST. -/
def State.orFlags (s : State) (n : Nat) (flags : Word) : State :=
  let t := s.task n
  if t.st = .free ∨ t.st = .reserved then s.bump (Reg.dispStat 1)
  else (s.setTask n { t with evf := t.evf ||| flags }).wakeOnFlags n

/-- The flags of task `n` that DISP.BIND entries of a KIND and source grant (R145, R160); `i` entries looked at. -/
def State.bindFlags (s : State) (kind src n : Nat) : Nat → Word
  | 0 => 0
  | i + 1 =>
    let rest := s.bindFlags kind src n i
    if s.regField (Reg.bind i 0) 22 2 = kind ∧ s.regField (Reg.bind i 0) 12 10 = src
        ∧ s.regField (Reg.bind i 0) 0 12 = n then rest ||| s.reg (Reg.bind i 1) else rest

/-- The entries of DISP.BIND of a KIND and source: task and flags, in ascending index. -/
def State.bindTargets (s : State) (kind src : Nat) : Nat → List (Nat × Word)
  | 0 => []
  | i + 1 =>
    let rest := s.bindTargets kind src i
    if s.regField (Reg.bind i 0) 22 2 = kind ∧ s.regField (Reg.bind i 0) 12 10 = src ∧ s.reg (Reg.bind i 1) ≠ 0 then
      rest ++ [(s.regField (Reg.bind i 0) 0 12, s.reg (Reg.bind i 1))] else rest

/-- A source named by DISP.BIND sets the flags of each of its entries, ANDed with `mask` (R145, R631). -/
def State.fireBinds (s : State) (kind src : Nat) (mask : Word) : State :=
  (s.bindTargets kind src 1024).foldl (fun s e =>
    if e.2 &&& mask = 0 then s else s.send (.sev e.1 (e.2 &&& mask) (.bind kind src))) s

/-- An SEV at the task table (R145). -/
def State.sevArrive (s : State) (n : Nat) (flags : Word) (src : SevSource) : State :=
  let t := s.task n
  match src with
  | .device => s.orFlags n flags
  | .bind _ _ => s.orFlags n flags
  | .master tenant m _ =>
    let allowed := if tenant = 0 ∨ t.owner = tenant then flags else flags &&& s.bindFlags 0 tenant n 1024
    let s1 := if allowed = flags then s
      else (s.bump (Reg.dispStat 0)).log 0x21 nodeHub m (BitVec.ofNat 24 n) none
    if allowed = 0 ∧ flags ≠ 0 then s1 else s1.orFlags n allowed

/-! ### Binding -/

/-- Return the hand-over credit of an entry (R119). -/
def State.returnCredit (s : State) (e : Entry) : State :=
  match e.credit with
  | none => s
  | some k => s.setCreditUsed k (s.creditUsed k - 1)

/-- An entry of the queue or list goes to a free context of pavilion `p` (R127, R128). -/
def State.bindEntry (s : State) (e : Entry) (p port : Nat) : Option (CtxId × State) :=
  match (if s.pair.fenced then none else s.pickPipe p e.act.wgrp) with
  | none => none
  | some q =>
    match s.pickCtx p q with
    | none => none
    | some c =>
      let id : CtxId := ⟨p, q, c⟩
      let x : Context := { Context.idle with
        state := if e.isTask then .restoring else .preload
        isTask := e.isTask
        tenant := e.act.tenant
        wgrp := e.act.wgrp
        entry := e.act.entry
        flow := e.act.flow
        port := port
        task := e.task
        handle := e.act.handle
        epoch := e.act.epoch
        replays := e.act.replays
        replayable := decide (e.act.entry ∈ s.hub.replayMark) }
      let s1 := s.setCtx id x
      let s2 := if e.isTask then
          let t := s1.task e.task
          (s1.setTask e.task { t with st := .running, lastpav := p }).taskChanged e.task
        else (s1.flowStart e.act.flow p e.act.handle).activity e.act.tenant
      some (id, s2)

/-- An entry joins PQ[p]; group-0 entries stand ahead of all others (R127). -/
def State.queueEntry (s : State) (e : Entry) (p : Nat) : State :=
  let q := s.pq p
  let zero := q.filter (fun x => decide (x.act.wgrp = 0))
  let rest := q.filter (fun x => decide (x.act.wgrp ≠ 0))
  let s1 := s.setPq p (if e.act.wgrp = 0 then zero ++ [e] ++ rest else q ++ [e])
  if e.isTask then
    let t := s1.task e.task
    (s1.setTask e.task { t with st := .running, lastpav := p }).taskChanged e.task
  else (s1.flowStart e.act.flow p e.act.handle).activity e.act.tenant

/-- Word 2 of a trace record for an entry (Table 4-8). -/
def traceW2 (e : Entry) : Nat := if e.isTask then e.task % 4096 * 0x1000 else e.act.flow % 32768 * 0x200

/-- Bind an entry by a rule and count it; the credit returns (R119, R159). -/
def State.placeBind (s : State) (e : Entry) (r p rule look : Nat) : Option State :=
  match s.bindEntry e p r with
  | none => none
  | some (c, s1) =>
    let s2 := (s1.returnCredit e).bump (Reg.port r 0)
    let s3 := if rule = 0 then s2.bump (Reg.port r 1) else s2
    some (s3.trace (if e.isTask then 2 else 0) e.act.wgrp e.act.tenant rule look p c.pipe c.ctx (s.pq p).length
      (hopsTo s.member r p) r (traceW2 e))

/-- Queue an entry on its affinity pavilion (RULE 0). -/
def State.placeQueue (s : State) (e : Entry) (r p look : Nat) : State :=
  let s1 := (s.queueEntry { e with port := r, credit := none } p).returnCredit e
  let s2 := ((s1.bump (Reg.port r 0)).bump (Reg.port r 1)).bump (Reg.port r 2)
  s2.trace (if e.isTask then 2 else 1) e.act.wgrp e.act.tenant 0 look p 0 0 (s.pq p).length (hopsTo s.member r p) r (traceW2 e)

/-- The affinity pavilion of an entry (R126). -/
def State.affinity (s : State) (e : Entry) : Option Nat :=
  if e.isTask then some (s.task e.task).lastpav
  else if e.act.flow ≠ 0 ∧ (s.flow e.act.flow).affv then some (s.flow e.act.flow).lastpav
  else none

/-- The best pavilion under RULE 1: least HOPS, then most free contexts, then lowest number (R126). -/
def State.bestPav (s : State) (e : Entry) (r : Nat) : Option Nat :=
  (List.range (unitCount s.member .pavs)).foldl (fun best p =>
    if s.candidate e.act.entry p && decide (s.freeCtx p e.act.wgrp > 0) && (s.pq p).isEmpty then
      match best with
      | none => some p
      | some b =>
        let hp := hopsTo s.member r p
        let hb := hopsTo s.member r b
        if hp < hb ∨ (hp = hb ∧ s.freeCtx p e.act.wgrp > s.freeCtx b e.act.wgrp) then some p else best
    else best) none

/-- PLACE(e, r) (R126). -/
def State.place (s : State) (e : Entry) (r look : Nat) : Option State :=
  let nearest := match s.bestPav e r with
    | some b => s.placeBind e r b 1 look
    | none => none
  if s.tenantStopped e.act.tenant then none
  else match s.affinity e with
  | none => nearest
  | some a =>
    if s.candidate e.act.entry a && decide (s.affThresh > 0) && decide ((s.pq a).length < s.affThresh) then
      if (s.pq a).isEmpty && decide (s.freeCtx a e.act.wgrp > 0) then s.placeBind e r a 0 look
      else some (s.placeQueue e r a look)
    else nearest

/-- Try the first `n` entries of a ready list, oldest first; the entry placed leaves the list. -/
def State.placeFirst (s : State) (r g : Nat) : List Entry → List Entry → Nat → Nat → Option State
  | [], _, _, _ => none
  | _, _, _, 0 => none
  | e :: es, before, look, n + 1 =>
    match (s.setRl r g (before ++ es)).place e r look with
    | some s1 => some s1
    | none => s.placeFirst r g es (before ++ [e]) (look + 1) n

/-- The next group after `g`, counting 1 to 63 cyclically, whose list at port `r` is not empty. -/
def State.nextGroup (s : State) (r g : Nat) : Nat → Option Nat
  | 0 => none
  | n + 1 =>
    let g' := if g ≥ 63 then 1 else g + 1
    if (s.rl r g').isEmpty then s.nextGroup r g' n else some g'

/-- The visits of SELECT (R121), at most `n` more. -/
def State.visits (s : State) (r : Nat) : Nat → State
  | 0 => s
  | n + 1 =>
    let g := s.turn r
    let placed := if g ≠ 0 ∧ (s.rl r g).isEmpty = false ∧ s.deficit r g ≥ 1 then
        s.placeFirst r g (s.rl r g) [] 0 4 else none
    match placed with
    | some s1 =>
      let d := s1.deficit r g - 1
      let s2 := s1.setDeficit r g d
      if (s2.rl r g).isEmpty then s2.setDeficit r g (min d 0) else s2
    | none =>
      match s.nextGroup r g 63 with
      | none => s
      | some g' =>
        let w : Int := (s.regField (Reg.grpWeight g') 0 8 : Nat)
        let s1 := (s.setTurn r g').setDeficit r g' (min (s.deficit r g' + w) (2 * w))
        s1.visits r n

/-- SELECT(r) (R121). -/
def State.select (s : State) (r : Nat) : State :=
  match s.placeFirst r 0 (s.rl r 0) [] 0 4 with
  | some s1 => s1
  | none => s.visits r 63

/-- The charge of service at END or a release point (R123). (log 14, DESIGN CHOICE) -/
def State.charge (s : State) (r g svc : Nat) : State :=
  let c : Int := ((svc + 255) / 256 : Nat) - 1
  s.setDeficit r g (max (s.deficit r g - c) (-32768))

/-! ### Pacing (R135, R136) -/

/-- The on-chip end-to-end timeout in microseconds (R349). -/
def State.onchipUs (s : State) : Nat := max 2 (s.reg 0x007001).toNat

/-- Destination node of a packet, for the order of R38. -/
def State.destOf (s : State) : Packet → Nat
  | .ftok t => if Tag.device t.tag = s.deviceNo then nodeSlice (s.sliceOf (Tag.frame t.tag)) else 0x400 + Tag.device t.tag
  | .ptok t => if Tag.device t.tag = s.deviceNo then nodeBank (portCell t.tag / 32) else 0x400 + Tag.device t.tag
  | .free p => nodeSlice (s.sliceOf (Tag.frame p.handle))
  | .req q _ => q.dest
  | _ => nodeHub

def paceKey (node unit flow : Nat) : Nat := (1024 * node + unit) * 32768 + flow
def Pace.none : Pace := ⟨0, 0, []⟩
/-- Landing replies owed; the token that has waited longest: its tag, and the ELAPSED at which its timer ends. -/
def Pace.owed (p : Pace) : Nat := p.sent.length
def Pace.tag (p : Pace) : Triple := (p.sent.head?.getD (0, 0)).1
def Pace.due (p : Pace) : Nat := (p.sent.head?.getD (0, 0)).2
def State.paceOf (s : State) (k : Nat) : Pace := Map.get (fun _ => Pace.none) s.hub.pace k
def State.setPace (s : State) (k : Nat) (v : Pace) : State :=
  { s with hub := { s.hub with pace := Map.set (fun _ => Pace.none) s.hub.pace k v } }
def State.held (s : State) (node unit : Nat) : List Packet := Map.get (fun _ => []) s.hub.heldTok (1024 * node + unit)
def State.setHeld (s : State) (node unit : Nat) (v : List Packet) : State :=
  { s with hub := { s.hub with heldTok := Map.set (fun _ => []) s.hub.heldTok (1024 * node + unit) v } }

/-- The packet must wait behind its pacer (R135). -/
def State.mustWait (s : State) (node unit : Nat) (p : Packet) : Bool :=
  match p with
  | .ftok t =>
    let pc := s.paceOf (paceKey node unit (Tag.flow t.tag))
    (tokenPaced t) && decide (Tag.device t.tag = s.deviceNo) && decide (pc.owed > 0)
      && (decide (pc.frame ≠ Tag.frame t.tag) || decide (pc.vc ≠ t.vc))
  | _ => false

/-- Send a packet of a pacing source and start its pacer; the timeout is the one that TRL.TMO gives now (R364). (log 15,
DESIGN CHOICE) -/
def State.sendNow (s : State) (node unit : Nat) (p : Packet) : State :=
  match p with
  | .ftok t =>
    if (tokenPaced t) && decide (Tag.device t.tag = s.deviceNo) then
      let k := paceKey node unit (Tag.flow t.tag)
      let pc := s.paceOf k
      (s.setPace k ⟨Tag.frame t.tag, t.vc, pc.sent ++ [(t.tag, s.elapsed + usTicks s.onchipUs)]⟩).send p
    else s.inject node p
  | _ => s.inject node p

/-- Both packets are paced tokens of one flow: the later one waits behind the earlier (R135, Table 4-3). -/
def State.sameFlow (s : State) : Packet → Packet → Bool
  | .ftok t, .ftok u => tokenPaced t && tokenPaced u && decide (Tag.flow t.tag = Tag.flow u.tag)
      && decide (Tag.device t.tag = s.deviceNo) && decide (Tag.device u.tag = s.deviceNo)
  | _, _ => false

/-- Pass packets through the source's release buffer in order; one that waits holds the later ones bound for the
same destination, and the later tokens of its flow. -/
def State.drainHeld (s : State) (node unit : Nat) : List Packet → List Packet → State
  | [], kept => s.setHeld node unit kept
  | p :: ps, kept =>
    if kept.any (fun k => decide (s.destOf k = s.destOf p) || s.sameFlow k p) || s.mustWait node unit p then
      s.drainHeld node unit ps (kept ++ [p])
    else (s.sendNow node unit p).drainHeld node unit ps kept

/-- A source sends packets in order, under pacing (R135, R136). -/
def State.release (s : State) (node unit : Nat) (ps : List Packet) : State :=
  s.drainHeld node unit (s.held node unit ++ ps) []

/-- The oldest landing reply (or its timeout) is off the pacer's account; held packets go on. -/
def State.paceDone (s : State) (node unit flow : Nat) : State :=
  let k := paceKey node unit flow
  let pc := s.paceOf k
  let s1 := s.setPace k (if pc.owed ≤ 1 then Pace.none else { pc with sent := pc.sent.drop 1 })
  s1.release node unit []

end Sys2Proof.Machine
end

