-- ==== Sys2Proof/Machine/NetOps.lean ====
section
/-! DEFINITION. Operations of the Trellis: headers, routes and Belvedere filters, requests and their responses, the
routing states of nodes, hold buffers, and the writes that only the warden may make (11_trellis_network). -/

namespace Sys2Proof.Machine

/-! ### Commands and headers (Tables 11-3 and 11-4) -/

/-- CMD of a request. A commit that a strand released is the posted QCMT; others are QCTL. -/
def ReqOp.cmd (q : Req) : ReqOp → Nat
  | .rdw _ _ => 0x10
  | .wrw _ _ => 0x11
  | .setw _ _ => 0x12
  | .clrw _ _ => 0x13
  | .qput _ _ => 0x15
  | .qget _ => 0x16
  | .qcommit _ => if Master.kind q.master = 1 then 0x05 else 0x17
  | .qrwd _ => 0x17
  | .qdrop _ => 0x17
  | .qstat _ => 0x17
  | .qpstat _ => 0x17
  | .lkTry _ => 0x18
  | .lkWait _ => 0x18
  | .lkPeek _ => 0x18
  | .lkRel _ => 0x19
  | .lkRec _ => 0x19
  | .rd _ => 0x1A
  | .rdx _ => 0x1B
  | .rdu _ => 0x1C
  | .wru _ _ => 0x1D
  | .wb _ _ => 0x1E
  | .evc _ => 0x1F
  | .cwr _ _ => 0x20
  | .fwdS _ => 0x34
  | .fwdX _ => 0x35
  | .inv _ => 0x36
  | .regrd _ => 0x38
  | .regwr _ _ => 0x39
  | .rrd _ _ => 0x3C
  | .rwr _ _ => 0x3D
  | .alloc => 0x14
  | .spres => 0x21

/-- A message of VC4 (Table 11-4). -/
def ReqOp.vc4 : ReqOp → Bool
  | .fwdS _ => true
  | .fwdX _ => true
  | .inv _ => true
  | _ => false

/-- The request expects data in its response (R356). -/
def ReqOp.wantsData : ReqOp → Bool
  | .rdw _ _ => true
  | .rd _ => true
  | .rdx _ => true
  | .rdu _ => true
  | .qput _ _ => true
  | .qget _ => true
  | .qstat _ => true
  | .qpstat _ => true
  | .lkTry _ => true
  | .lkWait _ => true
  | .lkPeek _ => true
  | .regrd _ => true
  | .rrd _ _ => true
  | .alloc => true
  | .spres => true
  | _ => false

/-- A request that has no response: a posted commit or a Rolvia-mode write. -/
def ReqOp.posted (q : Req) : ReqOp → Bool
  | .qcommit _ => decide (Master.kind q.master = 1)
  | .rwr _ _ => true
  | _ => false

/-- Header of a request on the die. -/
def State.reqHeader (s : State) (q : Req) (op : ReqOp) : Triple :=
  mkHeader (cmdVc (op.cmd q)) (op.cmd q) q.dest q.node q.unit q.tenant q.rid s.deviceNo

/-- Header of a response of command `cmd`. -/
def State.rspHeader (s : State) (p : Rsp) (cmd : Nat) : Triple :=
  mkHeader (cmdVc cmd) cmd p.node p.src p.unit ((if p.dup then 256 else 0) + p.status % 8 * 32) p.rid s.deviceNo

/-! ### Ports and routes (R332, R333, R629) -/

/-- Nodes attached to a cluster that hold a port index of their own, ascending (R629). -/
def attached (m : Member) (c : Nat) : List Nat :=
  (List.range 512).filter (fun n =>
    nodePresent m n && decide (clusterOf m n = c) && !(decide (0x1A1 ≤ n) && decide (n < 0x1E0)))

/-- Input port index of a node within its cluster (R629). -/
def nodePort (m : Member) (n : Nat) : Nat :=
  let k := if 0x1A0 ≤ n ∧ n < 0x1E0 then 0x1A0 else n
  ((attached m (clusterOf m n)).filter (fun j => decide (j < k))).length

/-- Mesh height (R332). -/
def meshHeight (m : Member) : Nat := terraceCount m / meshWidth m

/-- Neighbours of a cluster that exist, in the order X − 1, X + 1, Y − 1, Y + 1 (R629). -/
def neighbours (m : Member) (c : Nat) : List Nat :=
  (if clusterX m c > 0 then [c - 1] else [])
    ++ (if clusterX m c + 1 < meshWidth m then [c + 1] else [])
    ++ (if clusterY m c > 0 then [c - meshWidth m] else [])
    ++ (if clusterY m c + 1 < meshHeight m then [c + meshWidth m] else [])

/-- Input port of cluster `c` from neighbour `b`. -/
def meshPort (m : Member) (c b : Nat) : Nat :=
  (attached m c).length + ((neighbours m c).takeWhile (fun k => decide (k ≠ b))).length

/-- Next cluster on the way: X first, then Y (R333). -/
def nextCluster (m : Member) (c d : Nat) : Nat :=
  if clusterX m c < clusterX m d then c + 1
  else if clusterX m d < clusterX m c then c - 1
  else if clusterY m c < clusterY m d then c + meshWidth m
  else c - meshWidth m

/-- The clusters and input ports that a packet passes, at most `n` further ones. -/
def routeFrom (m : Member) (d : Nat) : Nat → Nat → Nat → List (Nat × Nat)
  | 0, c, p => [(c, p)]
  | n + 1, c, p => if c = d then [(c, p)] else
      (c, p) :: routeFrom m d n (nextCluster m c d) (meshPort m (nextCluster m c d) c)

/-- The route of a packet between two nodes. -/
def route (m : Member) (src dst : Nat) : List (Nat × Nat) :=
  routeFrom m (clusterOf m dst) 8 (clusterOf m src) (nodePort m src)

/-! ### Belvedere filters (R361, R362) -/

def Reg.blv (c k w : Nat) : Nat := 0x007800 + 64 * c + 16 * k + w

/-- One filter sees a header at a port. -/
def State.filterSees (s : State) (c k port : Nat) (h : Triple) (retry poison : Bool) : State :=
  let w0 := s.reg (Reg.blv c k 0)
  let m := Triple.ofWords (s.reg (Reg.blv c k 1)) (s.reg (Reg.blv c k 2)) (s.reg (Reg.blv c k 3))
  let mask := Triple.ofWords (s.reg (Reg.blv c k 4)) (s.reg (Reg.blv c k 5)) (s.reg (Reg.blv c k 6))
  if w0.bit 23 && (decide (w0.field 10 6 = 63) || decide (w0.field 10 6 = port))
      && decide (h &&& mask = m) && (w0.bit 21 == retry) && (!(w0.bit 20) || poison) then
    let s1 := s.bump (Reg.blv c k 7)
    if w0.bit 22 then
      let t := s.time
      s1.send (.queueRec (w0.field 0 10) (0x200 + 4 * c + k)
        [h.word 0, h.word 1, h.word 2, t.word 0, t.word 1, t.word 2])
    else s1
  else s

/-- The four filters of a cluster see a header. -/
def State.clusterSees (s : State) (c port : Nat) (h : Triple) (retry poison : Bool) : State :=
  (((s.filterSees c 0 port h retry poison).filterSees c 1 port h retry poison).filterSees c 2 port h retry
    poison).filterSees c 3 port h retry poison

/-- A packet has passed from one node to another. Filters that watch resent packets act at HOP_RESEND. -/
def State.passes (s : State) (src dst : Nat) (h : Triple) (poison : Bool) : State :=
  (route s.member src dst).foldl (fun s e => s.clusterSees e.1 e.2 h false poison) s

/-- A router discards a header (R337, R347). A router is no node, and the NODE that its record names is not stated. -/
def State.badHeader (s : State) (cl port : Nat) (m : Word) (h : Triple) : State :=
  let d := s.draw
  (d.2.bump (Reg.cluster cl 3)).log 0x30 (d.1.toNat % 1024) m (BitVec.ofNat 24 (port % 64)) (some h)

/-- The first router of a packet discards it for a VC that its command does not allow (R337). -/
def State.badVc (s : State) (node : Nat) (m : Word) (h : Triple) : State :=
  s.badHeader (clusterOf s.member node) (nodePort s.member node) m h

/-! ### Sending and answering requests (R341, R349) -/

/-- Reserve a response entry: the request's number, and the state in which it is awaited. Its timeout is the one that TRL.TMO
gives now (R364). (log 95, DESIGN CHOICE) -/
def State.await (s : State) (node unit tenant : Nat) (master : Word) (dest : Nat) (op : ReqOp) (addr : Word)
    (who : Requester) : Nat × State :=
  let rid := Map.get (fun _ => 0) s.net.ridNext node
  (rid, { s with net := { s.net with
      ridNext := Map.set (fun _ => 0) s.net.ridNext node ((rid + 1) % 16384)
      outst := s.net.outst ++ [(⟨⟨dest, node, unit, rid, tenant, master, 0⟩, op, addr, s.elapsed, s.onchipUs, none, who⟩ : Outst)] } })

/-- Send a request and await its response. -/
def State.request (s : State) (node unit tenant : Nat) (master : Word) (dest : Nat) (op : ReqOp) (addr : Word)
    (who : Requester) : Nat × State :=
  let r := s.await node unit tenant master dest op addr who
  (r.1, r.2.send (.req ⟨dest, node, unit, r.1, tenant, master, 0⟩ op))

/-- Send a posted request: no response is awaited. -/
def State.post (s : State) (node unit tenant : Nat) (master : Word) (dest : Nat) (op : ReqOp) : State :=
  s.send (.req ⟨dest, node, unit, 0, tenant, master, 0⟩ op)

/-- The outstanding request that a response names. -/
def State.outstOf (s : State) (node rid : Nat) : Option Outst :=
  s.net.outst.find? (fun o => decide (o.q.node = node ∧ o.q.rid = rid))

/-- Free the response entry. -/
def State.dropOutst (s : State) (node rid : Nat) : State :=
  { s with net := { s.net with outst := s.net.outst.filter (fun o => !decide (o.q.node = node ∧ o.q.rid = rid)) } }

/-- Response header for a request. -/
def rspOf (q : Req) (status : Nat) : Rsp := ⟨q.node, q.unit, q.rid, q.dest, status, false, 0⟩

/-- Answer a request with a status alone. -/
def State.answer (s : State) (q : Req) (status : Nat) : State := s.send (.rsp (rspOf q status))

/-- Answer a request with data. -/
def State.answerData (s : State) (q : Req) (ws : List Word) : State := s.send (.rdata (rspOf q 0) ws)

/-- Target address of a request for an event-log record. -/
def ReqOp.addr : ReqOp → Nat
  | .rdw a _ => a
  | .wrw a _ => a
  | .setw a _ => a
  | .clrw a _ => a
  | .cwr a _ => a
  | .rd l => 8 * l
  | .rdx l => 8 * l
  | .rdu w => w
  | .wru w _ => w
  | .regrd a => a
  | .regwr a _ => a
  | .rrd a _ => a
  | .rwr a _ => a
  | _ => 0

/-- The target or a router refuses a request: its answer, or the discard of a Rolvia-mode write (R344). (log 72, DEDUCED) -/
def State.refuse (s : State) (q : Req) (op : ReqOp) (status : Nat) : State :=
  match op with
  | .rwr a _ => (s.bumpCluster q.dest 10).log 0x59 q.dest q.master (BitVec.ofNat 24 a) (some (s.reqHeader q op))
  | .rrd _ _ => s.send (.rrsp (rspOf q status) [])
  | .inv l => s.send (.ack (rspOf q 0) l)
  | .qcommit _ => if Master.kind q.master = 1 then s else s.answer q status
  | _ => s.answer q status

/-! ### Routing states (Table 11-8, R357 to R359) -/

/-- The node's domain is FAILED (R358). -/
def State.nodeFailed (s : State) (n : Nat) : Bool := decide (s.powerOf (domainOf n) = 5)

/-- Requests parked at a cluster. -/
def State.parkedAt (s : State) (c : Nat) : List ParkedReq := s.net.parked.filter (fun k => decide (k.cluster = c))

/-- Park a request and tell the requester (R358). -/
def State.park (s : State) (q : Req) (op : ReqOp) : State :=
  let c := clusterOf s.member q.dest
  let first := !(s.net.parked.any (fun k => decide (k.q.dest = q.dest)))
  let s1 := { s with net := { s.net with parked := s.net.parked ++ [(⟨c, q, op⟩ : ParkedReq)] } }
  let s2 := s1.bumpCluster q.dest 8
  let s3 := if op.posted q then s2 else s2.send (.hold ⟨q.node, q.unit, q.rid, q.dest, 0, false, 0⟩)
  if first && decide (s.nodeState q.dest = 1) then s3.askWake q.dest else s3

/-- The domain of the node failed: every parked request is answered with STATUS 4. -/
def State.failParked (s : State) (n : Nat) : State :=
  let mine := s.net.parked.filter (fun k => decide (k.q.dest = n))
  let s1 := { s with net := { s.net with parked := s.net.parked.filter (fun k => decide (k.q.dest ≠ n)) } }
  mine.foldl (fun s k => s.refuse k.q k.op 4) s1

/-- A message of VC4 to a node that does not take it (Table 11-8). (log 72, DEDUCED) -/
def State.refuseVc4 (s : State) (q : Req) (op : ReqOp) : State :=
  let s1 := s.bumpCluster q.dest 4
  let s2 := if s.nodeState q.dest = 1 ∧ q.dest < 0x100 then s1.bump (pavBase q.dest + 0x308) else s1
  s2.refuse q op 3

/-- A request reaches the cluster of its destination: it is delivered, parked, refused, or left waiting where the
hold buffer is full. A request with a poisoned unit is answered with STATUS 5 (Table 11-7); `own` marks packets
whose target deals with poison itself. -/
def State.arriveReq (s : State) (q : Req) (op : ReqOp) (own : Bool) (serve : State → Out) : Out :=
  if nodePresent s.member q.dest = false then .fault .absentUnit
  else
    let s1 := (s.take (.req q op)).passes q.node q.dest (s.reqHeader q op) (decide (q.poison ≠ 0))
    let st := s.nodeState q.dest
    let deliver := if decide (q.poison ≠ 0) && !own then .next (s1.refuse q op 5) else serve s1
    if op.vc4 then (if st = 0 ∨ st = 2 then deliver else .next (s1.refuseVc4 q op))
    else if st = 0 then deliver
    else if st = 3 then .next ((s1.bumpCluster q.dest 4).refuse q op 3)
    else if s.nodeFailed q.dest then .next (s1.refuse q op 4)
    else if (s.parkedAt (clusterOf s.member q.dest)).length ≥ 16 then .next s
    else .next (s1.park q op)

/-- A posted packet of VC2 or VC3 reaches a node (Table 11-8): delivered in ON and FENCING. -/
def State.arrivePosted (s : State) (src dst : Nat) (p : Packet) (h : Triple) (poison : Bool) (serve : State → Out) : Out :=
  let s1 := (s.take p).passes src dst h poison
  if s.nodeState dst = 0 ∨ s.nodeState dst = 2 then serve s1 else .next (s1.bumpCluster dst 4)

/-- A response reaches its requester (Table 11-8, R351, R356): discarded, absorbed, or handed on with the request it
answers and its STATUS. -/
def State.arriveRsp (s : State) (p : Rsp) (pkt : Packet) (cmd : Nat) (deliver : Outst → Nat → State → Out) : Out :=
  let s1 := (s.take pkt).passes p.src p.node (s.rspHeader p cmd) (decide (p.poison ≠ 0))
  if s.nodeState p.node = 1 ∨ s.nodeState p.node = 3 then .next (s1.bumpCluster p.node 4)
  else
    match s.outstOf p.node p.rid with
    | none => .next (s1.bumpCluster p.node 6)
    | some o =>
      if p.dup then
        let s2 := if o.op.wantsData then
            s1.log 0x18 p.node 0 (BitVec.ofNat 24 p.rid) (some (s.rspHeader p cmd)) else s1
        deliver o (if o.op.wantsData then 2 else p.status) (s2.dropOutst p.node p.rid)
      else deliver o (if decide (p.poison ≠ 0) then 5 else p.status) (s1.dropOutst p.node p.rid)

/-! ### Multi-word registers (R19) -/

def bufKey (m : Word) (base : Nat) : Nat := m.toNat * 2 ^ 24 + base
/-- The lower words of a register that a master has written. -/
def State.wbuf (s : State) (m : Word) (base : Nat) : List (Nat × Word) := Map.get (fun _ => []) s.bufs.wbufs (bufKey m base)
def State.setWbuf (s : State) (m : Word) (base : Nat) (v : List (Nat × Word)) : State :=
  { s with bufs := { s.bufs with wbufs := Map.set (fun _ => []) s.bufs.wbufs (bufKey m base) v } }
/-- The words that a write of the highest of `n` words makes effective, with their numbers: the last one that the
master wrote to each lower word since its last such write, then `v`. -/
def State.written (s : State) (m : Word) (base n : Nat) (v : Word) : List (Nat × Word) :=
  let b := s.wbuf m base
  ((List.range (n - 1)).filterMap (fun k => ((b.filter (fun x => decide (x.1 = k))).getLast?.map (fun x => (k, x.2)))))
    ++ [(n - 1, v)]

/-- The bits written to word `k`; a word that was not written has none. -/
def wrote (ws : List (Nat × Word)) (k : Nat) : Word := ((ws.find? (fun e => decide (e.1 = k))).map Prod.snd).getD 0

/-! ### Writes of the warden (R15) -/

/-- The master is a strand of tenant 0, or a remote master under management that a link maps to it (R466). -/
def isWarden (q : Req) : Bool :=
  decide (Master.kind q.master = 1 ∧ q.tenant = 0) || decide (0x180 ≤ q.node ∧ q.node < 0x190 ∧ q.tenant = 0)

/-- In RECOVERY the debug port reaches AON, the FIL control range and FIL.RBUF, whatever the permit (R556). -/
def recoveryReg (a : Nat) : Bool := decide (0x002000 ≤ a ∧ a < 0x004000)

/-- The access comes from the debug port in RECOVERY. -/
def State.inRecovery (s : State) (q : Req) : Bool :=
  decide (s.regField 0x003000 21 3 = 3) && decide (q.node = nodePcie 0x3F)

/-- The master may write a register of the warden. -/
def State.mayWarden (s : State) (q : Req) (a : Nat) : Bool :=
  if s.inRecovery q then recoveryReg a else isWarden q

/-- A register access outside its domain: STATUS 2 and record 0x10 (R15). (log 31, DEDUCED) -/
def State.refuseDomain (s : State) (q : Req) (op : ReqOp) (a : Nat) : State :=
  (s.log 0x10 q.dest q.master (BitVec.ofNat 24 a) none).refuse q op 2

/-- A warden write of `v` to register `a` that triggers an action: the action happens where `v` asks it, then the
write is answered. -/
def State.wardenWrite (s : State) (q : Req) (a : Nat) (v : Word) (asked : Bool) (act : State → State) : Out :=
  if asked = false then .next s
  else s.arriveReq q (.regwr a v) false (fun s1 =>
    if s1.mayWarden q a then .next ((act s1).answer q 0) else .next (s1.refuseDomain q (.regwr a v) a))

/-- A warden write that takes the core away: nothing answers it. -/
def State.wardenLast (s : State) (q : Req) (a : Nat) (v : Word) (asked : Bool) (act : State → State) : Out :=
  if asked = false then .next s
  else s.arriveReq q (.regwr a v) false (fun s1 =>
    .next (if s1.mayWarden q a then act s1 else s1.refuseDomain q (.regwr a v) a))

/-- The host: its physical function, or the debug function of JTAG (R476, R495). -/
def isHost (q : Req) : Bool := decide (Master.kind q.master = 2 ∧ q.tenant = 0)

/-- A write by the warden or the host of `v` to register `a` that triggers an action. -/
def State.openWrite (s : State) (q : Req) (a : Nat) (v : Word) (asked : Bool) (act : State → State) : Out :=
  if asked = false then .next s
  else s.arriveReq q (.regwr a v) false (fun s1 =>
    if s1.mayWarden q a || (isHost q && !s1.inRecovery q) then .next ((act s1).answer q 0) else .next (s1.refuseDomain q (.regwr a v) a))

/-- A write by the warden or the host of the highest word of a register of `n` words (R19). -/
def State.openWhole (s : State) (q : Req) (base n : Nat) (v : Word) (asked : List (Nat × Word) → Bool)
    (act : State → List (Nat × Word) → State) : Out :=
  let ws := s.written q.master base n v
  s.openWrite q (base + n - 1) v (asked ws) (fun s1 => (act s1 ws).setWbuf q.master base [])

/-- A warden write of the highest word of a register of `n` words (R19). -/
def State.wardenWhole (s : State) (q : Req) (base n : Nat) (v : Word) (asked : List (Nat × Word) → Bool)
    (act : State → List (Nat × Word) → State) : Out :=
  let ws := s.written q.master base n v
  s.wardenWrite q (base + n - 1) v (asked ws) (fun s1 => (act s1 ws).setWbuf q.master base [])

end Sys2Proof.Machine
end

