-- ==== Sys2Proof/Machine/MemOps.lean ====
section
/-! DEFINITION. Segments and their translation, scratchpads with spare rows and their check, DDR, legacy RAM and code
stores (09_scratchpads_and_address_spaces). -/

namespace Sys2Proof.Machine

/-! ### Scratchpads (R281 to R291) -/

/-- SPAD.LAYOUT of a pavilion. -/
def State.ctxs (s : State) (p : Nat) : Nat := s.regField (pavBase p + 0x201) 0 5
def State.taskBase (s : State) (p : Nat) : Nat := 64 * s.regField (pavBase p + 0x202) 10 10
/-- Words of one context block (Table 9-5). -/
def State.blockSize (s : State) (p : Nat) : Nat := 768 + 64 * s.ctxs p
/-- Local word where the block of a context starts. -/
def State.blockBase (s : State) (c : CtxId) : Nat := (4 * c.pipe + c.ctx) * s.blockSize c.pav
/-- The local word lies in the context area. -/
def State.inCtxArea (s : State) (p a : Nat) : Bool := decide (a < 16 * s.blockSize p)

def spadKey (p a : Nat) : Nat := 65536 * p + a
def rowKey (p row : Nat) : Nat := 8192 * p + row

def State.rowWritten (s : State) (p row : Nat) : Bool := Map.get (fun _ => false) s.memory.written (rowKey p row)
def State.setWritten (s : State) (p row : Nat) (b : Bool) : State :=
  { s with memory := { s.memory with written := Map.set (fun _ => false) s.memory.written (rowKey p row) b } }

/-- The word in the array. -/
def State.spadRaw (s : State) (p a : Nat) : Word := Map.get (fun _ => 0) s.memory.spad (spadKey p a)
def State.setSpadRaw (s : State) (p a : Nat) (v : Word) : State :=
  { s with memory := { s.memory with spad := Map.set (fun _ => 0) s.memory.spad (spadKey p a) v } }

/-- A word is poisoned (R586). -/
def State.spadBad (s : State) (p a : Nat) : Bool := Map.get (fun _ => false) s.memory.poisoned (spadKey p a)
def State.setSpadBad (s : State) (p a : Nat) (b : Bool) : State :=
  { s with memory := { s.memory with poisoned := Map.set (fun _ => false) s.memory.poisoned (spadKey p a) b } }

/-- A read of a scratchpad word: an unwritten row of the context area reads as zero (R282). (log 8, DESIGN CHOICE) -/
def State.spadRead (s : State) (p a : Nat) : Word :=
  if s.inCtxArea p a && !(s.rowWritten p (a / 8)) then 0 else s.spadRaw p a

/-- Zero the words of a row, `n` of them. -/
def State.zeroRow (s : State) (p row : Nat) : Nat → State
  | 0 => s
  | n + 1 => (s.zeroRow p row n).setSpadRaw p (8 * row + n) 0

/-- A write of a scratchpad word; the first write to a row of the context area fills the row with zeros (R282). -/
def State.spadWrite (s : State) (p a : Nat) (v : Word) : State :=
  let s1 := if s.inCtxArea p a && !(s.rowWritten p (a / 8)) then
      (s.zeroRow p (a / 8) 8).setWritten p (a / 8) true else s
  (s1.setSpadRaw p a v).setSpadBad p a false

/-- What a view writes over an old word (R288). -/
def viewWrite (view : Nat) (old v : Word) : Word :=
  if view = 1 then old ||| v else if view = 2 then old &&& ~~~v else v

/-- Write words from a local word on, through a view. (log 15, DESIGN CHOICE) -/
def State.spadStore (s : State) (p a view : Nat) : List Word → State
  | [] => s
  | w :: ws => (s.spadWrite p a (viewWrite view (s.spadRead p a) w)).spadStore p (a + 1) view ws

/-- Read `n` words from a local word on. -/
def State.spadLoad (s : State) (p a n : Nat) : List Word := (List.range n).map (fun k => s.spadRead p (a + k))

/-- The lowest free spare of a pavilion, from `8 - n` on. -/
def State.freeSpare (s : State) (p : Nat) : Nat → Option Nat
  | 0 => none
  | n + 1 => if s.regBit (Reg.remap p (7 - n)) 23 then s.freeSpare p n else some (7 - n)

/-- Remap a row to the lowest free spare, or count that none is free (R291). (log 75, DEDUCED) -/
def State.remapRow (s : State) (p row : Nat) : State :=
  match s.freeSpare p 8 with
  | some k => (s.setReg (Reg.remap p k) (BitVec.ofNat 24 (0x800000 + row % 8192))).log 0x29 p 0
      (BitVec.ofNat 24 (k * 8192 + row % 8192)) none
  | none => (s.bump (Reg.spadStat p 5)).log 0x2A p 0 (BitVec.ofNat 24 (row % 8192)) none

/-- The check of a scratchpad read (R281, R291, R586): the state after it, and whether the access completes with
STATUS 5. (log 12, DESIGN CHOICE) -/
def State.spadCheck (s : State) (p a : Nat) (e : Ecc) : State × Bool :=
  match e with
  | .sound => (s, s.spadBad p a)
  | .single =>
    let s1 := s.bump (Reg.spadStat p 0)
    let k := rowKey p (a / 8)
    let n := Map.get (fun _ => 0) s1.memory.rowCorr k + 1
    let s2 := { s1 with memory := { s1.memory with rowCorr := Map.set (fun _ => 0) s1.memory.rowCorr k n } }
    let th := s2.regField (pavBase p + 0x200) 0 8
    (if th ≠ 0 ∧ n = th then s2.remapRow p (a / 8) else s2, s.spadBad p a)
  | .double =>
    let s1 := (s.bump (Reg.spadStat p 1)).log 0x28 p 0 (BitVec.ofNat 24 (a % 65536)) none
    ((s1.setSpadBad p a true).remapRow p (a / 8), true)

/-- Some word of a run is poisoned. -/
def State.spadAnyBad (s : State) (p a n : Nat) : Bool := (List.range n).any (fun k => s.spadBad p (a + k))

/-- Clear the written bits of a context block at an activation's first issue (R282). -/
def State.clearBlock (s : State) (c : CtxId) : State :=
  let base := s.blockBase c / 8
  (List.range (s.blockSize c.pav / 8)).foldl (fun s r => s.setWritten c.pav (base + r) false) s

/-- Zero a run of local words. -/
def State.spadZero (s : State) (p a : Nat) : Nat → State
  | 0 => s
  | n + 1 => (s.spadZero p a n).spadWrite p (a + n) 0

/-! ### DDR and legacy RAM (R294, R486, R489) -/

def Reg.ddr (c w : Nat) : Nat := 0x0D8000 + 16 * c + w
def Reg.legCtl : Nat := 0x0DC000
def Reg.legStat (w : Nat) : Nat := 0x0DC001 + w

/-- DDR channel of a word, and the word's number within it (R294). -/
def State.ddrChannel (s : State) (d : Nat) : Nat := (d / 16) % unitCount s.member .ddrs
def State.ddrIndex (s : State) (d : Nat) : Nat := d / 16 / unitCount s.member .ddrs * 16 + d % 16
/-- The word lies in trained memory (R486). -/
def State.ddrPresent (s : State) (d : Nat) : Bool :=
  let c := s.ddrChannel d
  s.regBit (Reg.ddr c 0) 23 && decide (s.ddrIndex d < s.regField (Reg.ddr c 0) 0 8 * 33554432)
def State.ddrRead (s : State) (d : Nat) : Word := Map.get (fun _ => 0) s.memory.ddr d
def State.ddrWrite (s : State) (d : Nat) (v : Word) : State :=
  { s with memory := { s.memory with ddr := Map.set (fun _ => 0) s.memory.ddr d v } }

/-- The check of a DDR read (R486): the state after it, and whether it completes with STATUS 5. (log 12, DESIGN CHOICE) -/
def State.ddrCheck (s : State) (d : Nat) (e : Ecc) : State × Bool :=
  match e with
  | .sound => (s, false)
  | .single => (s.bump (Reg.ddr (s.ddrChannel d) 1), false)
  | .double => (s.bump (Reg.ddr (s.ddrChannel d) 2), true)

/-- Legacy RAM words hold [15:0] (R489). -/
def State.legRead (s : State) (w : Nat) : Word := Map.get (fun _ => 0) s.memory.legacy w
def State.legWrite (s : State) (w : Nat) (v : Word) : State :=
  { s with memory := { s.memory with legacy := Map.set (fun _ => 0) s.memory.legacy w (v &&& 0x00FFFF) } }

/-- Legacy words from an address on. -/
def State.legStoreAll (s : State) (w : Nat) : List Word → State
  | [] => s
  | v :: vs => (s.legWrite w v).legStoreAll (w + 1) vs

/-! ### Code stores (R295 to R297) -/

def codeKey (p a : Nat) : Nat := 16384 * p + a
def State.codeRead (s : State) (p a : Nat) : Word := Map.get (fun _ => 0) s.strands.code (codeKey p a)
def State.codeWrite (s : State) (p a : Nat) (v : Word) : State :=
  { s with strands := { s.strands with code := Map.set (fun _ => 0) s.strands.code (codeKey p a) v } }

/-! ### Homes of tasks (R283, R585) -/

/-- The pavilion where a task's record lies if LOC is 0: HOMEPAV, or ALT once the records were moved. -/
def State.homePav (s : State) (n : Nat) : Nat :=
  let p := (s.task n).homepav
  if s.regBit (Reg.depPav p) 19 then s.regField (Reg.depPav p) 0 8 else p
/-- The record lies in DDR. -/
def State.recInDdr (s : State) (n : Nat) : Bool := s.regBit (Reg.taskRec n) 23
/-- Scratch block of a task, in words. -/
def State.taskScratch (s : State) (n : Nat) : Nat := 64 * s.regField (Reg.taskRec n) 16 7
/-- Start of a task's record: local word, or DDR word. -/
def State.recBase (s : State) (n : Nat) : Nat :=
  if s.recInDdr n then (s.reg 0x003010).toNat * 4096 + n * s.regField 0x003011 0 13 * 64
  else 64 * s.regField (Reg.taskRec n) 0 10

/-- A word of a task's record. -/
def State.recRead (s : State) (n k : Nat) : Word :=
  if s.recInDdr n then s.ddrRead (s.recBase n + k) else s.spadRead (s.homePav n) (s.recBase n + k)
def State.recWrite (s : State) (n k : Nat) (v : Word) : State :=
  if s.recInDdr n then s.ddrWrite (s.recBase n + k) v else s.spadWrite (s.homePav n) (s.recBase n + k) v
/-- Write words of a task's record from offset `k` on. -/
def State.recStore (s : State) (n k : Nat) : List Word → State
  | [] => s
  | w :: ws => (s.recWrite n k w).recStore n (k + 1) ws
/-- Clear a task's record and scratch block (R283). -/
def State.recClear (s : State) (n : Nat) : State :=
  (List.range (1024 + s.taskScratch n)).foldl (fun s k => s.recWrite n k 0) s

/-! ### Translation (R272 to R278) -/

/-- Where one word of an access goes. -/
inductive Target where
  /-- The issuing pavilion's own scratchpad: local word and view. -/
  | own (a view : Nat)
  /-- Another pavilion's scratchpad over the Trellis. -/
  | remote (p a view : Nat)
  | state (w : Nat)
  | ddr (d : Nat)
  | queue (w : Nat)
  | locket (w : Nat)
  | port (w : Nat)
  | device (a : Nat)
  | status (a : Nat)
  | legacy (w : Nat)
deriving DecidableEq, Repr

/-- Words of the state space (R308). -/
def State.stateSize (s : State) : Nat := sliceCount s.member * s.regField 0x008000 7 7 * 4096

/-- A word of a segment descriptor as the context has it in force (Table 7-8); a strand of an old epoch uses the old ones,
which FIL.SEGNEXT holds (R565, R566). -/
def State.segWord (s : State) (x : Context) (a : Nat) : Word :=
  match x.segOld.find? (fun e => decide (e.1 = a)) with
  | some e => e.2
  | none =>
    if x.epoch ≠ Map.get (fun _ => 0) s.hub.epoch x.tenant then s.reg (0x05D000 + (a - 0x040000) % 128) else s.reg a

/-- The kind and base of a descriptor that maps nothing (R273). -/
def segNothing (kind view base : Nat) : Bool :=
  decide (kind = 0) || decide (kind > 10)
    || (decide (view ≠ 0) && !(decide (kind = 1) || decide (kind = 2)))
    || (decide (kind = 1 ∨ kind = 2) && decide (view = 3))
    || (decide (kind = 1) && decide (base / 1024 ≠ 0))
    || (decide (kind = 2) && decide (base / 1024 % 64 ≠ 0))
    || (decide (kind = 9) && decide (base ≠ 0))

/-- The target of a mapped word (Table 9-1), if it lies within its storage. (log 76, DESIGN CHOICE) -/
def State.segTarget (s : State) (kind view base off : Nat) : Option Target :=
  match kind with
  | 1 => let a := base % 1024 * 64 + off; if a < 65536 then some (.own a view) else none
  | 2 =>
    let a := base % 1024 * 64 + off
    let p := base / 65536
    if a < 65536 ∧ unitPresent s.member .pavs p = true then some (.remote p a view) else none
  | 3 => let w := base * 64 + off; if w < s.stateSize then some (.state w) else none
  | 4 => let d := base * 4096 + off; if s.ddrPresent d then some (.ddr d) else none
  | 5 => let w := base * 64 + off; if w < 8 * unitCount s.member .queues then some (.queue w) else none
  | 6 => let w := base * 64 + off; if w < 256 * unitCount s.member .lockets then some (.locket w) else none
  | 7 => let w := base * 64 + off; if w < 16 * unitCount s.member .cells then some (.port w) else none
  | 8 => let a := base * 64 + off; if a < 0x1000000 then some (.device a) else none
  | 9 => some (.status off)
  | 10 => let w := base * 64 + off; if w < 32768 then some (.legacy w) else none
  | _ => none

/-- The scratch block that segment 63 maps: its target from an offset, and its size (R274). -/
def State.scratchTarget (s : State) (c : CtxId) (x : Context) (off : Nat) : Option Target :=
  if x.isTask then
    if off ≥ s.taskScratch x.task then none
    else if s.recInDdr x.task then some (.ddr (s.recBase x.task + 1024 + off))
    else
      let a := s.recBase x.task + 1024 + off
      if s.homePav x.task = c.pav then some (.own a 0) else some (.remote (s.homePav x.task) a 0)
  else if off ≥ 64 * s.ctxs c.pav then none
  else some (.own (s.blockBase c + 768 + off) 0)

/-- TRANSLATE(a, dir) of R275; none is SEGMENT. (log 76, DESIGN CHOICE) -/
def State.translate (s : State) (c : CtxId) (x : Context) (a : Word) (write : Bool) : Option Target :=
  let sg := a.field 18 6
  let off := a.field 0 18
  if sg = 63 then s.scratchTarget c x off
  else
    let w0 := s.segWord x (Reg.seg x.tenant sg 0)
    let base := (s.segWord x (Reg.seg x.tenant sg 1)).toNat
    let kind := w0.field 20 4
    if segNothing kind (w0.field 18 2) base || (if write then !(w0.bit 16) else !(w0.bit 17))
        || decide (off ≥ 64 * w0.field 0 13) || (decide (kind = 8) && decide (x.tenant ≠ 0)) then none
    else s.segTarget kind (w0.field 18 2) base off

/-- The targets of `n` words from an address, if every word is mapped in one segment (R195). -/
def State.translateAll (s : State) (c : CtxId) (x : Context) (a : Word) (write : Bool) : Nat → Option (List Target)
  | 0 => some []
  | n + 1 =>
    match s.translateAll c x a write n with
    | none => none
    | some ts =>
      let b := a + BitVec.ofNat 24 n
      if b.field 18 6 ≠ a.field 18 6 then none
      else match s.translate c x b write with
        | none => none
        | some t => some (ts ++ [t])

/-- The target lies in the issuing pavilion's own scratchpad (R229). -/
def Target.isOwn : Target → Bool
  | .own _ _ => true
  | _ => false

/-- The node that serves a device register (Table 9-2A, R632). -/
def State.servingNode (s : State) (a : Nat) : Nat :=
  if a ≥ 0x800000 then
    let p := (a - 0x800000) / 0x8000
    if unitPresent s.member .pavs p then p else nodeHub
  else if a < 0x001000 then nodeLog
  else if a < 0x002000 then nodePwr
  else if a < 0x003000 then nodeAon
  else if a < 0x004000 then nodeLoader
  else if a < 0x005000 then (if 0x004040 ≤ a ∧ a < 0x004042 then nodeAon else nodeTime)
  else if a < 0x006000 then nodePwr
  else if 0x006100 ≤ a ∧ a < 0x006100 + 8 * sliceCount s.member then nodeSlice ((a - 0x006100) / 8)
  else if 0x009000 ≤ a ∧ a < 0x009000 + 16 * sliceCount s.member then nodeSlice ((a - 0x009000) / 16)
  else if 0x00A000 ≤ a ∧ a < 0x00C000 then nodeSlice ((a - 0x00A000) / 2 % sliceCount s.member)
  else if 0x020000 ≤ a ∧ a < 0x028000 then nodeQueues
  else if 0x028000 ≤ a ∧ a < 0x030000 then nodeLockets
  else if 0x040000 ≤ a ∧ a < 0x060000 then nodeLoader
  else if 0x081000 ≤ a ∧ a < 0x081000 + 4 * unitCount s.member .banks then nodeBank ((a - 0x081000) / 4)
  else if 0x088000 ≤ a ∧ a < 0x088000 + 32 * unitCount s.member .cells then nodeBank ((a - 0x088000) / 32 / 32)
  else if 0x0C0100 ≤ a ∧ a < 0x0C0100 + 8 * unitCount s.member .links then nodeLink ((a - 0x0C0100) / 8)
  else if 0x0D0000 ≤ a ∧ a < 0x0D0000 + 16 * unitCount s.member .eths then nodeEth ((a - 0x0D0000) / 16)
  else if 0x0D4000 ≤ a ∧ a < 0x0D8000 then nodePcie 0
  else if 0x0D8000 ≤ a ∧ a < 0x0D8000 + 16 * unitCount s.member .ddrs then nodeDdr ((a - 0x0D8000) / 16)
  else if 0x0DC000 ≤ a ∧ a < 0x0E0000 then nodeLegacy
  else nodeHub

/-- The device register address of a target in the device register window or a status page. -/
def Target.reg : Target → Option Nat
  | .device a => some a
  | .status a => some a
  | _ => none

end Sys2Proof.Machine
end

