-- ==== Sys2Proof/Machine/Sched.lean ====
section
/-! DEFINITION. Resident contexts: which one issues, when a context becomes ready, pending alerts, and how the result
of an access reaches the registers (R230, R231, R240). -/

namespace Sys2Proof.Machine

/-- The context of a pipeline that is ISSUING. (log 3, DESIGN CHOICE) -/
def State.issuing (s : State) (p q : Nat) : Option Nat :=
  (List.range 4).find? (fun c => decide ((s.ctx ⟨p, q, c⟩).state = .issuing))

/-- Context numbers after `c` in cyclic order. -/
def cyclicAfter (c : Nat) : List Nat := [(c + 1) % 4, (c + 2) % 4, (c + 3) % 4, c % 4]

/-- A group-0 context of the pipeline is ready to issue or issues. -/
def State.zeroBusy (s : State) (p q : Nat) : Bool :=
  (List.range 4).any (fun c => let x := s.ctx ⟨p, q, c⟩
    decide (x.wgrp = 0) && (decide (x.state = .ready) || decide (x.state = .issuing)))

/-- The context that issued last. -/
def State.lastCtx (s : State) (p q : Nat) : Nat := Map.get (fun _ => 3) s.strands.lastIssued (4 * p + q)

/-- The pipeline's next context (R231): READY of group 0, then READY; a SUSPENDED one counts as READY once no group-0
context of the pipeline is (R131). -/
def State.chooseCtx (s : State) (p q : Nat) : Option Nat :=
  let cur := s.lastCtx p q
  let st := fun c => (s.ctx ⟨p, q, c⟩).state
  match (cyclicAfter cur).find? (fun c => decide (st c = .ready) && decide ((s.ctx ⟨p, q, c⟩).wgrp = 0)) with
  | some c => some c
  | none => (cyclicAfter cur).find? (fun c => decide (st c = .ready) || (decide (st c = .suspended) && !(s.zeroBusy p q)))

/-- Issue passes to a context. -/
def State.issueTo (s : State) (p q c : Nat) : State :=
  let x := s.ctx ⟨p, q, c⟩
  let s1 := s.setCtx ⟨p, q, c⟩ { x with state := .issuing }
  { s1 with strands := { s1.strands with lastIssued := Map.set (fun _ => 3) s1.strands.lastIssued (4 * p + q) c } }

/-- Issue passes from the context that issued last to the next one, if there is one; a switch is counted (R231, R249). -/
def State.switchAway (s : State) (p q : Nat) : Option State :=
  match s.chooseCtx p q with
  | none => none
  | some c => some (if c = s.lastCtx p q then s.issueTo p q c else (s.issueTo p q c).bump (Reg.pipeStat p q 3))

/-- The pipeline chooses when no context issues: it switches away from one that remains stalled on a long wait (R231). -/
def State.schedule (s : State) (p q : Nat) : State :=
  match s.issuing p q with
  | some _ => s
  | none =>
    if (s.ctx ⟨p, q, s.lastCtx p q⟩).state = .longwait then (s.switchAway p q).getD s
    else match s.chooseCtx p q with
      | none => s
      | some c => s.issueTo p q c

/-- A context takes another state; where it issued, or remained stalled, the pipeline switches. -/
def State.leaveIssue (s : State) (c : CtxId) (x : Context) : State :=
  let t := s.setCtx c x
  if s.lastCtx c.pav c.pipe = c.ctx ∧ ((s.ctx c).state = .issuing ∨ (s.ctx c).state = .longwait) then
    (t.switchAway c.pav c.pipe).getD t
  else t.schedule c.pav c.pipe

/-- The issuing context's next instruction waits for a long-wait result (R230, R231). -/
def State.longStall (s : State) (c : CtxId) : State := s.leaveIssue c { s.ctx c with state := .longwait }

/-- A result has come: a context in LONGWAIT is READY. -/
def State.wakeCtx (s : State) (c : CtxId) : State :=
  let x := s.ctx c
  if x.state = .longwait then (s.setCtx c { x with state := .ready }).schedule c.pav c.pipe else s

/-- Insert a pending alert, lowest cause first. -/
def insertAlert (a : Nat × Nat) : List (Nat × Nat) → List (Nat × Nat)
  | [] => [a]
  | b :: bs => if a.1 < b.1 then a :: b :: bs else b :: insertAlert a bs

/-- Raise an alert in a context (R240): a cause already pending is counted in ALERT_LOST. -/
def State.raiseAlert (s : State) (c : CtxId) (cause info : Nat) : State :=
  let x := s.ctx c
  if x.state = .free ∨ x.state = .saving then s.bump (Reg.pipeStat c.pav c.pipe 6)
  else if x.alerts.any (fun a => decide (a.1 = cause)) then s.bump (Reg.pipeStat c.pav c.pipe 6)
  else
    let s1 := s.setCtx c { x with alerts := insertAlert (cause, info) x.alerts }
    if x.state = .longwait ∧ x.inAlert = false then s1.wakeCtx c else s1

/-- The context stages architectural writes: it runs a restartable routine before MCOMMIT (R217). -/
def Context.stages (x : Context) : Bool :=
  match x.micro with
  | none => false
  | some m => !m.atomic && !m.committed

/-- A write to U0 to U7, which is never staged. -/
def RegWrite.temp : RegWrite → Bool
  | .ring i _ => decide (i ≥ 192)
  | _ => false

/-- Register writes of an access or a long operation: into the registers, or into the staging entries of the
restartable micro-routine that issued it (R217, R238). -/
def Context.landWrites (x : Context) (micro : Bool) (ws : List RegWrite) : Context :=
  match x.micro with
  | some m =>
    if micro && !m.atomic && !m.committed then
      { x.applyAll (ws.filter RegWrite.temp) with
        micro := some { m with staging := m.staging ++ (ws.filter (fun w => !w.temp)).map .reg } }
    else x.applyAll ws
  | none => x.applyAll ws

/-- The identity word of the strand in a context (R388). -/
def State.masterOf (s : State) (c : CtxId) : Word := masterCtx (s.ctx c).tenant c

end Sys2Proof.Machine
end

