-- ==== Sys2Proof/Machine/CohOps.lean ====
section
/-! DEFINITION. State memory: state caches, victim buffers, store buffers, the directory and the service of its homes
(10_coherent_state_memory). -/

namespace Sys2Proof.Machine

def SWord.zero : SWord := ⟨0, false⟩
def Cache.empty : Cache := ⟨[], [], [], [], false⟩
def DirEntry.idle : DirEntry := ⟨.uncached, none, []⟩

def State.cache (s : State) (p : Nat) : Cache := Map.get (fun _ => Cache.empty) s.coh.caches p
def State.setCache (s : State) (p : Nat) (v : Cache) : State :=
  { s with coh := { s.coh with caches := Map.set (fun _ => Cache.empty) s.coh.caches p v } }
def State.dirOf (s : State) (l : Nat) : DirEntry := Map.get (fun _ => DirEntry.idle) s.coh.dir l
def State.setDir (s : State) (l : Nat) (v : DirEntry) : State :=
  { s with coh := { s.coh with dir := Map.set (fun _ => DirEntry.idle) s.coh.dir l v } }
def State.stWord (s : State) (w : Nat) : SWord := Map.get (fun _ => SWord.zero) s.coh.mem w
def State.setStWord (s : State) (w : Nat) (v : SWord) : State :=
  { s with coh := { s.coh with mem := Map.set (fun _ => SWord.zero) s.coh.mem w v } }

/-- The words of a line in the store. -/
def State.stLine (s : State) (l : Nat) : List SWord := (List.range 8).map (fun k => s.stWord (8 * l + k))
/-- Write words from a state word on. -/
def State.setStLine (s : State) (w : Nat) : List SWord → State
  | [] => s
  | v :: vs => (s.setStWord w v).setStLine (w + 1) vs

/-- Home slice of a line (R308). -/
def State.homeOf (s : State) (l : Nat) : Nat := l % sliceCount s.member
def Reg.stHome (sl w : Nat) : Nat := 0x006100 + 8 * sl + w
def Reg.cstat (p w : Nat) : Nat := pavBase p + 0x301 + w

/-- The sharer group of a pavilion (R313). -/
def shareGroup (m : Member) (p : Nat) : Nat := p / terraceCount m
def shareBit (m : Member) (p : Nat) : BitVec 16 := BitVec.ofNat 16 (2 ^ (shareGroup m p % 16))
/-- Pavilions of the groups in a mask. -/
def sharers (m : Member) (mask : BitVec 16) : List Nat :=
  (List.range (unitCount m .pavs)).filter (fun p => mask.getLsbD (shareGroup m p))

/-- Mark the words of poisoned data units: unit `k` holds words 3k to 3k + 2 (R347). -/
def markBad (units : Nat) (k : Nat) : List SWord → List SWord
  | [] => []
  | w :: ws => (if units.testBit (k / 3) then { w with bad := true } else w) :: markBad units (k + 1) ws

/-! ### Lines of a cache (R311) -/

/-- The ways of a set, most recently used first. -/
def Cache.set (k : Cache) (i : Nat) : List CLine := Map.get (fun _ => []) k.sets i
def Cache.putSet (k : Cache) (i : Nat) (v : List CLine) : Cache :=
  { k with sets := Map.set (fun _ => []) k.sets i v }
def Cache.find (k : Cache) (l : Nat) : Option CLine := (k.set (l % 256)).find? (fun e => decide (e.line = l))
/-- Put a line in front of its set. -/
def Cache.put (k : Cache) (e : CLine) : Cache :=
  k.putSet (e.line % 256) (e :: (k.set (e.line % 256)).filter (fun x => decide (x.line ≠ e.line)))
/-- Replace a line in its place, which the order of use keeps. -/
def Cache.mark (k : Cache) (e : CLine) : Cache :=
  k.putSet (e.line % 256) ((k.set (e.line % 256)).map (fun x => if x.line = e.line then e else x))
def Cache.drop (k : Cache) (l : Nat) : Cache :=
  k.putSet (l % 256) ((k.set (l % 256)).filter (fun x => decide (x.line ≠ l)))
def Cache.victim (k : Cache) (l : Nat) : Bool := k.victims.any (fun v => decide (v.line = l))
def Cache.miss (k : Cache) (l : Nat) : Option Miss := k.misses.find? (fun m => decide (m.line = l))
def Cache.dropMiss (k : Cache) (l : Nat) : Cache := { k with misses := k.misses.filter (fun m => decide (m.line ≠ l)) }
/-- Put back a miss. -/
def Cache.putMiss (k : Cache) (m : Miss) : Cache :=
  { k with misses := k.misses.map (fun x => if x.line = m.line then m else x) }

/-- Replace word `i` of a line. -/
def putWord (i : Nat) (v : SWord) : List SWord → List SWord
  | [] => []
  | w :: ws => match i with
    | 0 => v :: ws
    | j + 1 => w :: putWord j v ws

/-- Apply buffered words to a line; a store clears the poison of its word (R323). -/
def applyWords (ws : List SWord) : List (Nat × Word) → List SWord
  | [] => ws
  | e :: es => applyWords (putWord e.1 ⟨e.2, false⟩ ws) es

/-! ### Messages of a cache to the home -/

/-- Send an eviction notice (R312): WB of an M line, EVC of an E line. -/
def State.sendEvict (s : State) (p : Nat) (l : Nat) (dirty : Bool) (ws : List SWord) : State :=
  ((s.request p 0 0 0 (nodeSlice (s.homeOf l)) (if dirty then .wb l ws else .evc l) (BitVec.ofNat 24 (8 * l))
    (.evict p l)).2).bump (Reg.cstat p 2)

/-- Move a line to the victim buffer and send its notice. -/
def State.evictLine (s : State) (p : Nat) (e : CLine) : State :=
  let k := s.cache p
  (s.setCache p { (k.drop e.line) with victims := k.victims ++ [⟨e.line, decide (e.st = .mo), e.ws⟩] }).sendEvict p e.line
    (decide (e.st = .mo)) e.ws

/-- Send the RD or RDX of a miss; a line in the victim buffer waits for its WB_ACK (R317). -/
def State.sendMiss (s : State) (p l : Nat) : State :=
  let k := s.cache p
  match k.miss l with
  | none => s
  | some m =>
    if m.sent || k.victim l then s
    else
      let s1 := s.setCache p (k.putMiss { m with sent := true })
      ((s1.request p 0 0 0 (nodeSlice (s.homeOf l)) (if m.excl then .rdx l else .rd l) (BitVec.ofNat 24 (8 * l))
        (.fill p l)).2).bump (Reg.cstat p 1)

/-- A line is wanted: a miss starts unless one is under way. -/
def State.startMiss (s : State) (p l : Nat) (excl : Bool) : State :=
  let k := s.cache p
  match k.miss l with
  | some _ => s
  | none => (s.setCache p { k with misses := k.misses ++ [⟨l, excl, false, false, [], none⟩] }).sendMiss p l

/-- Buffered stores wait for line `l`. -/
def Cache.bufferedFor (k : Cache) (l : Nat) : List StoreEntry := k.buffer.filter (fun e => decide (e.line = l))

/-- Store-buffer entries of a context slot whose strand still runs. -/
def Cache.slotBuffer (k : Cache) (slot : Nat) : List StoreEntry :=
  k.buffer.filter (fun e => decide (e.slot = slot) && e.live)

/-- Store buffer slot of a context. -/
def slotOf (c : CtxId) : Nat := 4 * c.pipe + c.ctx

/-- The context's store buffer is empty. -/
def State.bufferEmpty (s : State) (c : CtxId) : Bool := ((s.cache c.pav).slotBuffer (slotOf c)).isEmpty

/-! ### Loads that wait for a line -/

/-- Serve the loads of one context that wait for a line, with its words. A poisoned word leaves a bus error (R323)
that the strand takes when it next issues. -/
def State.serveLoads (s : State) (p l : Nat) (ws : List SWord) (slot : Nat) : State :=
  let c : CtxId := ⟨p, slot / 4, slot % 4⟩
  let x := s.ctx c
  let mine := x.waits.filter (fun w => match w.kind with | .state k _ => decide (k = l) | _ => false)
  if mine.isEmpty then s
  else
    let dests := mine.flatMap (fun w => match w.kind with | .state _ ds => ds.map (fun d => (w.micro, d)) | _ => [])
    let bad := dests.any (fun d => ((ws[d.2.1 % 8]?).getD SWord.zero).bad)
    let x1 := dests.foldl (fun x d => x.landWrites d.1 [.ring d.2.2 ((ws[d.2.1 % 8]?).getD SWord.zero).v]) x
    let x2 := { x1 with
      waits := x.waits.filter (fun w => match w.kind with | .state k _ => decide (k ≠ l) | _ => true)
      lateErr := if bad then some (5, BitVec.ofNat 24 (8 * l)) else x1.lateErr }
    (s.setCtx c x2).wakeCtx c

/-- Serve the loads of every context of a pavilion that wait for a line. -/
def State.serveAll (s : State) (p l : Nat) (ws : List SWord) : State :=
  (List.range 16).foldl (fun s k => s.serveLoads p l ws k) s

/-- Contexts that were held for room go on: stores, and the Rolvia-mode reads of a pavilion (R318, R320, R344). -/
def State.wakeStores (s : State) (p : Nat) : State :=
  (List.range 16).foldl (fun s k =>
    let c : CtxId := ⟨p, k / 4, k % 4⟩
    if (s.ctx c).waits.isEmpty then s.wakeCtx c else s) s

/-! ### Fills (R311, R316, R318) -/

/-- Room for a line in its set: a free way, a clean S line, or a victim entry for the least recently used line. (log 71, DEDUCED) -/
def State.makeRoom (s : State) (p l : Nat) : Option State :=
  let k := s.cache p
  let ways := (k.set (l % 256)).filter (fun x => decide (x.line ≠ l))
  if ways.length < 4 then some s
  else match ways.getLast? with
    | none => some s
    | some e =>
      if e.st = .sh then some (s.setCache p (k.drop e.line))
      else if k.victims.length ≥ 4 then none
      else some (s.evictLine p e)

/-- Answer a forward from a line held in M or E (Table 10-4): FDATA, then S or I. -/
def State.answerFwd (s : State) (p : Nat) (excl : Bool) (q : Req) (e : CLine) : State :=
  let k := s.cache p
  let s1 := s.setCache p (if excl then k.drop e.line else k.mark { e with st := .sh })
  (s1.send (.fdata (rspOf q 0) e.line e.ws (decide (e.st = .mo)))).bump (Reg.cstat p 3)

/-- Forwards that a fill held are answered. -/
def State.answerHeld (s : State) (p l : Nat) (fs : List (Bool × Req)) : State :=
  fs.foldl (fun s f => match (s.cache p).find l with
    | some e => s.answerFwd p f.1 f.2 e
    | none => s) s

/-- Buffered stores of a line that is held in E or M take effect. -/
def State.applyStores (s : State) (p l : Nat) : State :=
  let k := s.cache p
  match k.find l with
  | none => s
  | some e =>
    let es := k.bufferedFor l
    if es.isEmpty then s
    else
      let ws := es.foldl (fun ws x => applyWords ws x.ws) e.ws
      (s.setCache p { (k.put { e with st := .mo, ws := ws }) with
        buffer := k.buffer.filter (fun x => decide (x.line ≠ l)) }).wakeStores p

/-- A fill's data takes its place; the loads that wait for it read it before the buffered stores, which came later in
program order (R319). Without a way the fill itself waits. (log 71, DEDUCED) -/
def State.placeFill (s : State) (p l : Nat) (kind : FillKind) (ws : List SWord) : State :=
  let k := s.cache p
  match k.miss l with
  | none => s
  | some m =>
    if kind = .shared && m.dropped then
      let s1 := (s.setCache p (k.dropMiss l)).serveAll p l ws
      if ((s1.cache p).bufferedFor l).isEmpty then s1 else s1.startMiss p l true
    else match s.makeRoom p l with
      | none => s.setCache p (k.putMiss { m with data := some (kind, ws) })
      | some s1 =>
        let st : LineSt := match kind with
          | .shared => .sh
          | .exclusive => .ex
          | .modified => .mo
        let s2 := s1.setCache p (((s1.cache p).dropMiss l).put ⟨l, st, ws⟩)
        let s3 := s2.serveAll p l ws
        let s4 := if st = .sh then
            (if ((s3.cache p).bufferedFor l).isEmpty then s3 else s3.startMiss p l true)
          else s3.applyStores p l
        s4.answerHeld p l m.fwd

/-- A DATA_S, DATA_E or DATA_M reaches the cache (Table 11-7 for a poisoned unit). -/
def State.fillArrives (s : State) (p l : Nat) (kind : FillKind) (units : Nat) (ws : List SWord) : State :=
  let k := s.cache p
  if units = 0 then s.placeFill p l kind ws
  else if kind = .modified then s.placeFill p l kind (markBad units 0 ws)
  else match k.miss l with
    | none => s
    | some m =>
      (s.setCache p { (k.putMiss { m with sent := false, dropped := false }) with
        victims := k.victims ++ [⟨l, false, ws⟩] }).sendEvict p l false ws

/-! ### Flush (R325) -/

/-- Lines of a cache in E or M. -/
def Cache.owned (k : Cache) : List CLine := (k.sets.flatMap (fun e => e.2)).filter (fun e => decide (e.st ≠ .sh))

/-- Evict owned lines while the victim buffer has room, at most `n`. -/
def State.evictSome (s : State) (p : Nat) : Nat → State
  | 0 => s
  | n + 1 =>
    let k := s.cache p
    if k.victims.length ≥ 4 then s
    else match k.owned with
      | [] => s
      | e :: _ => (s.evictLine p e).evictSome p n

/-- A flush goes on: store buffers first, then notices, then the S lines; it ends when nothing is left. -/
def State.flushStep (s : State) (p : Nat) : State :=
  let k := s.cache p
  if k.flushing && k.buffer.isEmpty then
    let s1 := s.evictSome p 4
    let k1 := s1.cache p
    if k1.owned.isEmpty then
      s1.setCache p { k1 with sets := [], flushing := !(k1.victims.isEmpty && k1.misses.isEmpty) }
    else s1
  else s

/-- A flush starts. -/
def State.flushStart (s : State) (p : Nat) : State :=
  (s.setCache p { s.cache p with flushing := true }).flushStep p

/-- The state cache holds nothing and awaits nothing. -/
def State.cacheClean (s : State) (p : Nat) : Bool := decide (s.cache p = Cache.empty)

/-- Every miss that is not sent is tried again, and fills that wait for a way. (log 71, DEDUCED) -/
def State.retryMisses (s : State) (p : Nat) : List Miss → State
  | [] => s
  | m :: ms =>
    let s1 := match m.data with
      | some (kind, ws) => s.placeFill p m.line kind ws
      | none => s.sendMiss p m.line
    s1.retryMisses p ms

/-- A victim entry is freed (R317 step 4). -/
def State.victimFreed (s : State) (p l : Nat) : State :=
  let k := s.cache p
  let s1 := s.setCache p { k with victims := k.victims.filter (fun v => decide (v.line ≠ l)) }
  (s1.retryMisses p (s1.cache p).misses).flushStep p

/-! ### Messages on VC4 (Table 10-4) -/

/-- A message that Table 10-4 marks "never arises": counted and logged. (log 72, DEDUCED) -/
def State.protoError (s : State) (p l : Nat) (h : Triple) : State :=
  (s.bump (Reg.cstat p 7)).log 0x2C p 0 (BitVec.ofNat 24 l) (some h)

/-- A forward at a cache. -/
def State.forwardAt (s : State) (p l : Nat) (excl : Bool) (q : Req) : State :=
  let k := s.cache p
  let op : ReqOp := if excl then .fwdX l else .fwdS l
  let goneOf := fun (s : State) => ((s.send (.gone (rspOf q 0) l)).bump (Reg.cstat p 3)).bump (Reg.cstat p 4)
  match k.find l with
  | some e => if e.st = .sh then goneOf (s.protoError p l (s.reqHeader q op)) else s.answerFwd p excl q e
  | none =>
    if k.victim l then goneOf s
    else match k.miss l with
      | some m => if m.excl && m.sent then s.setCache p (k.putMiss { m with fwd := m.fwd ++ [(excl, q)] })
        else goneOf (s.protoError p l (s.reqHeader q op))
      | none => goneOf (s.protoError p l (s.reqHeader q op))

/-- An INV at a cache. -/
def State.invAt (s : State) (p l : Nat) (q : Req) : State :=
  let k := s.cache p
  let ackOf := fun (s : State) => (s.send (.ack (rspOf q 0) l)).bump (Reg.cstat p 3)
  match k.find l with
  | some e => if e.st = .sh then ackOf (s.setCache p (k.drop l)) else ackOf (s.protoError p l (s.reqHeader q (.inv l)))
  | none =>
    if k.victim l then ackOf s
    else match k.miss l with
      | some m =>
        if m.excl && m.sent then ackOf (s.protoError p l (s.reqHeader q (.inv l)))
        else if m.sent then ackOf (s.setCache p (k.putMiss { m with dropped := true })) else ackOf s
      | none => ackOf s

/-! ### The home (R314 to R317) -/

/-- Poison the words of a line in the store (R324). -/
def State.poisonLine (s : State) (l : Nat) : State :=
  ((s.setStLine (8 * l) ((s.stLine l).map (fun w => { w with bad := true }))).bump (Reg.stHome (s.homeOf l) 6)).log 0x2B
    (nodeSlice (s.homeOf l)) 0 (BitVec.ofNat 24 l) none

/-- Answer a read of one word. -/
def State.answerWord (s : State) (q : Req) (w : Nat) : State :=
  let v := s.stWord w
  if v.bad then s.answer q 5 else s.answerData q [v.v]

/-- Send forwards or INVs and stay BUSY until they are answered. -/
def State.homeAsk (s : State) (l : Nat) (q : Req) (op msg : ReqOp) (ps : List Nat) (counter : Nat) : State :=
  let sl := s.homeOf l
  let s1 := ps.foldl (fun s p =>
    ((s.request (nodeSlice sl) 0 0 0 p msg (BitVec.ofNat 24 (8 * l)) (.home l)).2).bump (Reg.stHome sl counter)) s
  s1.setDir l { s1.dirOf l with busy := some ⟨q, op, ps, false, none⟩ }

/-- How a busy request ended: with the owner's data, without any copy left, or with every ACK. -/
inductive HomeEnd where
  | data (o : Nat)
  | empty
deriving DecidableEq, Repr

/-- The response and the directory state after a request (Table 10-3). -/
def State.homeFinish (s : State) (l : Nat) (q : Req) (op : ReqOp) (how : HomeEnd) : State :=
  let e := s.dirOf l
  let m := s.member
  match op with
  | .rd _ =>
    match how with
    | .data o => (s.setDir l { e with st := .shared (shareBit m o ||| shareBit m q.node), busy := none }).send
        (.fill .shared (rspOf q 0) (s.stLine l))
    | .empty => (s.setDir l { e with st := .exclusive q.node, busy := none }).send (.fill .exclusive (rspOf q 0) (s.stLine l))
  | .rdx _ => (s.setDir l { e with st := .exclusive q.node, busy := none }).send (.fill .modified (rspOf q 0) (s.stLine l))
  | .rdu w =>
    let st : DState := match how with
      | .data o => .shared (shareBit m o)
      | .empty => match e.st with | .exclusive _ => .uncached | st => st
    (s.setDir l { e with st := st, busy := none }).answerWord q w
  | .wru w v => ((s.setStWord w ⟨v, false⟩).setDir l { e with st := .uncached, busy := none }).answer q 0
  | _ => s.setDir l { e with busy := none }

/-- Serve a request that finds the line not BUSY (Table 10-3). -/
def State.homeServe (s : State) (l : Nat) (q : Req) (op : ReqOp) : State :=
  let e := s.dirOf l
  let sl := s.homeOf l
  match op with
  | .rd _ =>
    let s1 := s.bump (Reg.stHome sl 0)
    match e.st with
    | .uncached => s1.homeFinish l q op .empty
    | .shared mask => (s1.setDir l { e with st := .shared (mask ||| shareBit s.member q.node) }).send
        (.fill .shared (rspOf q 0) (s1.stLine l))
    | .exclusive o => s1.homeAsk l q op (.fwdS l) [o] 3
  | .rdx _ =>
    let s1 := s.bump (Reg.stHome sl 1)
    match e.st with
    | .uncached => s1.homeFinish l q op .empty
    | .shared mask =>
      let ps := (sharers s.member mask).filter (fun p => decide (p ≠ q.node))
      if ps.isEmpty then s1.homeFinish l q op .empty else s1.homeAsk l q op (.inv l) ps 4
    | .exclusive o => s1.homeAsk l q op (.fwdX l) [o] 3
  | .rdu w =>
    let s1 := s.bump (Reg.stHome sl 2)
    match e.st with
    | .exclusive o => s1.homeAsk l q op (.fwdS l) [o] 3
    | _ => s1.answerWord q w
  | .wru _ _ =>
    let s1 := s.bump (Reg.stHome sl 2)
    match e.st with
    | .uncached => s1.homeFinish l q op .empty
    | .shared mask =>
      let ps := sharers s.member mask
      if ps.isEmpty then s1.homeFinish l q op .empty else s1.homeAsk l q op (.inv l) ps 4
    | .exclusive o => s1.homeAsk l q op (.fwdX l) [o] 3
  | _ => s

/-- Serve the requests that wait for a line until one is BUSY, at most `n`. -/
def State.homeNext (s : State) (l : Nat) : Nat → State
  | 0 => s
  | n + 1 =>
    let e := s.dirOf l
    match e.busy, e.queue with
    | none, (q, op) :: rest => ((s.setDir l { e with queue := rest }).homeServe l q op).homeNext l n
    | _, _ => s

/-- A request reaches the home: served, or queued while the line is BUSY (R314). -/
def State.homeRequest (s : State) (l : Nat) (q : Req) (op : ReqOp) : State :=
  let e := s.dirOf l
  if e.busy.isSome then s.setDir l { e with queue := e.queue ++ [(q, op)] } else s.homeServe l q op

/-- The busy request ends; the owner's notice is acknowledged and the queue goes on. -/
def State.homeEnd (s : State) (l : Nat) (a : Active) (how : HomeEnd) : State :=
  let s1 := s.homeFinish l a.q a.op how
  let s2 := match a.notice with
    | some n => (s1.send (.wbAck (rspOf n 0) l)).bump (Reg.stHome (s.homeOf l) 5)
    | none => s1
  s2.homeNext l ((s2.dirOf l).queue.length + 1)

/-- FDATA at the home. -/
def State.homeData (s : State) (l p : Nat) (ws : List SWord) (dirty : Bool) (units : Nat) : State :=
  match (s.dirOf l).busy with
  | none => s
  | some a =>
    if p ∈ a.awaits then
      let s1 := if dirty || decide (units ≠ 0) then s.setStLine (8 * l) (markBad units 0 ws) else s
      s1.homeEnd l a (.data p)
    else s

/-- GONE at the home: the notice is the answer (R317). -/
def State.homeGone (s : State) (l p : Nat) : State :=
  match (s.dirOf l).busy with
  | none => s
  | some a =>
    if p ∈ a.awaits then
      match a.notice with
      | some _ => s.homeEnd l { a with awaits := [] } .empty
      | none => s.setDir l { s.dirOf l with busy := some { a with gone := true } }
    else s

/-- One INV is answered, or counts as answered. -/
def State.homeAck (s : State) (l p : Nat) : State :=
  match (s.dirOf l).busy with
  | none => s
  | some a =>
    let left := a.awaits.filter (fun x => decide (x ≠ p))
    if left.isEmpty then s.homeEnd l { a with awaits := [] } .empty
    else s.setDir l { s.dirOf l with busy := some { a with awaits := left } }

/-- A forward without an answer: the line is poisoned and the request completes with it (R324). -/
def State.homeLost (s : State) (l p : Nat) : State :=
  match (s.dirOf l).busy with
  | none => s
  | some a =>
    if p ∈ a.awaits then
      ((s.poisonLine l).bump (Reg.stHome (s.homeOf l) 7)).homeEnd l { a with awaits := [] } .empty
    else s

/-- An INV without an answer counts as acknowledged (R324). -/
def State.homeSilent (s : State) (l p : Nat) : State :=
  (s.bump (Reg.stHome (s.homeOf l) 7)).homeAck l p

/-- An eviction notice at the home (R314, Table 10-3). -/
def State.homeNotice (s : State) (l : Nat) (q : Req) (data : Option (List SWord)) : State :=
  let s1 := match data with
    | some ws => s.setStLine (8 * l) ws
    | none => s
  let e := s1.dirOf l
  match e.busy with
  | some a =>
    if q.node ∈ a.awaits ∧ a.notice = none ∧ e.st = .exclusive q.node then
      let a1 : Active := { a with notice := some q }
      if a.gone then s1.homeEnd l a1 .empty else s1.setDir l { e with busy := some a1 }
    else s1.send (.wbAck (rspOf q 0) l)
  | none =>
    let s2 := if e.st = .exclusive q.node then s1.setDir l { e with st := .uncached } else s1
    s2.send (.wbAck (rspOf q 0) l)

/-- The check of a word that the home reads (R323). -/
def State.homeCheck (s : State) (w : Nat) (e : Ecc) : State :=
  match e with
  | .sound => s
  | .single => s
  | .double =>
    ((s.setStWord w { s.stWord w with bad := true }).bump (Reg.stHome (s.homeOf (w / 8)) 6)).log 0x2B
      (nodeSlice (s.homeOf (w / 8))) 0 (BitVec.ofNat 24 (w / 8)) none

/-! ### Loads and stores of a strand (R311, R318) -/

/-- The check of a cached word that a load or forward reads (R323): a line in M keeps the poisoned word, another is
given up by EVC and fetched again. The answer says whether the line is still held. -/
def State.cacheCheck (s : State) (p l k : Nat) (e : Ecc) : State × Bool :=
  match e with
  | .sound => (s, true)
  | .single => (s.bump (Reg.cstat p 5), true)
  | .double =>
    let s1 := s.bump (Reg.cstat p 6)
    match (s1.cache p).find l with
    | none => (s1, false)
    | some ln =>
      if ln.st = .mo then
        (((s1.setCache p ((s1.cache p).put { ln with ws := putWord k { (ln.ws[k]?).getD SWord.zero with bad := true } ln.ws })).bump
          (Reg.stHome (s.homeOf l) 6)).log 0x2B p 0 (BitVec.ofNat 24 l) none, true)
      else
        let kc := s1.cache p
        ((s1.setCache p { (kc.drop l) with victims := kc.victims ++ [⟨l, false, ln.ws⟩] }).sendEvict p l false ln.ws, false)

/-- The word that the context's own buffered stores give a state word. -/
def Cache.bufferedWord (k : Cache) (slot w : Nat) : Option Word :=
  ((k.slotBuffer slot).filter (fun e => decide (e.line = w / 8))).foldl (fun acc e =>
    e.ws.foldl (fun acc x => if x.1 = w % 8 then some x.2 else acc) acc) none

/-- A load of one word is answered at once (buffered value or hit), or must wait for its line. -/
def State.loadNow (s : State) (c : CtxId) (w : Nat) : Option SWord :=
  let k := s.cache c.pav
  match k.bufferedWord (slotOf c) w with
  | some v => some ⟨v, false⟩
  | none =>
    if ((k.slotBuffer (slotOf c)).any (fun e => decide (e.line = w / 8))) then none
    else (k.find (w / 8)).map (fun e => (e.ws[w % 8]?).getD SWord.zero)

/-- A load that finds the line makes it the most recently used one. -/
def State.touch (s : State) (p l : Nat) : State :=
  match (s.cache p).find l with
  | none => s
  | some e => s.setCache p ((s.cache p).put e)

/-- A store of the context finds the line of a word in E or M, with no buffered store of its own before it. -/
def State.storeHits (s : State) (c : CtxId) (w : Nat) : Bool :=
  let k := s.cache c.pav
  (match k.find (w / 8) with
    | some e => decide (e.st ≠ .sh)
    | none => false) && !((k.slotBuffer (slotOf c)).any (fun e => decide (e.line = w / 8)))

/-- The store has no place now: it needs a ninth entry, or a FENCE with K = 1 holds it (R318, R320). -/
def State.storeHeld (s : State) (c : CtxId) (ws : List Nat) : Bool :=
  let mine := (s.cache c.pav).slotBuffer (slotOf c)
  let new := ((ws.filter (fun w => !(s.storeHits c w))).map (fun w => w / 8)).eraseDups.filter
    (fun l => !(mine.any (fun e => decide (e.line = l))))
  !mine.isEmpty && (decide (mine.length + new.length > 8) || (s.ctx c).fenced)

/-- A store that follows a FENCE with K = 1 and every store before it ends the fence (R320). -/
def State.passFence (s : State) (c : CtxId) : State :=
  if (s.ctx c).fenced && s.bufferEmpty c then s.setCtx c { s.ctx c with fenced := false } else s

/-- Store one word: at once on an E or M line, else into the store buffer (R311, R318). -/
def State.storeWord (s : State) (c : CtxId) (w : Nat) (v : Word) : State :=
  let p := c.pav
  let k := s.cache p
  let l := w / 8
  let waiting := k.buffer.any (fun e => decide (e.slot = slotOf c ∧ e.line = l) && e.live)
  let held := (k.find l).filter (fun e => decide (e.st ≠ .sh) && !waiting)
  match held with
  | some e => s.setCache p (k.put { e with st := .mo, ws := putWord (w % 8) ⟨v, false⟩ e.ws })
  | none =>
    if waiting then
      s.setCache p { k with buffer := k.buffer.map (fun (e : StoreEntry) =>
        if decide (e.slot = slotOf c ∧ e.line = l) && e.live then { e with ws := e.ws ++ [(w % 8, v)] } else e) }
    else
      (s.setCache p { k with buffer := k.buffer ++ [(⟨slotOf c, l, [(w % 8, v)], true⟩ : StoreEntry)] }).startMiss p l true

/-- The words of one store, from the first on; it is a hit where every word of it is (R330). (log 71, DEDUCED) -/
def State.storeState (s : State) (c : CtxId) (wv : List (Nat × Word)) : State :=
  let s1 := s.passFence c
  wv.foldl (fun s e => s.storeWord c e.1 e.2)
    (if wv.all (fun e => s1.storeHits c e.1) then s1.bump (Reg.cstat c.pav 0) else s1)

/-- The buffered stores of a line are lost (R318): record `code` (a timeout has its record already), and the strands
that still run receive the bus error, whose STATUS stands as 7 since its record is written. -/
def State.storesLost (s : State) (p l code : Nat) : State :=
  let k := s.cache p
  let es := k.bufferedFor l
  let s1 := s.setCache p { (k.dropMiss l) with buffer := k.buffer.filter (fun e => decide (e.line ≠ l)) }
  let a := BitVec.ofNat 24 (8 * l)
  es.foldl (fun s e =>
    let c : CtxId := ⟨p, e.slot / 4, e.slot % 4⟩
    let s2 := if code = 0x17 then s else s.log code p (s.masterOf c) a none
    if e.live then (s2.setCtx c { s2.ctx c with lateErr := some (7, a) }).wakeCtx c else s2) s1

end Sys2Proof.Machine
end

