-- ==== Sys2Proof/Machine/QueueOps.lean ====
section
/-! DEFINITION. Hardware queues and lockets: sides and rights, packets, gap markers, notices, acquiring, releasing and
orphans (12_queues_and_lockets). -/

namespace Sys2Proof.Machine

def Queue.empty : Queue := ⟨[], [], false, [], false, 0, 0⟩
def Locket.free : Locket := ⟨0, 0, 0, []⟩
def HostFn.zero : HostFn := ⟨0, 0, [0, 0, 0], false, false, false, 0, false, 0, 0, [0, 0, 0], 0, false, false, [], [], 0, .none⟩

def State.queue (s : State) (n : Nat) : Queue := Map.get (fun _ => Queue.empty) s.banks.queues n
def State.setQueue (s : State) (n : Nat) (v : Queue) : State :=
  { s with banks := { s.banks with queues := Map.set (fun _ => Queue.empty) s.banks.queues n v } }
def State.locket (s : State) (l : Nat) : Locket := Map.get (fun _ => Locket.free) s.banks.lockets l
def State.setLocket (s : State) (l : Nat) (v : Locket) : State :=
  { s with banks := { s.banks with lockets := Map.set (fun _ => Locket.free) s.banks.lockets l v } }
def State.hostFn (s : State) (f : Nat) : HostFn := Map.get (fun _ => HostFn.zero) s.host f
def State.setHostFn (s : State) (f : Nat) (v : HostFn) : State :=
  { s with host := Map.set (fun _ => HostFn.zero) s.host f v }

/-! ### Queues: configuration and room -/

def Reg.cell (c w : Nat) : Nat := 0x088000 + 32 * c + w
def Reg.que (n w : Nat) : Nat := 0x020400 + 16 * n + w
def State.qMode (s : State) (n : Nat) : Nat := s.regField (Reg.que n 0) 22 2
def State.qPkind (s : State) (n : Nat) : Nat := s.regField (Reg.que n 0) 20 2
def State.qPsrc (s : State) (n : Nat) : Nat := s.regField (Reg.que n 0) 11 9
def State.qCkind (s : State) (n : Nat) : Nat := s.regField (Reg.que n 0) 9 2
def State.qCsrc (s : State) (n : Nat) : Nat := s.regField (Reg.que n 0) 0 9
/-- Capacity in words (R368). -/
def State.qCap (s : State) (n : Nat) : Nat := 64 + 64 * s.regField (Reg.que n 1) 18 6

/-- Words in committed packets. -/
def Queue.words (k : Queue) : Nat := (k.packets ++ k.held).foldl (fun n p => n + p.words.length) 0
/-- Free words FW and free boundary entries FB (R369, R377). -/
def State.qFw (s : State) (n : Nat) : Nat := s.qCap n - (s.queue n).words - (s.queue n).openW.length
def Queue.fb (k : Queue) : Nat := 64 - k.packets.length - k.held.length - (if k.openW.isEmpty then 0 else 1)

/-- A master belongs to a side of KIND and source (Table 12-1); tenant 0 belongs to both sides. -/
def onSide (kind src : Nat) (m : Word) : Bool :=
  if (Master.kind m = 1 ∨ Master.kind m = 2) ∧ Master.tenant m = 0 then true
  else match kind with
    | 0 => decide (Master.kind m = 1 ∧ Master.tenant m = src)
    | 1 => decide (Master.kind m = 2 ∧ Master.fn m = src % 64)
    | 2 => decide (Master.kind m = 3)
    | _ => false

def State.onPut (s : State) (n : Nat) (m : Word) : Bool := onSide (s.qPkind n) (s.qPsrc n) m
def State.onGet (s : State) (n : Nat) (m : Word) : Bool := onSide (s.qCkind n) (s.qCsrc n) m

/-! ### Notices (R384, R481) -/

/-- A notice enters a host function's FIFO, or waits for room. (log 70, DEDUCED) -/
def State.hostNotice (s : State) (f n : Nat) : State :=
  let h := s.hostFn f
  s.setHostFn f (if h.notices.length < 64 ∧ h.waiting = [] then { h with notices := h.notices ++ [n] }
    else { h with waiting := h.waiting ++ [n] })

/-- The notice of a commit. -/
def State.notice (s : State) (n : Nat) : State :=
  let s1 := s.fireBinds 2 n 0xFFFFFF
  if s.qCkind n = 1 then s1.hostNotice (s.qCsrc n % 64) n else s1

/-! ### Packets -/

/-- A packet becomes readable, with its notice (R384). -/
def State.readable (s : State) (n : Nat) (p : QPacket) : State :=
  (s.setQueue n { s.queue n with packets := (s.queue n).packets ++ [p] }).notice n

/-- A committed packet: readable at once, or held by a pair until both dies agree, where a host reads the queue (R594). (log 70, DEDUCED) -/
def State.commitPacket (s : State) (n : Nat) (p : QPacket) : State :=
  if s.duplex && decide (s.qCkind n = 1) then
    let r := (s.setQueue n { s.queue n with held := (s.queue n).held ++ [p] }).pairCount 4 n
    r.2.holdEffect ⟨4, n, r.1⟩ (.queue n) (Config.effectCrc p.words)
  else s.readable n p

/-- The open packet's claim ends. -/
def Queue.close (k : Queue) : Queue := { k with opened := false, openW := [], lost := false, putOwner := 0 }

/-- A lost packet's commit: the marker at the tail counts it, or a new marker is appended (R377). -/
def State.gapMark (s : State) (n : Nat) : State :=
  let k := s.queue n
  let s1 := s.bump (Reg.que n 10)
  if (k.held.getLast?.map QPacket.gap).getD false then
    s1.setQueue n { k with held := k.held.dropLast ++ (k.held.getLast?.toList.map (fun (p : QPacket) =>
      { p with words := p.words.map satInc })) }
  else match k.packets.getLast? with
  | some p =>
    if p.gap && k.held.isEmpty && !(decide (k.packets.length = 1) && decide (k.getOwner ≠ 0)) then
      s1.setQueue n { k with packets := k.packets.dropLast ++ [{ p with words := p.words.map satInc }] }
    else (s1.bump (Reg.que n 11)).commitPacket n ⟨[1], true⟩
  | none => (s1.bump (Reg.que n 11)).commitPacket n ⟨[1], true⟩

/-- A put at the bank (R373, R374, R377): the state after it, and T. -/
def State.qPut (s : State) (n : Nat) (m v : Word) : State × Bool :=
  let k := s.queue n
  if k.opened && decide (k.putOwner ≠ m) then (s, false)
  else if s.qMode n = 1 then
    if k.openW.length < 4032 ∧ s.qFw n ≥ 1 ∧ (k.openW ≠ [] ∨ k.fb ≥ 1) then
      (s.setQueue n { k with opened := true, putOwner := m, openW := k.openW ++ [v] }, true)
    else (s.bump (Reg.que n 15), false)
  else if k.lost then (s, false)
  else
    let needB := if k.openW.isEmpty then 1 else 0
    if s.qFw n ≥ 2 ∧ k.fb ≥ needB + 1 ∧ k.openW.length < 4032 then
      (s.setQueue n { k with opened := true, putOwner := m, openW := k.openW ++ [v] }, true)
    else (s.setQueue n { k with opened := true, putOwner := m, openW := [], lost := true }, false)

/-- A commit of a master's open packet (R375, R377); without one it has no effect. -/
def State.qCommit (s : State) (n : Nat) (m : Word) : State :=
  let k := s.queue n
  if k.opened && decide (k.putOwner = m) then
    if k.lost then (s.setQueue n k.close).gapMark n
    else
      ((s.setQueue n k.close).bump (Reg.que n 8)).commitPacket n ⟨k.openW, false⟩
  else s

/-- A rewind of a master's open packet (R376). -/
def State.qRewind (s : State) (n : Nat) (m : Word) : State :=
  let k := s.queue n
  if k.opened && decide (k.putOwner = m) then (s.setQueue n k.close).bump (Reg.que n 9) else s

/-- The reader may take a word now (R378, R379). -/
def Queue.mayGet (k : Queue) (m : Word) : Bool :=
  !(k.packets.isEmpty) && (decide (k.getOwner = 0) || decide (k.getOwner = m))

/-- Take the next word of the head packet; the last word ends the claim. -/
def Queue.pull (k : Queue) (m : Word) : Word × Queue :=
  match k.packets with
  | [] => (0, k)
  | p :: ps =>
    match p.words with
    | [] => (0, { k with packets := ps, getOwner := 0 })
    | [w] => (w, { k with packets := ps, getOwner := 0 })
    | w :: ws => (w, { k with packets := { p with words := ws } :: ps, getOwner := m })

/-- A get at the bank: the state after it, the word and T. -/
def State.qGet (s : State) (n : Nat) (m : Word) : State × Word × Bool :=
  let k := s.queue n
  if k.mayGet m then
    let r := k.pull m
    (s.setQueue n r.2, r.1, true)
  else (s, s.reg (Reg.que n 2), false)

/-- Drop the rest of the packet that the reader claims (R380). -/
def State.qDrop (s : State) (n : Nat) (m : Word) : State :=
  let k := s.queue n
  match k.packets with
  | [] => s
  | p :: ps =>
    if k.getOwner = m ∧ m ≠ 0 then
      (s.setQueue n { k with packets := ps, getOwner := 0 }).bumpBy (Reg.que n 12) p.words.length
    else s

/-- Consumer status word (Table 12-3). -/
def State.qConsumer (s : State) (n : Nat) (m : Word) : Word :=
  let k := s.queue n
  let gap := (k.packets.head?.map QPacket.gap).getD false
  let left := (k.packets.head?.map (fun p => p.words.length)).getD 0
  BitVec.ofNat 24 ((!(k.mayGet m)).toNat * 2 ^ 22 + gap.toNat * 2 ^ 21
    + (decide (k.getOwner ≠ 0 ∧ k.getOwner ≠ m)).toNat * 2 ^ 20 + (decide (k.getOwner = m ∧ m ≠ 0)).toNat * 2 ^ 19
    + k.packets.length % 128 * 2 ^ 12 + left % 4096)

/-- ROOM: the longest next packet that the queue would accept, with the words already in the open packet. -/
def State.qRoom (s : State) (n : Nat) : Nat :=
  let k := s.queue n
  if k.lost then 0
  else if k.openW.isEmpty ∧ k.fb < (if s.qMode n = 2 then 2 else 1) then 0
  else min 4032 (s.qFw n - (if s.qMode n = 2 then 1 else 0) + k.openW.length)

/-- Producer status word (Table 12-3). -/
def State.qProducer (s : State) (n : Nat) (m : Word) : Word :=
  let k := s.queue n
  BitVec.ofNat 24 (2 ^ 23 + (decide (s.qRoom n = 0)).toNat * 2 ^ 22 + k.opened.toNat * 2 ^ 21 + k.lost.toNat * 2 ^ 20
    + (decide (k.putOwner = m) && k.opened).toNat * 2 ^ 19 + s.qRoom n % 4096)

/-- Rewind a master's open packet and drop its claim in queue `n`, but for the rewind of a queue in `keep` (Table 12-2, R380). -/
def State.qLeave1 (m : Word) (keep : List Nat) (s : State) (n : Nat) : State :=
  (if n ∈ keep then s else s.qRewind n m).qDrop n m

/-- A master leaves the queues: only a queue that holds something can hold something of it. (log 70, DEDUCED) -/
def State.qLeave (s : State) (m : Word) (keep : List Nat) : State :=
  (s.banks.queues.map Prod.fst).foldl (State.qLeave1 m keep) s

/-! ### Device records (R385) -/

/-- Producers that are not Trellis nodes are numbered past the node numbers: probe k of cluster c is 0x200 + 4c + k,
port cell c is 0x400 + c. -/
def State.recordLost (s : State) (n node : Nat) : State :=
  if node = nodeHub then s.bump 0x00C004
  else if 0x200 ≤ node ∧ node < 0x400 then s.bump (Reg.blv ((node - 0x200) / 4) ((node - 0x200) % 4) 8)
  else if 0x190 ≤ node ∧ node < 0x194 then
    (if s.regField (0x0D0000 + 16 * (node - 0x190)) 10 10 = n then s.bump (0x0D0000 + 16 * (node - 0x190) + 5) else s)
  else if 0x400 ≤ node then s.bump (Reg.cell (node - 0x400) 13)
  else s

/-- A record as one committed packet. -/
def State.qRecord (s : State) (n node : Nat) (ws : List Word) : State :=
  let k := s.queue n
  if s.qPkind n ≠ 3 ∨ s.qMode n = 0 then s.recordLost n node
  else if s.qMode n = 1 then
    if k.opened = false ∧ ws.length ≤ s.qFw n ∧ k.fb ≥ 1 ∧ ws.length ≤ 4032 then
      (s.bump (Reg.que n 8)).commitPacket n ⟨ws, false⟩
    else s.recordLost n node
  else
    if k.opened = false ∧ ws.length + 1 ≤ s.qFw n ∧ k.fb ≥ 2 ∧ ws.length ≤ 4032 then
      (s.bump (Reg.que n 8)).commitPacket n ⟨ws, false⟩
    else (s.gapMark n).recordLost n node

/-! ### Lockets (R389 to R396) -/

def Reg.lktGrp (g w : Nat) : Nat := 0x028100 + 8 * g + w

/-- A rights entry of the group grants the tenant a right: bit 22 ACQ, bit 21 REC. -/
def State.lkRight (s : State) (g t bit : Nat) : Bool :=
  (List.range 4).any (fun i => s.regBit (Reg.lktGrp g i) 23 && s.regBit (Reg.lktGrp g i) bit
    && decide (s.regField (Reg.lktGrp g i) 0 9 = t))

/-- The master holds a right on a group (R390). The legacy port reaches only lockets 56 to 63 of the legacy group. -/
def State.lkMay (s : State) (l bit : Nat) (m : Word) : Bool :=
  if Master.kind m = 3 then decide (bit = 22 ∧ l / 64 + 1 = unitCount s.member .lockets ∧ l % 64 ≥ 56)
  else decide (Master.tenant m = 0) || s.lkRight (l / 64) (Master.tenant m) bit

/-- Acquire result word (Table 12-9). -/
def lkWord (got self orph full tmo : Bool) (h : BitVec 16) : Word :=
  BitVec.ofBool got ++ BitVec.ofBool self ++ BitVec.ofBool orph ++ BitVec.ofBool full ++ BitVec.ofBool tmo
    ++ (0 : BitVec 3) ++ h

/-- A context's record of lockets gains or loses one (R393). (log 69, DEDUCED) -/
def State.lkNote (s : State) (l : Nat) (m : Word) (add : Bool) : State :=
  if Master.kind m = 1 then
    let c := Master.ctx m
    let x := s.ctx c
    if x.tenant = Master.tenant m then
      s.setCtx c { x with lockets := if add then x.lockets ++ [l] else x.lockets.erase l }
    else s
  else s

/-- The record of a context holds 8 lockets. -/
def State.lkFull (s : State) (m : Word) : Bool :=
  decide (Master.kind m = 1 ∧ (s.ctx (Master.ctx m)).lockets.length ≥ 8)

/-- The locket passes to a master. -/
def State.lkGive (s : State) (l : Nat) (m : Word) : State :=
  let k := s.locket l
  (s.setLocket l { k with st := 1, owner := m, hcount := k.hcount + 1 }).lkNote l m true

/-- What a TRY read answers now; a locket that is FREE without a waiter is acquired (R392). -/
def State.lkTry (s : State) (l : Nat) (m : Word) : State × Word :=
  let k := s.locket l
  if k.st = 1 ∧ k.owner = m then (s, lkWord false true false false false k.hcount)
  else if k.st = 0 ∧ k.waiters = [] then
    if s.lkFull m then (s, lkWord false false false true false k.hcount)
    else (s.lkGive l m, lkWord true false false false false (k.hcount + 1))
  else (s, lkWord false false (decide (k.st = 2)) false false k.hcount)

/-- Release as the owner would: to the oldest waiter, or FREE. -/
def State.lkFree (s : State) (l : Nat) : State :=
  let k := s.locket l
  let s1 := s.lkNote l k.owner false
  match k.waiters with
  | [] => s1.setLocket l { k with st := 0, owner := 0 }
  | w :: ws =>
    let s2 := (s1.setLocket l { k with waiters := ws }).lkGive l w.q.master
    s2.answerData w.q [lkWord true false false false false (k.hcount + 1)]

/-- W of R392, in units of ELAPSED. -/
def State.lkWait (s : State) : Nat := min (usTicks (s.regField 0x028000 16 8)) (usTicks s.onchipUs / 2)

/-- Waiter slots in use in a group. -/
def State.lkWaiters (s : State) (g : Nat) : Nat :=
  (s.banks.lockets.filter (fun e => decide (e.1 / 64 = g))).foldl (fun n e => n + e.2.waiters.length) 0

/-- The owner ended without releasing the locket (R393, R394). -/
def State.lkOrphan (s : State) (l : Nat) : State :=
  let k := s.locket l
  let g := l / 64
  let s1 := (s.bump (Reg.lktGrp g 5)).log 0x38 nodeLockets k.owner (BitVec.ofNat 24 (l % 4096)) none
  if s.regBit (Reg.lktGrp g 4) 23 then (s1.lkNote l k.owner false).setLocket l { k with st := 2 } else s1.lkFree l

/-- A refused release: counted and logged (R392, R396). -/
def State.lkForeign (s : State) (l : Nat) (m : Word) : State :=
  (s.bump (Reg.lktGrp (l / 64) 6)).log 0x39 nodeLockets m (BitVec.ofNat 24 (l % 4096)) none

/-- A master withdraws from the FIFO of one locket. (log 69, DEDUCED) -/
def State.lkWithdraw (s : State) (m : Word) (l : Nat) : State :=
  let k := s.locket l
  s.setLocket l { k with waiters := k.waiters.filter (fun w => decide (w.q.master ≠ m)) }

/-- Lockets that a master holds. -/
def State.lkHeldBy (s : State) (m : Word) : List Nat :=
  (s.banks.lockets.filter (fun (e : Nat × Locket) => decide (e.2.st = 1 ∧ e.2.owner = m))).map Prod.fst

/-- A master leaves: it withdraws from every FIFO and its lockets become orphans. -/
def State.lkLeave (s : State) (m : Word) : State :=
  let s1 := (s.banks.lockets.map Prod.fst).foldl (fun s l => s.lkWithdraw m l) s
  (s1.lkHeldBy m).foldl State.lkOrphan s1

/-! ### Legacy storage of a pair (R596) -/

/-- The locket is one of the legacy port's. -/
def State.legLocket (s : State) (l : Nat) : Bool := decide (l / 64 + 1 = unitCount s.member .lockets ∧ l % 64 ≥ 56)

/-- The request reaches legacy RAM, or a locket of the legacy port. -/
def State.legAccess (s : State) (q : Req) (op : ReqOp) : Bool :=
  decide (q.dest = nodeLegacy) || (match op with
    | .lkTry l => s.legLocket l
    | .lkWait l => s.legLocket l
    | .lkPeek l => s.legLocket l
    | .lkRel l => s.legLocket l
    | .lkRec l => s.legLocket l
    | _ => false)

/-- The number of an access of a task to legacy storage since the task's creation. (log 58, DEDUCED) -/
def State.legCount (s : State) (t : Nat) : Nat × State :=
  let n := Map.get (fun _ => 0) s.pair.legCount t + 1
  (n, { s with pair := { s.pair with legCount := Map.set (fun _ => 0) s.pair.legCount t n } })

/-- The shadow completes an access with the lead's result, and its mirror follows. (log 58, DEDUCED) -/
def State.legApply (s : State) (q : Req) (op : ReqOp) (status : Nat) (ws : List Word) : State :=
  let got := (ws.headD 0).bit 23
  let s1 := if status ≥ 2 then s else match op with
    | .wrw a vs => (s.legStoreAll a vs)
    | .rwr a vs => (s.legStoreAll a vs)
    | .lkTry l => if got then s.lkGive l q.master else s
    | .lkWait l => if got then s.lkGive l q.master else s
    | .lkRel l => s.lkFree l
    | .lkRec l => s.lkFree l
    | _ => s
  if ws = [] then s1.answer q status else s1.send (.rdata (rspOf q status) ws)

/-- An access of a task on the shadow: it waits for the lead's result of the same task and count. (log 58, DEDUCED) -/
def State.shadowLegacy (s : State) (q : Req) (op : ReqOp) : State :=
  let t := (s.ctx (Master.ctx q.master)).task
  let r := s.legCount t
  match s.pair.legResults.find? (fun e => decide (e.1 = (t, r.1))) with
  | some e => State.legApply { r.2 with pair := { r.2.pair with legResults := r.2.pair.legResults.filter (fun x => decide (x.1 ≠ (t, r.1))) } } q op
      e.2.1 e.2.2
  | none => { r.2 with pair := { r.2.pair with legWaits := r.2.pair.legWaits ++ [((t, r.1), (q, op))] } }

/-- A result of the lead reaches the shadow. -/
def State.legResult (s : State) (t n status : Nat) (ws : List Word) : State :=
  match s.pair.legWaits.find? (fun e => decide (e.1 = (t, n))) with
  | some e => State.legApply { s with pair := { s.pair with legWaits := s.pair.legWaits.filter (fun x => decide (x.1 ≠ (t, n))) } }
      e.2.1 e.2.2 status ws
  | none => { s with pair := { s.pair with legResults := s.pair.legResults ++ [((t, n), (status, ws))] } }

/-- A master of the queues and lockets goes: context FREE or SAVING, function reset, legacy port disabled. (log 69, DEDUCED) -/
def State.masterLeaves (s : State) (m : Word) (keep : List Nat) : State :=
  (s.qLeave m keep).lkLeave m

end Sys2Proof.Machine
end

