-- ==== Sys2Proof/Machine/StrandOps.lean ====
section
/-! DEFINITION. Operations on a running strand: next addresses, staging, drains, the release of a staged set, cutting
short, waits of tasks and the frame in which every strand instruction runs (06_strand_instruction_set,
07_strand_pipeline). -/

namespace Sys2Proof.Machine

/-! ### Next addresses (R200) -/

/-- End the loop levels that end at address `a`, at most `n` of them; the next address if a level repeats. -/
def Context.loopEnd (x : Context) (a : Nat) : Nat → Context × Nat
  | 0 => (x, a + 1)
  | n + 1 =>
    if x.lcfgDepth = 0 then (x, a + 1)
    else
      let k := x.lcfgDepth - 1
      let l := x.loop k
      if a ≠ l.le.toNat ∨ x.depth ≠ l.ld then (x, a + 1)
      else if l.lc.toNat > 1 then (x.setLoop k { l with lc := l.lc - 1 }, l.ls.toNat)
      else ({ (x.setLoop k { l with lc := 0 }) with lcfgDepth := k }).loopEnd a n

/-- The instruction completes without a taken transfer. (log 16, DEDUCED) -/
def Context.advance (x : Context) : Context :=
  let r := x.loopEnd x.ip 3
  { r.1 with ip := r.2 }

/-! ### SYNC (R235, R236) -/

/-- Make one sync-class write take effect. -/
def Context.takeSync (x : Context) : SyncWrite → Context
  | .wb v => { x with wb := v.field 0 8, res := 32 }
  | .lcfg v => x.setLcfg v
  | .ls n v => x.setLoop n { x.loop n with ls := v }
  | .le n v => x.setLoop n { x.loop n with le := v }
  | .devReg _ _ => x

/-- Device words of a SYNC take effect for execution. -/
def State.takeDevSync (s : State) : SyncWrite → State
  | .devReg a v => { s with strands := { s.strands with syncEff := Map.set (fun _ => 0) s.strands.syncEff a v } }
  | _ => s

/-- Every earlier sync-class write of the context takes effect. -/
def State.syncCtx (s : State) (c : CtxId) : State :=
  let x := s.ctx c
  let s1 := x.sync.foldl State.takeDevSync s
  s1.setCtx c { (x.sync.foldl Context.takeSync x) with sync := [], segOld := [], syncWait := false }

/-- Pavilions whose decode table or micro-op store a pending write of the context names. -/
def Context.syncPavs (x : Context) : List Nat :=
  x.sync.filterMap (fun w => match w with | .devReg a _ => some ((a - 0x800000) / 0x8000) | _ => none)

/-- A context of the pavilion is inside a custom instruction. -/
def State.microBusy (s : State) (p : Nat) : Bool :=
  (List.range 16).any (fun k => (s.ctx ⟨p, k / 4, k % 4⟩).micro.isSome)

/-! ### The code-write buffer (R237, R297) -/

/-- Write the buffered code words in store order; a word for another pavilion crosses the Trellis. -/
def State.drainCode (s : State) (c : CtxId) : State :=
  let x := s.ctx c
  (x.codeBuf.foldl (fun s w =>
    if w.pav = c.pav then s.codeWrite w.pav w.addr w.word
    else (s.request c.pav (slotOf c) x.tenant (masterCtx x.tenant c) w.pav (.cwr w.addr w.word)
      (BitVec.ofNat 24 (pavBase w.pav + 0x4000 + w.addr)) (.drain c)).2) s).setCtx c { x with codeBuf := [] }

/-- A drained word of the context is still on its way. -/
def State.draining (s : State) (c : CtxId) : Bool := s.net.outst.any (fun o => decide (o.who = .drain c))

/-! ### Staging and release (R36 to R38, R207) -/

/-- The packet of one staged effect. -/
def State.stagedPacket (s : State) (c : CtxId) (x : Context) : Staged → Packet
  | .token tag v => .ftok ⟨c.pav, slotOf c, masterCtx x.tenant c, x.tenant, if Tag.crit tag then 3 else 2, tag, v,
      if Tag.crit tag then ~~~v else 0, false⟩
  | .port tag v => .ptok ⟨c.pav, slotOf c, masterCtx x.tenant c, x.tenant, if Tag.crit tag then 3 else 2, tag, v,
      if Tag.crit tag then ~~~v else 0, false⟩
  | .freeFrame h => .free ⟨h, x.tenant, masterCtx x.tenant c, c.pav, false⟩
  | .sev t fl => .sev t fl (.master x.tenant (masterCtx x.tenant c) c.pav)
  | .qcommit n => .req ⟨nodeQueues, c.pav, slotOf c, 0, x.tenant, masterCtx x.tenant c, 0⟩ (.qcommit n)
  | .spawn t e g a => .spawn t e g c x.tenant a

/-- The queue that a posted commit of a master names. -/
def commitOf (m : Word) : Packet → Option Nat
  | .req q (.qcommit n) => if q.master = m then some n else none
  | _ => none

/-- Queues whose commit by a master has left it and has not arrived: their open packets await it (R375). -/
def State.commitsOut (s : State) (m : Word) : List Nat :=
  (s.flight ++ s.hub.heldTok.flatMap (fun e => e.2)).filterMap (commitOf m)
    ++ s.net.parked.filterMap (fun k => commitOf m (.req k.q k.op))

/-- The staged set leaves as one unit, in order (R38). -/
def State.releaseStaged (s : State) (c : CtxId) : State :=
  let x := s.ctx c
  let s1 := (s.setCtx c { x with staged := [] }).release c.pav (slotOf c) (x.staged.map (s.stagedPacket c x))
  if x.staged.isEmpty then s1 else s1.activity x.tenant

/-! ### Leaving a context -/

/-- Alerts that were not taken are lost (R245). -/
def State.loseAlerts (s : State) (c : CtxId) : State :=
  s.bumpBy (Reg.pipeStat c.pav c.pipe 6) (s.ctx c).alerts.length

/-- The context becomes FREE, and the pipeline goes on. -/
def State.freeCtxNow (s : State) (c : CtxId) : State := s.leaveIssue c Context.idle

/-- A task's number returns to FREE; what the image gave it stays. -/
def State.taskFree (s : State) (n : Nat) : State :=
  let t := s.task n
  let s1 : State := { s with pair := { s.pair with legCount := Map.set (fun _ => 0) s.pair.legCount n 0 } }
  (s1.setTask n { t with st := .free, evf := 0, evm := 0, saved := false, target := 0, result := none }).taskChanged n

/-- Reserved task numbers of a staged set return to FREE (R142). -/
def State.unspawn (s : State) : List Staged → State
  | [] => s
  | .spawn n _ _ _ :: es => (s.taskFree n).unspawn es
  | _ :: es => s.unspawn es

/-- Accesses of a strand that is gone: their responses are dropped, the entries of its store buffer complete
without it (R318). -/
def State.orphanAccesses (s : State) (c : CtxId) : State :=
  let s1 := { s with net := { s.net with outst := s.net.outst.map (fun (o : Outst) =>
    if o.who = Requester.strand c ∨ o.who = Requester.drain c then { o with who := Requester.dropped } else o) } }
  let k := s1.cache c.pav
  s1.setCache c.pav { k with buffer := k.buffer.map (fun (e : StoreEntry) => if e.slot = slotOf c then { e with live := false } else e) }

/-! ### Cutting short (R40, R101, R148, R193, R580 to R582) -/

/-- Why a strand is cut short: an instruction fault with its REASON, a failed critical operand or CHK, a fence, the end
of an exchange's drain, or KILL. -/
inductive CutWhy where
  | instr (reason : Nat)
  | critical
  | fence
  | oldEpoch
  | kill
deriving DecidableEq, Repr

/-- The frame of an activation was released, or carries another GEN. -/
def State.frameGone (s : State) (h : Triple) : Bool :=
  let e := s.frame (Tag.frame h)
  !e.alloc || decide (e.gen.toNat ≠ Tag.gen h)

/-- An activation that is cut short goes back to the head of its ready list (R580), or is abandoned. -/
def State.replay (s : State) (c : CtxId) (x : Context) : State :=
  let r := portOfSlice s.member (s.sliceOf (Tag.frame x.handle))
  let a : Activation := ⟨x.tenant, x.handle, x.entry, x.wgrp, x.flow, x.epoch, x.replays + 1⟩
  (((s.setRl r x.wgrp (entryOfAct a none false s.elapsed :: s.rl r x.wgrp)).bump 0x000020).log 0x72 c.pav
    (masterCtx x.tenant c) (BitVec.ofNat 24 x.entry) (some x.handle)).activity x.tenant

/-- What becomes of an activation that is cut short (R40, R139, R582). -/
def State.cutActivation (s : State) (c : CtxId) (x : Context) (why : CutWhy) : State :=
  let m := masterCtx x.tenant c
  let abandon := fun (s : State) => s.flowNext x.flow x.handle
  match why with
  | .instr k => abandon (s.tenantFault x.tenant c.pav m k x.ip x.handle)
  | .critical => abandon (s.tenantFault x.tenant c.pav m 0x20 0 x.handle)
  | .oldEpoch => abandon s
  | _ =>
    if s.frameGone x.handle then
      abandon (s.log 0x05 c.pav m (BitVec.ofNat 24 x.entry) (some x.handle))
    else if x.epoch ≠ Map.get (fun _ => 0) s.hub.epoch x.tenant then abandon s
    else if !x.replayable || x.readQueue then abandon (s.tenantFault x.tenant c.pav m 0x21 0 x.handle)
    else if x.replays ≥ s.regField 0x000002 20 4 then
      abandon ((s.bump 0x000021).tenantFault x.tenant c.pav m 0x22 0 x.handle)
    else s.replay c x

/-- A parked ALLOCW of the task is withdrawn; a frame granted to it that it has not taken yet is released (R101, R148,
Table 4-6). -/
def State.dropGrant (s : State) (n node : Nat) (m : Word) : State :=
  let t := s.task n
  let s1 := match s.store.waits.find? (fun a => decide (a.task = n)) with
    | some a => s.unparkAlloc a
    | none => s
  match t.result with
  | some (_, 2, h) => if t.st = .waitAlloc then s1 else s1.send (.free ⟨h, t.owner, m, node, true⟩)
  | _ => s1

/-- What becomes of a task that is cut short (R148). At the end of an exchange's drain no fault is raised (R566). -/
def State.cutTask (s : State) (c : CtxId) (x : Context) (why : CutWhy) : State :=
  let m := masterCtx x.tenant c
  let s1 := match why with
    | .instr k => s.tenantFault x.tenant c.pav m k x.ip 0
    | .oldEpoch => s
    | _ => s.tenantFault x.tenant c.pav m 0x23 0 0
  (s1.dropGrant x.task c.pav m).taskFree x.task

/-- A strand is cut short: nothing staged is released, its allocations are, and its context frees. -/
def State.cutShort (s : State) (c : CtxId) (why : CutWhy) : State :=
  let s1 := ((s.drainCode c).orphanAccesses c).loseAlerts c
  let x := s1.ctx c
  let m := masterCtx x.tenant c
  let s2 := (s1.unspawn x.staged).sendAll (x.allocs.map (fun h => .free ⟨h, x.tenant, m, c.pav, true⟩))
  let s3 := s2.masterLeaves m (s2.commitsOut m)
  let s4 := if x.isTask then s3.cutTask c x why else s3.cutActivation c x why
  s4.freeCtxNow c

/-- Cause code of an instruction fault (Table 6-13). A bus error is SEGMENT (R276). (log 18, DEDUCED) -/
def Cause.code : Cause → Nat
  | .illegal => 1
  | .regRange => 2
  | .segment => 3
  | .callDepth => 4
  | .retDepth => 5
  | .loopDepth => 6
  | .taskOnly => 7
  | .frameOnly => 8
  | .slotRange => 9
  | .staged => 10
  | .allocRec => 11
  | .template => 12
  | .rights => 13
  | .ipRange => 14
  | .break => 15
  | .slotWrite => 16
  | .bus _ => 3

/-- An instruction fault (R193). -/
def State.instrFault (s : State) (c : CtxId) (k : Cause) : State := s.cutShort c (.instr k.code)

/-- A bus error reaches a strand (R276): record 0x12 to 0x16 with the target address, then the fault. A timeout has
its record already (R350). -/
def State.busFault (s : State) (c : CtxId) (status : Nat) (a : Word) : State :=
  let s1 := if 2 ≤ status ∧ status ≤ 6 then s.log (0x10 + status) c.pav (s.masterOf c) a none else s
  s1.instrFault c .segment

/-! ### The frame of every strand instruction -/

/-- What a strand instruction does to the state. -/
inductive Act where
  | raise (k : Cause)
  /-- A bus error at once: STATUS and target address. -/
  | bus (t : State) (status : Nat) (a : Word)
  /-- Stall at R; `long` when a long-wait result holds it. -/
  | stall (long : Bool)
  /-- The effect is in `t`; issue goes on at the next address. -/
  | done (t : State)
  /-- The effect is in `t`; a taken transfer to an address. -/
  | goto (t : State) (a : Nat)
  /-- The effect is in `t`, which also says where the context stands. -/
  | leave (t : State)

/-- Count an issued instruction. -/
def State.countIssue (s : State) (c : CtxId) : State := s.bump (Reg.pipeStat c.pav c.pipe 0)

/-- The context's next instruction stalls (R225, R230). (log 4, DESIGN CHOICE) -/
def State.stallCtx (s : State) (c : CtxId) (long : Bool) : State :=
  let s1 := s.bump (Reg.pipeStat c.pav c.pipe 2)
  if long then s1.longStall c else s1

/-- A context that DBGCTX steps halts once its instruction is over (R495). (log 4, DESIGN CHOICE) -/
def State.stepEnds (s : State) (c : CtxId) : State :=
  let x := s.ctx c
  if x.stepping && x.micro.isNone && decide (x.state ∈ [CtxState.issuing, .ready, .longwait, .suspended]) then
    (s.setCtx c { x with state := .halted, stepping := false }).schedule c.pav c.pipe
  else s

/-- Carry out what an instruction answers. -/
def State.finish (s : State) (c : CtxId) : Act → State
  | .raise k => (s.countIssue c).instrFault c k
  | .bus t st a => (t.countIssue c).busFault c st a
  | .stall long => s.stallCtx c long
  | .done t => ((t.setCtx c (t.ctx c).advance).countIssue c).stepEnds c
  | .goto t a => ((t.setCtx c { t.ctx c with ip := a }).countIssue c).stepEnds c
  | .leave t => t.stepEnds c

/-- An ALLOCW of the context awaits its answer (R208). -/
def Context.awaitsGrant (x : Context) : Bool := x.waits.any (fun w => match w.kind with | .allocw _ => true | _ => false)

/-- A pending alert is to be taken at the next instruction boundary (R241). (log 3, DESIGN CHOICE) -/
def Context.alertDue (x : Context) : Bool := !x.inAlert && !x.alerts.isEmpty

/-- One strand instruction of context `c`: it issues only in the ISSUING context, outside a custom instruction. A
pending alert is taken first (R241, ALERT_ENTRY), then a lost store's bus error (R318), then the end of the code store
(R198). (log 3, DESIGN CHOICE) (log 18, DEDUCED) -/
def runStrand (s : State) (c : CtxId) (act : State → Context → Act) : Out :=
  if ctxPresent s.member c = false then .fault .absentUnit
  else
    let x := s.ctx c
    if s.pair.fenced = true ∨ x.state ≠ .issuing ∨ x.micro.isSome ∨ x.alertDue = true then .next s
    else if x.awaitsGrant then .next (s.stallCtx c true)
    else match x.lateErr with
      | some (st, a) => .next ((s.setCtx c { x with lateErr := none }).busFault c st a)
      | none =>
        if x.ip ≥ 16384 then .next (s.instrFault c .ipRange)
        else .next (s.finish c (act s x))

/-- Register writes reach the context; EVM is held in the task table (R144). -/
def State.landRegs (s : State) (c : CtxId) (ws : List RegWrite) : State :=
  let x := s.ctx c
  let s1 := s.setCtx c (x.landWrites x.micro.isSome ws)
  if x.stages then s1 else ws.foldl (fun s w => match w with
    | .evm v => if x.isTask then s.setTask x.task { s.task x.task with evm := v } else s
    | _ => s) s1

/-- The iterative unit that a long operation needs is held by a context of the pipeline (R227). -/
def State.unitBusy (s : State) (c : CtxId) (u : LongUnit) : Bool :=
  match u with
  | .mult => false
  | .fpPipe => false
  | u => (List.range 4).any (fun k => (s.ctx ⟨c.pav, c.pipe, k⟩).longOps.any (fun o => decide (o.unit = u)))

/-- Carry out what a register-only body answers. -/
def bodyAct (s : State) (c : CtxId) (b : BodyOut) : Act :=
  match b with
  | .raise k => .raise k
  | .stall long => .stall long
  | .ok ws => .done (s.landRegs c ws)
  | .jump ws a => .goto (s.landRegs c ws) a
  | .long op =>
    if s.unitBusy c op.unit then .stall false
    else
      let x := s.ctx c
      .done (s.setCtx c { x with longOps := x.longOps ++ [{ op with micro := x.micro.isSome }] })

/-- A register-only instruction. -/
def runBody (s : State) (c : CtxId) (b : Context → BodyOut) : Out := runStrand s c (fun s x => bodyAct s c (b x))

/-- No long operation and no long-wait access of the context is outstanding (R228). -/
def Context.quiet (x : Context) : Bool := x.longOps.isEmpty && x.waits.isEmpty

/-! ### Request helper for strands -/

/-- Send a request of a strand and await its response. -/
def State.strandRequest (s : State) (c : CtxId) (dest : Nat) (op : ReqOp) (a : Word) (kind : WaitKind) : State :=
  let x := s.ctx c
  let r := s.request c.pav (slotOf c) x.tenant (masterCtx x.tenant c) dest op a (.strand c)
  let y := r.2.ctx c
  r.2.setCtx c { y with waits := y.waits ++ [⟨r.1, kind, x.micro.isSome⟩] }

end Sys2Proof.Machine
end

