-- ==== Sys2Proof/Machine/Access.lean ====
section
/-! DEFINITION. Loads and stores through the segment map, and the slots of the activation's own frame (R194 to R196,
R229, R275, R288, R318, R321, R343). -/

namespace Sys2Proof.Machine

/-! ### What a micro-routine has staged (R217) -/

/-- The registers as the next micro-op reads them. -/
def Context.view (x : Context) : Context :=
  match x.micro with
  | none => x
  | some m => m.staging.foldl (fun x w => match w with | .reg r => x.apply r | _ => x) x

/-- The staged value of a memory word. -/
def Context.stagedWord (x : Context) (a : Word) : Option Word :=
  match x.micro with
  | none => none
  | some m => m.staging.foldl (fun acc w => match w with | .mem b v => if b = a.toNat then some v else acc | _ => acc) none

/-- The staged value of a slot of the own frame. -/
def Context.stagedSlot (x : Context) (n : Nat) : Option Triple :=
  match x.micro with
  | none => none
  | some m => m.staging.foldl (fun acc w => match w with | .slot k v => if k = n then some v else acc | _ => acc) none

/-- Add a write to the staging entries. -/
def State.stageWrite (s : State) (c : CtxId) (w : MicroWrite) : State :=
  let x := s.ctx c
  match x.micro with
  | none => s
  | some m => s.setCtx c { x with micro := some { m with staging := m.staging ++ [w] } }

/-! ### Address forms (Table 6-5) -/

/-- The address, and the new value of the base register in modes 1 and 2. -/
def mAddr (x : Context) (n : Nat) {bw : Nat} (a : BitVec bw) (mode : BitVec 3) (xr : Reg) : Word × Option Word :=
  let b := x.w a.toNat
  let step : Word := BitVec.ofNat 24 (if xr = 0 then n else xr.toNat)
  match mode.toNat with
  | 0 => (b + BitVec.ofNat 24 xr.toNat, none)
  | 1 => (b, some (b + step))
  | 2 => (b - step, some (b - step))
  | m => (b + x.w xr.toNat * BitVec.ofNat 24 (m - 3), none)

/-- Registers that the address needs. -/
def mRefs (x : Context) {bw : Nat} (a : BitVec bw) (mode : BitVec 3) (xr : Reg) : List RegRef :=
  if mode.toNat ≥ 4 then x.wRefs a 1 ++ x.wRefs xr 1 else x.wRefs a 1

/-- The checks before an access: MODE 3, the register group, the scoreboard. -/
def mGate (x : Context) (n : Nat) {bw : Nat} (d a : BitVec bw) (mode : BitVec 3) (xr : Reg) (k : Act) : Act :=
  if mode.toNat = 3 then .raise .illegal
  else if d.toNat + n > 32 then .raise .regRange
  else
    let refs := mRefs x a mode xr ++ x.wRefs d n
    if x.waitBusy refs then .stall true else if x.longBusy refs then .stall false else k

/-! ### What an access may reach -/

/-- A window whose accesses a routine may not make before MCOMMIT (R217). -/
def Target.window : Target → Bool
  | .queue _ => true
  | .locket _ => true
  | .port _ => true
  | .device _ => true
  | .status _ => true
  | _ => false

/-- On a Z256-D only image tasks reach legacy RAM and lockets 56 to 63 of the legacy group (R596). -/
def State.pairRefuses (s : State) (x : Context) (t : Target) : Bool :=
  decide (s.member = .z256d) && !(x.isTask && (s.task x.task).image) &&
    match t with
    | .legacy _ => true
    | .locket w => decide (w / 256 + 1 = unitCount s.member .lockets ∧ w % 256 / 4 ≥ 56)
    | _ => false

/-- The tenant runs in Rolvia compatibility mode (R343). -/
def State.rolvia (s : State) (t : Nat) : Bool := s.regBit (Reg.filTen t 0) 20

/-- A load of the locket window is outstanding: later state accesses wait (R321). -/
def Context.lockWait (x : Context) : Bool := x.waits.any (fun w => match w.kind with | .lock _ => true | _ => false)

/-- Rolvia-mode reads outstanding of a pavilion (R344). -/
def State.rrdCount (s : State) (p : Nat) : Nat :=
  (s.net.outst.filter (fun o => decide (o.q.node = p) && (match o.op with | .rrd _ _ => true | _ => false))).length

/-- Node and word address of a target that lies across the Trellis. -/
def State.farPlace (s : State) : Target → Nat × Nat
  | .remote p a _ => (p, a)
  | .ddr d => (nodeDdr (s.ddrChannel d), d)
  | .legacy w => (nodeLegacy, w)
  | .port w => (nodeBank (w / 16 / 32), w)
  | .queue w => (nodeQueues, w)
  | .locket w => (nodeLockets, w)
  | .device a => (s.servingNode a, a)
  | .status a => (s.servingNode a, a)
  | .own a _ => (0, a)
  | .state w => (nodeSlice (s.homeOf (w / 8)), w)

/-- Request of a read of one window word, or of `n` words of a plain storage. -/
def readOp (rolvia : Bool) (n : Nat) : Target → ReqOp
  | .remote _ a _ => if rolvia then .rrd a n else .rdw a n
  | .ddr d => if rolvia then .rrd d n else .rdw d n
  | .legacy w => if rolvia then .rrd w n else .rdw w n
  | .port w => .rdw w 1
  | .queue w => match w % 8 with
    | 0 => .qget (w / 8)
    | 4 => .qstat (w / 8)
    | 5 => .qpstat (w / 8)
    | _ => .rdw w 1
  | .locket w => match w % 4 with
    | 0 => .lkTry (w / 4)
    | 1 => .lkWait (w / 4)
    | 2 => .lkPeek (w / 4)
    | _ => .rdw w 1
  | .device a => .regrd a
  | .status a => .regrd (a + 0x1000000)
  | .own a _ => .rdw a n
  | .state w => .rdu w

/-- Request of a write. A strand never commits through the queue window (R387). -/
def writeOp (rolvia : Bool) (vs : List Word) : Target → ReqOp
  | .remote _ a view => if view = 1 then .setw a vs else if view = 2 then .clrw a vs
    else if rolvia then .rwr a vs else .wrw a vs
  | .ddr d => if rolvia then .rwr d vs else .wrw d vs
  | .legacy w => if rolvia then .rwr w vs else .wrw w vs
  | .port w => .wrw w vs
  | .queue w => match w % 8 with
    | 0 => .qput (w / 8) (vs.headD 0)
    | 2 => .qrwd (w / 8)
    | 3 => .qdrop (w / 8)
    | _ => .wrw w vs
  | .locket w => match w % 4 with
    | 0 => .lkRel (w / 4)
    | 1 => .lkRel (w / 4)
    | 2 => .lkRec (w / 4)
    | _ => .wrw w vs
  | .device a => .regwr a (vs.headD 0)
  | .status a => .regwr (a + 0x1000000) (vs.headD 0)
  | .own a _ => .wrw a vs
  | .state w => .wru w (vs.headD 0)

/-- The storage takes one request for a run of words: the words of one DDR line, or all of the run. -/
def Target.sameRun : Target → Target → Bool
  | .remote _ _ _, .remote _ _ _ => true
  | .legacy _, .legacy _ => true
  | .ddr a, .ddr b => decide (a / 16 = b / 16)
  | _, _ => false

/-- Group the words of an access into requests: each group is a target and the items of its words. -/
def groupRuns {α : Type} : List (Target × α) → List (Target × List α)
  | [] => []
  | (t, v) :: rest =>
    match groupRuns rest with
    | (u, vs) :: gs => if t.sameRun u then (t, v :: vs) :: gs else (t, [v]) :: (u, vs) :: gs
    | [] => [(t, [v])]

/-! ### Loads -/

/-- The strand takes from a queue or a capture queue (Table 18-3). -/
def State.noteRead (s : State) (c : CtxId) : State := s.setCtx c { s.ctx c with readQueue := true }

/-- Send the requests of a load; `ds` are the ring words of each group. -/
def State.sendLoads (s : State) (c : CtxId) : List (Target × List Nat) → State
  | [] => s
  | (t, ds) :: gs =>
    let place := s.farPlace t
    let kind : WaitKind := match t with | .locket _ => .lock (ds.headD 0) | _ => .load ds
    let reads := match t with
      | .port w => decide (w % 16 = 4)
      | .queue w => decide (w % 8 = 0)
      | _ => false
    ((if reads then s.noteRead c else s).strandRequest c place.1 (readOp (s.rolvia (s.ctx c).tenant) ds.length t) (BitVec.ofNat 24 place.2) kind).sendLoads c gs

/-- Let a load wait for lines of state memory: each word of state memory and its ring word. -/
def State.waitLines (s : State) (c : CtxId) : List (Nat × Nat) → State
  | [] => s
  | (w, d) :: rest =>
    let x := s.ctx c
    let s1 := s.setCtx c { x with waits := x.waits ++ [⟨0, .state (w / 8) [(w, d)], x.micro.isSome⟩] }
    (s1.startMiss c.pav (w / 8) false).waitLines c rest

/-- Register writes of the words of a load that are there now. -/
def landed (ws : List (Nat × Word)) : List RegWrite := ws.map (fun e => .ring e.1 e.2)

/-- A load from the pavilion's own scratchpad. -/
def loadOwn (s : State) (c : CtxId) (x : Context) (addr : Word) (base : List RegWrite) (items : List (Nat × Target × Nat))
    (ecc : Ecc) : Act :=
  let locals := items.map (fun e => match e.2.1 with | .own a _ => a | _ => 0)
  let a0 := locals.headD 0
  let chk := s.spadCheck c.pav a0 ecc
  if chk.2 || s.spadAnyBad c.pav a0 items.length then .bus chk.1 5 (BitVec.ofNat 24 a0)
  else
    let vs := items.map (fun e => (e.2.2, match x.stagedWord (addr + BitVec.ofNat 24 e.1), e.2.1 with
      | some v, _ => v
      | none, .own a _ => chk.1.spadRead c.pav a
      | none, _ => 0))
    .done (chk.1.landRegs c (base ++ landed vs))

/-- An earlier load of the context waits for another line of state memory than those of these words. -/
def Context.loadAhead (x : Context) (ws : List Nat) : Bool :=
  x.waits.any (fun w => match w.kind with | .state l _ => ws.any (fun v => decide (v / 8 ≠ l)) | _ => false)

/-- A load from state memory (R318 to R321); it waits for an earlier load from another line, for the loads of a context
take effect in program order (R319). (log 71, DEDUCED) -/
def loadState (s : State) (c : CtxId) (x : Context) (addr : Word) (base : List RegWrite)
    (items : List (Nat × Target × Nat)) (ecc : Ecc) : Act :=
  if x.lockWait || x.loadAhead (items.map (fun e => match e.2.1 with | .state w => w | _ => 0)) then .stall true
  else
    let words := items.map (fun e => (e.1, (match e.2.1 with | .state w => w | _ => 0), e.2.2))
    let w0 := (words.headD (0, 0, 0)).2.1
    let hit0 := ((s.cache c.pav).find (w0 / 8)).isSome && ((s.cache c.pav).bufferedWord (slotOf c) w0).isNone
    let s1 := if hit0 then (s.cacheCheck c.pav (w0 / 8) (w0 % 8) ecc).1 else s
    let now := words.filterMap (fun e => match x.stagedWord (addr + BitVec.ofNat 24 e.1) with
      | some v => some (e.2.2, (⟨v, false⟩ : SWord))
      | none => (s1.loadNow c e.2.1).map (fun v => (e.2.2, v)))
    let later := words.filter (fun e => (x.stagedWord (addr + BitVec.ofNat 24 e.1)).isNone && (s1.loadNow c e.2.1).isNone)
    let found := words.any (fun e => (x.stagedWord (addr + BitVec.ofNat 24 e.1)).isNone && ((s1.cache c.pav).find (e.2.1 / 8)).isSome)
    if now.any (fun e => e.2.bad) then .bus s1 5 (BitVec.ofNat 24 w0)
    else
      let s0 := words.foldl (fun s e => s.touch c.pav (e.2.1 / 8)) s1
      let s2 := if later.isEmpty && found then s0.bump (Reg.cstat c.pav 0) else s0
      .done ((s2.landRegs c (base ++ landed (now.map (fun e => (e.1, e.2.v))))).waitLines c
        (later.map (fun e => (e.2.1, e.2.2))))

/-- A load across the Trellis. -/
def loadFar (s : State) (c : CtxId) (x : Context) (addr : Word) (base : List RegWrite)
    (items : List (Nat × Target × Nat)) : Act :=
  let now := items.filterMap (fun e => (x.stagedWord (addr + BitVec.ofNat 24 e.1)).map (fun v => (e.2.2, v)))
  let later := items.filter (fun e => (x.stagedWord (addr + BitVec.ofNat 24 e.1)).isNone)
  let groups := groupRuns (later.map (fun e => (e.2.1, e.2.2)))
  let viaRolvia := s.rolvia x.tenant && groups.any (fun g => match g.1 with
    | .remote _ _ _ => true
    | .ddr _ => true
    | .legacy _ => true
    | _ => false)
  if viaRolvia && decide (s.rrdCount c.pav + groups.length > 16) then .stall true
  else .done ((s.landRegs c (base ++ landed now)).sendLoads c groups)

/-- A load of `n` words (R195). -/
def loadAct (n : Nat) {bw : Nat} (d a : BitVec bw) (mode : BitVec 3) (xr : Reg) (ecc : Ecc) (c : CtxId) (s : State) : Act :=
  let x := (s.ctx c).view
  mGate x n d a mode xr (
    let m := mAddr x n a mode xr
    match s.translateAll c x m.1 false n with
    | none => .raise .segment
    | some ts =>
      let head := ts.headD (.own 0 0)
      if x.stages && head.window then .raise .illegal
      else if s.pairRefuses x head then .raise .rights
      else
        let dests := (List.range n).map (fun k => x.wi (d.toNat + k))
        let base : List RegWrite := match m.2 with
          | some v => if x.wi a.toNat ∈ dests then [] else [.ring (x.wi a.toNat) v]
          | none => []
        let items := (List.range n).zip (ts.zip dests)
        match head with
        | .own _ _ => loadOwn s c x m.1 base items ecc
        | .state _ => loadState s c x m.1 base items ecc
        | _ => loadFar s c x m.1 base items)

/-! ### Stores -/

/-- Stage the words of a store (R217). (log 22, DEDUCED) -/
def State.stageStore (s : State) (c : CtxId) (addr : Word) : List Word → State
  | [] => s
  | v :: vs => (s.stageWrite c (.mem addr v)).stageStore c (addr + 1) vs

/-- A word for a code store enters the code-write buffer; a ninth drains it first (R237). (log 33, DEDUCED) -/
def State.bufferCode (s : State) (c : CtxId) (p a : Nat) (v : Word) : State :=
  let s1 := if (s.ctx c).codeBuf.length ≥ 8 then s.drainCode c else s
  let x := s1.ctx c
  s1.setCtx c { x with codeBuf := x.codeBuf ++ [⟨p, a, v⟩] }

/-- The code-store word of a device register address. -/
def State.codeWord (s : State) (a : Nat) : Option (Nat × Nat) :=
  if a ≥ 0x800000 ∧ (a - 0x800000) % 0x8000 ≥ 0x4000 ∧ unitPresent s.member .pavs ((a - 0x800000) / 0x8000) = true then
    some ((a - 0x800000) / 0x8000, (a - 0x800000) % 0x8000 - 0x4000)
  else none

/-- Send one request of a store; a Rolvia-mode write is posted (R343), a code-store word is buffered. -/
def State.sendStore (s : State) (c : CtxId) (t : Target) (vs : List Word) : State :=
  let x := s.ctx c
  let code := match t with
    | .device a => s.codeWord a
    | _ => none
  match code with
  | some (p, a) => s.bufferCode c p a (vs.headD 0)
  | none =>
    let place := s.farPlace t
    match writeOp (s.rolvia x.tenant) vs t with
    | .rwr a ws => s.post c.pav (slotOf c) x.tenant (masterCtx x.tenant c) place.1 (.rwr a ws)
    | op =>
      let drops := match op with | .qdrop _ => true | _ => false
      (if drops then s.noteRead c else s).strandRequest c place.1 op (BitVec.ofNat 24 place.2) .store

/-- Send the requests of a store. -/
def State.sendStores (s : State) (c : CtxId) : List (Target × List Word) → State
  | [] => s
  | (t, vs) :: gs => (s.sendStore c t vs).sendStores c gs

/-- Store words to mapped targets at once. -/
def State.storeTargets (s : State) (c : CtxId) (tv : List (Target × Word)) : State :=
  match (tv.map Prod.fst).headD (.own 0 0) with
  | .own a view => s.spadStore c.pav a view (tv.map Prod.snd)
  | .state _ => s.storeState c (tv.filterMap (fun e => match e.1 with | .state w => some (w, e.2) | _ => none))
  | _ => s.sendStores c (groupRuns tv)

/-- A store of `n` words (R195). -/
def storeAct (n : Nat) {bw : Nat} (d a : BitVec bw) (mode : BitVec 3) (xr : Reg) (c : CtxId) (s : State) : Act :=
  let x := (s.ctx c).view
  mGate x n d a mode xr (
    let m := mAddr x n a mode xr
    match s.translateAll c x m.1 true n with
    | none => .raise .segment
    | some ts =>
      let head := ts.headD (.own 0 0)
      if x.stages && head.window then .raise .illegal
      else if s.pairRefuses x head then .raise .rights
      else
        let vs := (List.range n).map (fun k => x.w (d.toNat + k))
        let base : List RegWrite := match m.2 with
          | some v => [.ring (x.wi a.toNat) v]
          | none => []
        let isState := match head with | .state _ => true | _ => false
        let held := s.storeHeld c (ts.filterMap (fun t => match t with | .state w => some w | _ => none))
        if x.stages then .done ((s.landRegs c base).stageStore c m.1 vs)
        else if isState && (x.lockWait || held) then .stall true
        else if head.window && !(s.bufferEmpty c) then .stall true
        else .done ((s.landRegs c base).storeTargets c (ts.zip vs)))

/-- Store one word whose address was translated when it was staged. -/
def State.storeLate (s : State) (c : CtxId) (a v : Word) : State :=
  match s.translate c (s.ctx c) a true with
  | some t => s.storeTargets c [(t, v)]
  | none => s

/-! ### Slots of the activation's own frame (R196) -/

/-- LDS. -/
def ldsAct {bw : Nat} (d a : BitVec bw) (imm : BitVec 8) (c : CtxId) (s : State) : Act :=
  let x := (s.ctx c).view
  if nz a then .raise .illegal
  else if tripleOut d then .raise .regRange
  else if x.isTask then .raise .frameOnly
  else
    let f := Tag.frame x.handle
    if s.frameGone x.handle = false ∧ imm.toNat ≥ (s.frame f).slots then .raise .frameOnly
    else if x.waitBusy (x.wRefs d 3) then .stall true
    else if x.longBusy (x.wRefs d 3) then .stall false
    else
      let v : Triple := match x.stagedSlot imm.toNat with
        | some v => v
        | none => if s.frameGone x.handle then 0 else slotRead (s.slot (s.slotKey f imm.toNat))
      .done (s.landRegs c (x.wrTriple d.toNat v))

/-- The write of STS: a token with CRIT 0 and TYPE 2 under Table 3-7 (R91). -/
def State.slotStore (s : State) (f sl : Nat) (v : Triple) : State :=
  let s1 := s.putSlot f sl v 2 false
  if sl % 16 = 15 then s1 else s1.clearCpl f (sl + 1)

/-- STS: refused on an operand slot or where Table 3-7 discards a token (R91). (log 22, DEDUCED) -/
def stsAct {bw : Nat} (d a : BitVec bw) (imm : BitVec 8) (c : CtxId) (s : State) : Act :=
  let x := (s.ctx c).view
  let sl := imm.toNat
  if nz a then .raise .illegal
  else if tripleOut d then .raise .regRange
  else if x.isTask then .raise .frameOnly
  else
    let f := Tag.frame x.handle
    if s.frameGone x.handle = false ∧ sl ≥ (s.frame f).slots then .raise .frameOnly
    else if x.waitBusy (x.wRefs d 3) then .stall true
    else if x.longBusy (x.wRefs d 3) then .stall false
    else if s.frameGone x.handle then .done (s.bump (Reg.sliceStat (s.sliceOf f) 0))
    else match s.matchRow f sl false with
      | .passive => .done (if x.stages then s.stageWrite c (.slot sl (x.wTriple d.toNat)) else s.slotStore f sl (x.wTriple d.toNat))
      | _ => .raise .slotWrite

/-! ### The instructions -/

/-- LD (R195). -/
def execLd (c : CtxId) (d a : Reg) (mode : BitVec 3) (x : Reg) (ecc : Ecc) (s : State) : Out :=
  runStrand s c (fun s _ => loadAct 1 d a mode x ecc c s)
/-- LDP (R195). -/
def execLdp (c : CtxId) (d a : Reg) (mode : BitVec 3) (x : Reg) (ecc : Ecc) (s : State) : Out :=
  runStrand s c (fun s _ => loadAct 2 d a mode x ecc c s)
/-- LDT (R195). -/
def execLdt (c : CtxId) (d a : Reg) (mode : BitVec 3) (x : Reg) (ecc : Ecc) (s : State) : Out :=
  runStrand s c (fun s _ => loadAct 3 d a mode x ecc c s)
/-- ST (R195). -/
def execSt (c : CtxId) (d a : Reg) (mode : BitVec 3) (x : Reg) (s : State) : Out :=
  runStrand s c (fun s _ => storeAct 1 d a mode x c s)
/-- STP (R195). -/
def execStp (c : CtxId) (d a : Reg) (mode : BitVec 3) (x : Reg) (s : State) : Out :=
  runStrand s c (fun s _ => storeAct 2 d a mode x c s)
/-- STT (R195). -/
def execStt (c : CtxId) (d a : Reg) (mode : BitVec 3) (x : Reg) (s : State) : Out :=
  runStrand s c (fun s _ => storeAct 3 d a mode x c s)
/-- LDS (R196). -/
def execLds (c : CtxId) (d a : Reg) (imm : BitVec 8) (s : State) : Out :=
  runStrand s c (fun s _ => ldsAct d a imm c s)
/-- STS (R196). -/
def execSts (c : CtxId) (d a : Reg) (imm : BitVec 8) (s : State) : Out :=
  runStrand s c (fun s _ => stsAct d a imm c s)

end Sys2Proof.Machine
end

