-- ==== Sys2Proof/Machine/Flow.lean ====
section
/-! DEFINITION. Calls, returns, loops and alerts: the sliding window with its spill area, loop levels, alert entry and
return (R185, R186, R198 to R200, R240 to R243). -/

namespace Sys2Proof.Machine

/-! ### The spill area (R186, R282, R283) -/

/-- Write words to spill block `k` of the strand in a context. -/
def State.spillStore (s : State) (c : CtxId) (k : Nat) (ws : List Word) : State :=
  let x := s.ctx c
  if x.isTask then s.recStore x.task (128 + 24 * k) ws
  else s.spadStore c.pav (s.blockBase c + 24 * k) 0 ws

/-- Read spill block `k` of the strand in a context. -/
def State.spillLoad (s : State) (c : CtxId) (k : Nat) : List Word :=
  let x := s.ctx c
  (List.range 24).map (fun i =>
    if x.isTask then s.recRead x.task (128 + 24 * k + i) else s.spadRead c.pav (s.blockBase c + 24 * k + i))

/-! ### The window (R185) -/

/-- First ring word of the oldest of seven resident windows. -/
def Context.oldest (x : Context) : Nat := (x.wb + 48) % 192

/-- Write ring words from `i` on. -/
def Context.setRings (x : Context) (i : Nat) : List Word → Context
  | [] => x
  | w :: ws => (x.setRing (i % 192) w).setRings (i + 1) ws

/-- Ring words that a slide up reads or clears. -/
def Context.upRefs (x : Context) : List RegRef :=
  ((List.range 24).map (fun k => RegRef.ring ((x.wb + 32 + k) % 192)))
    ++ (if x.res = 176 then (List.range 24).map (fun k => RegRef.ring ((x.oldest + k) % 192)) else [])

/-- The window slides up, spilling where the quarter is full. -/
def State.slideUp (s : State) (c : CtxId) : State :=
  let x := s.ctx c
  let full := decide (x.res = 176)
  let s1 := if full then s.spillStore c (x.depth - 6)
      ((List.range 24).map (fun k => Map.get (fun _ => 0) x.ring ((x.oldest + k) % 192))) else s
  let y := s1.ctx c
  let z := { y with wb := (y.wb + 24) % 192, res := (if full then 152 else y.res) + 24, depth := y.depth + 1 }
  let s2 := s1.setCtx c (z.setRings (z.wb + 8) (List.replicate 24 0))
  if full then s2.bump (Reg.pipeStat c.pav c.pipe 4) else s2

/-- Ring words that a slide down fills. -/
def Context.downRefs (x : Context) : List RegRef :=
  if x.res = 32 then (List.range 24).map (fun k => RegRef.ring ((x.wb + 168 + k) % 192)) else []

/-- The window slides back, filling the caller's W0 to W23 if they were spilled. -/
def State.slideDown (s : State) (c : CtxId) : State :=
  let x := s.ctx c
  let fill := decide (x.res = 32)
  let y := if fill then x.setRings (x.wb + 168) (s.spillLoad c (x.depth - 1)) else x
  let s1 := s.setCtx c { y with
    wb := (x.wb + 168) % 192
    res := if fill then 32 else x.res - 24
    depth := x.depth - 1 }
  if fill then s1.bump (Reg.pipeStat c.pav c.pipe 4) else s1

/-- Stall where a register named is owed a result. -/
def Context.owed (x : Context) (rs : List RegRef) (k : Act) : Act :=
  if x.waitBusy rs then .stall true else if x.longBusy rs then .stall false else k

/-- CALL to a target (R185). -/
def callAct (target : Int) (c : CtxId) (s : State) : Act :=
  let x := s.ctx c
  if x.depth = 31 then .raise .callDepth
  else if target < 0 ∨ target > 16383 then .raise .ipRange
  else x.owed x.upRefs (
    let s1 := s.setCtx c { x with lnk := BitVec.ofNat 24 ((x.ip + 1) % 16384) }
    .goto (s1.slideUp c) target.toNat)

/-! ### Loop levels (R199, R200) -/

/-- End every level that call depth `d` opened: the levels that stay keep their order. (log 17, DEDUCED) -/
def Context.endLevels (x : Context) (d : Nat) : Context :=
  let keep := ((List.range x.lcfgDepth).map x.loop).filter (fun l => decide (l.ld ≠ d))
  let y := ((List.range keep.length).zip keep).foldl (fun (y : Context) e => y.setLoop e.1 e.2) x
  { y with lcfgDepth := keep.length }

/-- LOOP or LOOPI: open a level, or skip the body. (log 16, 17, DEDUCED) -/
def loopAct (count : Nat) (last : Nat) (c : CtxId) (s : State) : Act :=
  let x := s.ctx c
  if count = 0 then
    if x.ip + last + 1 > 16383 then .raise .ipRange else .goto s (x.ip + last + 1)
  else if x.lcfgDepth = 3 then .raise .loopDepth
  else
    let l : LoopLevel := ⟨BitVec.ofNat 24 ((x.ip + 1) % 16384), BitVec.ofNat 24 ((x.ip + last) % 16384),
      BitVec.ofNat 24 count, x.depth⟩
    .done (s.setCtx c { x.setLoop x.lcfgDepth l with lcfgDepth := x.lcfgDepth + 1 })

/-! ### Alerts (R240 to R242) -/

/-- First code-store word of the strand's code set (R241, R296). -/
def State.alertBase (s : State) (x : Context) : Nat := s.setBase (s.entrySet x.entry)

/-- Cause word of Table 7-11. -/
def causeWord (a : Nat × Nat) : Word := BitVec.ofNat 24 (a.1 % 16 * 0x100000 + a.2 % 0x4000)

/-- Results that a discarded micro-op still owes are dropped (Table 7-10). -/
def Context.dropMicro (x : Context) : Context :=
  { x with
    micro := none
    longOps := x.longOps.map (fun (o : LongOp) => if o.micro then { o with writes := [], fpFlags := 0, micro := false } else o)
    waits := (x.waits.filter (fun w => !(w.micro && (match w.kind with | .state _ _ => true | _ => false)))).map
      (fun (w : WaitRec) => if w.micro then { w with kind := .load [], micro := false } else w) }

/-- The alert waits for the end of the routine in progress (Table 7-10). -/
def Context.alertHeld (x : Context) : Bool :=
  match x.micro with
  | none => false
  | some m => m.atomic || m.committed

/-- Alert entry of the lowest pending cause. (log 24, DEDUCED) -/
def State.enterAlert (s : State) (c : CtxId) (a : Nat × Nat) (rest : List (Nat × Nat)) : State :=
  let x := s.ctx c
  let s1 := ((s.setCtx c { x with alerts := rest, inAlert := true }).slideUp c).bump (Reg.pipeStat c.pav c.pipe 5)
  let y := s1.ctx c
  let fl : Word := BitVec.ofNat 24 x.fl.toNat
  s1.setCtx c { y.setRings (y.wb + 8) [BitVec.ofNat 24 x.ip, fl, causeWord a] with ip := s1.alertBase x + a.1 }

/-- ALERT_ENTRY (R241): at an instruction boundary, with every result that the entry touches there. (log 24, DEDUCED) -/
def execAlertEntry (c : CtxId) (s : State) : Out :=
  if ctxPresent s.member c = false then .fault .absentUnit
  else
    let x := s.ctx c
    if s.pair.fenced = true ∨ x.state ≠ .issuing ∨ x.alertDue = false ∨ x.alertHeld = true ∨ x.awaitsGrant = true then .next s
    else match x.lateErr with
      | some (st, a) => .next ((s.setCtx c { x with lateErr := none }).busFault c st a)
      | none =>
        if x.ip ≥ 16384 then .next (s.instrFault c .ipRange)
        else
          let y := x.dropMicro
          if y.waitBusy (.fl :: y.upRefs) || y.longBusy (.fl :: y.upRefs) then .next s
          else if x.depth = 31 then .next (s.instrFault c .callDepth)
          else match x.alerts with
            | [] => .next s
            | a :: rest => .next ((s.setCtx c y).enterAlert c a rest)

/-- ARET (R242). -/
def aretAct (c : CtxId) (s : State) : Act :=
  let x := s.ctx c
  if x.inAlert = false then .raise .illegal
  else match x.alerts with
    | a :: rest => x.owed (x.wRefs (10 : Reg) 1)
        (.goto ((s.setCtx c { x.setRing (x.wi 10) (causeWord a) with alerts := rest }).bump
          (Reg.pipeStat c.pav c.pipe 5)) (s.alertBase x + a.1))
    | [] =>
      if x.depth = 0 then .raise .retDepth
      else if (x.w 8).toNat > 16383 then .raise .ipRange
      else x.owed (.fl :: (x.wRefs (8 : Reg) 2 ++ x.downRefs)) (
        let y := x.endLevels x.depth
        .goto ((s.setCtx c { y with fl := (x.w 9).setWidth 5, inAlert := false }).slideDown c) (x.w 8).toNat)

/-! ### The instructions -/

/-- CALL (R185, R198). -/
def execCall (c : CtxId) (off : BitVec 18) (s : State) : Out :=
  runStrand s c (fun s x => callAct (relTarget x off.toInt) c s)

/-- CALLR (R198): D and B must be 0. -/
def execCallr (c : CtxId) (d a b : Reg) (s : State) : Out :=
  runStrand s c (fun s x =>
    if nz d || nz b then .raise .illegal
    else x.owed (x.wRefs a 1) (callAct ((x.w a.toNat).toNat : Int) c s))

/-- RET (R185): D, A and B must be 0. -/
def execRet (c : CtxId) (d a b : Reg) (s : State) : Out :=
  runStrand s c (fun s x =>
    if nz d || nz a || nz b then .raise .illegal
    else if x.depth = 0 then .raise .retDepth
    else x.owed x.downRefs (
      .goto ((s.setCtx c (x.endLevels x.depth)).slideDown c) (x.lnk.toNat % 16384)))

/-- LOOP (R199). -/
def execLoop (c : CtxId) (a : Reg) (last : BitVec 13) (s : State) : Out :=
  runStrand s c (fun s x =>
    if last = 0 then .raise .illegal
    else x.owed (x.wRefs a 1) (loopAct (x.w a.toNat).toNat last.toNat c s))

/-- LOOPI (R199). -/
def execLoopi (c : CtxId) (cnt : BitVec 8) (last : BitVec 10) (s : State) : Out :=
  runStrand s c (fun s _ => if last = 0 then .raise .illegal else loopAct cnt.toNat last.toNat c s)

/-- LPOP (R211). -/
def execLpop (c : CtxId) (a b : Reg) (k : BitVec 2) (s : State) : Out :=
  runStrand s c (fun s x =>
    if nz a || nz b || k != 0 then .raise .illegal
    else .done (s.setCtx c { x with lcfgDepth := x.lcfgDepth - 1 }))

/-- ARET (R242). -/
def execAret (c : CtxId) (a b : Reg) (k : BitVec 2) (s : State) : Out :=
  runStrand s c (fun s _ => if nz a || nz b || k != 0 then .raise .illegal else aretAct c s)

end Sys2Proof.Machine
end

