-- ==== Sys2Proof/Machine/System.lean ====
section
/-! DEFINITION. The system group: NOP, SYNC, SYNC.I, END, the fences, BRK and MCOMMIT, and what every release point of a
task does (R143, R211, R228, R233 to R237, R320). -/

namespace Sys2Proof.Machine

/-- A, B and K are not all 0 (R211). -/
def sysIll (a b : Reg) (k : BitVec 2) : Bool := nz a || nz b || k != 0

/-! ### SYNC (R235, R236) -/

/-- A pending write of the context to a decode table or micro-op store meets a custom instruction in progress. -/
def State.syncHeld (s : State) (c : CtxId) : Bool := (s.ctx c).syncPavs.any s.microBusy

/-- Wait for the custom instructions of the pavilions written. -/
def State.holdSync (s : State) (c : CtxId) : Act :=
  .leave ((s.setCtx c { s.ctx c with syncWait := true }).stallCtx c false)

/-- SYNC. -/
def syncAct (c : CtxId) (s : State) : Act :=
  if (s.ctx c).quiet = false then .stall !(s.ctx c).waits.isEmpty
  else if s.syncHeld c then s.holdSync c
  else .done (s.syncCtx c)

/-- SYNC.I: drain the code-write buffer, then wait for the words that crossed the Trellis. -/
def syncIAct (c : CtxId) (s : State) : Act :=
  if (s.ctx c).quiet = false then .stall !(s.ctx c).waits.isEmpty
  else
    let s1 := s.drainCode c
    if s1.draining c then .leave (s1.stallCtx c true) else .done s1

/-! ### Release points and END (R143, R228, R233, R321) -/

/-- What holds END or a release point at issue: owed results, state stores that are not yet visible, a SYNC. (log 14, DESIGN CHOICE) -/
def releaseGate (c : CtxId) (s : State) (k : Act) : Act :=
  let x := s.ctx c
  if x.quiet = false then .stall !x.waits.isEmpty
  else if s.bufferEmpty c = false then .stall true
  else if s.syncHeld c then s.holdSync c
  else k

/-- A release point of a task: SYNC, drain, the staged set leaves, its record of allocations empties, the group is
charged with the service used (R101, R123, R143, R233). -/
def State.releasePoint (s : State) (c : CtxId) (svc : Nat) : State :=
  let s1 := ((s.syncCtx c).drainCode c).releaseStaged c
  let x := s1.ctx c
  (s1.setCtx c { x with allocs := [], budgetRaised := false }).charge x.port x.wgrp svc

/-- The context of a waiting task goes to SAVING: its alerts are lost, its packets and lockets go (R233, R245). -/
def State.toSaving (s : State) (c : CtxId) : State :=
  let m := s.masterOf c
  let s1 := ((s.loseAlerts c).masterLeaves m (s.commitsOut m)).orphanAccesses c
  let x := s1.ctx c
  s1.leaveIssue c { x with state := .saving, alerts := [], lockets := [], waits := [] }

/-- The task waits: its context goes to SAVING at the next address. -/
def State.waitAway (s : State) (c : CtxId) : State :=
  ((s.setCtx c (s.ctx c).advance).countIssue c).toSaving c

/-- END. -/
def endAct (svc : Nat) (c : CtxId) (s : State) : Act :=
  releaseGate c s (
    let x := s.ctx c
    let s1 := ((((s.drainCode c).releaseStaged c).activity x.tenant).charge x.port x.wgrp svc).loseAlerts c
    let s2 := s1.masterLeaves (masterCtx x.tenant c) (s1.commitsOut (masterCtx x.tenant c))
    let s3 := if x.isTask then s2.taskFree x.task
      else (s2.send (.slotRelease x.handle)).flowNext x.flow x.handle
    .leave (((s3.orphanAccesses c).countIssue c).freeCtxNow c))

/-! ### Fences (R320) -/

/-- Every earlier state access of the context has completed. -/
def State.stateQuiet (s : State) (c : CtxId) : Bool :=
  s.bufferEmpty c && !((s.ctx c).waits.any (fun w => match w.kind with
    | .state _ _ => true
    | .load _ => true
    | .lock _ => true
    | _ => false))

/-- FENCE with K = 0. -/
def fenceAct (c : CtxId) (s : State) : Act := if s.stateQuiet c then .done s else .stall true

/-- FENCE with K = 1. -/
def fenceWritesAct (c : CtxId) (s : State) : Act :=
  .done (if s.bufferEmpty c then s else s.setCtx c { s.ctx c with fenced := true })

/-! ### The instructions -/

/-- NOP (R211). -/
def execNop (c : CtxId) (a b : Reg) (k : BitVec 2) (s : State) : Out :=
  runStrand s c (fun s _ => if sysIll a b k then .raise .illegal else .done s)

/-- SYNC (R211, R235). -/
def execSync (c : CtxId) (a b : Reg) (k : BitVec 2) (s : State) : Out :=
  runStrand s c (fun s _ => if sysIll a b k then .raise .illegal else syncAct c s)

/-- SYNC.I (R211, R237). -/
def execSyncI (c : CtxId) (a b : Reg) (k : BitVec 2) (s : State) : Out :=
  runStrand s c (fun s _ => if sysIll a b k then .raise .illegal else syncIAct c s)

/-- END (R211, R38, R97, R143). `svc` counts the steps of service (R123). -/
def execEndStrand (c : CtxId) (a b : Reg) (k : BitVec 2) (svc : Nat) (s : State) : Out :=
  runStrand s c (fun s _ => if sysIll a b k then .raise .illegal else endAct svc c s)

/-- FENCE (R211, R320). -/
def execFence (c : CtxId) (a b : Reg) (k : BitVec 2) (s : State) : Out :=
  runStrand s c (fun s _ =>
    if nz a || nz b || decide (k.toNat ≥ 2) then .raise .illegal
    else if k = 1 then fenceWritesAct c s else fenceAct c s)

/-- FENCE with K = 1 (R320). -/
def execFenceWrites (c : CtxId) (a b : Reg) (s : State) : Out :=
  runStrand s c (fun s _ => if nz a || nz b then .raise .illegal else fenceWritesAct c s)

/-- BRK (R211): halt for the debug port, or BREAK. (log 19, DEDUCED) -/
def execBrk (c : CtxId) (a b : Reg) (k : BitVec 2) (s : State) : Out :=
  runStrand s c (fun s x =>
    if sysIll a b k then .raise .illegal
    else if s.jtag.brk = false then .raise .break
    else .leave (((s.setCtx c { x.advance with state := .halted }).countIssue c).schedule c.pav c.pipe))

/-- MCOMMIT (R211, R217): it issues only in microcode. (log 20, DEDUCED) -/
def execMcommit (c : CtxId) (a b : Reg) (k : BitVec 2) (s : State) : Out :=
  runStrand s c (fun _ _ => if sysIll a b k then .raise .illegal else .raise .illegal)

end Sys2Proof.Machine
end

