-- ==== Sys2Proof/Machine/Tokens.lean ====
section
/-! DEFINITION. Instructions that stage tokens and frees (R205 to R207, R209). -/

namespace Sys2Proof.Machine

/-- Add one staged effect, or raise STAGED (R37, R207). -/
def stageAct (c : CtxId) (e : Staged) (s : State) : Act :=
  let x := s.ctx c
  if x.staged.length ≥ 32 then .raise .staged else .done (s.setCtx c { x with staged := x.staged ++ [e] })

/-- V1 of an event word that this strand sends (Table 2-3). -/
def Context.eventId (x : Context) : Word :=
  BitVec.ofNat 24 ((if x.isTask then 0x400000 + x.task % 4096 else 0) + x.tenant % 512 * 0x1000)

/-- The value of a token of TYPE `ty`: unused bits cleared, V1 of an event replaced (R63, R205). -/
def Context.tokenValue (x : Context) (ty : Nat) (v : Triple) : Triple :=
  if ty = 7 then Triple.ofWords (v.word 0) x.eventId 0 else clearUnused ty v

/-- SEND and SEND.C (R205). -/
def sendAct (crit : Nat) (h v : Reg) (ty : BitVec 3) (off : Reg) (c : CtxId) (s : State) : Act :=
  let x := s.ctx c
  if tripleOut h || tripleOut v then .raise .regRange
  else x.owed (x.wRefs h 3 ++ x.wRefs v 3) (
    let tag := x.wTriple h.toNat
    let sl := Tag.slot tag + off.toNat
    if sl > 255 then .raise .slotRange
    else
      let tag1 := (((tag.setField 21 8 sl).setField 3 3 ty.toNat).setField 2 1 crit).setField 0 2 0
      stageAct c (.token tag1 (x.tokenValue ty.toNat (x.wTriple v.toNat))) s)

/-- The SENDX group (R206): the tag as it stands but for bits [1:0], or with CRIT set. -/
def sendxAct (port crit : Bool) (d a b : Reg) (c : CtxId) (s : State) : Act :=
  let x := s.ctx c
  if nz b then .raise .illegal
  else if tripleOut d || tripleOut a then .raise .regRange
  else x.owed (x.wRefs d 3 ++ x.wRefs a 3) (
    let t := (x.wTriple d.toNat).setField 0 2 0
    let tag := if crit then t.setField 2 1 1 else t
    let v := x.tokenValue (Tag.ty tag) (x.wTriple a.toNat)
    stageAct c (if port then .port tag v else .token tag v) s)

/-- SEND (R205). -/
def execSend (c : CtxId) (h v : Reg) (ty : BitVec 3) (off : Reg) (s : State) : Out :=
  runStrand s c (fun s _ => sendAct 0 h v ty off c s)
/-- SEND.C (R205). -/
def execSendC (c : CtxId) (h v : Reg) (ty : BitVec 3) (off : Reg) (s : State) : Out :=
  runStrand s c (fun s _ => sendAct 1 h v ty off c s)
/-- SENDC (R206). (log 27, DESIGN CHOICE) -/
def execSendc (c : CtxId) (d a b : Reg) (s : State) : Out :=
  runStrand s c (fun s _ => sendxAct false false d a b c s)
/-- SENDC.C (R206). -/
def execSendcC (c : CtxId) (d a b : Reg) (s : State) : Out :=
  runStrand s c (fun s _ => sendxAct false true d a b c s)
/-- SENDP (R206). -/
def execSendp (c : CtxId) (d a b : Reg) (s : State) : Out :=
  runStrand s c (fun s _ => sendxAct true false d a b c s)
/-- SENDP.C (R206). -/
def execSendpC (c : CtxId) (d a b : Reg) (s : State) : Out :=
  runStrand s c (fun s _ => sendxAct true true d a b c s)

/-- FREE (R209): stage the release of the frame of a handle. -/
def execFreeF (c : CtxId) (d a b : Reg) (s : State) : Out :=
  runStrand s c (fun s x =>
    if nz d || nz b then .raise .illegal
    else if tripleOut a then .raise .regRange
    else x.owed (x.wRefs a 3) (stageAct c (.freeFrame (x.wTriple a.toNat)) s))

end Sys2Proof.Machine
end

