-- ==== Sys2Proof/Machine/Tasks.lean ====
section
/-! DEFINITION. Instructions of tasks, frames and time: ALLOC, ALLOCW, SPAWN, SEV, WFE, WAITT and GETT
(R102 to R104, R141 to R146, R208, R209, R417). -/

namespace Sys2Proof.Machine

/-! ### Allocation (R102, R208) -/

/-- Handles that the strand holds on record or awaits. -/
def Context.allocCount (x : Context) : Nat :=
  x.allocs.length + (x.waits.filter (fun w => match w.kind with
    | .alloc _ => true
    | .allocw _ => true
    | _ => false)).length

/-- The slice where the walk of an allocation starts (R102). -/
def State.allocStart (s : State) (p : Nat) (t : Template) : Nat :=
  if t.win ≠ 0 then t.win % sliceCount s.member
  else 4 * clusterOf s.member p + s.home (clusterOf s.member p)

/-- The checks of a template before its request leaves (R102, R208). -/
def State.allocCheck (s : State) (x : Context) (k : Nat) : Option Cause :=
  if x.allocCount ≥ 16 then some .allocRec
  else match s.templateIn x.tenant k x.epoch with
    | none => some .template
    | some t => if t.win ≠ 0 ∧ s.lwinOwner t.win ≠ x.tenant then some .rights else none

/-- Send the allocation request of a context. -/
def State.allocSend (s : State) (c : CtxId) (k : Nat) (wait : Bool) (kind : WaitKind) : State :=
  let x := s.ctx c
  let sl := match s.templateIn x.tenant k x.epoch with
    | some t => s.allocStart c.pav t
    | none => 0
  let r := s.await c.pav (slotOf c) x.tenant (masterCtx x.tenant c) (nodeSlice sl) .alloc 0 (.strand c)
  let y := r.2.ctx c
  (r.2.setCtx c { y with waits := y.waits ++ [⟨r.1, kind, y.micro.isSome⟩] }).send
    (.allocReq ⟨c, r.1, x.tenant, k, x.epoch, wait⟩)

/-- ALLOC (R208). -/
def allocAct (d a : Reg) (k : Nat) (c : CtxId) (s : State) : Act :=
  let x := s.ctx c
  if nz a then .raise .illegal
  else if tripleOut d then .raise .regRange
  else match s.allocCheck x k with
    | some e => .raise e
    | none => x.owed (.fl :: x.wRefs d 3)
        (.done (s.allocSend c k false (.alloc ((List.range 3).map (fun j => x.wi (d.toNat + j))))))

/-- ALLOCW (R208): the staged set leaves, then the request. -/
def allocwAct (d a : Reg) (k svc : Nat) (c : CtxId) (s : State) : Act :=
  let x := s.ctx c
  if nz a then .raise .illegal
  else if tripleOut d then .raise .regRange
  else if x.isTask = false then .raise .taskOnly
  else match s.allocCheck { x with allocs := [] } k with
    | some e => .raise e
    | none => releaseGate c s (.done ((s.releasePoint c svc).allocSend c k true (.allocw d.toNat)))

/-! ### SPAWN (R142) -/

/-- The lowest-numbered FREE task number that a tenant owns with a weight group, from `4096 - n` on. -/
def State.spawnPick (s : State) (t g : Nat) : Nat → Option Nat
  | 0 => none
  | n + 1 =>
    let x := s.task (4095 - n)
    if x.valid ∧ x.st = .free ∧ x.owner = t ∧ x.wgrp = g then some (4095 - n) else s.spawnPick t g n

/-- SPAWN: the reservation request goes to the hub. (log 25, DESIGN CHOICE) -/
def spawnAct (d a b : Reg) (c : CtxId) (s : State) : Act :=
  let x := s.ctx c
  if tripleOut a then .raise .regRange
  else x.owed (.fl :: (x.wRefs d 1 ++ x.wRefs a 3 ++ x.wRefs b 1)) (
    let w := x.w b.toNat
    let e := w.field 0 15
    let g := w.field 15 6
    if w.field 21 3 ≠ 0 then .raise .illegal
    else if x.staged.length ≥ 32 ∧ (s.spawnPick x.tenant g 4096).isSome ∧ s.entryOwned e x.tenant = true then .raise .staged
    else if s.entryOwned e x.tenant = false then .raise .rights
    else
      let arg := x.wTriple a.toNat
      let r := s.await c.pav (slotOf c) x.tenant (masterCtx x.tenant c) nodeHub .spres 0 (.strand c)
      let y := r.2.ctx c
      .done ((r.2.setCtx c { y with waits := y.waits ++ [⟨r.1, .spawn (x.wi d.toNat) e g arg, y.micro.isSome⟩] }).send
        (.spres ⟨c, r.1, x.tenant, g, e, arg⟩)))

/-! ### Waits (R144, R146) -/

/-- WFE. -/
def wfeAct (d a b : Reg) (svc : Nat) (c : CtxId) (s : State) : Act :=
  let x := s.ctx c
  if nz a || nz b then .raise .illegal
  else if x.isTask = false then .raise .taskOnly
  else releaseGate c s (
    let s1 := s.releasePoint c svc
    let t := s1.task x.task
    let hit := t.evf &&& t.evm
    if hit ≠ 0 then
      .done ((s1.setTask x.task { t with evf := t.evf &&& ~~~hit }).landRegs c [(s1.ctx c).wr d hit])
    else
      .leave (((s1.setTask x.task { t with st := .waitEv, result := some (d.toNat, 1, 0) }).taskChanged x.task).waitAway c))

/-- WAITT. -/
def waittAct (d a b : Reg) (svc : Nat) (c : CtxId) (s : State) : Act :=
  let x := s.ctx c
  if nz d || nz b then .raise .illegal
  else if tripleOut a then .raise .regRange
  else if x.isTask = false then .raise .taskOnly
  else releaseGate c s (
    let target := x.wTriple a.toNat
    let s1 := s.releasePoint c svc
    if target ≤ s1.time then .done s1
    else
      .leave (((s1.setTask x.task { s1.task x.task with st := .waitTime, target := target }).taskChanged x.task).waitAway c))

/-! ### The instructions -/

/-- ALLOC (R208). -/
def execAlloc (c : CtxId) (d a : Reg) (imm : BitVec 8) (s : State) : Out :=
  runStrand s c (fun s _ => allocAct d a imm.toNat c s)
/-- ALLOCW (R208). -/
def execAllocw (c : CtxId) (d a : Reg) (imm : BitVec 8) (svc : Nat) (s : State) : Out :=
  runStrand s c (fun s _ => allocwAct d a imm.toNat svc c s)
/-- SPAWN (R142, R209). -/
def execSpawn (c : CtxId) (d a b : Reg) (s : State) : Out := runStrand s c (fun s _ => spawnAct d a b c s)
/-- SEV (R145, R209). -/
def execSev (c : CtxId) (d a b : Reg) (s : State) : Out :=
  runStrand s c (fun s x =>
    if nz d then .raise .illegal
    else x.owed (x.wRefs a 1 ++ x.wRefs b 1) (stageAct c (.sev ((x.w a.toNat).field 0 12) (x.w b.toNat)) s))
/-- WFE (R144, R209). -/
def execWfe (c : CtxId) (d a b : Reg) (svc : Nat) (s : State) : Out := runStrand s c (fun s _ => wfeAct d a b svc c s)
/-- WAITT (R146, R209). -/
def execWaitt (c : CtxId) (d a b : Reg) (svc : Nat) (s : State) : Out := runStrand s c (fun s _ => waittAct d a b svc c s)
/-- GETT (R209, R417). -/
def execGett (c : CtxId) (d a b : Reg) (s : State) : Out :=
  runStrand s c (fun s x =>
    if nz a || nz b then .raise .illegal
    else if tripleOut d then .raise .regRange
    else x.owed (x.wRefs d 3) (.done (s.landRegs c (x.wrTriple d.toNat s.time))))

end Sys2Proof.Machine
end

