-- ==== Sys2Proof/Machine/QueueInstr.lean ====
section
/-! DEFINITION. The QUE group (R209, R371 to R382): the checks of the strand and the request to the queue node. -/

namespace Sys2Proof.Machine

/-- A queue instruction on the queue that W[A] names: `side` says whether the master may, `k` does it. A queue in MODE 0
is not refused here (R372). (log 26, DEDUCED) -/
def queAct (ill : Bool) (a : Reg) (refs : List RegRef) (c : CtxId) (s : State) (side : Nat → Word → Bool)
    (k : Nat → Act) : Act :=
  let x := s.ctx c
  if ill then .raise .illegal
  else x.owed (x.wRefs a 1 ++ refs) (
    let w := x.w a.toNat
    let n := w.field 0 10
    if w.field 10 14 ≠ 0 then .raise .illegal
    else if s.qMode n ≠ 0 ∧ side n (masterCtx x.tenant c) = false then .raise .rights
    else k n)

/-- Send the request of a queue instruction. -/
def queSend (c : CtxId) (s : State) (n view : Nat) (op : ReqOp) (kind : WaitKind) : Act :=
  .done (s.strandRequest c nodeQueues op (BitVec.ofNat 24 (8 * n + view)) kind)

/-- QPUT (R209, R374). -/
def execQput (c : CtxId) (d a b : Reg) (s : State) : Out :=
  runStrand s c (fun s x =>
    queAct (nz d) a (.fl :: x.wRefs b 1) c s s.onPut (fun n => queSend c s n 0 (.qput n (x.w b.toNat)) .qput))
/-- QGET (R209, R379). -/
def execQget (c : CtxId) (d a b : Reg) (s : State) : Out :=
  runStrand s c (fun s x =>
    queAct (nz b) a (.fl :: x.wRefs d 1) c s s.onGet (fun n =>
      queSend c (s.noteRead c) n 0 (.qget n) (.qget (x.wi d.toNat))))
/-- QCMT (R209, R375): staged; a queue in MODE 0 gives STATUS 2 (R372). (log 26, DEDUCED) -/
def execQcmt (c : CtxId) (d a b : Reg) (s : State) : Out :=
  runStrand s c (fun s _ =>
    queAct (nz d || nz b) a [] c s s.onPut (fun n =>
      if s.qMode n = 0 then .bus s 2 (BitVec.ofNat 24 (8 * n + 1)) else stageAct c (.qcommit n) s))
/-- QRWD (R209, R376). -/
def execQrwd (c : CtxId) (d a b : Reg) (s : State) : Out :=
  runStrand s c (fun s _ => queAct (nz d || nz b) a [] c s s.onPut (fun n => queSend c s n 2 (.qrwd n) .qctl))
/-- QDROP (R209, R380). -/
def execQdrop (c : CtxId) (d a b : Reg) (s : State) : Out :=
  runStrand s c (fun s _ =>
    queAct (nz d || nz b) a [] c s s.onGet (fun n => queSend c (s.noteRead c) n 3 (.qdrop n) .qctl))
/-- QSTAT (R209, R382): a master of either side. -/
def execQstat (c : CtxId) (d a b : Reg) (s : State) : Out :=
  runStrand s c (fun s x =>
    queAct (nz b) a (x.wRefs d 1) c s (fun n m => s.onPut n m || s.onGet n m) (fun n =>
      queSend c s n 4 (.qstat n) (.qstat (x.wi d.toNat))))

end Sys2Proof.Machine
end

