-- ==== Sys2Proof/Machine/Micro.lean ====
section
/-! DEFINITION. Custom instructions: the decode table, register selectors, the micro-ops that a routine may issue, its
staging and its end (R213 to R219, R236, R238, R262). -/

namespace Sys2Proof.Machine

/-! ### The decode table and the micro-op store (R213, R214) -/

/-- A sync-class device word as execution sees it. -/
def State.effWord (s : State) (a : Nat) : Word := Map.get (fun _ => 0) s.strands.syncEff a

def Reg.decode (p e w : Nat) : Nat := pavBase p + 0x1000 + 2 * e + w
def Reg.uop (p i w : Nat) : Nat := pavBase p + 0x2000 + 2 * i + w

/-- The entry cannot run (R213). -/
def decodeBad (w0 w1 : Word) : Bool :=
  !(w0.bit 23) || decide (w1.field 0 13 = 0) || decide (w0.field 0 12 + w1.field 0 13 > 4096)
    || (w0.bit 22 && decide (w1.field 0 13 > 64))

/-- Custom fields A, B and IMM of Table 6-16. -/
def opFields (fmt : Nat) (ops : BitVec 12) : Nat × Nat × Nat :=
  let o := ops.toNat
  match fmt with
  | 0 => (o / 128 % 32, o / 4 % 32, o % 4)
  | 1 => (o / 128 % 32, 0, o % 128)
  | 2 => (0, 0, o)
  | _ => (o / 128 % 32, o / 4 % 32, o % 4)

/-! ### Selectors (Table 6-17) -/

/-- A register field of a micro-op, or the cause that its selector raises. -/
abbrev FieldSel := Except Cause (BitVec 6)

/-- The register that a selector names; `f` marks an F field. -/
def selectField (sel : Nat) (own : Nat) (a b : Nat) (f : Bool) : FieldSel :=
  let limit := fun (n : Nat) => if n > (if f then 15 else 31) then .error .regRange else .ok (BitVec.ofNat 6 n)
  if sel = 0 then .ok (BitVec.ofNat 6 own)
  else if sel ≤ 3 then limit (a + sel - 1)
  else if sel ≤ 6 then limit (b + sel - 4)
  else if sel = 7 then .error .illegal
  else if f then .error .regRange
  else .ok (BitVec.ofNat 6 (32 + sel - 8))

/-- Which of D, A and B are F fields (Table 6-9). -/
def fpFields (op fn : Nat) : Bool × Bool × Bool :=
  if op = 0x1B ∨ op = 0x1C ∨ op = 0x1D then (true, true, true)
  else if op = 0x1E then
    (decide (fn ∈ [0, 1, 2, 4, 5]), decide (fn ∈ [0, 1, 3, 6, 7]), false)
  else (false, false, false)

/-- The EVM that a routine has staged, or the task's. -/
def Context.stagedEvm (x : Context) (v : Word) : Word :=
  match x.micro with
  | none => v
  | some m => m.staging.foldl (fun acc w => match w with | .reg (.evm u) => u | _ => acc) v

/-! ### Micro-ops (R216) -/

/-- The register-only instructions that a routine may issue. -/
def microBody (c : CtxId) (s : State) (x : Context) (op fn : Nat) (w : Word) (d a b : BitVec 6) : BodyOut :=
  let imm : BitVec 8 := w.setWidth 8
  let bigImm := decide (imm.toNat ≥ 32)
  match op, fn with
  | 0x01, 0 => bodyAlu opAdd x d a b
  | 0x01, 1 => bodyAlu opAdc x d a b
  | 0x01, 2 => bodyAlu opSub x d a b
  | 0x01, 3 => bodyAlu opSbc x d a b
  | 0x01, 4 => bodyAlu opAnd x d a b
  | 0x01, 5 => bodyAlu opOr x d a b
  | 0x01, 6 => bodyAlu opXor x d a b
  | 0x01, 7 => bodyAlu opAndn x d a b
  | 0x02, 0 => bodyAlu opShl x d a b
  | 0x02, 1 => bodyAlu opShr x d a b
  | 0x02, 2 => bodyAlu opSar x d a b
  | 0x02, 3 => bodyAlu opRol x d a b
  | 0x02, 4 => bodyAluQuiet opMin x d a b
  | 0x02, 5 => bodyAluQuiet opMax x d a b
  | 0x02, 6 => bodyAluQuiet opMinu x d a b
  | 0x02, 7 => bodyAluQuiet opMaxu x d a b
  | 0x03, 0 => bodyCmp opSub x d a b
  | 0x03, 1 => bodyCmp opAnd x d a b
  | 0x03, 2 => bodyAluQuiet opSlt x d a b
  | 0x03, 3 => bodyAluQuiet opSltu x d a b
  | 0x03, 4 => bodyAluQuiet opSeq x d a b
  | 0x04, _ => bodyImm opAdd false x d a (sext8 imm)
  | 0x05, _ => bodyImm opAnd false x d a (zext8 imm)
  | 0x06, _ => bodyImm opOr false x d a (zext8 imm)
  | 0x07, _ => bodyImm opXor false x d a (zext8 imm)
  | 0x08, _ => bodyImm opShl bigImm x d a (zext8 imm)
  | 0x09, _ => bodyImm opShr bigImm x d a (zext8 imm)
  | 0x0A, _ => bodyImm opSar bigImm x d a (zext8 imm)
  | 0x0B, _ => bodyCmpi x d a (sext8 imm)
  | 0x0C, _ => bodyMovi x d (w.setWidth 13)
  | 0x0D, _ => bodyMovh x d (w.setWidth 13)
  | 0x0E, 0 => bodyMov 1 x d a b
  | 0x0E, 1 => bodyMov 2 x d a b
  | 0x0E, 2 => bodyMov 3 x d a b
  | 0x0E, 3 => bodyUn opNot x d a b
  | 0x0E, 4 => bodyUn opNeg x d a b
  | 0x0E, 5 => bodyUnQuiet clzWord x d a b
  | 0x0E, 6 => bodyUnQuiet popcWord x d a b
  | 0x0F, 0 => bodyMfs c (x.stagedEvm (s.task x.task).evm) (s.task x.task).evf true x d a b
  | 0x0F, 1 => bodyMts true x d a b
  | 0x18, 0 => bodyMul true x d a b
  | 0x18, 1 => bodyMul false x d a b
  | 0x18, 2 => bodyMac true false x d a b
  | 0x18, 3 => bodyMac false false x d a b
  | 0x18, 4 => bodyMac true true x d a b
  | 0x18, 5 => bodyMac false true x d a b
  | 0x18, 6 => bodyMulw x d a b
  | 0x19, 0 => bodyDiv true x d a b
  | 0x19, 1 => bodyDiv false x d a b
  | 0x1A, 0 => bodyClracc x d a b
  | 0x1A, 1 => bodyAccsr x d a b
  | 0x1A, 2 => bodyAccsat x d a b
  | 0x1B, 0 => bodyFp2D .fpPipe (fun rm => fpAdd fmtD rm false) x d a b
  | 0x1B, 1 => bodyFp2D .fpPipe (fun rm => fpAdd fmtD rm true) x d a b
  | 0x1B, 2 => bodyFp2D .fpPipe (fpMul fmtD) x d a b
  | 0x1B, 3 => bodyFp2D .fpIter (fpDiv fmtD) x d a b
  | 0x1B, 4 => bodyFp2S .fpPipe (fun rm => fpAdd fmtS rm false) x d a b
  | 0x1B, 5 => bodyFp2S .fpPipe (fun rm => fpAdd fmtS rm true) x d a b
  | 0x1B, 6 => bodyFp2S .fpPipe (fpMul fmtS) x d a b
  | 0x1B, 7 => bodyFp2S .fpIter (fpDiv fmtS) x d a b
  | 0x1C, 0 => bodyFmaD false x d a b
  | 0x1C, 1 => bodyFmaD true x d a b
  | 0x1C, 4 => bodyFmaS false x d a b
  | 0x1C, 5 => bodyFmaS true x d a b
  | 0x1D, 0 => bodyFsqrtD x d a b
  | 0x1D, 1 => bodyFsqrtS x d a b
  | 0x1D, 2 => bodyFp2D .fpPipe (fun _ => fpMinMax fmtD false) x d a b
  | 0x1D, 3 => bodyFp2D .fpPipe (fun _ => fpMinMax fmtD true) x d a b
  | 0x1D, 4 => bodyFcmp fmtD Context.fdAt x d a b
  | 0x1D, 5 => bodyFcmp fmtS Context.fsAt x d a b
  | 0x1D, 6 => bodyFsign opFneg x d a b
  | 0x1D, 7 => bodyFsign opFabs x d a b
  | 0x1E, 0 => bodyFcvtSD x d a b
  | 0x1E, 1 => bodyFcvtDS x d a b
  | 0x1E, 2 => bodyFitof x d a b
  | 0x1E, 3 => bodyFftoi x d a b
  | 0x1E, 4 => bodyFmvwD x d a b
  | 0x1E, 5 => bodyFmvwS x d a b
  | 0x1E, 6 => bodyWmvfD x d a b
  | 0x1E, 7 => bodyWmvfS x d a b
  | _, _ => .raise .illegal

/-- The micro-op has a B register field. -/
def hasB (op : Nat) : Bool := decide (op ≤ 3) || decide (0x0E ≤ op ∧ op ≤ 0x0F) || decide (0x18 ≤ op ∧ op ≤ 0x1E)

/-- U0 to U7 are zero (R216). -/
def Context.setRings0 (x : Context) : Context := (List.range 8).foldl (fun x k => x.setRing (192 + k) 0) x

/-! ### Staging entries (R217) -/

/-- The register that a staged write takes an entry for; FL updates are counted one by one. -/
def RegWrite.entry : RegWrite → Option Nat
  | .ring i _ => some i
  | .freg i _ => some (1000 + i)
  | .pl _ => some 2000
  | .ph _ => some 2001
  | .acc _ => some 2002
  | .fl _ => none
  | .lnk _ => some 2003
  | .ls n _ => some (2010 + n)
  | .le n _ => some (2020 + n)
  | .lc n _ => some (2030 + n)
  | .evm _ => some 2004
  | .fpsc _ => some 2005
  | .wb _ => some 2006
  | .lcfg _ => some 2007

/-- Registers that an outstanding access of the routine will write. -/
def RegRef.entry : RegRef → Option Nat
  | .ring i => if i ≥ 192 then none else some i
  | .freg i => some (1000 + i)
  | .pl => some 2000
  | .ph => some 2001
  | .acc => some 2002
  | .fl => none

/-- Staging entries in use and owed. -/
def Context.entries (x : Context) (m : Micro) : Nat :=
  let owed := (x.longOps.filter (·.micro)).flatMap (fun o => o.writes.filter (fun w => !w.temp))
  let writes := m.staging.filterMap (fun w => match w with | .reg r => some r | _ => none) ++ owed
  let regs := (writes.filterMap RegWrite.entry)
    ++ ((x.waits.filter (·.micro)).flatMap (fun w => w.kind.refs)).filterMap RegRef.entry
    ++ (if m.staging.any (fun w => match w with | .fpFlags _ => true | _ => false) then [2005] else [])
  let fls := (writes.filter (fun w => match w with | .fl _ => true | _ => false)).length
  let mems := m.staging.flatMap (fun w => match w with
    | .mem a _ => [a.toNat]
    | .slot n _ => [0x1000000 + 3 * n, 0x1000001 + 3 * n, 0x1000002 + 3 * n]
    | _ => [])
  regs.eraseDups.length + fls + mems.eraseDups.length

/-- FP flags of a completed operation reach FPSC; a trap that they enable is raised (R260, R262). -/
def State.landFlags (s : State) (c : CtxId) (flags : Word) (addr : Nat) : State :=
  let x := s.ctx c
  let s1 := s.setCtx c { x with fpsc := x.fpsc ||| (flags &&& 0x00001F) }
  if flags &&& 0x00001F &&& (x.fpsc >>> 8) ≠ 0 then s1.raiseAlert c 1 addr else s1

/-- One staged write takes effect. -/
def State.commitWrite (s : State) (c : CtxId) : MicroWrite → State
  | .reg w =>
    let x := s.ctx c
    let s1 := s.setCtx c (x.apply w)
    match w with
    | .evm v => if x.isTask then s1.setTask x.task { s1.task x.task with evm := v } else s1
    | _ => s1
  | .mem a v => s.storeLate c a v
  | .slot n v =>
    let h := (s.ctx c).handle
    if s.frameGone h then s.bump (Reg.sliceStat (s.sliceOf (Tag.frame h)) 0) else s.slotStore (Tag.frame h) n v
  | .fpFlags f => s.landFlags c f (s.ctx c).ip

/-- Every staged write takes effect, in the order staged; later writes take effect at once. -/
def State.commitMicro (s : State) (c : CtxId) : State :=
  let x := s.ctx c
  match x.micro with
  | none => s
  | some m => m.staging.foldl (fun s w => s.commitWrite c w)
      (s.setCtx c { x with micro := some { m with committed := true, staging := [] } })

/-- A staged store waits for room in the state store buffer, or behind a locket load (R318, R321). -/
def State.commitHeld (s : State) (c : CtxId) : Bool :=
  let x := s.ctx c
  match x.micro with
  | none => false
  | some m =>
    let ws := m.staging.filterMap (fun w => match w with
      | .mem a _ => (match s.translate c x a true with
        | some (.state sw) => some sw
        | _ => none)
      | _ => none)
    !ws.isEmpty && (x.lockWait || s.storeHeld c ws)

/-! ### One micro-op -/

/-- A taken micro-branch (R216, R218). -/
def microBranch (m : Micro) (off : Int) (s : State) : Act :=
  let t := (m.index : Int) + off
  if t < m.start ∨ t ≥ m.start + m.len then .raise .illegal
  else if m.atomic ∧ t ≤ m.index then .raise .illegal
  else .goto s t.toNat

/-- MCOMMIT (R217, R218). (log 20, DEDUCED) -/
def microCommit (c : CtxId) (m : Micro) (s : State) : Act :=
  if m.atomic || m.committed then .raise .illegal
  else if s.commitHeld c then .stall true
  else .done (s.commitMicro c)

/-- SYS sub-operations that a routine may issue. -/
def microSys (c : CtxId) (m : Micro) (w : Word) (a b : BitVec 6) (s : State) : Act :=
  let k := w.field 0 2
  if nz a || nz b then .raise .illegal
  else match w.field 12 6 with
    | 0x00 => if k ≠ 0 then .raise .illegal else .done s
    | 0x04 => if k ≥ 2 then .raise .illegal else if k = 1 then fenceWritesAct c s else fenceAct c s
    | 0x08 => if k ≠ 0 then .raise .illegal else microCommit c m s
    | _ => .raise .illegal

/-- The micro-op with its register fields selected. -/
def microAct (c : CtxId) (m : Micro) (w : Word) (d a b : BitVec 6) (s : State) : Act :=
  let x := (s.ctx c).view
  let op := w.field 18 6
  let mode : BitVec 3 := BitVec.ofNat 3 (w.field 5 3)
  let xr : Reg := BitVec.ofNat 5 (w.field 0 5)
  match op with
  | 0x00 => microSys c m w a b s
  | 0x10 => loadAct 1 d a mode xr .sound c s
  | 0x11 => loadAct 2 d a mode xr .sound c s
  | 0x12 => loadAct 3 d a mode xr .sound c s
  | 0x13 => storeAct 1 d a mode xr c s
  | 0x14 => storeAct 2 d a mode xr c s
  | 0x15 => storeAct 3 d a mode xr c s
  | 0x16 => ldsAct d a (w.setWidth 8) c s
  | 0x17 => stsAct d a (w.setWidth 8) c s
  | 0x20 =>
    if x.waitBusy [.fl] then .stall true
    else if x.longBusy [.fl] then .stall false
    else if condTrue x.fl (BitVec.ofNat 4 (w.field 14 4)) then microBranch m (BitVec.ofNat 14 (w.field 0 14)).toInt s
    else .done s
  | 0x21 => microBranch m (BitVec.ofNat 18 (w.field 0 18)).toInt s
  | _ => bodyAct s c (microBody c s x op (w.field 0 3) w d a b)

/-- The micro-op at the routine's index: its fields are selected, then it issues (R215). -/
def microIssue (c : CtxId) (m : Micro) (s : State) : Act :=
  let w := s.effWord (Reg.uop c.pav m.index 0)
  let sel := s.effWord (Reg.uop c.pav m.index 1)
  let fmt := (s.effWord (Reg.decode c.pav m.entry 0)).field 20 2
  let f := opFields fmt m.ops
  let op := w.field 18 6
  let sys := decide (op = 0)
  let isF := fpFields op (w.field 0 3)
  let dOwn := if sys || decide (op ≥ 0x20) then .ok 0 else selectField (sel.field 19 4) (w.field 13 5) f.1 f.2.1 isF.1
  let aOwn := if decide (op = 0x0C ∨ op = 0x0D ∨ op ≥ 0x20) then .ok 0
    else selectField (sel.field 15 4) (if sys then w.field 7 5 else w.field 8 5) f.1 f.2.1 isF.2.1
  let bOwn := if hasB op then selectField (sel.field 11 4) (if sys then w.field 2 5 else w.field 3 5) f.1 f.2.1 isF.2.2
    else .ok 0
  match dOwn, aOwn, bOwn with
  | .ok d, .ok a, .ok b => microAct c m w d a b s
  | .error k, .ok _, .ok _ => .raise k
  | .ok _, .error k, .ok _ => .raise k
  | .ok _, .ok _, .error k => .raise k
  | _, _, _ =>
    let bad := fun (r : FieldSel) => match r with | .error .illegal => true | _ => false
    .raise (if bad dOwn || bad aOwn || bad bOwn then .illegal else .regRange)

/-- The micro-op retires: the index moves on, past the end after LAST. -/
def State.microRetire (s : State) (c : CtxId) (next : Nat) (last : Bool) : State :=
  let x := s.ctx c
  match x.micro with
  | none => s
  | some m => (s.setCtx c { x with micro := some { m with index := if last then m.start + m.len else next } }).countIssue c

/-- The routine is at its end: staged writes take effect, and the custom instruction completes (R217, R238). -/
def State.microEnd (s : State) (c : CtxId) : State :=
  let s1 := if (s.ctx c).stages then s.commitMicro c else s
  let x := s1.ctx c
  s1.setCtx c { x.advance with
    micro := none
    longOps := x.longOps.map (fun (o : LongOp) => { o with micro := false })
    waits := x.waits.map (fun (w : WaitRec) => { w with micro := false }) }

/-- Run the routine: at most `n` micro-ops, until it ends, stalls or faults. -/
def State.microRun (s : State) (c : CtxId) : Nat → State
  | 0 => s
  | n + 1 =>
    match (s.ctx c).micro with
    | none => s
    | some m =>
      if m.index ≥ m.start + m.len then
        if (s.ctx c).stages && s.commitHeld c then s.stallCtx c true else s.microEnd c
      else
        let last := (s.effWord (Reg.uop c.pav m.index 1)).bit 23 || decide (m.index + 1 = m.start + m.len)
        let past := fun (t : State) => match (t.ctx c).micro with
          | some k => (t.ctx c).stages && decide ((t.ctx c).entries k > 16)
          | none => false
        match microIssue c m s with
        | .raise k => (s.countIssue c).instrFault c k
        | .bus t st a => (t.countIssue c).busFault c st a
        | .stall long => s.stallCtx c long
        | .leave t => t
        | .done t => if past t then (s.countIssue c).instrFault c .illegal else (t.microRetire c (m.index + 1) last).microRun c n
        | .goto t i => (t.microRetire c i ((s.effWord (Reg.uop c.pav m.index 1)).bit 23)).microRun c n

/-- A writer's SYNC waits for the custom instructions of the pavilion (R236). (log 21, DESIGN CHOICE) -/
def State.customHeld (s : State) (p : Nat) : Bool :=
  s.strands.ctxs.any (fun e => e.2.syncWait && decide (p ∈ e.2.syncPavs))

/-- Micro-ops that one command runs at most. (log 21, DESIGN CHOICE) -/
def microFuel : Nat := 16384

/-- Start a custom instruction (R213, R216). -/
def customStart (sub : Nat) (ops : BitVec 12) (c : CtxId) (s : State) : Act :=
  let w0 := s.effWord (Reg.decode c.pav sub 0)
  let w1 := s.effWord (Reg.decode c.pav sub 1)
  let fmt := w0.field 20 2
  if decodeBad w0 w1 then .raise .illegal
  else if decide (fmt = 3) && (ops.getLsbD 11 || ops.getLsbD 6) then .raise .illegal
  else if s.customHeld c.pav then .stall false
  else
    let x := (s.ctx c).setRings0
    let m : Micro := ⟨sub, ops, w0.field 0 12, w1.field 0 13, w0.field 0 12, w0.bit 22, false, []⟩
    .leave ((s.setCtx c { x with micro := some m, mimm := BitVec.ofNat 24 (opFields fmt ops).2.2 }).countIssue c |>.microRun c microFuel)

/-- CUSTOM_INSTRUCTION (R213 to R219): start the routine, or go on with the one in progress. (log 21, DESIGN CHOICE) -/
def execCustomInstruction (c : CtxId) (sub : BitVec 6) (ops : BitVec 12) (s : State) : Out :=
  if ctxPresent s.member c = false then .fault .absentUnit
  else
    let x := s.ctx c
    match x.micro with
    | none => runStrand s c (fun s _ => customStart sub.toNat ops c s)
    | some m =>
      if s.pair.fenced = true ∨ x.state ≠ .issuing ∨ m.entry ≠ sub.toNat ∨ m.ops ≠ ops ∨ (x.alertDue && !x.alertHeld) = true then .next s
      else match x.lateErr with
        | some (st, a) => .next ((s.setCtx c { x with lateErr := none }).busFault c st a)
        | none => .next ((s.microRun c microFuel).stepEnds c)

end Sys2Proof.Machine
end

