-- ==== Sys2Proof/Machine/Pipeline.lean ====
section
/-! DEFINITION. Events of a pipeline: long operations complete, preload, save and restore end, the pipeline switches, and
alerts are raised (R131, R227, R231 to R233, R240, R247, R260). -/

namespace Sys2Proof.Machine

/-! ### First issue (Table 6-1) -/

/-- Address one past the top of the strand's scratch block, or zero (R184, R274). -/
def State.scratchTop (s : State) (c : CtxId) (x : Context) : Word :=
  let n := if x.isTask then s.taskScratch x.task else 64 * s.ctxs c.pav
  if n = 0 then 0 else BitVec.ofNat 24 (63 * 0x40000 + n)

/-- W3 of Table 6-1. -/
def Context.w3 (x : Context) : Word :=
  BitVec.ofNat 24 ((if x.isTask then 0x800000 else 0) + x.wgrp % 64 * 0x20000 + x.tenant % 512 * 256)

/-- FPSC control fields of the tenant's default (R258). (log 28, DEDUCED) -/
def State.fpscDefault (s : State) (t : Nat) : Word := s.reg (Reg.filTen t 1) &&& 0x0C1F00

/-- The context holds what Table 6-1 states, with words from W8 on, and may issue at its entry. (log 28, DEDUCED) -/
def State.firstIssue (s : State) (c : CtxId) (ws : List Word) : State :=
  let x := s.ctx c
  let h := if x.isTask then 0 else x.handle
  let w4 : Word := if x.isTask then BitVec.ofNat 24 x.task else 0
  let head := [h.word 0, h.word 1, h.word 2, x.w3, w4, s.scratchTop c x, 0, 0]
  let y := ({ x with ring := [], wb := 0 }).setRings 0 (head ++ ws)
  s.setCtx c { y with
    state := .ready
    f := []
    depth := 0
    res := 32
    lnk := 0
    pl := 0
    ph := 0
    acc := 0
    loops := []
    lcfgDepth := 0
    fl := 0
    fpsc := s.fpscDefault x.tenant
    ip := s.entryAddr x.entry
    segOld := []
    budgetLimit := s.regField (Reg.budget x.wgrp) 0 16
    budgetRaised := false }

/-! ### Preload (R67, R94, R232) -/

/-- Slots of the frame that hold the operands of an activation, in operand order (R58). -/
def State.operandSlots (s : State) (h : Triple) : List Nat :=
  let f := Tag.frame h
  let g := Tag.slot h / 16
  ((List.range 16).filter (fun k => (s.group (s.groupKey f g)).opmask.getLsbD k)).map (fun k => 16 * g + k)

/-- A critical operand disagrees with its complement. -/
def State.operandBad (s : State) (f n : Nat) : Bool :=
  let v := s.slot (s.slotKey f n)
  v.crit && decide ((s.slot (s.slotKey f (n + 1))).val ≠ ~~~v.val)

/-- A critical operand failed: the record, then the activation is cut short (R67, R94). -/
def State.operandFault (s : State) (c : CtxId) (chk : Bool) (n : Nat) : State :=
  let x := s.ctx c
  (s.log 0x03 c.pav (masterCtx x.tenant c) (BitVec.ofNat 24 (chk.toNat * 0x800000 + n % 256)) (some x.handle)).cutShort c .critical

/-- The frame of the activation is another one now: the dispatcher drops it (Table 3-9). -/
def State.dropPreload (s : State) (c : CtxId) : State :=
  let x := s.ctx c
  ((s.bump (Reg.sliceStat (s.sliceOf (Tag.frame x.handle)) 7)).flowNext x.flow x.handle).freeCtxNow c

/-- Operand preload ends. -/
def State.preloadEnds (s : State) (c : CtxId) (reread : Bool) (ecc : Ecc) (k : Nat) : State :=
  let x := s.ctx c
  let f := Tag.frame x.handle
  let sl := s.sliceOf f
  let ops := s.operandSlots x.handle
  if s.frameGone x.handle then s.dropPreload c
  else
    let s1 := match ecc with
      | .sound => s
      | .single => s.bump (Reg.sliceStat sl 8)
      | .double => s.bump (Reg.sliceStat sl 13)
    if ecc = .double then s1.operandFault c true ((ops[k]?).getD (Tag.slot x.handle))
    else match ops.find? (s1.operandBad f) with
      | some n => (s1.bump (Reg.pipeStat c.pav c.pipe 7)).operandFault c false n
      | none =>
        let s2 := if reread then s1.bump (Reg.pipeStat c.pav c.pipe 7) else s1
        let ws := ops.flatMap (fun n => let v := slotRead (s2.slot (s2.slotKey f n)); [v.word 0, v.word 1, v.word 2])
        ((s2.clearBlock c).firstIssue c (ws ++ List.replicate (24 - ws.length) 0)).schedule c.pav c.pipe

/-! ### Save and restore of tasks (R233, Table 7-7) -/

/-- The save area of a context. -/
def Context.saveWords (x : Context) (evm : Word) : List Word :=
  (List.range 32).map x.w
    ++ (List.range 16).flatMap (fun i => let v := x.fr i
        [v.extractLsb' 0 24, v.extractLsb' 24 24, (v.extractLsb' 48 16).zeroExtend 24])
    ++ [x.pl, x.ph, x.acc.word 0, x.acc.word 1, x.acc.word 2, x.fl.zeroExtend 24, x.lnk, x.fpsc, evm]
    ++ [(x.loop 0).ls, (x.loop 0).le, (x.loop 0).lc, (x.loop 1).ls, (x.loop 1).le, (x.loop 1).lc,
        (x.loop 2).ls, (x.loop 2).le, (x.loop 2).lc]
    ++ [x.lcfgWord, BitVec.ofNat 24 (x.ip % 16384), BitVec.ofNat 24 x.depth]
    ++ List.replicate 27 0

/-- Write the resident blocks below the current window to the spill area, `n` of them. -/
def State.spillResident (s : State) (c : CtxId) (x : Context) : Nat → State
  | 0 => s
  | n + 1 =>
    let base := x.wb + 192 * 8 - 24 * (n + 1)
    ((s.spillResident c x n).spillStore c (x.depth - (n + 1))
      ((List.range 24).map (fun k => Map.get (fun _ => 0) x.ring ((base + k) % 192)))).bump (Reg.pipeStat c.pav c.pipe 4)

/-- A task's save completes. -/
def State.saveEnds (s : State) (c : CtxId) : State :=
  let x := s.ctx c
  let s1 := s.spillResident c x ((x.res - 32) / 24)
  let s2 := s1.recStore x.task 0 (x.saveWords (s1.task x.task).evm)
  (s2.setTask x.task { s2.task x.task with saved := true }).freeCtxNow c

/-- The registers that a save area holds. -/
def Context.restoreWords (x : Context) (r : Nat → Word) : Context :=
  let y := ({ x with ring := [], wb := 0, res := 32, f := [], loops := [] }).setRings 0 ((List.range 32).map r)
  let z := (List.range 16).foldl (fun (y : Context) i => y.apply (.freg i
    ((r (34 + 3 * i)).extractLsb' 0 16 ++ r (33 + 3 * i) ++ r (32 + 3 * i)))) y
  let u := (List.range 3).foldl (fun (z : Context) n => z.setLoop n
    { z.loop n with ls := r (89 + 3 * n), le := r (90 + 3 * n), lc := r (91 + 3 * n) }) z
  { u.setLcfg (r 98) with
    pl := r 80
    ph := r 81
    acc := Triple.ofWords (r 82) (r 83) (r 84)
    fl := (r 85).setWidth 5
    lnk := r 86
    fpsc := r 87
    ip := (r 99).field 0 14
    depth := (r 100).field 0 5 }

/-- The result that a wait left for the task: WFE bits, or the handle of an ALLOCW with T (R208, R209). -/
def State.landResult (s : State) (c : CtxId) (r : Option (Nat × Nat × Triple)) : State :=
  let x := s.ctx c
  match r with
  | none => s
  | some (d, k, v) =>
    if k = 1 then s.setCtx c (x.setRing (x.wi d) (v.word 0))
    else s.setCtx c { x.applyAll (x.wrTriple d v) with fl := flT x.fl true, allocs := x.allocs ++ [v] }

/-- A task's restore completes, or a new task's preload. -/
def State.restoreEnds (s : State) (c : CtxId) : State :=
  let x := s.ctx c
  let t := s.task x.task
  if t.saved then
    let y := x.restoreWords (fun k => s.recRead x.task k)
    let s1 := (s.setCtx c { y with state := .ready, segOld := [], budgetLimit := t.budget }).landResult c t.result
    (s1.setTask x.task { s1.task x.task with result := none }).schedule c.pav c.pipe
  else
    let s1 := s.firstIssue c ([t.arg.word 0, t.arg.word 1, t.arg.word 2] ++ List.replicate 21 0)
    (s1.setTask x.task { t with budget := (s1.ctx c).budgetLimit }).schedule c.pav c.pipe

/-- A context still saves the task. -/
def State.savingTask (s : State) (n : Nat) : Bool :=
  s.strands.ctxs.any (fun e => decide (e.2.state = .saving ∧ e.2.task = n))

/-! ### The events -/

/-- LONG_OP_COMPLETE (R226, R227, R260): the `n`th outstanding operation completes; operations of one unit complete in
the order in which they issued. (log 23, DEDUCED) -/
def execLongOpComplete (c : CtxId) (n : Nat) (s : State) : Out :=
  if ctxPresent s.member c = false then .fault .absentUnit
  else
    let x := s.ctx c
    match x.longOps[n]? with
    | none => .next s
    | some o =>
      if (x.longOps.take n).any (fun p => decide (p.unit = o.unit) && decide (o.unit = .mult)) then .next s
      else
        let y : Context := { x with longOps := x.longOps.eraseIdx n }
        let s1 := s.setCtx c (y.landWrites o.micro o.writes)
        if o.fpFlags = 0 then .next s1
        else if o.micro && y.stages then .next (s1.stageWrite c (.fpFlags o.fpFlags))
        else .next (s1.landFlags c o.fpFlags o.addr)

/-- TIME_SLICE_EXPIRY (R231). -/
def execTimeSliceExpiry (c : CtxId) (s : State) : Out :=
  if ctxPresent s.member c = false then .fault .absentUnit
  else
    let x := s.ctx c
    let other := cyclicAfter c.ctx |>.any (fun k => decide (k ≠ c.ctx) && decide ((s.ctx ⟨c.pav, c.pipe, k⟩).state = .ready))
    if s.pair.fenced = true ∨ x.state ≠ .issuing ∨ s.regField (pavBase c.pav + 0x100) 0 8 = 0 ∨ other = false then .next s
    else match (s.setCtx c { x with state := .ready }).switchAway c.pav c.pipe with
      | some t => .next t
      | none => .next s

/-- PRELOAD_COMPLETE (R232): `reread` says that a second reading agreed, `ecc` what the CHK of operand `k` found. (log 28, DEDUCED) -/
def execPreloadComplete (c : CtxId) (reread : Bool) (ecc : Ecc) (k : Nat) (s : State) : Out :=
  if ctxPresent s.member c = false then .fault .absentUnit
  else if (s.ctx c).state ≠ .preload then .next s
  else .next (s.preloadEnds c reread ecc k)

/-- PREEMPTION (R131, Table 7-10): the port of the group-0 strand counts it; the record names the suspended context. -/
def execPreemption (c : CtxId) (s : State) : Out :=
  if ctxPresent s.member c = false then .fault .absentUnit
  else
    let x := s.ctx c
    let zero := (cyclicAfter c.ctx).find? (fun k => let y := s.ctx ⟨c.pav, c.pipe, k⟩
      decide (y.wgrp = 0) && decide (y.state = .ready))
    let atomic := match x.micro with | some m => m.atomic | none => false
    match zero with
    | none => .next s
    | some k =>
      if s.pair.fenced = true ∨ x.state ≠ .issuing ∨ x.wgrp = 0 ∨ atomic = true then .next s
      else match (s.setCtx c { x with state := .suspended }).switchAway c.pav c.pipe with
        | some t =>
          let r := (s.ctx ⟨c.pav, c.pipe, k⟩).port
          .next ((t.bump (Reg.port r 3)).traceEvent 3 x.wgrp x.tenant (some c.pav) c.pipe c.ctx r (if x.isTask then 0 else x.flow % 32768 * 0x200))
        | none => .next s

/-- TASK_SAVE_COMPLETE (R233). -/
def execTaskSaveComplete (c : CtxId) (s : State) : Out :=
  if ctxPresent s.member c = false then .fault .absentUnit
  else if (s.ctx c).state ≠ .saving then .next s
  else .next (s.saveEnds c)

/-- TASK_RESTORE_COMPLETE (R233): the save of the task is over. -/
def execTaskRestoreComplete (c : CtxId) (s : State) : Out :=
  if ctxPresent s.member c = false then .fault .absentUnit
  else if (s.ctx c).state ≠ .restoring ∨ s.savingTask (s.ctx c).task = true then .next s
  else .next (s.restoreEnds c)

/-- BUDGET (R240, R250). -/
def execBudgetAlert (c : CtxId) (s : State) : Out :=
  if ctxPresent s.member c = false then .fault .absentUnit
  else
    let x := s.ctx c
    if x.state ∈ [.free, .preload, .restoring, .saving] ∨ x.budgetLimit = 0 ∨ x.budgetRaised = true then .next s
    else .next ((s.setCtx c { x with budgetRaised := true }).raiseAlert c 2 0)

/-- AREQ (R240, R247): a warden write to PIPE.AREQ of pavilion `p`. -/
def execAlertRequest (q : Req) (p : Nat) (v : Word) (s : State) : Out :=
  if unitPresent s.member .pavs p = false then .fault .absentUnit
  else s.wardenWrite q (pavBase p + 0x101) v (v.bit 23)
    (fun s => s.raiseAlert ⟨p, v.field 18 2, v.field 16 2⟩ 3 (v.field 0 14))

end Sys2Proof.Machine
end

