-- ==== Sys2Proof/Machine/Store.lean ====
section
/-! DEFINITION. Commands of the central store: tokens, releases, allocation and quarantine (R72, R97 to R105, R169). -/

namespace Sys2Proof.Machine

/-- FTOK (R72, R90). -/
def execFtok (t : Token) (s : State) : Out :=
  let sl := nodeSlice (s.sliceOf (Tag.frame t.tag))
  let h := mkHeader t.vc 1 sl t.node (if t.node < 256 then t.unit else 0) t.tenant 0 (Tag.device t.tag)
  if t.vc ≠ 2 ∧ t.vc ≠ 3 then .next ((s.take (.ftok t)).badVc t.node t.master h)
  else if Tag.device t.tag ≠ s.deviceNo then .next ((s.take (.ftok t)).inject t.node (.ftok t))
  else s.arrivePosted t.node sl (.ftok t) h t.poison (fun s => .next (s.acceptToken t))

/-- SLOT_RELEASE (R97): on the dispatch fabric. -/
def execSlotRelease (h : Triple) (s : State) : Out := .next ((s.take (.slotRelease h)).slotRelease h)

/-- FREE_PACKET (R99, R101). -/
def execFreePacket (q : FreePkt) (s : State) : Out :=
  let sl := nodeSlice (s.sliceOf (Tag.frame q.handle))
  if Tag.device q.handle ≠ s.deviceNo then .next ((s.take (.free q)).inject q.node (.free q))
  else
    s.arrivePosted q.node sl (.free q) (mkHeader 2 3 sl q.node 0 q.tenant 0 s.deviceNo) false (fun s => .next (s.freeFrame q))

/-! ### Allocation -/

/-- The allocating strand still awaits the answer of its request. -/
def State.awaitsAlloc (s : State) (c : CtxId) (rid : Nat) : Bool :=
  match s.outstOf c.pav rid with
  | some o => decide (o.who = Requester.strand c) && (s.ctx c).waits.any (fun w => decide (w.rid = rid))
  | none => false

/-- An ALLOCW that finds no frame parks, and its task waits (R104, R208). -/
def State.parkRequest (s : State) (q : AllocReq) (t : Template) : State :=
  if s.awaitsAlloc q.c q.rid = false then s.dropOutst q.c.pav q.rid
  else
    let x := s.ctx q.c
    let d := (x.waits.findSome? (fun w => match w.kind with
      | .allocw d => if w.rid = q.rid then some d else none
      | _ => none)).getD 0
    let s1 := (s.dropOutst q.c.pav q.rid).parkAlloc ⟨q.tenant, t.granules.length, t.win, q.tmpl, x.task⟩
    let s2 := (s1.setTask x.task { s1.task x.task with st := .waitAlloc, result := some (d, 2, 0) }).taskChanged x.task
    s2.toSaving q.c

/-- ALLOC_REQUEST (R102, R104): the walk of an allocation. -/
def execAllocRequest (q : AllocReq) (s : State) : Out :=
  if ctxPresent s.member q.c = false then .fault .absentUnit
  else
    let s0 := s.take (.allocReq q)
    match s.templateIn q.tenant q.tmpl q.epoch with
    | none => .next (s0.send (.allocReply q.c q.rid 0 false))
    | some t =>
      let sl := nodeSlice (s.allocStart q.c.pav t)
      let s1 := s0.passes q.c.pav sl (mkHeader 0 0x14 sl q.c.pav (slotOf q.c) q.tenant q.rid s.deviceNo) false
      let r := s1.allocRun q.tenant (s.bankOf q.tenant q.epoch) (clusterOf s.member q.c.pav) t
      match r.1 with
      | some h => .next (r.2.send (.allocReply q.c q.rid h true))
      | none => if q.wait then .next (r.2.parkRequest q t) else .next (r.2.send (.allocReply q.c q.rid 0 false))

/-- The answer of an allocation lands in the registers. -/
def State.landAlloc (s : State) (c : CtxId) (kind : WaitKind) (h : Triple) (ok : Bool) : State :=
  let x := s.ctx c
  let v : Triple := if ok then h else 0
  let ws : List RegWrite := match kind with
    | .alloc ds => (ds.zip [v.word 0, v.word 1, v.word 2]).map (fun e => .ring e.1 e.2)
    | .allocw d => x.wrTriple d v
    | _ => []
  (s.setCtx c { x.applyAll (ws ++ [.fl (flT x.fl ok)]) with
    allocs := if ok then x.allocs ++ [h] else x.allocs }).wakeCtx c

/-- ALLOC_REPLY (R103, R208). An answer to a strand that is gone releases its frame (R101, Table 4-6). -/
def execAllocReply (c : CtxId) (rid : Nat) (h : Triple) (ok : Bool) (s : State) : Out :=
  if ctxPresent s.member c = false then .fault .absentUnit
  else
    let s1 := s.take (.allocReply c rid h ok)
    if s.awaitsAlloc c rid then
      let x := s1.ctx c
      match x.waits.find? (fun w => decide (w.rid = rid)) with
      | some w =>
        let s2 := (s1.dropOutst c.pav rid).setCtx c { x with waits := x.waits.erase w }
        .next (s2.landAlloc c w.kind h ok)
      | none => .next s1
    else
      let s2 := if (s.outstOf c.pav rid).isSome then s1.dropOutst c.pav rid else s1.bumpCluster c.pav 6
      .next (if ok then s2.send (.free ⟨h, (s.groupOf (Tag.frame h) 0).owner, 0, c.pav, true⟩) else s2)

/-- ALLOCW_RERUN (R105): the oldest release notice reruns the oldest request of its key. -/
def execAllocwRerun (s : State) : Out :=
  match s.store.rerun with
  | [] => .next s
  | n :: rest =>
    let s1 := { s with store := { s.store with rerun := rest } }
    let hit := s1.store.waits.find? (fun a => if n.byWin then decide (a.win = n.win)
      else decide (a.tenant = n.tenant ∧ a.size = n.size))
    match hit with
    | none => .next s1
    | some a =>
      match s1.templateIn a.tenant a.tmpl (s1.task a.task).epoch with
      | none => .next s1
      | some t =>
        match s1.rerunAlloc a t n.slice with
        | (none, _) => .next s1
        | (some h, s2) =>
          let s3 := s2.unparkAlloc a
          let k := s3.task a.task
          let d := match k.result with | some (d, _, _) => d | none => 0
          .next ((s3.setTask a.task { k with result := some (d, 2, h) }).taskReady a.task)

/-- GEN_QUARANTINE_END (R98, R169): the frame number joins its pool's free list. -/
def execGenQuarantineEnd (f : Nat) (s : State) : Out :=
  let e := s.frame f
  if e.quar = false ∨ s.elapsed < Map.get (fun _ => 0) s.store.quarEnd f then .next s
  else
    let s1 := s.setFrame f { e with quar := false }
    .next (State.joinFree { s1 with store := { s1.store with quarEnd := Map.set (fun _ => 0) s1.store.quarEnd f 0 } } f)

end Sys2Proof.Machine
end

