-- ==== Sys2Proof/Machine/Hub.lean ====
section
/-! DEFINITION. Commands of the hub: fire notices, hand-over, decisions, pavilion queues, recalls, pacing, wake requests,
events of tasks, and the watch on flows (R95, R117 to R149, R162, R177). -/

namespace Sys2Proof.Machine

/-! ### Fire notices (R134, R140) -/

/-- The slice's fired activation of this handle carries FLOW 0 from now on (R140). -/
def State.unflow (s : State) (sl : Nat) (h : Triple) : State :=
  let fix := fun (l : List Activation) => l.map (fun (a : Activation) =>
    if a.handle = h then { a with flow := 0, handle := actId h } else a)
  (s.setFiredQ (2 * sl) (fix (s.firedQ (2 * sl)))).setFiredQ (2 * sl + 1) (fix (s.firedQ (2 * sl + 1)))

/-- A fire notice at the hub: a foreign flow is a tenant fault; else the activation joins the order list, unless its
frame has been released meanwhile (R138). (log 35, DEDUCED) -/
def State.acceptNotice (s : State) (sl : Nat) (a : Activation) : State :=
  let x := s.flow a.flow
  if x.owner ≠ a.tenant then
    ((s.tenantFault a.tenant nodeHub 0 0x24 0 a.handle).bump (Reg.dispStat 2)).unflow sl a.handle
  else if s.frameGone a.handle then s
  else s.setFlow a.flow { x with order := x.order ++ [actId a.handle] }

/-- FIRE_NOTICE (R134, R135, R140): the oldest notice of a slice. (log 35, DEDUCED) -/
def execFireNotice (sl : Nat) (s : State) : Out :=
  if unitPresent s.member .slices sl = false then .fault .absentUnit
  else match s.notices sl with
  | [] => .next s
  | n :: rest =>
    let s1 := (s.setNotices sl rest).acceptNotice sl n.act
    .next (if n.reply then s1.send (.land sl n.node n.unit n.act.flow) else s1)

/-! ### Hand-over (R95, R119, R138) -/

/-- Hand-over credits of a class for one slice (Table 4-1). -/
def creditLimit (cls : Nat) : Nat := if cls = 0 then 24 else 96

/-- The fired queue that hands over next: the group-0 queue first, each against a credit of its class. -/
def State.handQueue (s : State) (sl : Nat) : Option Nat :=
  if s.firedQ (2 * sl) ≠ [] ∧ s.creditUsed (2 * sl) < creditLimit 0 then some 0
  else if s.firedQ (2 * sl + 1) ≠ [] ∧ s.creditUsed (2 * sl + 1) < creditLimit 1 then some 1
  else none

/-- The hub takes a handed activation: into its ready list, or parked behind its flow. -/
def State.handTo (s : State) (r key : Nat) (a : Activation) : State :=
  let x := s.flow a.flow
  if a.flow ≠ 0 ∧ (x.order.head? ≠ some (actId a.handle) ∨ x.busy = true) then
    ((s.setFlow a.flow { x with parked := x.parked ++ [a] }).bump (Reg.port r 4)).traceEvent 4 a.wgrp a.tenant .none 0 0 r
      (a.flow * 512)
  else
    (s.setRl r a.wgrp (s.rl r a.wgrp ++ [entryOfAct a (some key) false s.elapsed])).setCreditUsed key (s.creditUsed key + 1)

/-- HAND_OVER (R95, R117, R119, R138). A slice's fire notices come before its hand-overs (R134). (log 35, DEDUCED) -/
def execHandOver (sl : Nat) (s : State) : Out :=
  if unitPresent s.member .slices sl = false then .fault .absentUnit
  else if s.notices sl ≠ [] then .next s
  else match s.handQueue sl with
  | none => .next s
  | some cls =>
    let key := 2 * sl + cls
    match s.firedQ key with
    | [] => .next s
    | a :: rest =>
      let g := s.groupKey (Tag.frame a.handle) (Tag.slot a.handle / 16)
      let s1 := (s.setFiredQ key rest).setGroup g { s.group g with gst := .handed }
      .next ((s1.activity a.tenant).handTo (portOfSlice s.member sl) key a)

/-! ### Decisions and pavilion queues (R121, R127) -/

/-- DISPATCH_DECISION (R121, R126). -/
def execDispatchDecision (r : Nat) (s : State) : Out := onUnit s .ports r (s.select r)

/-- PAVILION_QUEUE_BIND (R127, R128): the head of a pavilion queue takes a context that its group may use. -/
def execPavilionQueueBind (p : Nat) (s : State) : Out :=
  if unitPresent s.member .pavs p = false then .fault .absentUnit
  else match s.pq p with
  | [] => .next s
  | e :: rest =>
    if s.freeCtx p e.act.wgrp = 0 ∨ s.pavInService p = false ∨ s.domainOn p = false
        ∨ s.tenantStopped e.act.tenant = true then .next s
    else match (s.setPq p rest).bindEntry e p e.port with
      | some (_, t) => .next t
      | none => .next s

/-! ### Recalls (R138) -/

/-- Recalled flow heads in the ready lists of a port. (log 36, DEDUCED) -/
def State.recalledAt (s : State) (r : Nat) : Nat :=
  (List.range 64).foldl (fun n g => n + ((s.rl r g).filter (fun e => e.recalled)).length) 0

/-- RECALL_ANSWER (R138): the slice answers for the recalled head of flow `f`. While the port's 32 recall entries are in
use the recall waits (Table 4-1). (log 36, DEDUCED) -/
def execRecallAnswer (f : Nat) (s : State) : Out :=
  match s.hub.recalls.find? (fun e => decide (e.1 = f)) with
  | none => .next s
  | some e =>
    let a := e.2
    let sl := s.sliceOf (Tag.frame a.handle)
    let r := portOfSlice s.member sl
    let s1 := { s with hub := { s.hub with recalls := s.hub.recalls.erase e } }
    if s.frameGone a.handle then .next ((s1.bump (Reg.sliceStat sl 7)).flowNext f a.handle)
    else if s.recalledAt r ≥ 32 then .next s
    else .next (s1.setRl r a.wgrp (s1.rl r a.wgrp ++ [entryOfAct a none true s.elapsed]))

/-! ### Pacing (R135, R136) -/

/-- LAND (R135): a landing reply reaches its source. (log 98, DEDUCED) -/
def execLand (sl node unit flow : Nat) (s : State) : Out :=
  if nodePresent s.member node = false then .fault .absentUnit
  else if unitPresent s.member .slices sl = false then .fault .absentUnit
  else
    let h := mkHeader 1 0x31 node (nodeSlice sl) (if node < 256 then unit else 0) 0 0 s.deviceNo
    let s1 := (s.take (.land sl node unit flow)).passes (nodeSlice sl) node h false
    if s.nodeState node = 1 ∨ s.nodeState node = 3 then .next (s1.bumpCluster node 4)
    else if (s.paceOf (paceKey node unit flow)).owed = 0 ∨ s.sliceOf (s.paceOf (paceKey node unit flow)).frame ≠ sl then
      .next (s1.bumpCluster node 6)
    else .next (s1.paceDone node unit flow)

/-- PACE_TIMEOUT (R136): the source has waited for the on-chip end-to-end timeout. -/
def execPaceTimeout (node unit flow : Nat) (s : State) : Out :=
  if nodePresent s.member node = false then .fault .absentUnit
  else
    let pc := s.paceOf (paceKey node unit flow)
    if pc.owed = 0 ∨ s.elapsed < pc.due then .next s
    else
      let m := if node < 0x100 then s.masterOf ⟨node, unit / 4, unit % 4⟩ else 0
      .next (((s.bump (Reg.dispStat 3)).log 0x20 node m (BitVec.ofNat 24 (flow % 32768)) (some pc.tag)).paceDone node unit flow)

/-! ### Wake requests (R130) -/

/-- The nearest sleeping pavilion that holds the code set of an entry. -/
def State.sleeper (s : State) (e r : Nat) : Option Nat :=
  (List.range (unitCount s.member .pavs)).foldl (fun best p =>
    if s.setOn (s.entrySet e) p && (decide (s.powerOf p = 1) || decide (s.powerOf p = 2)) then
      match best with
      | none => some p
      | some b => if hopsTo s.member r p < hopsTo s.member r b then some p else best
    else best) none

/-- An entry that has waited past WAKE_AFTER without a candidate. -/
def State.overdue (s : State) (e : Entry) : Bool :=
  decide (s.elapsed > e.since + usTicks s.wakeAfter)
    && !((List.range (unitCount s.member .pavs)).any (fun p => s.candidate e.act.entry p))

/-- WAKE_REQUEST (R130): port `r` asks a wake for the oldest overdue entry of group `g`. (log 38, DEDUCED) -/
def execWakeRequest (r g : Nat) (s : State) : Out :=
  if unitPresent s.member .ports r = false then .fault .absentUnit
  else if g = 0 ∨ g ≥ 64 ∨ s.wakeAfter = 0 then .next s
  else match (s.rl r g).find? (fun e => s.overdue e && (s.sleeper e.act.entry r).isSome) with
  | none => .next s
  | some e =>
    match s.sleeper e.act.entry r with
    | none => .next s
    | some p => .next (((s.bump (Reg.port r 7)).traceEvent 6 g e.act.tenant (some p) 0 0 r
        (if e.isTask then 0 else e.act.flow % 32768 * 0x200)).askWake p)

/-! ### Tasks (R142 to R149, R162) -/

/-- The SEV of a master crosses the Trellis to the hub; what the device raises itself does not. -/
def State.sevPasses (s : State) : SevSource → State
  | .master tenant m n =>
    s.passes n nodeHub (mkHeader 2 4 nodeHub n (if n < 256 then slotOf (Master.ctx m) else 0) tenant 0 s.deviceNo) false
  | _ => s

/-- SEV_ARRIVAL (R145, R149). (log 98, DEDUCED) -/
def execSevArrival (task : Nat) (flags : Word) (src : SevSource) (s : State) : Out :=
  .next (((s.take (.sev task flags src)).sevPasses src).sevArrive task flags src)

/-- SPRES (R142): the hub reserves the lowest-numbered FREE task number of the tenant and group, or answers none. (log 34, DEDUCED) -/
def execSpres (q : SpawnReq) (s : State) : Out :=
  if ctxPresent s.member q.c = false then .fault .absentUnit
  else
    let s1 := (s.take (.spres q)).passes q.c.pav nodeHub (mkHeader 0 0x21 nodeHub q.c.pav (slotOf q.c) q.tenant q.rid s.deviceNo) false
    let rsp : Rsp := ⟨q.c.pav, slotOf q.c, q.rid, nodeHub, 0, false, 0⟩
    match s1.spawnPick q.tenant q.wgrp 4096 with
    | some n => .next (((s1.setTask n { s1.task n with st := .reserved }).taskChanged n).send (.rdata rsp [BitVec.ofNat 24 n, 1]))
    | none => .next (s1.send (.rdata rsp [0, 0]))

/-- SPAWN_RELEASE (R142, R283): the reserved task becomes READY with a cleared record. -/
def execSpawnRelease (n entry wgrp : Nat) (c : CtxId) (tenant : Nat) (arg : Triple) (s : State) : Out :=
  let h := mkHeader 2 6 nodeHub c.pav (slotOf c) tenant 0 s.deviceNo
  let s1 := (s.take (.spawn n entry wgrp c tenant arg)).passes c.pav nodeHub h false
  if (s.task n).st ≠ .reserved then .next s1
  else
    let s2 := s1.recClear n
    .next ((s2.setTask n { s2.task n with
      evf := 0
      evm := 0
      lastpav := c.pav
      entry := entry
      arg := arg
      saved := false
      target := 0
      result := none
      epoch := Map.get (fun _ => 0) s.hub.epoch tenant }).taskReady n)

/-- WAITT_TARGET_REACHED (R146). -/
def execWaittTargetReached (n : Nat) (s : State) : Out :=
  let t := s.task n
  if t.st ≠ .waitTime ∨ s.time < t.target then .next s
  else .next ((s.setTask n { t with target := 0 }).taskReady n)

/-- The context that runs a task. -/
def State.ctxOfTask (s : State) (n : Nat) : Option CtxId :=
  (s.strands.ctxs.find? (fun e => decide (e.2.isTask = true ∧ e.2.task = n ∧ e.2.state ≠ .free))).map
    (fun e => ctxOfKey e.1)

/-- Take a task's entry out of the ready lists and pavilion queues. -/
def State.unlistTask (s : State) (n : Nat) : State :=
  let keep := fun (l : List Entry) => l.filter (fun (e : Entry) => !(e.isTask && decide (e.task = n)))
  let clean := fun (m : Map (List Entry)) => (m.map (fun e => (e.1, keep e.2))).filter (fun e => decide (e.2 ≠ []))
  { s with hub := { s.hub with rl := clean s.hub.rl, pq := clean s.hub.pq } }

/-- A warden ends a task (R148): a resident one is cut short; another leaves the lists it stands in. (log 34, DEDUCED) -/
def State.killTask (s : State) (n : Nat) : State :=
  let t := s.task n
  if t.st = .free then s
  else
    let s1 := s.unlistTask n
    let gone := fun (s : State) => ((s.tenantFault t.owner nodeHub 0 0x23 0 0).dropGrant n nodeHub 0).taskFree n
    match s1.ctxOfTask n with
    | some c =>
      if (s1.ctx c).state = .saving then ((gone s1).setCtx c Context.idle).schedule c.pav c.pipe
      else s1.cutShort c .kill
    | none => gone s1

/-- A warden write of DISP.TASK[n] (R162): ones written to EVF set flags as an SEV by tenant 0 would, KILL ends the
task. Both are activity (R167). (log 34, DEDUCED) -/
def State.taskWrite (s : State) (n : Nat) (ws : List (Nat × Word)) : State :=
  let s1 := if wrote ws 1 = 0 then s else (s.activity (s.task n).owner).sevArrive n (wrote ws 1) .device
  if (wrote ws 3).bit 1 && decide ((s1.task n).st ≠ .free) then (s1.killTask n).activity (s1.task n).owner else s1

/-- KILL (R148, R162): a write of DISP.TASK[n], which takes effect at word 3, with KILL 1. -/
def execTaskKill (q : Req) (n : Nat) (v : Word) (s : State) : Out :=
  s.wardenWhole q (0x018000 + 4 * n) 4 v (fun ws => (wrote ws 3).bit 1) (fun s ws => s.taskWrite n ws)

/-- EVF_WRITE (R145, R162): a write of DISP.TASK[n], which takes effect at word 3, with ones written to EVF. -/
def execEvfWrite (q : Req) (n : Nat) (v : Word) (s : State) : Out :=
  s.wardenWhole q (0x018000 + 4 * n) 4 v (fun ws => decide (wrote ws 1 ≠ 0)) (fun s ws => s.taskWrite n ws)

/-! ### Hung members of a flow (R177) -/

/-- An activation of flow `f` other than the one in service is held, handed or parked. -/
def State.flowWaits (s : State) (f : Nat) : Bool :=
  decide ((s.flow f).order.length ≥ 2)
    || s.store.notices.any (fun e => e.2.any (fun n => decide (n.act.flow = f ∧ n.act.tenant = (s.flow f).owner)))

/-- FLOWHANG (R177): once per busy period. A flow of tenant 0 has no HANGFLAG (R181). -/
def execFlowhang (f : Nat) (s : State) : Out :=
  let x := s.flow f
  let us := (s.reg 0x00C012).toNat
  if us = 0 ∨ x.busy = false ∨ x.hangReported = true ∨ s.flowWaits f = false
      ∨ s.elapsed ≤ x.busySince + usTicks us then .next s
  else
    let s1 := s.setFlow f { x with hangReported := true }
    let s2 := (s1.log 0x23 nodeHub 0 (BitVec.ofNat 24 (f * 512 + x.owner % 512)) (some (Triple.ofWords (BitVec.ofNat 24 x.lastpav) 0 0))).bump 0x00C016
    .next (if x.owner = 0 then s2
      else s2.sevFlag (s2.regField (Reg.dlkTen x.owner 0) 0 12) (s2.regField (Reg.dlkTen x.owner 1) 14 5))

end Sys2Proof.Machine
end

