-- ==== Sys2Proof/Machine/Time.lean ====
section
/-! DEFINITION. Device time: ticks, steps, discipline sources, the servo, holdover and the seconds keeper
(13_device_time). -/

namespace Sys2Proof.Machine

/-! ### Registers (R421 to R431) -/

def Reg.tkCtl : Nat := 0x004000
def Reg.tkStatus : Nat := 0x004001
def Reg.tkFadj : Nat := 0x00400B
def Reg.tkFrun : Nat := 0x00400C
def Reg.tkServo (w : Nat) : Nat := 0x00400D + w
def Reg.tkHold (w : Nat) : Nat := 0x004010 + w
def Reg.tkSrc (i w : Nat) : Nat := 0x004020 + 4 * i + w
def Reg.tkStat (w : Nat) : Nat := 0x004034 + w
def Reg.tkSeck (w : Nat) : Nat := 0x004040 + w

/-- STATE: 0 FREERUN, 1 ACQUIRE, 2 LOCKED, 3 HOLDOVER. -/
def State.tkState (s : State) : Nat := s.regField Reg.tkStatus 21 3
/-- SRC: the selected source, 3 none. -/
def State.tkSrc (s : State) : Nat := s.regField Reg.tkStatus 19 2
def State.everLock (s : State) : Bool := s.regBit Reg.tkStatus 18
def State.stepEn (s : State) : Bool := s.regBit Reg.tkCtl 23
def State.srcRuns (s : State) (i : Nat) : Nat := Map.get (fun _ => 0) s.keeper.runs i
def State.setRuns (s : State) (i n : Nat) : State :=
  { s with keeper := { s.keeper with runs := Map.set (fun _ => 0) s.keeper.runs i n } }
def State.srcLast (s : State) (i : Nat) : Nat := Map.get (fun _ => 0) s.keeper.last i
def State.setLast (s : State) (i n : Nat) : State :=
  { s with keeper := { s.keeper with last := Map.set (fun _ => 0) s.keeper.last i n } }

/-- A signed 24-bit word. -/
def intWord (i : Int) : Word := BitVec.ofInt 24 i
/-- Clamp between limits. -/
def clampInt (v lo hi : Int) : Int := max lo (min v hi)
/-- The limit of a sample and of FADJ. -/
def tkMax : Int := 8388607

/-! ### States (Table 13-2) -/

/-- FADJ in FREERUN (R410). -/
def State.freeRunFadj (s : State) : Word := if s.keeper.integSet then intWord s.keeper.integ else s.reg Reg.tkFrun

/-- The keeper enters a state: the record, and what the state does to FADJ and HOLDERR (R409, R410, R412). -/
def State.tkEnter (s : State) (st : Nat) : State :=
  let s1 := ((s.setRegField Reg.tkStatus 21 3 st).log 0x48 nodeTime 0 (BitVec.ofNat 24 st) none).setReg (Reg.tkHold 2) 0
  let s2 := { s1 with keeper := { s1.keeper with lockRun := 0 } }
  match st with
  | 0 => s2.setReg Reg.tkFadj s2.freeRunFadj
  | 3 =>
    let s3 := (s2.setReg Reg.tkFadj (intWord s2.keeper.integ)).bump (Reg.tkStat 4)
    { s3 with keeper := { s3.keeper with holdNext := s3.elapsed + 4294967296 } }
  | _ => s2

/-! ### Selection (R407, R408, R418) -/

/-- The source may become valid: EN, or the pair link of a shadow. -/
def State.srcOn (s : State) (i : Nat) : Bool := s.regBit (Reg.tkSrc i 0) 23 || (s.pairShadow && decide (i = 1))

def State.srcValid (s : State) (i : Nat) : Bool := decide (i < 3) && s.regBit Reg.tkStatus i

/-- The source that is to be selected. -/
def State.pickSource (s : State) : Nat :=
  if s.pairShadow then (if s.srcValid 1 then 1 else 3)
  else if s.regBit Reg.tkCtl 22 then
    (List.range 3).foldl (fun best i =>
      if s.srcValid i && (decide (best = 3)
          || decide (s.regField (Reg.tkSrc i 0) 21 2 < s.regField (Reg.tkSrc best 0) 21 2)) then i else best) 3
  else if s.srcValid (s.regField Reg.tkCtl 20 2) then s.regField Reg.tkCtl 20 2 else 3

/-- Select again; a change is counted and logged, and moves the state. -/
def State.reselect (s : State) : State :=
  let new := s.pickSource
  if new = s.tkSrc then s
  else
    let s1 := ((s.setRegField Reg.tkStatus 19 2 new).bump (Reg.tkStat 3)).log 0x49 nodeTime 0 (BitVec.ofNat 24 new) none
    if new = 3 then
      if s.tkState = 2 then s1.tkEnter 3
      else if s.tkState = 1 then s1.tkEnter (if s.everLock then 3 else 0) else s1
    else if s.tkState = 0 ∨ s.tkState = 3 then s1.tkEnter 1 else s1

/-- A source gains or loses validity. -/
def State.setSrcValid (s : State) (i : Nat) (b : Bool) : State := (s.setRegField Reg.tkStatus i 1 b.toNat).reselect

/-! ### The servo (R410) -/

/-- A step is asked: it waits for the next tick (R413). -/
def State.askStep (s : State) (amount : Int) : State :=
  { s with keeper := { s.keeper with steps := s.keeper.steps ++ [amount] } }

/-- The sample moves the keeper toward LOCKED, or back to ACQUIRE (Table 13-2). -/
def State.lockCount (s : State) (θ : Int) : State :=
  let ns : Int := (s.regField (Reg.tkServo 2) 12 12 : Nat)
  let n := max 1 (s.regField (Reg.tkServo 2) 8 4)
  let hit := if s.tkState = 1 then decide ((θ.natAbs : Int) ≤ ns) else decide ((θ.natAbs : Int) > 4 * ns)
  let run := if hit then s.keeper.lockRun + 1 else 0
  let s1 := { s with keeper := { s.keeper with lockRun := run } }
  if run < n then s1
  else if s.tkState = 1 then (s1.tkEnter 2).setRegField Reg.tkStatus 18 1 1 else s1.tkEnter 1

/-- SERVO of R410; divisions round toward zero. -/
def State.servo (s : State) (θ : Int) : State :=
  if s.tkState = 1 ∧ s.everLock = false ∧ s.stepEn = true ∧ θ.natAbs > s.regField (Reg.tkServo 2) 0 8 * 1000 then
    s.askStep (-(Int.tdiv (θ * 4294967296) 1000000000))
  else
    let gp : Int := (s.regField (Reg.tkServo 0) 12 12 : Nat)
    let gi : Int := (s.regField (Reg.tkServo 0) 0 12 : Nat)
    let slew : Int := (s.reg (Reg.tkServo 1)).toNat
    let i := clampInt (s.keeper.integ - Int.tdiv (θ * gi) 16) (-tkMax) tkMax
    let p := clampInt (-(Int.tdiv (θ * gp) 16)) (-slew) slew
    let s1 := { s with keeper := { s.keeper with integ := i, integSet := true } }
    (s1.setReg Reg.tkFadj (intWord (clampInt (i + p) (-tkMax) tkMax))).lockCount θ

/-! ### Samples (R405, R407, R414) -/

/-- Samples are discarded for 1 s after a step. -/
def State.afterStep (s : State) : Bool :=
  match s.keeper.stepAt with
  | some t => decide (s.elapsed < t + 4294967296)
  | none => false

def State.srcTmo (s : State) (i : Nat) : Nat := msTicks (s.reg (Reg.tkSrc i 1)).toNat

/-- The source meets the conditions of R407. -/
def State.srcMeets (s : State) (i : Nat) : Bool :=
  s.srcOn i && decide (max 1 (s.regField (Reg.tkSrc i 0) 17 4) ≤ s.srcRuns i) && decide (s.elapsed ≤ s.srcLast i + s.srcTmo i)

/-- The validity of a source follows its conditions. -/
def State.srcCheck (s : State) (i : Nat) : State := if s.srcMeets i = s.srcValid i then s else s.setSrcValid i (s.srcMeets i)

/-- A source delivers an offset sample in nanoseconds. The sample that makes a source valid does not reach the servo, and a
sample discarded after a step restarts the run, without which no source is valid. (log 43, DEDUCED) -/
def State.sample (s : State) (i : Nat) (θ : Int) : State :=
  let beyond := decide (θ > tkMax ∨ θ < -tkMax)
  let v := clampInt θ (-tkMax) tkMax
  let s0 := if s.srcValid i then s.srcCheck i else s
  let s1 := (s0.setReg (Reg.tkSrc i 3) (intWord v)).setRegField (Reg.tkSrc i 0) 16 1 beyond.toNat
  if s1.afterStep then ((s1.setRuns i 0).bump (Reg.tkStat 2)).srcCheck i
  else if beyond then ((s1.setRuns i 0).setLast i s.elapsed).srcCheck i
  else
    let run := if s.elapsed > s.srcLast i + s.srcTmo i then 1 else s.srcRuns i + 1
    let s2 := (s1.setRuns i run).setLast i s.elapsed
    if s0.srcValid i then (if s2.tkSrc = i ∧ (s2.tkState = 1 ∨ s2.tkState = 2) then s2.servo v else s2)
    else s2.srcCheck i

/-! ### Ticks and steps (R402, R404, R412, R413, R419) -/

/-- NOM + FADJ (R402). -/
def State.tickStep (s : State) : Nat := (18446744074 + (s.reg Reg.tkFadj).toInt).toNat

/-- Advance a 72-bit count with its 32-bit extension. (log 43, DEDUCED) -/
def advance (t : Triple) (e : BitVec 32) (n : Nat) : Triple × BitVec 32 :=
  let v := t.toNat * 4294967296 + e.toNat + n
  (BitVec.ofNat 72 (v / 4294967296), BitVec.ofNat 32 v)

/-- A step is refused: counted and logged with its amount. -/
def State.refuseStep (s : State) (amount : Triple) : State := (s.bump (Reg.tkStat 1)).log 0x4B nodeTime 0 0 (some amount)

/-- Apply one step at a tick, unless its result would leave the range of TIME. (log 43, DEDUCED) -/
def State.applyStep (s : State) (amount : Int) : State :=
  let v : Int := s.time.toNat + amount
  let a : Triple := BitVec.ofInt 72 amount
  if v < 0 ∨ v ≥ 2 ^ 72 then s.refuseStep a
  else
    let s1 := { s with clock := { s.clock with time := BitVec.ofInt 72 v } }
    let s2 := { s1 with keeper := { s1.keeper with stepAt := some s.elapsed } }
    (((((s2.setReg 0x004008 (a.word 0)).setReg 0x004009 (a.word 1)).setReg 0x00400A (a.word 2)).bump (Reg.tkStat 0)).log
      0x4A nodeTime 0 0 (some a))

/-- HOLDERR grows for each second of ELAPSED in HOLDOVER (R412). -/
def State.holdTick (s : State) : State :=
  if s.tkState = 3 ∧ s.elapsed ≥ s.keeper.holdNext then
    let s1 := s.bumpBy (Reg.tkHold 2) (s.reg (Reg.tkHold 0)).toNat
    { s1 with keeper := { s1.keeper with holdNext := s.keeper.holdNext + 4294967296 } }
  else s

/-- SECS, 40 bits of whole seconds. -/
def State.secs (s : State) : Nat := s.regField (Reg.tkSeck 0) 0 16 * 16777216 + (s.reg (Reg.tkSeck 1)).toNat
def State.setSecs (s : State) (v : Nat) : State :=
  (s.setRegField (Reg.tkSeck 0) 0 16 (v / 16777216)).setReg (Reg.tkSeck 1) (BitVec.ofNat 24 v)

/-- While the time keeper runs, SECS follows the whole seconds of TIME (R419, R420). -/
def State.seckFollow (s : State) (before : Nat) : State :=
  if s.regBit (Reg.tkSeck 0) 23 && decide (s.time.toNat / 4294967296 ≠ before) then
    (s.setSecs (s.time.toNat / 4294967296 % 2 ^ 40)).setRegField (Reg.tkSeck 0) 22 1 1
  else s

/-- TICK (R402, R404, R415). -/
def execTick (s : State) : Out :=
  if s.power.core = false then .next s
  else
  let before := s.time.toNat / 4294967296
  let s1 := s.keeper.steps.foldl State.applyStep { s with keeper := { s.keeper with steps := [] } }
  let t := advance s1.clock.time s1.clock.timeExt s1.tickStep
  let e := advance s1.clock.elapsed s1.clock.elapsedExt s1.tickStep
  .next ((State.holdTick { s1 with clock := ⟨t.1, t.2, e.1, e.2⟩ }).seckFollow before)

/-- SECONDS_KEEPER_SECOND (R419): in standby SECS counts alone; beside a running time keeper it follows TIME. -/
def execSecondsKeeperSecond (s : State) : Out :=
  if s.power.core ∨ s.regBit (Reg.tkSeck 0) 23 = false then .next s
  else .next (s.setSecs ((s.secs + 1) % 2 ^ 40))

/-! ### Commands of the time keeper -/

/-- The whole second nearest to a stamp. -/
def nearestSecond (t : Int) : Int := (t + 2147483648) / 4294967296

/-- PPS_EDGE (R405, R406): a rising edge on TK_PPS, stamped with TIME. -/
def execPpsEdge (s : State) : Out :=
  if s.power.core = false then .next s else
  let delay := Int.tdiv ((s.reg (Reg.tkSrc 2 2)).toInt * 4294967296) 1000000000
  let stamp : Int := s.time.toNat - delay
  let todv := s.regBit 0x004030 23
  let sec : Int := if todv then (s.regField 0x004030 0 16 * 16777216 + (s.reg 0x004031).toNat : Nat) else nearestSecond stamp
  let θ := Int.tdiv ((stamp - sec * 4294967296) * 1000000000) 4294967296
  .next ((if todv then s.setRegField 0x004030 23 1 0 else s).sample 2 θ)

/-- OFFSET (R405, R428): a warden write to TKEEP.SRC[0].OFFSET delivers a sample. -/
def execPtpOffset (q : Req) (v : Word) (s : State) : Out :=
  s.wardenWrite q (Reg.tkSrc 0 3) v true (fun s => s.sample 0 v.toInt)

/-- SOURCE_TIMEOUT (R407): no sample for more than TMO_MS. -/
def execSourceTimeout (i : Nat) (s : State) : Out :=
  if s.srcValid i = false ∨ s.elapsed ≤ s.srcLast i + s.srcTmo i then .next s
  else .next ((s.setRuns i 0).setSrcValid i false)

/-- HOLD_LIMIT_EXCEEDED (R412, Table 13-2). -/
def execHoldLimitExceeded (s : State) : Out :=
  if s.tkState ≠ 3 ∨ s.reg (Reg.tkHold 2) ≤ s.reg (Reg.tkHold 1) then .next s else .next (s.tkEnter 0)

/-- STEP (R413, R424): a warden write of word 2 of TKEEP.STEP; a lower word that was not written keeps its value. -/
def execTimeStep (q : Req) (v : Word) (s : State) : Out :=
  s.wardenWhole q 0x004008 3 v (fun _ => true) (fun s ws =>
    let w := fun k => ((ws.find? (fun e => decide (e.1 = k))).map Prod.snd).getD (s.reg (0x004008 + k))
    let a := Triple.ofWords (w 0) (w 1) (w 2)
    if s.stepEn then s.askStep a.toInt else s.refuseStep a)

end Sys2Proof.Machine
end

