-- ==== Sys2Proof/Machine/PortOps.lean ====
section
/-! DEFINITION. Operations of port cells: the grid, late policies, captures, commits and their functions, supply and
exchange (14_port_cells). -/

namespace Sys2Proof.Machine

/-! ### Cells and banks -/

def Cell.idle : Cell := ⟨[], [], none, none, true, 0, 0, none, none, false, 0, [], [], 0, none, none, [], none⟩
def State.cell (s : State) (c : Nat) : Cell := Map.get (fun _ => Cell.idle) s.ports.cells c
def State.setCell (s : State) (c : Nat) (v : Cell) : State :=
  { s with ports := { s.ports with cells := Map.set (fun _ => Cell.idle) s.ports.cells c v } }
def State.pin (s : State) (n : Nat) : Bool := Map.get (fun _ => false) s.ports.pins n
def State.setPin (s : State) (n : Nat) (b : Bool) : State :=
  { s with ports := { s.ports with pins := Map.set (fun _ => false) s.ports.pins n b } }
def State.inbox (s : State) (b : Nat) : List Token := Map.get (fun _ => []) s.ports.inbox b
def State.setInbox (s : State) (b : Nat) (v : List Token) : State :=
  { s with ports := { s.ports with inbox := Map.set (fun _ => []) s.ports.inbox b v } }

def Reg.bank (b w : Nat) : Nat := 0x081000 + 4 * b + w
def Reg.tslack (t : Nat) : Nat := 0x080200 + t
def cellBank (c : Nat) : Nat := c / 32
def State.cellFunc (s : State) (c : Nat) : Nat := s.regField (Reg.cell c 0) 20 4
def State.cellSafe (s : State) (c : Nat) : Nat := s.regField (Reg.cell c 0) 18 2
def State.cellLate (s : State) (c : Nat) : Nat := s.regField (Reg.cell c 0) 16 2
def State.cellCrit (s : State) (c : Nat) : Bool := s.regBit (Reg.cell c 0) 14
def State.cellOwner (s : State) (c : Nat) : Nat := s.regField (Reg.cell c 1) 15 9
def State.cellBits (s : State) (c : Nat) : Nat := s.regField (Reg.cell c 1) 0 7
def State.cellPeriod (s : State) (c : Nat) : Nat := (s.reg (Reg.cell c 2)).toNat
def State.cellPhase (s : State) (c : Nat) : Nat := (s.reg (Reg.cell c 3)).toNat
def State.cellExpect (s : State) (c : Nat) : Nat := (s.reg (Reg.cell c 4)).toNat
def State.cellAux (s : State) (c : Nat) : Nat := (s.reg (Reg.cell c 5)).toNat
/-- STATE of a cell: 0 IDLE, 1 RUN, 2 HOLDING, 3 SAFE, 4 FAULTED, 5 SWITCHING. -/
def State.cellState (s : State) (c : Nat) : Nat := s.regField (Reg.cell c 8) 21 3
def State.setCellState (s : State) (c v : Nat) : State := s.setRegField (Reg.cell c 8) 21 3 v
def State.vioOk (s : State) (b : Nat) : Bool := s.regBit (Reg.bank b 0) 22
/-- The cell works: RUN or HOLDING. -/
def State.cellLive (s : State) (c : Nat) : Bool := decide (s.cellState c = 1 ∨ s.cellState c = 2)
/-- The cell has a function of its own. -/
def State.programmed (s : State) (c : Nat) : Bool := decide (0 < s.cellFunc c ∧ s.cellFunc c < 10)
/-- Cells of a bank. -/
def bankCells (b : Nat) : List Nat := (List.range 32).map (fun k => 32 * b + k)

/-! ### The grid (R438) -/

/-- Grid instant of a time, in ns since TIME 0; ties round upward. -/
def gridOf (t : Triple) : Nat :=
  t.toNat / 4294967296 * 1000000000 + (t.toNat % 4294967296 * 1000000000 + 2147483648) / 4294967296

/-- Grid instant of a commit time, which can lie before TIME 0 (R442). -/
def gridOfInt (c : Int) : Int :=
  c / 4294967296 * 1000000000 + (c % 4294967296 * 1000000000 + 2147483648) / 4294967296

/-- TIME72 of a grid instant. -/
def gridTime (g : Nat) : Triple :=
  BitVec.ofNat 72 (g / 1000000000 * 4294967296 + (g % 1000000000 * 8589934592 + 1000000000) / 2000000000)

/-- TIME has reached a grid instant. -/
def State.reached (s : State) (g : Nat) : Bool := decide (gridTime g ≤ s.time)

/-- The schedule instant at or before TIME (R435). -/
def State.schedInstant (s : State) (c : Nat) : Option Nat :=
  let p := s.cellPeriod c
  let n0 := s.time.toNat * 1000000000 / 4294967296
  let n := if s.reached (n0 + 1) then n0 + 1 else n0
  if p = 0 ∨ n < s.cellPhase c then none else some (s.cellPhase c + (n - s.cellPhase c) / p * p)

/-! ### Safe levels and late policies (R445, R446, Table 14-4) -/

/-- The output that a TSOUT cell has in force: 0 low, 1 high, 2 high impedance. -/
def State.outLevel (s : State) (c : Nat) : Nat :=
  let k := s.cell c
  if s.vioOk (cellBank c) = false then 2
  else if k.safeOut || decide (s.cellState c = 0 ∨ s.cellState c = 3 ∨ s.cellState c = 4) then s.cellSafe c else k.out

/-- Everything that waits to act is discarded; each commit counts in REJECT. -/
def State.dropCommits (s : State) (c : Nat) : State :=
  let k := s.cell c
  (s.setCell c { k with
    commits := []
    duties := []
    burst := none
    xfers := []
    freeAt := 0
    deadline := none
    safeOut := true }).bumpBy (Reg.cell c 14) k.commits.length

/-- The cell enters SAFE or FAULTED (R445, R451). (log 42, DEDUCED) -/
def State.cellStops (s : State) (c st : Nat) : State :=
  let s1 := (s.dropCommits c).setCellState c st
  if s1.regBit (Reg.cell c 0) 8 then s1.fireBinds 1 c 0xFFFFFF else s1

/-- The record of a cell that enters SAFE or FAULTED: cause 1 late, 2 queue full, 3 miss. -/
def State.logCell (s : State) (c cause : Nat) : State :=
  s.log 0x40 (nodeBank (cellBank c)) 0 (BitVec.ofNat 24 (cause * 0x200000 + c % 1024)) none

/-- A late event meets the cell's policy, in RUN and HOLDING (Table 14-4). -/
def State.lateEvent (s : State) (c cause : Nat) : State :=
  if s.cellLive c = false then s else
  match s.cellLate c with
  | 0 => if s.cellState c = 2 then (s.cellStops c 3).logCell c cause else if s.cellState c = 1 then s.setCellState c 2 else s
  | 1 => (s.cellStops c 3).logCell c cause
  | 2 => ((s.cellStops c 4).logCell c cause).tenantFault (s.cellOwner c) (nodeBank (cellBank c)) 0 0x25 0 0
  | _ => s

/-- A cell returns to RUN; its pins keep their safe levels until a commit acts (R446). -/
def State.cellRuns (s : State) (c : Nat) : State :=
  (s.setCell c { s.cell c with safeOut := true, deadline := none }).setCellState c 1

/-- A new enable: the counters of R437 and the first edge of a TIMER start over. -/
def State.cellFresh (s : State) (c : Nat) : State :=
  s.setCell c { s.cell c with count := 0, lastTrans := none, lastEdge := none, sched := none }

/-! ### Captures (R448 to R451) -/

/-- Captures before T_switch go to the handover queue (R458). -/
def State.handover (s : State) (c : Nat) (k : Capture) : State :=
  s.send (.queueRec (s.regField 0x003045 0 10) (0x400 + c) [k.v.word 0, k.v.word 1, k.stamp.word 0, k.stamp.word 1, k.stamp.word 2])

/-- The cell takes a capture of grid instant `g`: in RUN and HOLDING, and in SWITCHING one stamped before T_switch (Table 14-8). -/
def State.cellTakes (s : State) (c g : Nat) : Bool :=
  s.cellLive c || (decide (s.cellState c = 5) && (s.cell c).switchAt.any (fun t => decide (gridTime g < t)))

/-- A capture enters the queue, or is lost. -/
def State.captureIn (s : State) (c ty : Nat) (v : Triple) (g : Nat) : State :=
  let k := s.cell c
  let e : Capture := ⟨ty, v, gridTime g⟩
  if s.cellTakes c g = false then s
  else match k.switchAt.filter (fun t => decide (e.stamp < t)) with
  | some _ => s.handover c e
  | none =>
    if k.captures.length ≥ 8 then (s.bump (Reg.cell c 13)).setRegField (Reg.cell c 8) 11 1 1
    else
      let s1 := s.setCell c { k with captures := k.captures ++ [e] }
      if s1.regBit (Reg.cell c 0) 7 then s1.fireBinds 1 c 0xFFFFFF else s1

/-- A capture to compare with the other die's of the same pin (R593): the oldest unmatched one of the other die is its
match, and stays where the two differ. -/
def State.pairCapture (s : State) (c : Nat) (lead : Bool) (v : Triple) (g : Nat) : State :=
  let win := if s.regField (Reg.depPair 1) 8 8 = 0 then 2 else s.regField (Reg.depPair 1) 8 8
  let mate := s.pair.captures.find? (fun e => decide (e.cell = c) && (e.lead != lead) && !e.differs)
  match mate with
  | none => { s with pair := { s.pair with captures := s.pair.captures ++ [(⟨c, lead, v, g, s.elapsed, false⟩ : PairCapture)] } }
  | some m =>
    if m.v = v ∧ natDist m.g g ≤ win then { s with pair := { s.pair with captures := s.pair.captures.erase m } }
    else { s with pair := { s.pair with captures := s.pair.captures.map (fun (e : PairCapture) =>
      if e = m then { e with differs := true } else e) } }

/-- A cell captures: the shadow of a pair only compares, the lead's capture goes to the shadow too (R592). -/
def State.capture (s : State) (c ty : Nat) (v : Triple) (g : Nat) : State :=
  if s.cellTakes c g = false then s
  else if s.pairShadow then s.pairCapture c false v g
  else if s.pairLead then (s.forwardInput (.capture c ty v g) false).captureIn c ty v g
  else s.captureIn c ty v g

/-- Discard the capture queue, counted in CAPLOST. -/
def State.dropCaptures (s : State) (c : Nat) : State :=
  let k := s.cell c
  (s.setCell c { k with captures := [] }).bumpBy (Reg.cell c 13) k.captures.length

/-- Clear the arm; the passage to unarmed is activity (R167). -/
def State.disarm (s : State) (c : Nat) : State :=
  let k := s.cell c
  if k.cont.isNone then s else (s.setCell c { k with cont := none }).activity (s.cellOwner c)

/-- An event word of a cell (R63). (log 40, DESIGN CHOICE) -/
def State.evtOf (s : State) (c : Nat) (flags : Word) : Triple :=
  Triple.ofWords flags (BitVec.ofNat 24 (2 * 0x400000 + s.cellOwner c % 512 * 0x1000 + c % 1024)) 0

/-- The two capture tokens of an armed cell (R61, R449). -/
def State.captureTokens (s : State) (c : Nat) (cont : Triple) (k : Capture) : List Packet :=
  let crit := Tag.crit cont || s.cellCrit c
  let evt := s.regBit (Reg.cell c 0) 13 && decide (s.cellFunc c = 1 ∨ s.cellFunc c = 9)
  let tok := fun (off ty : Nat) (v : Triple) => Packet.ftok ⟨nodeBank (cellBank c), c % 32, 0, s.cellOwner c,
    if crit then 3 else 2,
    Tag.mk (Tag.device cont) (Tag.frame cont) (Tag.gen cont) (Tag.slot cont + off) (Tag.flow cont) ty crit.toNat, v,
    if crit then ~~~v else 0, false⟩
  [if evt then tok 0 7 (s.evtOf c (k.v.word 0)) else tok 0 k.ty k.v, tok (if crit then 2 else 1) 5 k.stamp]

/-! ### Commits (R440 to R443, Table 14-3) -/

/-- OP and CTIME of a port-token tag (Table 14-2). -/
def portOp (t : Triple) : Nat := t.field 42 4
def portCtime (t : Triple) : Nat := t.field 6 36

/-- Table 14-1 lets the function take the OP. -/
def State.opAllowed (s : State) (c op : Nat) : Bool :=
  let f := s.cellFunc c
  if op = 0 then decide (f ∈ [2, 4, 5, 7, 8]) || (decide (f = 3 ∨ f = 6) && decide (s.cellPeriod c = 0))
  else decide (f ∈ [1, 3, 6, 7, 8, 9])

/-- TYPE of a commit or capture value of a transfer. -/
def State.bitsType (s : State) (c : Nat) : Nat := if s.cellBits c ≤ 24 then 0 else 1

/-- TYPE, CTIME and value layout of Table 14-1. -/
def State.layoutOk (s : State) (c op : Nat) (tag v : Triple) : Bool :=
  let ty := Tag.ty tag
  match op with
  | 0 => match s.cellFunc c with
    | 2 => decide (ty = 0) && decide (v < 3)
    | 3 => decide (ty = 0) && decide (v = 0)
    | 4 => decide (ty = 0)
    | 5 => decide (ty = 0)
    | 6 => decide (ty = 0) && decide (v = 0)
    | 7 => decide (ty = 0) && decide (v < 512)
    | _ => decide (ty = s.bitsType c)
  | 1 => decide (ty = 6) && decide (portCtime tag = 0)
  | _ => decide (ty = 0) && decide (portCtime tag = 0) && decide (v = 0)

/-- The first check of Table 14-3 that fails: cause 1 poisoned, 2 malformed, 3 critical check, 4 foreign. (log 39, DESIGN CHOICE) -/
def State.checkPort (s : State) (b : Nat) (t : Token) : Option Nat :=
  let c := portCell t.tag
  let op := portOp t.tag
  if t.poison then some 1
  else if decide (Tag.crit t.tag ≠ decide (t.vc = 3)) || decide (t.tag.field 0 2 ≠ 0)
      || decide (clearUnused (Tag.ty t.tag) t.value ≠ t.value) || decide (cellBank c ≠ b) || decide (op > 2)
      || !(s.opAllowed c op) || !(s.layoutOk c op t.tag t.value) then some 2
  else if Tag.crit t.tag && decide (t.comp ≠ ~~~t.value) then some 3
  else if decide (t.tenant ≠ 0) && decide (t.tenant ≠ s.cellOwner c) then some 4
  else none

/-- Insert a commit in order of its instant. -/
def insertCommit (e : Commit) : List Commit → List Commit
  | [] => [e]
  | x :: xs => if e.g < x.g then e :: x :: xs else x :: insertCommit e xs

/-- Saturate a slack to ±8,388,607 ns. -/
def slackWord (n : Int) : Word := intWord (clampInt n (-tkMax) tkMax)

/-- Lower a signed record to `v`. -/
def State.lowerTo (s : State) (a : Nat) (v : Word) : State := if v.toInt < (s.reg a).toInt then s.setReg a v else s

/-- COMMIT ENTRY of R442. -/
def State.commitEntry (s : State) (c : Nat) (tag v : Triple) : State :=
  let now := s.time.toNat
  let d0 : Int := (portCtime tag : Int) - (now % 2 ^ 36 : Nat)
  let d1 := d0 % 2 ^ 36
  let d := if d1 ≥ 2 ^ 35 then d1 - 2 ^ 36 else d1
  let gi := gridOfInt (now + d)
  let slack : Int := (gi * 4294967296 - (now : Int) * 1000000000) / 4294967296
  let g := gi.toNat
  let s1 := (s.lowerTo (Reg.cell c 9) (slackWord slack)).lowerTo (Reg.tslack (s.cellOwner c)) (slackWord slack)
  let k := s1.cell c
  if s.cellState c ≥ 3 then s1.bump (Reg.cell c 14)
  else if slack ≤ 0 then (s1.bump (Reg.cell c 10)).lateEvent c 1
  else if k.commits.any (fun e => decide (e.g = g)) then
    s1.setCell c { k with commits := k.commits.map (fun (e : Commit) => if e.g = g then { e with v := v } else e) }
  else if k.commits.length ≥ 8 then (s1.bump (Reg.cell c 12)).lateEvent c 2
  else s1.setCell c { k with commits := insertCommit ⟨g, v⟩ k.commits }

/-! ### Acting (R436, R443) -/

def State.funcErr (s : State) (c : Nat) : State := s.bump (Reg.cell c 7)

/-- A PULSE commit. -/
def State.startBurst (s : State) (c g : Nat) (v : Word) : State :=
  let s0 := if (s.cell c).burst.isSome then s.funcErr c else s
  let n := v.toInt.natAbs
  let aux := s.cellAux c
  if n = 0 then s0.setCell c { s0.cell c with burst := none, safeOut := false }
  else
    let sp := (s.cellPeriod c - aux) / n
    let s1 := if sp < 2 * aux then s0.funcErr c else s0
    s1.setCell c { s1.cell c with
      burst := some ⟨g + aux, max sp (2 * aux), n, 0, decide (v.toInt > 0)⟩
      dir := decide (v.toInt > 0)
      safeOut := false }

/-- ns from the start of a UART frame to its end. -/
def State.uartSpan (s : State) (c : Nat) : Nat :=
  (2 + s.cellBits c + (if s.regField (Reg.cell c 6) 4 2 = 0 then 0 else 1)) * s.cellAux c
/-- ns from CS_N falling to CS_N rising. -/
def State.spiSpan (s : State) (c : Nat) : Nat := (2 * s.cellBits c + 1) * s.cellAux c
/-- ns from the start of an SSI transfer to its last edge. -/
def State.ssiSpan (s : State) (c : Nat) : Nat := (2 * s.cellBits c - 1) * s.cellAux c

/-- A frame of UART or SPI starts at its instant, or at the end of the one before; frames of a UART that have ended go. -/
def State.startFrame (s : State) (c g span : Nat) (v : Triple) : State :=
  let s1 := if (s.cell c).freeAt > g then s.funcErr c else s
  let k := s1.cell c
  let at' := max g k.freeAt
  let old := if s.cellFunc c = 7 then k.xfers.filter (fun x => !(s.reached (x.g + span))) else k.xfers
  s1.setCell c { k with xfers := old ++ [(⟨at', v⟩ : Commit)], freeAt := at' + span, safeOut := false }

/-- An SSI transfer starts, unless the clock has not idled long enough. -/
def State.startSsi (s : State) (c g : Nat) : State :=
  let k := s.cell c
  if g < k.freeAt then s.funcErr c
  else s.setCell c { k with xfers := k.xfers ++ [(⟨g, 0⟩ : Commit)], freeAt := g + s.ssiSpan c + 32 * s.cellAux c, safeOut := false }

/-- A commit acts. -/
def State.actCommit (s : State) (c : Nat) (e : Commit) : State :=
  let s1 := if s.cellState c = 2 then s.setCellState c 1 else s
  let k := s1.cell c
  let s2 := if s.cellExpect c = 0 then s1
    else s1.setCell c { k with deadline := some (s.elapsed + nsTicks (s.cellExpect c)) }
  let k2 := s2.cell c
  match s.cellFunc c with
  | 2 => s2.setCell c { k2 with out := (e.v.word 0).field 0 2, safeOut := false }
  | 3 => s2.capture c 0 (k2.count.zeroExtend 72) e.g
  | 4 => s2.startBurst c e.g (e.v.word 0)
  | 5 => s2.setCell c { k2 with duties := k2.duties ++ [e] }
  | 6 => s2.startSsi c e.g
  | 7 => s2.startFrame c e.g (s2.uartSpan c) e.v
  | 8 => s2.startFrame c e.g (s2.spiSpan c) e.v
  | _ => s2

/-! ### Supply and power (R456, R457) -/

/-- The cells of a bank that loses VIO. (log 42, DEDUCED) -/
def State.bankLosesVio (s : State) (b : Nat) : State :=
  (bankCells b).foldl (fun s c =>
    if s.programmed c && decide (s.cellState c ≠ 0 ∧ s.cellState c ≠ 3 ∧ s.cellState c ≠ 4) then s.cellStops c 3 else s) s

/-- The bank's domain leaves ON. -/
def State.bankOff (s : State) (b : Nat) : State :=
  ((bankCells b).foldl (fun s c => ((s.dropCommits c).dropCaptures c).disarm c) s).setInbox b []

/-- A calibration run starts (R439). -/
def State.calStart (s : State) (b : Nat) : State :=
  let s1 := s.bump (Reg.bank b 2)
  { s1 with ports := { s1.ports with caling := Map.set (fun _ => true) s1.ports.caling b true } }

/-- The bank's domain returns to ON: programmed cells enter SAFE, the counters lost power, the bank calibrates. -/
def State.bankOn (s : State) (b : Nat) : State :=
  ((bankCells b).foldl (fun s c =>
    if s.programmed c && decide (s.cellState c ≠ 0) then (s.cellFresh c).cellStops c 3 else s.cellFresh c)
    (s.setRegField (Reg.bank b 0) 23 1 0)).calStart b

/-! ### The port window (R459) -/

/-- Word 8 of PORT.CELL as it reads. -/
def State.cellStatus (s : State) (c : Nat) : Word :=
  let k := s.cell c
  (((s.reg (Reg.cell c 8)).setField 20 1 k.cont.isSome.toNat).setField 16 4 k.commits.length).setField 12 4 k.captures.length

/-- The LIVE view; a PWM cell that drives its safe level has no duty in force. (log 40, DESIGN CHOICE) -/
def State.cellLiveWord (s : State) (c : Nat) : Word :=
  let k := s.cell c
  match s.cellFunc c with
  | 1 => BitVec.ofNat 24 ((s.pin c ^^ s.regBit (Reg.cell c 0) 11).toNat)
  | 2 => BitVec.ofNat 24 (s.outLevel c)
  | 3 => k.count
  | 4 => k.count
  | 5 => if k.safeOut then 0 else BitVec.ofNat 24 k.duty
  | _ => 0

/-- The master may use the views of the cell. -/
def State.cellMay (s : State) (c t : Nat) : Bool := decide (t = 0) || decide (t = s.cellOwner c)

/-- Take the head capture for a master (R453). -/
def State.popCapture (s : State) (c : Nat) (m : Word) : State × Word :=
  let k := s.cell c
  match k.captures with
  | [] => (s, 0)
  | e :: rest => (s.setCell c { k with captures := rest, popped := Map.set (fun _ => none) k.popped m.toNat (some e) },
      BitVec.ofNat 24 (0x800000 + e.ty % 8 * 0x100000))

/-- The last entry a master popped. -/
def State.poppedOf (s : State) (c : Nat) (m : Word) : Capture :=
  (Map.get (fun _ => none) (s.cell c).popped m.toNat).getD ⟨0, 0, 0⟩

/-- A read of a window word: the state after it and the word, or a refusal. -/
def State.portRead (s : State) (w t : Nat) (m : Word) : Option (State × Word) :=
  let c := w / 16
  if unitPresent s.member .cells c = false ∨ s.cellMay c t = false then none
  else match w % 16 with
    | 0 => some (s, s.cellStatus c)
    | 1 => some (s, 0)
    | 2 => some (s, s.reg (Reg.cell c 9))
    | 3 => some (s, s.cellLiveWord c)
    | 4 => some (s.popCapture c m)
    | 5 => some (s, (s.poppedOf c m).v.word 0)
    | 6 => some (s, (s.poppedOf c m).v.word 1)
    | 7 => some (s, (s.poppedOf c m).stamp.word 0)
    | 8 => some (s, (s.poppedOf c m).stamp.word 1)
    | 9 => some (s, (s.poppedOf c m).stamp.word 2)
    | _ => none

/-- A write of a window word: the state after it, or a refusal. A RESUME of a FAULTED cell is refused (R446). -/
def State.portWrite (s : State) (w t : Nat) (v : Word) : Option State :=
  let c := w / 16
  if unitPresent s.member .cells c = false ∨ s.cellMay c t = false then none
  else match w % 16 with
    | 1 =>
      if v.bit 23 && decide (s.cellState c = 4) then none
      else
        let s1 := if v.bit 23 && decide (s.cellState c = 3) then s.cellRuns c else s
        some (if v.bit 22 then s1.dropCaptures c else s1)
    | 2 => some (s.setReg (Reg.cell c 9) v)
    | _ => none

/-! ### Online exchange (R458, Table 14-8) -/

/-- The next configuration becomes the current one; OSKEW and ISKEW stay. -/
def State.loadNext (s : State) (c : Nat) : State :=
  let s1 := (List.range 6).foldl (fun s k => s.setReg (Reg.cell c k) (s.reg (Reg.cell c (16 + k)))) s
  let skew := s.regField (Reg.cell c 6) 8 16
  let s2 := s1.setReg (Reg.cell c 6) ((s.reg (Reg.cell c 22)).setField 8 16 skew)
  s2.setRegField (Reg.cell c 23) 22 2 0

/-- A cell with a next configuration at T_switch. -/
def State.cellSwitch (s : State) (c : Nat) (tsw : Triple) : State :=
  if s.regBit (Reg.cell c 23) 23 = false then s
  else
    let k := s.cell c
    let old := k.captures.filter (fun e => decide (e.stamp < tsw))
    let s1 := old.foldl (fun s e => s.handover c e) (s.setCell c { k with
      captures := k.captures.filter (fun e => decide (tsw ≤ e.stamp)), switchAt := some tsw })
    let s2 := s1.disarm c
    if s.regBit (Reg.cell c 23) 22 then s2.loadNext c
    else
      let k2 := s2.cell c
      let late := k2.commits.filter (fun e => decide (tsw ≤ gridTime e.g))
      ((s2.setCell c { k2 with
        commits := k2.commits.filter (fun e => decide (gridTime e.g < tsw))
        duties := []
        burst := none
        xfers := []
        deadline := none
        safeOut := true }).bumpBy (Reg.cell c 14) late.length).setCellState c 5

end Sys2Proof.Machine
end

