-- ==== Sys2Proof/Machine/Report.lean ====
section
/-! DEFINITION. The deadlock detector: wait domains, live sources, the condition, and the report with its snapshots
(R164 to R176). -/

namespace Sys2Proof.Machine

/-- Tenants of a wait domain (R165, R181). -/
def State.domainTenants (s : State) (d : Nat) : List Nat :=
  (List.range 512).filter (fun t => decide (t ≠ 0 ∧ s.domain t = d))

/-- The tenant belongs to the domain. -/
def State.inDomain (s : State) (d t : Nat) : Bool := decide (t ≠ 0 ∧ s.domain t = d)

/-- Tasks of a domain, ascending; a task number that the table does not list is not VALID. -/
def State.domainTasks (s : State) (d : Nat) : List Nat :=
  (s.hub.tasks.map Prod.fst).filter (fun n => (s.task n).valid && s.inDomain d (s.task n).owner)

/-- Tasks of a domain that wait for flags or for a frame. -/
def State.waiting (s : State) (d : Nat) : List Nat :=
  (s.domainTasks d).filter (fun n => decide ((s.task n).st = .waitEv ∨ (s.task n).st = .waitAlloc))

/-- Some activation of the domain is HELD, HANDED, parked, in a pavilion queue, bound or in service (R168). -/
def State.runnableIn (s : State) (d : Nat) : Bool :=
  s.store.fired.any (fun e => e.2.any (fun a => s.inDomain d a.tenant))
    || s.hub.rl.any (fun e => e.2.any (fun x => !x.isTask && s.inDomain d x.act.tenant))
    || s.hub.pq.any (fun e => e.2.any (fun x => !x.isTask && s.inDomain d x.act.tenant))
    || s.hub.flows.any (fun e => e.2.parked.any (fun a => s.inDomain d a.tenant))
    || s.hub.recalls.any (fun e => s.inDomain d e.2.tenant)
    || s.strands.ctxs.any (fun e => decide (e.2.state ≠ .free) && s.inDomain d e.2.tenant)

/-- A flag source reaches a task of the domain in WAIT_EV with a flag of its EVM (R166). -/
def State.reachesWaiter (s : State) (d kind src : Nat) : Bool :=
  (s.bindTargets kind src 1024).any (fun e =>
    let t := s.task e.1
    decide (t.st = .waitEv) && s.inDomain d t.owner && decide (e.2 &&& t.evm ≠ 0))

/-- Functions that take input (Table 14-1): TSIN, QUAD, SSI, UART, SPI and TIMER. -/
def inputFunc (f : Nat) : Bool := decide (f ∈ [1, 3, 6, 7, 8, 9])

/-- A notice of a queue is on its way to the task table. -/
def State.noticeOut (s : State) (n : Nat) : Bool :=
  s.flight.any (fun p => match p with | .sev _ _ (.bind 2 k) => decide (k = n) | _ => false)

/-- The host function is enabled (R482); function 0 always is. -/
def State.fnEnabled (s : State) (f : Nat) : Bool := decide (f = 0) || s.regBit (0x0D4000 + f) 23

/-- The domain has a live source (Table 5-2). -/
def State.liveSource (s : State) (d : Nat) : Bool :=
  (List.range (unitCount s.member .cells)).any (fun c =>
      s.cellLive c && ((s.cell c).cont.isSome && s.inDomain d (s.cellOwner c)
        || inputFunc (s.cellFunc c) && s.reachesWaiter d 1 c))
    || (List.range (unitCount s.member .queues)).any (fun n =>
      (decide (s.qMode n ≠ 0 ∧ (s.qPkind n = 1 ∨ s.qPkind n = 2)) || s.noticeOut n) && s.reachesWaiter d 2 n)
    || (List.range 64).any (fun f => s.fnEnabled f && s.reachesWaiter d 3 f)
    || ((List.range (unitCount s.member .links)).any s.linkUp
      && (List.range 256).any (fun i => s.regBit (0x0C2000 + 2 * i) 23
        && s.inDomain d (s.regField (0x0C2000 + 2 * i) 0 9)))

/-- A quarantined frame number of the domain lies in a pool with waiters (R169). -/
def State.quarWaits (s : State) (d : Nat) : Bool :=
  s.store.pools.any (fun e => e.2.waiters && s.inDomain d e.2.tenant && e.2.frames.any (fun f => (s.frame f).quar))

/-- The condition C of R168. (log 37, DESIGN CHOICE) -/
def State.deadlocked (s : State) (d : Nat) : Bool :=
  !(s.runnableIn d)
    && !((s.domainTasks d).any (fun n => let st := (s.task n).st
      decide (st = .reserved ∨ st = .ready ∨ st = .running ∨ st = .waitTime)))
    && !(s.quarWaits d) && !(s.liveSource d) && !(s.waiting d).isEmpty

/-! ### Snapshots (R172, R173) -/

/-- Signaller pairs of a waiting task: DISP.BIND entries of KIND 1 to 3, then DISP.SIGNAL entries (Table 5-5). -/
def State.signallers (s : State) (n : Nat) : List (Nat × Nat × Word) :=
  let evm := (s.task n).evm
  let binds := (List.range 1024).filterMap (fun i =>
    let w := s.reg (Reg.bind i 0)
    let f := s.reg (Reg.bind i 1) &&& evm
    if w.field 22 2 ≠ 0 ∧ w.field 0 12 = n ∧ f ≠ 0 then some (w.field 22 2, w.field 12 10, f) else none)
  let sigs := (List.range 8192).filterMap (fun i =>
    let w := s.reg (Reg.signal i 0)
    let f := s.reg (Reg.signal i 1) &&& evm
    if w.field 12 12 = n ∧ f ≠ 0 then some (0, w.field 0 12, f) else none)
  binds ++ sigs

/-- The parked request of a task: granules and window. -/
def State.parkedRequest (s : State) (n : Nat) : Nat × Nat :=
  match s.store.waits.find? (fun a => decide (a.task = n)) with
  | some a => (a.size, a.win)
  | none => (1, 0)

/-- Record of a waiting task (Table 5-4). -/
def State.taskRecord (s : State) (n : Nat) : List Word :=
  let t := s.task n
  let head := fun (st : Nat) => BitVec.ofNat 24 (st * 2 ^ 21 + n * 512 + t.owner % 512)
  if t.st = .waitEv then
    let all := s.signallers n
    let sg := all.take 16
    [head 4, t.evm, t.evf, BitVec.ofNat 24 (sg.length * 2 ^ 18 + (decide (all.length > 16)).toNat * 2 ^ 17)]
      ++ sg.flatMap (fun e => [BitVec.ofNat 24 (e.1 * 2 ^ 22 + e.2.1), e.2.2])
  else
    let p := s.parkedRequest n
    [head 6, t.evm, t.evf, BitVec.ofNat 24 ((p.1 - 1) % 16 * 4096 + p.2 % 4096)]

/-- The records that fit in `room` words, and whether one was left out (R173). -/
def fitRecords : List (List Word) → Nat → List Word × Bool
  | [], _ => ([], false)
  | r :: rs, room =>
    if r.length ≤ room then
      let k := fitRecords rs (room - r.length)
      (r ++ k.1, k.2)
    else ([], true)

/-- The snapshot of a tenant but for word 7: words with their offsets, and TRUNC (Table 5-3). (log 37, DESIGN CHOICE) -/
def State.snapshot (s : State) (d t : Nat) : List (Nat × Word) × Bool :=
  let ws := s.waiting d
  let fit := fitRecords (ws.map s.taskRecord) (64 * s.regField (Reg.dlkTen t 1) 0 8 - 8)
  let head := [(0, BitVec.ofNat 24 (d * 4096 + ws.length)),
    (1, BitVec.ofNat 24 (fit.2.toNat * 2 ^ 23 + 8 + fit.1.length)), (2, s.reg (Reg.dlkTen t 3)),
    (3, BitVec.ofNat 24 (s.domainTenants d).length), (4, s.time.word 0), (5, s.time.word 1), (6, s.time.word 2)]
  (head ++ ((List.range fit.1.length).zip fit.1).map (fun e => (8 + e.1, e.2)), fit.2)

/-- Write one word of a snapshot. -/
def State.snapWrite (s : State) (d t a : Nat) (v : Word) : State :=
  (s.request nodeHub 0 0 0 (nodeSlice (s.homeOf (a / 8))) (.wru a v) (BitVec.ofNat 24 a) (.snapshot d t)).2

/-- Tenants of the domain that receive snapshots and flags. -/
def State.alerted (s : State) (d : Nat) : List Nat :=
  (s.domainTenants d).filter (fun t => s.regBit (Reg.dlkTen t 0) 23 && decide (s.regField (Reg.dlkTen t 1) 0 8 ≠ 0))

/-- Steps 3 to 5 of R171. -/
def State.reportEnd (s : State) (r : Report) : State :=
  let s1 := (s.alerted r.domain).foldl (fun s t =>
    s.sevFlag (s.regField (Reg.dlkTen t 0) 0 12) (s.regField (Reg.dlkTen t 1) 19 5)) s
  let s2 := s1.log 0x22 nodeHub 0 (BitVec.ofNat 24 (r.domain * 4096 + r.nwait)) (some (Triple.ofWords r.seq 0 0))
  let s3 := (s2.sevFlag (s2.regField 0x00C010 0 12) (s2.regField 0x00C010 12 5)).bump 0x00C014
  (s3.domainTenants r.domain).foldl (fun s t => s.setRegField (Reg.dlkTen t 0) 22 1 1) s3

/-- Reports whose every snapshot is written end. -/
def State.closeReports (s : State) : State :=
  let done := s.hub.reports.filter (fun r => r.jobs.isEmpty)
  done.foldl State.reportEnd { s with hub := { s.hub with reports := s.hub.reports.filter (fun r => !r.jobs.isEmpty) } }

/-- A snapshot word of a tenant was acknowledged: word 7 follows the last of the others (R321). -/
def State.snapAck (s : State) (d t : Nat) : State :=
  match s.hub.reports.find? (fun r => decide (r.domain = d)) with
  | none => s
  | some r =>
    match r.jobs.find? (fun j => decide (j.tenant = t)) with
    | none => s
    | some j =>
      let left := j.owed - 1
      let jobs := if left = 0 ∧ j.last then r.jobs.filter (fun (x : SnapJob) => decide (x.tenant ≠ t))
        else r.jobs.map (fun (x : SnapJob) => if x.tenant = t then
          (if left = 0 then { x with owed := 1, last := true } else { x with owed := left }) else x)
      let s1 := { s with hub := { s.hub with reports := s.hub.reports.map (fun (x : Report) =>
        if x.domain = d then { r with jobs := jobs } else x) } }
      let s2 := if left = 0 ∧ j.last = false then s1.snapWrite d t (j.addr + 7) j.done else s1
      s2.closeReports

/-- Step 2 of R171 for one tenant: SEQ rises and the snapshot goes out. -/
def State.snapStart (s : State) (d t : Nat) : State × SnapJob :=
  let s1 := s.setReg (Reg.dlkTen t 3) (s.reg (Reg.dlkTen t 3) + 1)
  let ws := (s1.snapshot d t).1
  let base := 64 * (s1.reg (Reg.dlkTen t 2)).toNat
  (ws.foldl (fun s e => s.snapWrite d t (base + e.1) e.2) s1,
    ⟨t, base, ~~~(s1.reg (Reg.dlkTen t 3)), ws.length, false⟩)

/-- REPORT(d) (R171): the tasks are read in one pass; the snapshots are written; the rest follows their last WACK. -/
def State.report (s : State) (d : Nat) : State :=
  let ts := s.alerted d
  let r := ts.foldl (fun (acc : State × List SnapJob) t =>
    let k := acc.1.snapStart d t
    (k.1, acc.2 ++ [k.2])) (s, [])
  let s1 := if ts.any (fun t => (s.snapshot d t).2) then r.1.bump 0x00C015 else r.1
  { s1 with hub := { s1.hub with reports := s1.hub.reports ++
    [(⟨d, (s.waiting d).length, s1.reg (Reg.dlkTen d 3), ts, r.2⟩ : Report)] } }.closeReports

/-! ### The visit (R168, R170) -/

/-- QUIET window of a domain in ELAPSED. -/
def State.quietTicks (s : State) : Nat :=
  usTicks (max (s.reg 0x00C011).toNat (2 * max 2 (s.reg 0x007001).toNat))

/-- DOMAIN_VISIT (R168). A domain is named by its lowest tenant. (log 37, DESIGN CHOICE) -/
def execDomainVisit (d : Nat) (s : State) : Out :=
  if d = 0 ∨ 511 < d ∨ s.domain d ≠ d ∨ s.regBit 0x00C010 23 = false then .next s
  else
    let s1 := { s with hub := { s.hub with active := s.hub.active.filter (fun x => decide (x ≠ d)) } }
    if s.deadlocked d = false ∨ d ∈ s.hub.active then
      .next { s1 with hub := { s1.hub with qstart := Map.set (fun _ => 0) s1.hub.qstart d s.elapsed } }
    else if s.elapsed < Map.get (fun _ => 0) s.hub.qstart d + s.quietTicks ∨ s.regBit (Reg.dlkTen d 0) 22 = true
        ∨ s.hub.reports.any (fun r => decide (r.domain = d)) = true then .next s1
    else .next (s1.report d)

end Sys2Proof.Machine
end

