-- ==== Sys2Proof/Machine/Respond.lean ====
section
/-! DEFINITION. What a response does at its requester: a strand, a state cache, a home, the hub, a host function or a
link (R142, R276, R318, R341, R350, R351, R478, R479). -/

namespace Sys2Proof.Machine

/-! ### Strands -/

/-- A bus error for a strand that waits: it is taken at the next instruction boundary; the first one stands. -/
def State.lateBus (s : State) (c : CtxId) (status : Nat) (a : Word) : State :=
  let x := s.ctx c
  (s.setCtx c { x with lateErr := match x.lateErr with | some e => some e | none => some (status, a) }).wakeCtx c

/-- The reservation of a SPAWN comes back (R142): the effect is staged, or the number is given up where the staged set
is full. (log 25, DESIGN CHOICE) -/
def State.spawnDone (s : State) (c : CtxId) (micro : Bool) (dest e g : Nat) (arg : Triple) (ws : List Word) : State :=
  let x := s.ctx c
  let n := (ws.headD 0).toNat
  let ok := decide (((ws[1]?).getD 0) ≠ 0)
  if ok && decide (x.staged.length ≥ 32) then (s.taskFree n).instrFault c .staged
  else
    let y := x.landWrites micro [.ring dest (ws.headD 0), .fl (flT x.fl ok)]
    (s.setCtx c { y with staged := if ok then y.staged ++ [.spawn n e g arg] else y.staged }).wakeCtx c

/-- Register writes of a response's data. -/
def waitWrites (x : Context) (ws : List Word) : WaitKind → List RegWrite
  | .load ds => (ds.zip ws).map (fun e => .ring e.1 e.2)
  | .qput => [.fl (flT x.fl (decide (ws.headD 0 ≠ 0)))]
  | .qget d => [.ring d (ws.headD 0), .fl (flT x.fl (decide (((ws[1]?).getD 0) ≠ 0)))]
  | .qstat d => [.ring d (ws.headD 0)]
  | .lock d => [.ring d (ws.headD 0)]
  | _ => []

/-- A response reaches the context that awaits it. -/
def State.strandDone (s : State) (c : CtxId) (rid status : Nat) (a : Word) (ws : List Word) : State :=
  let x := s.ctx c
  match x.waits.find? (fun w => decide (w.rid = rid) && (match w.kind with | .state _ _ => false | _ => true)) with
  | none => s
  | some w =>
    let s1 := s.setCtx c { x with waits := x.waits.erase w }
    if status ≥ 2 then s1.lateBus c status a
    else
      let y := if w.micro then x.view else x
      match w.kind with
      | .spawn d e g arg => s1.spawnDone c w.micro d e g arg ws
      | k => (s1.setCtx c ((s1.ctx c).landWrites w.micro (waitWrites y ws k))).wakeCtx c

/-! ### State caches (R318, R324) -/

/-- Loads of a pavilion that wait for a line receive a bus error. -/
def State.loadsLost (s : State) (p l status : Nat) : State :=
  (List.range 16).foldl (fun s k =>
    let c : CtxId := ⟨p, k / 4, k % 4⟩
    let x := s.ctx c
    let keep := x.waits.filter (fun w => match w.kind with | .state j _ => decide (j ≠ l) | _ => true)
    if keep.length = x.waits.length then s
    else (s.setCtx c { x with waits := keep }).lateBus c status (BitVec.ofNat 24 (8 * l))) s

/-- A fill was refused or timed out. Forwards that it held are answered GONE. -/
def State.fillLost (s : State) (p l status : Nat) : State :=
  let k := s.cache p
  match k.miss l with
  | none => s
  | some m =>
    let s1 := s.loadsLost p l status
    if m.excl then
      ((m.fwd.foldl (fun s f => s.send (.gone (rspOf f.2 0) l)) s1).storesLost p l
        (if status = 7 then 0x17 else 0x10 + status)).flushStep p
    else
      let s2 := s1.setCache p ((s1.cache p).dropMiss l)
      if ((s2.cache p).bufferedFor l).isEmpty then s2.flushStep p else s2.startMiss p l true

/-! ### Host functions (R478 to R480) -/

/-- A direct BAR access completes: a failed read aborts, a failed write sets WERR. -/
def State.barDone (s : State) (f addr : Nat) (write : Bool) (tag status : Nat) (ws : List Word) : State :=
  let h := s.hostFn f
  if write then
    if status ≥ 2 then (s.setHostFn f { h with werr := true }).log 0x55 (nodePcie f)
      (masterHost (if f = 0 then 0 else s.regField (0x0D4000 + f) 0 9) f) (BitVec.ofNat 24 addr) none
    else s
  else if status ≥ 2 then s.setHostFn f { h with cpl := some ⟨tag, true, 0⟩ }
  else s.setHostFn f { h with cpl := some ⟨tag, false, ws.headD 0⟩, busyRd := h.busyRd || decide (status = 1) }

/-- Key of the duplicate window of a source: every link shares the windows of the source map (R354, R468). -/
def windowKey (link : Bool) (src : Nat) : Nat := if link then 4096 * 0x180 + src else 4096 * (0x1A0 + src) + src
def Window.new : Window := ⟨none, []⟩
def State.window (s : State) (k : Nat) : Window := Map.get (fun _ => Window.new) s.net.windows k
def State.setWindow (s : State) (k : Nat) (v : Window) : State :=
  { s with net := { s.net with windows := Map.set (fun _ => Window.new) s.net.windows k v } }

/-- The response to a recorded RID has left with a STATUS (R355). (log 65, DEDUCED) -/
def State.windowDone (s : State) (k rid status : Nat) : State :=
  let w := s.window k
  s.setWindow k { w with recs := w.recs.map (fun e => if e.1 = rid then (rid, some status) else e) }

/-- Put words into RDATA from a place on. -/
def putWords (ws : List Word) : Nat → List Word → List Word
  | _, [] => []
  | i, d :: ds => (match i, ws with
      | 0, w :: ws => w :: putWords ws 0 ds
      | 0, [] => d :: ds
      | j + 1, ws => d :: putWords ws j ds)

/-- The STATUS of a request that timed out, which the spec does not state for a mailbox: a free value. -/
def State.statusOf (s : State) (status : Nat) : Nat × State :=
  if status = 7 then (let d := s.draw; (d.1.toNat % 8, d.2)) else (status, s)

/-- One Trellis request of a mailbox operation completes; the last one gives the result. (log 64, DESIGN CHOICE) -/
def State.mailDone (s : State) (f off status : Nat) (ws : List Word) : State :=
  let st := s.statusOf status
  let h := st.2.hostFn f
  let stat := if h.status ≠ 0 then h.status else st.1
  let h1 := { h with status := stat, owed := h.owed - 1, rdata := putWords ws off h.rdata }
  if h.owed ≤ 1 then
    let s1 := st.2.setHostFn f { h1 with busy := false, done := true, dup := false, owed := 0 }
    if status = 7 then s1 else s1.windowDone (windowKey false f) h.rrid stat
  else st.2.setHostFn f h1

/-! ### Requests that entered over a link (R355, R468) -/

/-- The response to a link's request leaves for its device, and its STATUS is recorded. A timeout sends none. -/
def State.ingressDone (s : State) (l src : Nat) (h : LinkHdr) (status : Nat) (ws : List Word) : State :=
  if status = 7 then s
  else
    let s1 := s.windowDone (windowKey true src) h.rid status
    let p : LinkPkt := if status ≤ 1 ∧ ws ≠ [] then .rdata (s.replyHdr h) status ws else .rsp (s.replyHdr h) status false
    s1.linkReply (nodeLink l) p

/-! ### Completion -/

/-- The lead tells its shadow the result of a task's access to legacy storage (R596). -/
def State.legTell (s : State) (c : CtxId) (status : Nat) (ws : List Word) : State :=
  let t := (s.ctx c).task
  let r := s.legCount t
  r.2.forwardInput (.legResult t r.1 status ws) false

/-- What its requester does with a STATUS (7: timed out) and data. -/
def State.completeAt (s : State) (o : Outst) (status : Nat) (ws : List Word) : State :=
  match o.who with
  | .strand c => (if s.pairLead && s.legAccess o.q o.op then s.legTell c status ws else s).strandDone c o.q.rid status o.addr ws
  | .drain c => if status ≥ 2 then s.lateBus c status o.addr else s.wakeCtx c
  | .dropped =>
    match o.op with
    | .spres => if ((ws[1]?).getD 0) ≠ 0 then s.taskFree (ws.headD 0).toNat else s
    | _ => s
  | .fill p l => if status ≥ 2 then s.fillLost p l status else s
  | .evict p l => s.victimFreed p l
  | .home l =>
    match o.op with
    | .inv _ => s.homeSilent l o.q.dest
    | _ => s.homeLost l o.q.dest
  | .snapshot d t => s.snapAck d t
  | .bar f a w tag => s.barDone f a w tag status ws
  | .debug => { s with jtag := { s.jtag with dr := (ws.headD 0).setWidth 32, status := some status } }
  | .mailbox f off => s.mailDone f off status ws
  | .ingress l src h => s.ingressDone l src h status ws

/-- A request completes; a Rolvia-mode read frees its sink entry (R344). -/
def State.complete (s : State) (o : Outst) (status : Nat) (ws : List Word) : State :=
  let t := s.completeAt o status ws
  match o.op with
  | .rrd _ _ => if o.q.node < 256 then t.wakeStores o.q.node else t
  | _ => t

end Sys2Proof.Machine
end

