-- ==== Sys2Proof/Machine/Network.lean ====
section
/-! DEFINITION. Commands of the Trellis: damaged units, timeouts, hold notices, isolation, responses, and the event log
(R345 to R360, R600 to R603). -/

namespace Sys2Proof.Machine

/-! ### The event log (R600 to R603) -/

/-- The records of an event (Table 18-8): the main record, and its continuation. -/
def State.logEntries (s : State) (r : LogRec) : List LogEntry :=
  let w0 := BitVec.ofNat 24 (r.code % 256 * 2 ^ 16 + logSev r.code * 2 ^ 14 + r.cont.isSome.toNat * 2 ^ 13
    + s.die % 2 * 2 ^ 12 + r.node % 1024)
  let tm := [r.time.word 0, r.time.word 1, r.time.word 2]
  (⟨[w0, r.master, r.detail] ++ tm, false⟩ : LogEntry) :: (match r.cont with
    | some c => [⟨[c.word 0, c.word 1, c.word 2] ++ tm, true⟩]
    | none => [])

/-- The records that stand at the head together: a main record and its continuation, or one record. -/
def headRecords : List LogEntry → Nat
  | e :: f :: _ => if !e.cont && f.cont then 2 else 1
  | [_] => 1
  | [] => 0

/-- Overwrite the oldest unread records until `k` fit in the ring; each overwritten record counts in LOST. (log 53, DEDUCED) -/
def State.logRoom (s : State) (k : Nat) : Nat → State
  | 0 => s
  | n + 1 =>
    if s.evlog.length + k ≤ 1024 then s
    else
      let d := headRecords s.evlog
      ({ s with evlog := s.evlog.drop d }.bumpBy 0x000011 d).logRoom k n

/-- A record of SEV 3 sets the FAULT latch; the first one since the latch was clear stands in DEP.FIRST. -/
def State.latchFault (s : State) (e : LogEntry) (sev : Nat) : State :=
  if sev ≠ 3 then s
  else
    let s1 := if s.regBit 0x000002 8 then s
      else (List.range 6).foldl (fun s k => s.setReg (0x00001A + k) ((e.words[k]?).getD 0)) s
    s1.setRegField 0x000002 8 1 1

/-- A record of SEV at or above NLEVEL notifies the warden task. -/
def State.logNotify (s : State) (sev : Nat) : State :=
  if sev ≥ s.regField 0x000002 14 2 then s.sevFlag (s.regField 0x000003 0 12) (s.regField 0x000002 9 5) else s

/-- Codes of the detectors of Table 18-1 with SEV 2 or higher, which attribute a disagreement (R598). (log 54, DEDUCED) -/
def detectorCodes : List Nat := [0x03, 0x23, 0x28, 0x2A, 0x2B, 0x2D, 0x30, 0x31, 0x32, 0x60, 0x70, 0x73]

/-- A die of a pair notes when it last detected an error of its own. (log 54, DEDUCED) -/
def State.noteDetector (s : State) (code : Nat) : State :=
  if s.member = .z256d ∧ code ∈ detectorCodes then { s with pair := { s.pair with detected := some s.elapsed } } else s

/-- The event-log node takes a record. (log 53, DEDUCED) -/
def State.logAdd (s : State) (r : LogRec) : State :=
  let es := s.logEntries r
  let s1 := s.logRoom es.length 2
  let s2 := { s1 with evlog := s1.evlog ++ es }
  ((s2.latchFault (es.headD ⟨[], false⟩) (logSev r.code)).logNotify (logSev r.code)).noteDetector r.code

/-- EVLOG (R600). -/
def execEvlog (r : LogRec) (s : State) : Out :=
  .next (((s.take (.evlog r)).passes r.node nodeLog (mkHeader 5 0x3A nodeLog r.node 0 0 0 s.deviceNo) false).logAdd r)

/-! ### Damaged units (R345 to R347) -/

/-- CMD of a fill. -/
def FillKind.cmd : FillKind → Nat
  | .shared => 0x2A
  | .exclusive => 0x2B
  | .modified => 0x2C

/-- Destination node, header and data units of a packet that crosses the Trellis. -/
def State.wire (s : State) : Packet → Option (Nat × Triple × Nat)
  | .evlog r => some (nodeLog, mkHeader 5 0x3A nodeLog r.node 0 0 0 s.deviceNo, 2)
  | .sev _ _ (.master t m n) =>
    some (nodeHub, mkHeader 2 4 nodeHub n (if n < 256 then slotOf (Master.ctx m) else 0) t 0 s.deviceNo, 1)
  | .ftok t =>
    let sl := nodeSlice (s.sliceOf (Tag.frame t.tag))
    some (sl, mkHeader t.vc 1 sl t.node (if t.node < 256 then t.unit else 0) t.tenant 0 (Tag.device t.tag), t.vc)
  | .ptok t =>
    let b := nodeBank (portCell t.tag / 32)
    some (b, mkHeader t.vc 2 b t.node (if t.node < 256 then t.unit else 0) t.tenant 0 (Tag.device t.tag), t.vc)
  | .land sl node unit _ => some (node, mkHeader 1 0x31 node (nodeSlice sl) (if node < 256 then unit else 0) 0 0 s.deviceNo, 0)
  | .free q =>
    let sl := nodeSlice (s.sliceOf (Tag.frame q.handle))
    some (sl, mkHeader 2 3 sl q.node 0 q.tenant 0 s.deviceNo, 1)
  | .allocReq q => match s.templateIn q.tenant q.tmpl q.epoch with
    | some t =>
      let sl := nodeSlice (s.allocStart q.c.pav t)
      some (sl, mkHeader 0 0x14 sl q.c.pav (slotOf q.c) q.tenant q.rid s.deviceNo, 1)
    | none => none
  | .spres q => some (nodeHub, mkHeader 0 0x21 nodeHub q.c.pav (slotOf q.c) q.tenant q.rid s.deviceNo, 1)
  | .spawn _ _ _ c t _ => some (nodeHub, mkHeader 2 6 nodeHub c.pav (slotOf c) t 0 s.deviceNo, 2)
  | .queueRec _ n _ => some (nodeQueues, mkHeader 5 0x3B nodeQueues (if n < 0x200 then n else 0) 0 0 0 s.deviceNo, 2)
  | .req q op => some (q.dest, s.reqHeader q op, match op with
    | .wrw _ _ => 2
    | .setw _ _ => 2
    | .clrw _ _ => 2
    | .rwr _ _ => 2
    | .wb _ _ => 3
    | _ => 1)
  | .rsp p => some (p.node, s.rspHeader p 0x28, 0)
  | .rdata p _ => some (p.node, s.rspHeader p 0x29, 1)
  | .rrsp p _ => some (p.node, s.rspHeader p 0x3E, 1)
  | .hold p => some (p.node, s.rspHeader p 0x32, 0)
  | .fill k p _ => some (p.node, s.rspHeader p k.cmd, 3)
  | .fdata p _ _ _ => some (p.node, s.rspHeader p 0x2D, 3)
  | .ack p _ => some (p.node, s.rspHeader p 0x2E, 0)
  | .gone p _ => some (p.node, s.rspHeader p 0x2F, 0)
  | .wbAck p _ => some (p.node, s.rspHeader p 0x30, 0)
  | _ => none

/-- Mark a data unit of a response poisoned. -/
def markUnit (p : Rsp) (unit : Nat) : Rsp := { p with poison := p.poison ||| 2 ^ (unit - 1) }

/-- The packet with a poisoned data unit, if it travels on to a target that deals with it (Table 11-7). -/
def Packet.poisoned (unit : Nat) : Packet → Option Packet
  | .ftok t => some (.ftok { t with poison := true })
  | .ptok t => some (.ptok { t with poison := true })
  | .req q op => if op.posted q && (match op with | .qcommit _ => true | _ => false) then none
    else some (.req { q with poison := q.poison ||| 2 ^ (unit - 1) } op)
  | .rdata p ws => some (.rdata (markUnit p unit) ws)
  | .rrsp p ws => some (.rrsp (markUnit p unit) ws)
  | .fill k p ws => some (.fill k (markUnit p unit) ws)
  | .fdata p l ws d => some (.fdata (markUnit p unit) l ws d)
  | .allocReq q => some (.rsp ⟨q.c.pav, slotOf q.c, q.rid, nodeSlice 0, 5, false, 0⟩)
  | .spres q => some (.rsp ⟨q.c.pav, slotOf q.c, q.rid, nodeHub, 5, false, 0⟩)
  | _ => none

/-- Replace one packet in flight. -/
def State.swapPacket (s : State) (idx : Nat) (p : Packet) : State := { s with flight := s.flight.set idx p }

/-- A header as a router received it: what the damage left is not stated. (log 10, DESIGN CHOICE) -/
def State.drawTriple (s : State) : Triple × State :=
  let a := s.draw
  let b := a.2.draw
  let c := b.2.draw
  (Triple.ofWords a.1 b.1 c.1, c.2)

/-- UNIT_POISONED (R346): a unit failed for the fourth time. A header is discarded by the router; a data unit goes on
marked, or its posted packet is discarded at its node. -/
def State.unitPoisoned (s : State) (cl port idx unit : Nat) (p : Packet) (dest : Nat) (h : Triple) : State :=
  let d := s.draw
  let s1 := (d.2.bump (Reg.cluster cl 2)).log 0x31 (d.1.toNat % 1024) 0 (BitVec.ofNat 24 (port % 64)) none
  if unit = 0 then
    let r := (s1.take p).drawTriple
    r.2.badHeader cl port 0 r.1
  else match p.poisoned unit with
    | some p' => s1.swapPacket idx p'
    | none => ((s1.take p).bumpCluster dest 2).log 0x32 dest 0 0 (some h)

/-- HOP_RESEND (R345, R346): at an input port of a cluster, unit `unit` of the packet at place `idx` among those in
flight fails its check for the `fail`-th time. (log 12, DESIGN CHOICE) -/
def execHopResend (cl port fail idx unit : Nat) (s : State) : Out :=
  if unitPresent s.member .clusters cl = false then .fault .absentUnit
  else match s.flight[idx]? with
    | none => .next s
    | some p => match s.wire p with
      | none => .next s
      | some (dest, h, units) =>
        if unit > units ∨ fail = 0 ∨ fail > 4 then .next s
        else if fail = 4 then .next (s.unitPoisoned cl port idx unit p dest h)
        else
          let s1 := s.bump (Reg.cluster cl 1)
          .next (if fail = 1 then s1.clusterSees cl port h true false else s1)

/-! ### Timers (R349, R350, R358, R516) -/

/-- Bound of a wake in microseconds (Table 16-3). (log 74, DEDUCED) -/
def State.wakeBound (s : State) (d : Nat) : Nat :=
  let ret := decide (Map.get (fun _ => 0) s.power.target d = 1)
  if d < 0x100 then (if ret then 2 else 40)
  else if d < 0x140 then 60
  else if d < 0x160 then 0
  else if d < 0x180 then 5
  else if d < 0x194 then 10
  else if 0x1E0 ≤ d ∧ d < 0x1E2 then (if ret then 10 else 2000)
  else if d = 0x1E8 then 2
  else 0

/-- TMO_MS of the domain's OFFIDLE rail that is not on, in microseconds. -/
def State.railWait (s : State) (d : Nat) : Nat :=
  (List.range 16).foldl (fun n r =>
    if s.railFeeds r d && s.offIdle r && decide (s.railState r ≠ 2) then
      max n (1000 * s.regField (Reg.rail r 1) 0 8) else n) 0

/-- HOLD (R358, R516): the requester restarts its timer, once for each request. (log 74, DEDUCED) -/
def execHoldRsp (p : Rsp) (s : State) : Out :=
  let s1 := (s.take (.hold p)).passes p.src p.node (s.rspHeader p 0x32) false
  if nodePresent s.member p.node = false then .fault .absentUnit
  else if s.nodeState p.node = 1 ∨ s.nodeState p.node = 3 then .next (s1.bumpCluster p.node 4)
  else match s.outstOf p.node p.rid with
    | none => .next (s1.bumpCluster p.node 6)
    | some o =>
      if o.held.isSome then .next s1
      else
        let d := domainOf o.q.dest
        let o1 := { o with since := s.elapsed, held := some (s.wakeBound d + s.railWait d) }
        .next { s1 with net := { s1.net with outst := s1.net.outst.map (fun (x : Outst) =>
          if x.q.node = p.node ∧ x.q.rid = p.rid then o1 else x) } }

/-- REQUEST_TIMEOUT (R350). (log 74, DEDUCED) -/
def execRequestTimeout (node rid : Nat) (s : State) : Out :=
  if nodePresent s.member node = false then .fault .absentUnit
  else match s.outstOf node rid with
    | none => .next s
    | some o =>
      if s.elapsed < o.since + usTicks (o.limit + o.held.getD 0) then .next s
      else .next ((((s.dropOutst node rid).bumpCluster node 5).log 0x17 node o.q.master o.addr
        (some (s.reqHeader o.q o.op))).complete o 7 [])

/-! ### Responses (R341, R351) -/

/-- RSP. -/
def execRsp (p : Rsp) (s : State) : Out :=
  if nodePresent s.member p.node = false then .fault .absentUnit
  else s.arriveRsp p (.rsp p) 0x28 (fun o st s => .next (s.complete o st []))

/-- RDATA. -/
def execRdata (p : Rsp) (ws : List Word) (s : State) : Out :=
  if nodePresent s.member p.node = false then .fault .absentUnit
  else s.arriveRsp p (.rdata p ws) 0x29 (fun o st s => .next (s.complete o st ws))

/-- RRSP (R343, R344). -/
def execRrsp (p : Rsp) (ws : List Word) (s : State) : Out :=
  if nodePresent s.member p.node = false then .fault .absentUnit
  else s.arriveRsp p (.rrsp p ws) 0x3E (fun o st s => .next (s.complete o st ws))

/-! ### Isolation (R359) -/

/-- A node becomes ISOLATED; requests parked for it are answered with STATUS 3. (log 73, DEDUCED) -/
def State.isolate (s : State) (n : Nat) : State :=
  let mine := s.net.parked.filter (fun k => decide (k.q.dest = n))
  let s1 := { s with
    net := { s.net with parked := s.net.parked.filter (fun k => decide (k.q.dest ≠ n)) }
    power := { s.power with beenOff := s.power.beenOff.filter (fun k => decide (k ≠ n)) } }
  mine.foldl (fun s k => (s.bumpCluster n 4).refuse k.q k.op 3) ((s1.setRegField (Reg.node n) 22 2 3).setRegField (Reg.node n) 21 1 1)

/-- Isolation ends: the node stands as its domain does. (log 73, DEDUCED) -/
def State.unisolate (s : State) (n : Nat) : State :=
  let p := s.powerOf (domainOf n)
  (s.setRegField (Reg.node n) 21 1 0).setRegField (Reg.node n) 22 2 (if p = 0 ∨ p = 3 then 0 else 1)

/-- ISO (R359): a write to TRL.NODE[n]. A node that is absent ignores it. (log 73, DEDUCED) -/
def execNodeIso (q : Req) (n : Nat) (v : Word) (s : State) : Out :=
  s.wardenWrite q (Reg.node n) v (decide (n < 1024)) (fun s =>
    if nodePresent s.member n = false then s
    else if v.bit 21 then (if s.nodeState n = 3 then s.setRegField (Reg.node n) 21 1 1 else s.isolate n)
    else if s.nodeState n ≠ 3 then s
    else if n ∈ s.power.beenOff then s.unisolate n
    else s.log 0x33 n 0 (BitVec.ofNat 24 n) none)

end Sys2Proof.Machine
end

