-- ==== Sys2Proof/Machine/DevMem.lean ====
section
/-! DEFINITION. Commands of the memories: remote words of scratchpads, DDR, legacy RAM and port windows, Rolvia mode, code
words, the background tester, and the flush of a state cache (R281 to R297, R325, R343, R459, R486, R492). -/

namespace Sys2Proof.Machine

/-! ### Reads (R287, R343) -/

/-- What a read at a target gives: the state after it, the STATUS, and the words. -/
abbrev ReadOut := State × Nat × List Word

/-- Count the operations that serve a remote access of `n` words: one for each row it touches (R284, R300). -/
def State.countRemote (s : State) (p a n : Nat) : State := s.bumpBy (Reg.spadStat p 6) ((a + n - 1) / 8 - a / 8 + 1)

/-- Words of a scratchpad. -/
def State.readSpad (s : State) (p a n : Nat) (ecc : Ecc) : ReadOut :=
  if a + n > 65536 then (s, 2, [])
  else
    let c := (s.countRemote p a n).spadCheck p a ecc
    if c.2 || c.1.spadAnyBad p a n then (c.1, 5, []) else (c.1, 0, c.1.spadLoad p a n)

/-- Words of DDR. -/
def State.readDdr (s : State) (d n : Nat) (ecc : Ecc) : ReadOut :=
  if (List.range n).any (fun k => !(s.ddrPresent (d + k))) then (s, 2, [])
  else
    let c := s.ddrCheck d ecc
    if c.2 then (c.1, 5, []) else (c.1, 0, (List.range n).map (fun k => c.1.ddrRead (d + k)))

/-- The device side is warned of a collision (R492): DBUSY and record 0x57. -/
def State.deviceBusy (s : State) (q : Req) (w : Nat) : State :=
  (s.bump (Reg.legStat 2)).log 0x57 nodeLegacy q.master (BitVec.ofNat 24 (w % 32768)) none

/-- First word of a run that collides; bit `k` of `coll` marks word `k`. -/
def firstColl (coll : Nat) : Nat := ((List.range 3).find? (fun k => coll.testBit k)).getD 0

/-- A legacy word as a colliding read returns it: undefined data. -/
def State.legWords (s : State) (w coll : Nat) : Nat → State × List Word
  | 0 => (s, [])
  | n + 1 =>
    let r := s.legWords w coll n
    if coll.testBit n then
      let d := r.1.draw
      (d.2, r.2 ++ [d.1])
    else (r.1, r.2 ++ [s.legRead (w + n)])

/-- Words of legacy RAM; `coll` marks the words that collide with a legacy cycle, and `late` says that the device's
occupation began later. -/
def State.readLegacy (s : State) (q : Req) (w n coll : Nat) (late : Bool) : ReadOut :=
  if w + n > 32768 then (s, 2, [])
  else
    let r := s.legWords w coll n
    if decide (coll % 2 ^ n ≠ 0) && late then (r.1.deviceBusy q (w + firstColl coll), 1, r.2) else (r.1, 0, r.2)

/-- A read at the node that a request names. -/
def State.readAt (s : State) (q : Req) (a n : Nat) (ecc : Ecc) (coll : Nat) (late : Bool) : ReadOut :=
  if n = 0 ∨ n > 3 then (s, 2, [])
  else if q.dest < 0x100 then s.readSpad q.dest a n ecc
  else if q.dest = nodeDdr 0 ∨ q.dest = nodeDdr 1 then s.readDdr a n ecc
  else if q.dest = nodeLegacy then s.readLegacy q a n coll late
  else if 0x160 ≤ q.dest ∧ q.dest < 0x180 then
    match s.portRead a q.tenant q.master with
    | some (s1, v) => (s1, 0, [v])
    | none => (s, 2, [])
  else (s, 2, [])

/-- RDW (R287, R459, R486, R492). -/
def execRdw (q : Req) (a n : Nat) (ecc : Ecc) (coll : Nat) (late : Bool) (s : State) : Out :=
  s.arriveReq q (.rdw a n) false (fun s =>
    if s.pairShadow && decide (q.dest = nodeLegacy) then .next (s.shadowLegacy q (.rdw a n)) else
    let r := s.readAt q a n ecc coll late
    .next (if r.2.1 ≤ 1 then r.1.send (.rdata (rspOf q r.2.1) r.2.2) else r.1.refuse q (.rdw a n) r.2.1))

/-- RRD (R343). -/
def execRrd (q : Req) (a n : Nat) (ecc : Ecc) (coll : Nat) (late : Bool) (s : State) : Out :=
  s.arriveReq q (.rrd a n) false (fun s =>
    let r := s.readAt q a n ecc coll late
    .next (r.1.send (.rrsp (rspOf q r.2.1) r.2.2)))

/-! ### Writes (R287, R288, R344) -/

/-- Write DDR words. -/
def State.writeDdr (s : State) (d : Nat) : List Word → State
  | [] => s
  | v :: vs => (s.ddrWrite d v).writeDdr (d + 1) vs

/-- Write legacy words; a device write of word 0x7FFF sets INTPEND (R490). -/
def State.writeLegacy (s : State) (w : Nat) : List Word → State
  | [] => s
  | v :: vs =>
    let s1 := s.legWrite w v
    (if w = 0x7FFF then s1.setRegField (Reg.legStat 0) 23 1 1 else s1).writeLegacy (w + 1) vs

/-- A write at the node that a request names: the state after it and the STATUS. -/
def State.writeAt (s : State) (q : Req) (a view : Nat) (ws : List Word) (coll : Nat) (late : Bool) : State × Nat :=
  let n := ws.length
  if n = 0 ∨ n > 3 then (s, 2)
  else if q.dest < 0x100 then
    if a + n > 65536 then (s, 2) else ((s.countRemote q.dest a n).spadStore q.dest a view ws, 0)
  else if view ≠ 0 then (s, 2)
  else if q.dest = nodeDdr 0 ∨ q.dest = nodeDdr 1 then
    if (List.range n).any (fun k => !(s.ddrPresent (a + k))) then (s, 2) else (s.writeDdr a ws, 0)
  else if q.dest = nodeLegacy then
    if a + n > 32768 then (s, 2)
    else
      let s1 := s.writeLegacy a ws
      if decide (coll % 2 ^ n ≠ 0) && late then (s1.deviceBusy q (a + firstColl coll), 1) else (s1, 0)
  else if 0x160 ≤ q.dest ∧ q.dest < 0x180 then
    match s.portWrite a q.tenant (ws.headD 0) with
    | some s1 => (s1, 0)
    | none => (s, 2)
  else (s, 2)

/-- WRW (R287, R459, R492). -/
def execWrw (q : Req) (a : Nat) (ws : List Word) (coll : Nat) (late : Bool) (s : State) : Out :=
  s.arriveReq q (.wrw a ws) false (fun s =>
    if s.pairShadow && decide (q.dest = nodeLegacy) then .next (s.shadowLegacy q (.wrw a ws)) else
    let r := s.writeAt q a 0 ws coll late
    .next (r.1.answer q r.2))

/-- SETW (R288). -/
def execSetw (q : Req) (a : Nat) (ws : List Word) (s : State) : Out :=
  s.arriveReq q (.setw a ws) false (fun s =>
    let r := s.writeAt q a 1 ws 0 false
    .next (r.1.answer q r.2))

/-- CLRW (R288). -/
def execClrw (q : Req) (a : Nat) (ws : List Word) (s : State) : Out :=
  s.arriveReq q (.clrw a ws) false (fun s =>
    let r := s.writeAt q a 2 ws 0 false
    .next (r.1.answer q r.2))

/-- RWR (R343, R344): posted; a target that would refuse it discards it. -/
def execRwr (q : Req) (a : Nat) (ws : List Word) (coll : Nat) (late : Bool) (s : State) : Out :=
  s.arriveReq q (.rwr a ws) false (fun s =>
    let r := s.writeAt q a 0 ws coll late
    .next (if r.2 ≥ 2 then r.1.refuse q (.rwr a ws) r.2 else r.1))

/-- CWR (R237, R297): a drained code word of another pavilion. -/
def execCwr (q : Req) (a : Nat) (v : Word) (s : State) : Out :=
  s.arriveReq q (.cwr a v) false (fun s =>
    .next (if q.dest < 0x100 ∧ a < 16384 then (s.codeWrite q.dest a v).answer q 0 else s.answer q 2))

/-! ### The background tester (R289 to R291) -/

def State.tester (s : State) (p : Nat) : Tester := Map.get (fun _ => (⟨0, 0⟩ : Tester)) s.memory.tester p
def State.setTester (s : State) (p : Nat) (v : Tester) : State :=
  { s with memory := { s.memory with tester := Map.set (fun _ => (⟨0, 0⟩ : Tester)) s.memory.tester p v } }

/-- A comparison failed: the row goes to a spare; of a spare in use, the row that it serves. (log 75, DEDUCED) -/
def State.testFailed (s : State) (p row : Nat) : State :=
  let s1 := s.bump (Reg.spadStat p 3)
  if row < 8192 then s1.remapRow p row
  else if s1.regBit (Reg.remap p (row - 8192)) 23 then s1.remapRow p (s1.regField (Reg.remap p (row - 8192)) 0 13)
  else s1

/-- TESTER_OPERATION (R289): `ok` is the outcome of a comparison; a failed one ends the row's test with the restore.
`forced` marks a step that SPAD.CTL.FORCE gave (R285). (log 75, DEDUCED) -/
def execTesterOperation (p : Nat) (ok forced : Bool) (s : State) : Out :=
  if unitPresent s.member .pavs p = false then .fault .absentUnit
  else if s.regBit (pavBase p + 0x200) 23 = false ∨ s.domainOn p = false then .next s
  else
    let s1 := if forced then s.bump (Reg.spadStat p 7) else s
    let t := s1.tester p
    match t.op with
    | 0 => .next (s1.setTester p { t with op := 1 })
    | 5 =>
      if t.row ≥ 8199 then .next ((s1.setTester p ⟨0, 0⟩).bump (Reg.spadStat p 2)) else .next (s1.setTester p ⟨t.row + 1, 0⟩)
    | k =>
      if (k = 2 ∨ k = 4) ∧ ok = false then .next ((s1.testFailed p t.row).setTester p { t with op := 5 })
      else .next (s1.setTester p { t with op := k + 1 })

/-! ### Flush (R325) -/

/-- STATE_FLUSH: a warden write of FLUSH in STATE.CCTL. -/
def execStateFlush (q : Req) (p : Nat) (v : Word) (s : State) : Out :=
  if unitPresent s.member .pavs p = false then .fault .absentUnit
  else s.wardenWrite q (pavBase p + 0x300) v (v.bit 23) (fun s => s.flushStart p)

end Sys2Proof.Machine
end

