-- ==== Sys2Proof/Machine/Links.lean ====
section
/-! DEFINITION. Finsuri links: frames, replays, states, what a packet does at the ingress link, the time exchange, and the
die fault that ends them (R464 to R475, R588, R597). -/

namespace Sys2Proof.Machine

/-! ### Frames (R470) -/

/-- A change of state is logged (R471). -/
def State.enterLink (s : State) (l st : Nat) : State :=
  let s1 := s.setRegField (Reg.fslLink l 0) 22 2 st
  s1.log 0x50 (nodeLink l) 0 (BitVec.ofNat 24 (st * 0x100000 + l % 16 * 0x10000 + s1.linkPeer l)) none

/-- Packets that waited move into the window as frames. (log 59, DEDUCED) -/
def Link.refill (k : Link) (now : Nat) : Nat → Link
  | 0 => k
  | n + 1 =>
    match k.txq with
    | [] => k
    | p :: rest =>
      if k.window.length ≥ 256 then k
      else Link.refill { k with
        txq := rest
        txSeq := (k.txSeq + 1) % 2048
        window := k.window ++ [⟨k.txSeq, [p], now⟩] } now n

/-- An ACK covers the frames before its SEQ; an ACK that names no frame of the window covers none. -/
def State.takeAck (s : State) (l ack : Nat) : State :=
  let k := s.link l
  if k.txSeq = ack ∨ k.window.any (fun f => decide (f.seq = ack)) then
    let w := k.window.dropWhile (fun f => decide (f.seq ≠ ack))
    let k1 := if w.length < k.window.length then { k with window := w, replays := 0 } else k
    s.setLink l (k1.refill s.elapsed k1.txq.length)
  else s

/-- Bit 11 of the ACK field with a SEQ that the receiver expects: the frame is damaged or out of order. -/
def State.nak (s : State) (l : Nat) : State := s.setLink l { s.link l with nakOut := true }

/-! ### LINK_DOWN (R471) -/

/-- Resolve one packet of the replay window: a request goes out by another link or is answered, a response is dropped. -/
def State.resolve (s : State) (l : Nat) (p : LinkPkt) : State :=
  match p with
  | .regrd _ _ => s.egressNow (nodeLink l) p
  | .regwr _ _ _ => s.egressNow (nodeLink l) p
  | .other _ _ _ => s.egressNow (nodeLink l) p
  | _ => s

/-- The link leaves UP: its replay window is resolved. -/
def State.linkLeaves (s : State) (l st : Nat) : State :=
  let k := s.link l
  let ps := k.window.flatMap SentFrame.pkts ++ k.txq
  let lost := (ps.filter LinkPkt.posted).length
  let s1 := (s.setLink l { k with
    window := []
    txq := []
    nakOut := false
    replays := 0
    downAt := s.elapsed
    exchange := none }).enterLink l st
  let s2 := if lost = 0 then s1 else (s1.bumpBy (Reg.fslLink l 4) lost).log 0x5A (nodeLink l) 0
    (BitVec.ofNat 24 (l % 16 * 0x10000 + min lost 65535)) none
  ps.foldl (fun s p => s.resolve l p) s2

/-- EN := 0: the link is OFF. -/
def State.linkOff (s : State) (l : Nat) : State :=
  let s1 := s.setRegField (Reg.fslLink l 0) 21 1 0
  if s.linkState l = 2 then s1.linkLeaves l 0 else if s.linkState l = 0 then s1 else s1.enterLink l 0

/-! ### The die fault (R493, R588) -/

def State.legTenant (s : State) : Nat := s.regField 0x0DC000 0 9
def State.legEnabled (s : State) : Bool := s.regBit 0x0DC000 23

/-- The legacy port is disabled or reset (R493): INTPEND clears, its lockets become orphans, its open packet is rewound,
and its outputs float. -/
def State.legacyStops (s : State) : State :=
  let s1 := (s.setRegField (Reg.legStat 0) 23 1 0).masterLeaves (masterLegacy s.legTenant) []
  { s1 with leg := ⟨0, false⟩ }

/-- The die fences itself: the hub binds nothing more, the pipelines stop, programmed cells enter SAFE, links and ports go
to EN 0, and a Z256-D releases FENCE_N. -/
def State.fenceSelf (s : State) : State :=
  if s.pair.fenced then s
  else
    let s1 : State := { s with pair := { s.pair with fenced := true } }
    let s2 := (List.range (unitCount s.member .banks)).foldl State.bankLosesVio s1
    let s3 := (List.range (unitCount s.member .links)).foldl State.linkOff s2
    let s4 := (List.range (unitCount s.member .eths)).foldl (fun s e => s.setRegField (0x0D0000 + 16 * e) 23 1 0) s3
    let s5 := if s4.legEnabled then (s4.setRegField 0x0DC000 23 1 0).legacyStops else s4
    if s.member = .z256d then (s5.setPairState 4).setPairRole 3 else s5

/-- A die fault: its record, which sets the FAULT latch, and the fence of the die. (log 52, DESIGN CHOICE) -/
def State.dieFault (s : State) (cause node : Nat) : State :=
  if s.pair.fenced then s
  else (s.log 0x73 node 0 (BitVec.ofNat 24 cause) none).fenceSelf

/-- Both pair links are lost while the other die's FENCE_N is high (R597): die 1 fences itself. -/
def State.split (s : State) : State :=
  if s.duplex && !s.pair.otherLow && decide (s.linkState 14 ≠ 2) && decide (s.linkState 15 ≠ 2) then
    let s1 := s.log 0x79 (nodeLink 14) 0 0 none
    if s.die = 1 then s1.dieFault 8 (nodeLink 14) else s1
  else s

/-- A link goes DOWN. -/
def State.linkDown (s : State) (l : Nat) : State :=
  let s1 := (s.bump (Reg.fslLink l 3)).linkLeaves l 3
  if s.member = .z256d ∧ l ≥ 14 then s1.split else s1

/-- A replay starts: the window is sent again. After 16 without an advance of the ACK the link goes DOWN. -/
def State.replayLink (s : State) (l : Nat) : State :=
  let k := s.link l
  if k.window = [] then s
  else if k.replays ≥ 16 then s.linkDown l
  else (s.bump (Reg.fslLink l 2)).setLink l { k with
    replays := k.replays + 1
    window := k.window.map (fun (f : SentFrame) => { f with since := s.elapsed }) }

/-! ### The ingress link (R465, R466, R468) -/

/-- The source-map entry of a remote source. -/
def State.srcEntry (s : State) (dev tenant : Nat) : Option Nat :=
  (List.range 256).find? (fun i => s.regBit (0x0C2000 + 2 * i) 23
    && decide (s.regField (0x0C2000 + 2 * i) 9 9 = tenant) && decide (s.regField (0x0C2001 + 2 * i) 0 16 = dev))

/-- A packet is refused at ingress: counted and logged; a request is answered with STATUS 2. (log 62, DESIGN CHOICE) -/
def State.refuseIngress (s : State) (l : Nat) (p : LinkPkt) : State :=
  let h := p.hdr
  let s1 := (s.bump (Reg.fslStat 1)).log 0x51 (nodeLink l) 0 (BitVec.ofNat 24 (l % 16 * 0x10000 + h.sdev % 65536))
    (some (p.header (nodeLink l)))
  match p with
  | .regrd _ _ => s1.egressRsp (nodeLink l) p 2
  | .regwr _ _ _ => s1.egressRsp (nodeLink l) p 2
  | _ => s1

/-- The link leads out of a pair (R590). -/
def State.pairOutside (s : State) (l : Nat) : Bool := decide (s.member = .z256d ∧ l < 14)

/-- A device number that names this die; the dies of a pair take packets for either number from outside (R590). -/
def State.isLocal (s : State) (l d : Nat) : Bool :=
  decide (d = s.deviceNo) || (s.pairOutside l && decide (d = s.pairDevice))

/-- A tag of the pair number or the other die's, as a local source would write it. -/
def State.localTag (s : State) (t : Triple) : Triple :=
  t.setField 56 16 s.deviceNo

/-- A pair takes an inbound token only for a frame of an init record that was never released (R590). -/
def State.pairRefusesFrame (s : State) (l : Nat) (tag : Triple) : Bool :=
  let e := s.frame (Tag.frame tag)
  s.pairOutside l && !(e.alloc && e.init && decide (e.gen.toNat = Tag.gen tag))

/-- A link carries a packet of this kind on this channel (R466). -/
def LinkPkt.carried : LinkPkt → Bool
  | .ftok _ vc _ _ _ _ => decide (vc = 2 ∨ vc = 3)
  | .ptok _ vc _ _ _ _ => decide (vc = 2 ∨ vc = 3)
  | .other _ _ _ => false
  | _ => true

/-- A packet that no link carries is refused; one for this die meets the source map: its local tenant, and whether it is
under management. (log 62, DESIGN CHOICE) -/
def State.ingest (s : State) (l : Nat) (p : LinkPkt) : State :=
  let h := p.hdr
  let n := nodeLink l
  if LinkPkt.carried p = false then s.refuseIngress l p
  else if s.isLocal l h.ddev = false then s.egressNow n p
  else match p with
    | .rsp _ _ _ => s.bumpCluster n 6
    | .rdata _ _ _ => s.bumpCluster n 6
    | .other _ _ _ => s.refuseIngress l p
    | _ =>
      match s.srcEntry h.sdev h.tenant with
      | none => s.refuseIngress l p
      | some i =>
        let ten := s.regField (0x0C2000 + 2 * i) 0 9
        let managed := s.regBit (0x0C2000 + 2 * i) 22 && decide (ten = 0)
        match p with
        | .ftok _ vc tag v c poison =>
          if s.pairRefusesFrame l tag then s.bump (Reg.depPair 10)
          else s.release n 0 [.ftok ⟨n, 0, 0, ten, vc, s.localTag tag, v, c, poison⟩]
        | .ptok _ vc tag v c poison =>
          s.release n 0 [.ptok ⟨n, 0, 0, ten, vc, s.localTag tag, v, c, poison⟩]
        | .free _ hd => if s.pairOutside l then s.bump (Reg.depPair 10) else s.release n 0 [.free ⟨hd, ten, 0, n, false⟩]
        | .sev _ task fl => s.release n 0 [.sev task fl (.master ten 0 n)]
        | .regrd _ a => if managed then s.send (.ingress ⟨some h, n, i, h.rid, 1, BitVec.ofNat 24 a, [], 1⟩)
          else s.refuseIngress l p
        | .regwr _ a v => if managed then s.send (.ingress ⟨some h, n, i, h.rid, 2, BitVec.ofNat 24 a, [v], 1⟩)
          else s.refuseIngress l p
        | _ => s

/-- Packets of an accepted frame, in order; the lead of a pair forwards each to the shadow and waits (R592). (log 59, DEDUCED) -/
def State.takePackets (s : State) (l : Nat) (ps : List LinkPkt) : State :=
  ps.foldl (fun s p => if s.pairLead && decide (l < 14) then s.forwardInput (.packet l p) true else s.ingest l p) s

/-! ### Commands of the links -/

/-- A frame arrives on a link that is UP: its CRC, its SEQ unless it is a control frame, its ACK and its NAK (R470, R474);
`k` takes the rest. A frame that is discarded acts on nothing. (log 59, DEDUCED) -/
def State.frameArrives (s : State) (l : Nat) (ctl : Bool) (f : LinkFrame) (k : State → State) : Out :=
  if unitPresent s.member .links l = false then .fault .absentUnit
  else if s.linkState l ≠ 2 then .next s
  else if f.crcOk = false then .next ((s.bump (Reg.fslLink l 1)).nak l)
  else if ctl = false ∧ f.seq % 2048 ≠ (s.link l).rxSeq then .next (s.nak l)
  else
    let s1 := s.takeAck l f.ack
    let s2 := if f.nak then s1.replayLink l else s1
    .next (if s2.linkState l = 2 then k s2 else s2)

/-- LINK_FRAME_RECEIVE (R466, R468, R470). (log 93, DESIGN CHOICE) -/
def execLinkFrameReceive (l : Nat) (f : LinkFrame) (s : State) : Out :=
  s.frameArrives l false f (fun s =>
    let k := s.link l
    (s.setLink l { k with rxSeq := (k.rxSeq + 1) % 2048, nakOut := false }).takePackets l f.pkts)

/-- REPLAY_TIMEOUT (R470). -/
def execReplayTimeout (l : Nat) (s : State) : Out :=
  if unitPresent s.member .links l = false then .fault .absentUnit
  else
    let us := max 1 (s.regField 0x0C0001 16 8)
    match (s.link l).window with
    | [] => .next s
    | f :: _ => if s.linkState l = 2 ∧ f.since + usTicks us ≤ s.elapsed then .next (s.replayLink l) else .next s

/-- LANE_LOCK_LOSS (R470). -/
def execLaneLockLoss (l : Nat) (s : State) : Out :=
  if unitPresent s.member .links l = false then .fault .absentUnit
  else if s.linkState l = 2 then .next (s.linkDown l) else .next s

/-- LINK_RETRAIN (R471). -/
def execLinkRetrain (l : Nat) (s : State) : Out :=
  if unitPresent s.member .links l = false then .fault .absentUnit
  else if s.linkState l = 3 ∧ s.regBit (Reg.fslLink l 0) 21 = true ∧ (s.link l).downAt + msTicks 10 ≤ s.elapsed then
    .next (s.enterLink l 1)
  else .next s

def State.ttiTicks (s : State) (l : Nat) : Nat := msTicks (s.regField (Reg.fslLink l 5) 0 16)

/-- LINK_UP (R464, R471, R590): the peer reports its number. Both directions start at SEQ 0. -/
def execLinkUp (l peer : Nat) (s : State) : Out :=
  if unitPresent s.member .links l = false then .fault .absentUnit
  else if s.linkState l ≠ 1 ∨ (s.pairShadow && decide (l < 14)) = true then .next s
  else if peer % 65536 = s.deviceNo then .next (s.log 0x53 (nodeLink l) 0 (BitVec.ofNat 24 l) none)
  else
    let k := s.link l
    let s1 := (s.setRegField (Reg.fslLink l 0) 0 16 peer).enterLink l 2
    let s2 := if k.hadPeer.isSome ∧ k.hadPeer ≠ some (peer % 65536) then
        s1.log 0x50 (nodeLink l) 0 (BitVec.ofNat 24 (0x200000 + l % 16 * 0x10000 + peer % 65536)) none
      else s1
    .next (State.resolveHeld (s2.setLink l { k with
      txSeq := 0
      rxSeq := 0
      window := []
      nakOut := false
      replays := 0
      hadPeer := some (peer % 65536)
      nextAt := s.elapsed + s.ttiTicks l }))

/-- A write of word 0 of FSL.LINK[l] (R499). -/
def State.linkEnable (s : State) (l : Nat) (v : Word) : State :=
  let s1 := s.setRegField (Reg.fslLink l 0) 20 1 (v.bit 20).toNat
  if v.bit 21 then
    if s.regBit (Reg.fslLink l 0) 21 then s1 else (s1.setRegField (Reg.fslLink l 0) 21 1 1).enterLink l 1
  else if s.regBit (Reg.fslLink l 0) 21 then
    (let s2 := s1.linkOff l; if s.member = .z256d ∧ l ≥ 14 ∧ s.linkState l = 2 then s2.split else s2)
  else s1

/-- LINK_ENABLE (R471, R499): a warden write to word 0 of FSL.LINK. -/
def execLinkEnable (q : Req) (l : Nat) (v : Word) (s : State) : Out :=
  if unitPresent s.member .links l = false then .fault .absentUnit
  else s.wardenWrite q (Reg.fslLink l 0) v true (fun s => s.linkEnable l v)

/-! ### The time exchange (R473, R474, R598) -/

def State.ttx (s : State) (l : Nat) : Bool := s.regBit (Reg.fslLink l 0) 20

/-- TIME_EXCHANGE_START (R473): SYNC leaves, stamped t1. -/
def execTimeExchangeStart (l : Nat) (s : State) : Out :=
  if unitPresent s.member .links l = false then .fault .absentUnit
  else
    let k := s.link l
    if s.linkState l ≠ 2 ∨ s.ttx l = false ∨ s.regField (Reg.fslLink l 5) 0 16 = 0 ∨ s.elapsed < k.nextAt then .next s
    else .next (s.setLink l { k with
      exchange := some (k.xno + 1)
      sender := true
      stampA := s.time
      since := s.elapsed
      xno := k.xno + 1
      nextAt := s.elapsed + s.ttiTicks l
      ctl := some (.sync (k.xno + 1)) })

/-- The exchange of this number is in progress on this side, and its next frame came in time. -/
def State.exchangeRuns (s : State) (l : Nat) (xno : BitVec 16) (sender : Bool) : Bool :=
  let k := s.link l
  decide (k.exchange = some xno) && (k.sender == sender)
    && (decide (s.regField (Reg.fslLink l 5) 0 16 = 0) || decide (s.elapsed ≤ k.since + s.ttiTicks l))

/-- SYNC_FRAME (R473): stamped t2, and DELREQ leaves, stamped t3; two transmitters discard the exchange. (log 61, DEDUCED) -/
def execSyncFrame (l : Nat) (f : LinkFrame) (xno : BitVec 16) (s : State) : Out :=
  s.frameArrives l true f (fun s =>
    let k := s.link l
    if s.ttx l then (s.setLink l { k with exchange := none }).log 0x52 (nodeLink l) 0 (BitVec.ofNat 24 l) none
    else s.setLink l { k with
      exchange := some xno
      sender := false
      stampA := s.time
      stampB := s.time
      since := s.elapsed
      ctl := some (.delreq xno) })

/-- DELREQ (R473): stamped t4, and TIMES leaves. (log 61, DEDUCED) -/
def execDelreq (l : Nat) (f : LinkFrame) (xno : BitVec 16) (s : State) : Out :=
  s.frameArrives l true f (fun s =>
    let k := s.link l
    if s.exchangeRuns l xno true then s.setLink l { k with
      exchange := none
      stampB := s.time
      ctl := some (.times xno k.stampA s.time) }
    else if k.sender then s.setLink l { k with exchange := none } else s)

/-- The difference of the two TIMEs of a pair (R598): logged on the third exchange in a row beyond PAIRTIME. (log 97, DEDUCED) -/
def State.pairTime (s : State) (θ : Int) : State :=
  let lim := if s.regField (Reg.depPair 1) 0 8 = 0 then 4 else s.regField (Reg.depPair 1) 0 8
  let s1 := s.setReg (Reg.depPair 11) (intWord (clampInt θ (-tkMax) tkMax))
  let run := if θ.natAbs > lim then s.pair.timeRun + 1 else 0
  if run ≥ 3 then
    State.log { s1 with pair := { s1.pair with timeRun := 0 } } 0x7A nodeTime 0 (intWord (clampInt θ (-tkMax) tkMax)) none
  else { s1 with pair := { s1.pair with timeRun := run } }

/-- TIMES (R473): the receiver computes θ and delivers it to source 1. (log 61, DEDUCED) -/
def execTimesFrame (l : Nat) (f : LinkFrame) (xno : BitVec 16) (t1 t4 : Triple) (s : State) : Out :=
  s.frameArrives l true f (fun s =>
    let k := s.link l
    if s.exchangeRuns l xno false then
      let d : Int := ((k.stampA.toNat : Int) - t1.toNat) - ((t4.toNat : Int) - k.stampB.toNat)
      let θ := Int.tdiv (d * 1000000000) 8589934592
      let s1 := (s.setLink l { k with exchange := none }).sample 1 θ
      if s.pairShadow && decide (l ≥ 14) then s1.pairTime θ else s1
    else if k.sender then s else s.setLink l { k with exchange := none })

end Sys2Proof.Machine
end

