-- ==== Sys2Proof/Machine/Interface.lean ====
section
/-! DEFINITION. What inputs from outside do: requests at their duplicate windows, host functions and their pages,
Ethernet frames, and cycles of the legacy port (R354, R355, R476 to R493). -/

namespace Sys2Proof.Machine

/-! ### Host functions (R476, Table 12-8) -/

/-- Tenant of a host function: physical function 0, and the debug function of JTAG, act for the host. -/
def State.fnTenant (s : State) (f : Nat) : Nat := if f = 0 then 0 else s.regField (0x0D4000 + f) 0 9
def State.fnMaster (s : State) (f : Nat) : Word := masterHost (s.fnTenant f) f
/-- The function is presented to the host (R482). -/
def State.fnThere (s : State) (f : Nat) : Bool :=
  s.power.core && s.domainOn 0x1A0 && (decide (f = 0) || (decide (f < 64) && s.regBit (0x0D4000 + f) 23))

/-- Translate one word of a virtual function's BAR0: KIND 1, KIND 8 and segment 63 map nothing (Table 15-2). -/
def State.fnTarget (s : State) (f : Nat) (a : Word) (write : Bool) : Option Target :=
  let t := s.fnTenant f
  let x : Context := { Context.idle with tenant := t, epoch := Map.get (fun _ => 0) s.hub.epoch t }
  if a.field 18 6 = 63 then none
  else match s.translate ⟨0, 0, 0⟩ x a write with
    | some (.own _ _) => none
    | some (.device _) => none
    | r => r

/-- The targets of `n` words from an address in a function's BAR0 space. -/
def State.fnTargets (s : State) (f : Nat) (a : Word) (write : Bool) : Nat → Option (List Target)
  | 0 => some []
  | n + 1 =>
    match s.fnTargets f a write n with
    | none => none
    | some ts =>
      let b := a + BitVec.ofNat 24 n
      if f = 0 then some (ts ++ [.device b.toNat])
      else if b.field 18 6 ≠ a.field 18 6 then none
      else (s.fnTarget f b write).map (fun t => ts ++ [t])

/-- The write of a SET or CLEAR alias (R479): a scratchpad word only. -/
def aliasOp (set : Bool) (vs : List Word) : Target → Option ReqOp
  | .remote _ a _ => some (if set then .setw a vs else .clrw a vs)
  | _ => none

/-- Send one Trellis request of a function. -/
def State.fnRequest (s : State) (f : Nat) (t : Target) (op : ReqOp) (who : Requester) : State :=
  let place := s.farPlace t
  (s.request (nodePcie f) 0 (s.fnTenant f) (s.fnMaster f) place.1 op (BitVec.ofNat 24 place.2) who).2

/-! ### Duplicate windows (R355) -/

/-- A mailbox operation has its result. (log 64, DESIGN CHOICE) -/
def State.mailResult (s : State) (f status : Nat) (dup : Bool) : State :=
  s.setHostFn f { s.hostFn f with busy := false, done := true, dup := dup, status := status, owed := 0 }

/-- The ingress node answers a request itself. -/
def State.ingressAnswer (s : State) (g : Ingress) (status : Nat) (dup : Bool) : State :=
  match g.link with
  | some h => s.linkReply g.node (.rsp (s.replyHdr h) status dup)
  | none => s.mailResult g.src status dup

/-- A mailbox request that cannot be sent gets STATUS 2, which its window records. -/
def State.mailRefused (s : State) (g : Ingress) : State :=
  (s.windowDone (windowKey false g.src) g.rid 2).ingressAnswer g 2 false

/-- The groups of a write: one request for each, or none where a word takes no such write. -/
def mailWrites (cmd : Nat) (gs : List (Target × List Word)) : Option (List (Target × ReqOp)) :=
  gs.foldr (fun g acc => match acc with
    | none => none
    | some l =>
      if cmd = 2 then some ((g.1, writeOp false g.2 g.1) :: l)
      else (aliasOp (decide (cmd = 3)) g.2 g.1).map (fun op => (g.1, op) :: l)) (some [])

/-- Pass a mailbox request on: one Trellis request for each run of words. -/
def State.passMail (s : State) (g : Ingress) : State :=
  let f := g.src
  let n := max 1 (min 3 g.width)
  match s.fnTargets f g.addr (decide (g.cmd ≠ 1)) n with
  | none => s.mailRefused g
  | some ts =>
    if g.cmd = 1 then
      let gs := groupRuns (ts.zip (List.range n))
      let s1 := s.setHostFn f { s.hostFn f with owed := gs.length }
      gs.foldl (fun s e => s.fnRequest f e.1 (readOp false e.2.length e.1) (.mailbox f (e.2.headD 0))) s1
    else
      match mailWrites g.cmd (groupRuns (ts.zip g.data)) with
      | none => s.mailRefused g
      | some ops =>
        let s1 := s.setHostFn f { s.hostFn f with owed := ops.length }
        ops.foldl (fun s e => s.fnRequest f e.1 e.2 (.mailbox f 0)) s1

/-- Pass a request on: a link's goes to the register's node as a request of the warden. -/
def State.passOn (s : State) (g : Ingress) : State :=
  match g.link with
  | some h =>
    let a := g.addr.toNat
    let op : ReqOp := if g.cmd = 1 then .regrd a else .regwr a (g.data.headD 0)
    (s.request g.node 0 0 0 (s.servingNode a) op g.addr (.ingress (g.node - 0x180) g.src h)).2
  | none => s.passMail g

/-- INGRESS of R355. (log 65, DEDUCED) -/
def State.meetWindow (s : State) (g : Ingress) : State :=
  let k := windowKey g.link.isSome g.src
  let w := s.window k
  let r := g.rid % 16384
  let newer := match w.newest with
    | none => true
    | some n => decide (1 ≤ (r + 16384 - n) % 16384 ∧ (r + 16384 - n) % 16384 ≤ 8191)
  let behind := (w.newest.getD 0 + 16384 - r) % 16384
  if newer then
    let recs := w.recs ++ [(r, none)]
    (s.setWindow k ⟨some r, recs.drop (recs.length - 256)⟩).passOn g
  else
    let s1 := s.bumpCluster g.node 7
    match w.recs.find? (fun e => decide (behind ≤ 255 ∧ e.1 = r)) with
    | some (_, none) => s1
    | some (_, some st) => s1.ingressAnswer g st true
    | none => s1.ingressAnswer g 6 false

/-! ### The function page (R479 to R481) -/

/-- CMD of the mailbox: 1 read, 2 write, 3 SET alias write, 4 CLEAR alias write. -/
def State.mailSubmit (s : State) (f cmd : Nat) : State :=
  let h := s.hostFn f
  if h.busy then s.setHostFn f { h with ovr := true }
  else if cmd = 0 ∨ cmd > 4 then s
  else
    let n := max 1 h.width
    (s.setHostFn f { h with
      busy := true
      done := false
      dup := false
      status := 0
      rrid := h.rid
      rdata := [0, 0, 0]
      owed := 0 }).send (.ingress ⟨none, nodePcie f, f, h.rid, cmd, h.addr, if cmd = 1 then [] else h.data.take n, n⟩)

/-- A read of word 10: one notice leaves the FIFO, and one that waits at its queue takes its room. -/
def State.takeNotice (s : State) (f : Nat) : Word × State :=
  let h := s.hostFn f
  match h.notices with
  | [] => (0, s)
  | n :: rest => (BitVec.ofNat 24 (0x800000 + n % 1024), s.setHostFn f { h with
      notices := rest ++ h.waiting.take 1
      waiting := h.waiting.drop 1 })

/-- A write of SEVFLAGS: only what DISP.BIND entries of KIND 3 grant in SEVTASK (R481, R145). (log 94, DESIGN CHOICE) -/
def State.doorbell (s : State) (f : Nat) (v : Word) : State :=
  let n := (s.hostFn f).sevTask
  let fl := s.bindFlags 3 f n 1024 &&& v
  if fl = 0 then s else s.send (.sev n fl (.bind 3 f))

/-- Base that names DATA and RDATA of a function page among the multi-word registers of a master (R19). -/
def pageData : Nat := 0x0E0002
def pageRdata : Nat := 0x0E0007

/-- A write of a word of the function page. -/
def State.pageWrite (s : State) (f a : Nat) (v : Word) : State :=
  let h := s.hostFn f
  let m := s.fnMaster f
  match a with
  | 0 => s.setHostFn f { h with rid := v.field 0 14 }
  | 1 => s.setHostFn f { h with addr := v }
  | 2 => s.setWbuf m pageData (s.wbuf m pageData ++ [(0, v)])
  | 3 => s.setWbuf m pageData (s.wbuf m pageData ++ [(1, v)])
  | 4 =>
    let ws := s.written m pageData 3 v
    let w := fun k => ((ws.find? (fun e => decide (e.1 = k))).map Prod.snd).getD ((h.data[k]?).getD 0)
    (s.setHostFn f { h with data := [w 0, w 1, w 2] }).setWbuf m pageData []
  | 5 => s.mailSubmit f (v.field 0 3)
  | 6 => s.setHostFn f { h with width := v.field 14 2, ovr := h.ovr && !(v.bit 17) }
  | 11 => s.setHostFn f { h with sevTask := v.field 0 12 }
  | 12 => s.doorbell f v
  | 13 => s.setHostFn f { h with busyRd := h.busyRd && !(v.bit 2), werr := h.werr && !(v.bit 1) }
  | _ => s

/-- Snapshot of a register for a master (R19): its key, the words held, and a capture. -/
def State.snap (s : State) (m : Word) (base : Nat) : List Word := Map.get (fun _ => []) s.bufs.snaps (bufKey m base)
def State.setSnap (s : State) (m : Word) (base : Nat) (ws : List Word) : State :=
  { s with bufs := { s.bufs with snaps := Map.set (fun _ => []) s.bufs.snaps (bufKey m base) ws } }

/-- A read of a word of the function page. (log 63, DEDUCED) -/
def State.pageRead (s : State) (f a : Nat) : Word × State :=
  let h := s.hostFn f
  let m := s.fnMaster f
  let b := fun (x : Bool) (k : Nat) => x.toNat * 2 ^ k
  match a with
  | 0 => (BitVec.ofNat 24 h.rid, s)
  | 1 => (h.addr, s)
  | 2 => (h.data.headD 0, s.setSnap m pageData h.data)
  | 3 => (((s.snap m pageData)[1]?).getD ((h.data[1]?).getD 0), s)
  | 4 => (((s.snap m pageData)[2]?).getD ((h.data[2]?).getD 0), s)
  | 6 => (BitVec.ofNat 24 (b h.busy 23 + b h.done 22 + b h.dup 21 + h.status % 8 * 2 ^ 18 + b h.ovr 17
      + h.width % 4 * 2 ^ 14 + h.rrid % 16384), s)
  | 7 => (h.rdata.headD 0, s.setSnap m pageRdata h.rdata)
  | 8 => (((s.snap m pageRdata)[1]?).getD ((h.rdata[1]?).getD 0), s)
  | 9 => (((s.snap m pageRdata)[2]?).getD ((h.rdata[2]?).getD 0), s)
  | 10 => s.takeNotice f
  | 11 => (BitVec.ofNat 24 h.sevTask, s)
  | 13 => (BitVec.ofNat 24 (b h.busyRd 2 + b h.werr 1 + b (!h.waiting.isEmpty) 0), s)
  | _ => (0, s)

/-- MSI-X vector 0 of a function: raised while its notice FIFO is not empty. (log 94, DESIGN CHOICE) -/
def State.msix0 (s : State) (f : Nat) : Bool := !(s.hostFn f).notices.isEmpty

/-! ### BAR accesses (R477, R478) -/

/-- A read completes at the host. -/
def State.barReply (s : State) (f tag : Nat) (abort : Bool) (v : Word) : State :=
  s.setHostFn f { s.hostFn f with cpl := some ⟨tag, abort, v⟩ }

/-- A read of one word of a BAR. (log 63, DEDUCED) -/
def State.barRead (s : State) (f bar a tag : Nat) : State :=
  match bar with
  | 0 =>
    match s.fnTargets f (BitVec.ofNat 24 a) false 1 with
    | some [t] => s.fnRequest f t (readOp false 1 t) (.bar f a false tag)
    | _ => s.barReply f tag true 0
  | 2 =>
    if f = 0 ∧ a < min 16777216 s.stateSize then s.fnRequest f (.state a) (.rdu a) (.bar f a false tag)
    else s.barReply f tag true 0
  | 4 => let r := s.pageRead f (a % 1024); r.2.barReply f tag false r.1
  | _ => s.barReply f tag true 0

/-- A write of one word of a BAR; `whole` says that byte enables 0 to 2 are set. (log 63, DEDUCED) -/
def State.barWrite (s : State) (f bar a : Nat) (v : Word) (whole : Bool) : State :=
  if whole = false then
    (s.bump 0x0D4040).log 0x54 (nodePcie f) (s.fnMaster f) (BitVec.ofNat 24 a) none
  else match bar with
  | 0 =>
    match s.fnTargets f (BitVec.ofNat 24 a) true 1 with
    | some [t] => s.fnRequest f t (writeOp false [v] t) (.bar f a true 0)
    | _ => s.barDone f a true 0 2 []
  | 2 =>
    if f = 0 ∧ a < min 16777216 s.stateSize then s.fnRequest f (.state a) (.wru a v) (.bar f a true 0)
    else s.barDone f a true 0 2 []
  | 4 => s.pageWrite f (a % 1024) v
  | _ => s.barDone f a true 0 2 []

/-- What is outstanding for a function, or on its way from it, is dropped. -/
def State.fnForget (s : State) (f : Nat) : State :=
  let mine := fun (w : Requester) => match w with
    | .bar g _ _ _ => decide (g = f)
    | .mailbox g _ => decide (g = f)
    | _ => false
  { s with
    flight := s.flight.filter (fun p => match p with | .ingress g => !(g.link.isNone && decide (g.src = f)) | _ => true)
    net := { s.net with outst := s.net.outst.map (fun (o : Outst) => if mine o.who then { o with who := .dropped } else o) } }

/-- A function-level reset (R480): the page is 0 again and the window empty, open packets are rewound, lockets become
orphans; notices are never lost. (log 64, DESIGN CHOICE) -/
def State.functionReset (s : State) (f : Nat) : State :=
  let h := s.hostFn f
  let m := s.fnMaster f
  ((((s.fnForget f).setHostFn f { HostFn.zero with notices := h.notices, waiting := h.waiting, cpl := h.cpl }).setWindow
    (windowKey false f) Window.new).setWbuf m pageData []).masterLeaves m []

/-! ### Ethernet (R483, R484) -/

def Reg.eth (e w : Nat) : Nat := 0x0D0000 + 16 * e + w

/-- A latency in 1/16 ns, in units of 2⁻³² s. -/
def latTicks (n : Nat) : Nat := (n * 4294967296 + 8000000000) / 16000000000

/-- The first six bytes of a frame. -/
def destMac (bytes : List (BitVec 8)) : Nat := (bytes.take 6).foldl (fun n b => n * 256 + b.toNat) 0

/-- The port accepts a frame to this address. -/
def State.ethAccepts (s : State) (e mac : Nat) : Bool :=
  decide (mac = (s.reg (Reg.eth e 2)).toNat * 16777216 + (s.reg (Reg.eth e 3)).toNat)
    || decide (mac = 0xFFFFFFFFFFFF) || decide (mac = 0x011B19000000) || decide (mac = 0x0180C200000E)
    || (s.regBit (Reg.eth e 0) 21 && decide (mac / 2 ^ 40 % 2 = 1))

/-- Words of a byte area: three bytes a word, the last padded with zeros. -/
def byteWords : List (BitVec 8) → List Word
  | a :: b :: c :: rest => (a ++ b ++ c) :: byteWords rest
  | [a, b] => [a ++ b ++ (0 : BitVec 8)]
  | [a] => [a ++ (0 : BitVec 16)]
  | [] => []

/-- Bytes of a word area. -/
def wordBytes (ws : List Word) : List (BitVec 8) :=
  ws.flatMap (fun w => [w.extractLsb' 16 8, w.extractLsb' 8 8, w.extractLsb' 0 8])

/-- A frame arrives at a port. (log 66, DESIGN CHOICE) -/
def State.ethReceive (s : State) (e : Nat) (f : EthFrame) : State :=
  if s.regBit (Reg.eth e 0) 23 = false then s
  else if f.fcsOk = false then s.bump (Reg.eth e 6)
  else if f.bytes.length < 60 ∨ f.bytes.length > 9216 ∨ s.ethAccepts e (destMac f.bytes) = false then s
  else
    let t : Triple := f.stamp - BitVec.ofNat 72 (latTicks (s.regField (Reg.eth e 4) 12 12))
    s.send (.queueRec (s.regField (Reg.eth e 0) 10 10) (nodeEth e)
      ([BitVec.ofNat 24 f.bytes.length, t.word 0, t.word 1, t.word 2] ++ byteWords f.bytes))

/-- A frame leaves a port; where TS asks it, its departure goes to the timestamp queue. (log 66, DESIGN CHOICE) -/
def State.ethSend (s : State) (e : Nat) (bytes : List (BitVec 8)) (tag : Option Nat) : State :=
  let s1 := { s with ethSent := Map.set (fun _ => []) s.ethSent e bytes }
  match tag with
  | none => s1
  | some g =>
    let t : Triple := s.time + BitVec.ofNat 72 (latTicks (s.regField (Reg.eth e 4) 0 12))
    s1.send (.queueRec (s.regField (Reg.eth e 1) 0 10) (nodeEth e) [BitVec.ofNat 24 g, t.word 0, t.word 1, t.word 2])

/-- The port takes the head packet of its transmit queue. A packet whose byte count does not fit its words or the limits
of a frame, and a gap marker, is dropped. (log 66, DESIGN CHOICE) -/
def State.ethTake (s : State) (e : Nat) (ecc : Ecc) : State :=
  let n := s.regField (Reg.eth e 0) 0 10
  let k := s.queue n
  if s.regBit (Reg.eth e 0) 23 = false ∨ s.qMode n = 0 ∨ s.qCkind n ≠ 3 then s
  else match k.packets with
    | [] => s
    | p :: rest =>
      let s1 := s.setQueue n { k with packets := rest, getOwner := 0 }
      let w0 := p.words.headD 0
      let len := w0.field 0 14
      let bytes := (wordBytes (p.words.drop 1)).take len
      let tag := if w0.bit 23 then some (w0.field 14 9) else none
      match ecc with
      | .double => (s1.bump (Reg.que n 14)).log 0x2D nodeQueues 0 (BitVec.ofNat 24 (n % 1024)) none
      | _ =>
        let s2 := if ecc = .single then s1.bump (Reg.que n 13) else s1
        if p.gap || decide (bytes.length ≠ len) || decide (len < 60) || decide (len > 9216) then s2
        else if s2.duplex then
          let r := s2.pairCount 3 e
          r.2.holdEffect ⟨3, e, r.1⟩ (.eth e bytes tag) (Config.effectCrc p.words)
        else s2.ethSend e bytes tag

/-! ### DDR patrol (R486) -/

def State.scrubAt (s : State) (d : Nat) : Nat := Map.get (fun _ => 0) s.memory.scrub d

/-- The next line of a channel is read; the walk starts over at the channel's end. (log 67, DEDUCED) -/
def State.patrol (s : State) (d : Nat) (ecc : Ecc) : State :=
  let lines := s.regField (Reg.ddr d 0) 0 8 * 33554432 / 16
  let at' := s.scrubAt d
  let s1 := match ecc with
    | .sound => s
    | .single => s.bump (Reg.ddr d 1)
    | .double => s.bump (Reg.ddr d 2)
  { s1 with memory := { s1.memory with scrub := Map.set (fun _ => 0) s1.memory.scrub d (if at' + 1 ≥ lines then 0 else at' + 1) } }

/-! ### The legacy port (R488 to R493, R396) -/

def State.legMaster (s : State) : Word := masterLegacy s.legTenant
/-- The port serves a cycle. (log 68, DEDUCED) -/
def State.legServes (s : State) : Bool := s.legEnabled && !(s.regBit (Reg.legStat 0) 22) && s.domainOn nodeLegacy

/-- A read cycle drives a word. -/
def State.legDrive (s : State) (v : BitVec 16) (busy : Bool) : State := { s with leg := ⟨v, busy⟩ }

/-- A collision warned on the legacy side. -/
def State.legBusy (s : State) (warned : Bool) : State := if warned then s.bump (Reg.legStat 1) else s

/-- The locket of the legacy group that an address names. -/
def State.legLock (s : State) (k : BitVec 3) : Nat := 64 * (unitCount s.member .lockets - 1) + 56 + k.toNat

/-- A read of a RAM word; 0x7FFF clears INTPEND. -/
def State.legReadWord (s : State) (a : Nat) (coll late : Bool) : State :=
  let d := if coll then s.draw else (s.legRead a, s)
  let s1 := (d.2.legDrive (d.1.truncate 16) (coll && late)).legBusy (coll && late)
  if a = 0x7FFF then s1.setRegField (Reg.legStat 0) 23 1 0 else s1

/-- One word into the mailbox queue, committed at once (R490). -/
def State.legMail (s : State) (v : BitVec 16) : State :=
  let n := s.regField 0x0DC000 10 10
  let m := s.legMaster
  if s.qMode n = 0 ∨ s.onPut n m = false then s.bump (Reg.legStat 3)
  else
    let r := s.qPut n m (v.zeroExtend 24)
    let s1 := r.1.qCommit n m
    if r.2 then s1 else s1.bump (Reg.legStat 3)

/-- A write of a RAM word; 0x7FFE is also the mailbox. -/
def State.legWriteWord (s : State) (a : Nat) (v : BitVec 16) (coll late : Bool) : State :=
  let s1 := ((s.legWrite a (v.zeroExtend 24)).legDrive s.leg.d (coll && late)).legBusy (coll && late)
  if a = 0x7FFE then s1.legMail v else s1

/-- A read of a locket acts as TRY. -/
def State.legTryLock (s : State) (k : BitVec 3) : State :=
  let r := s.lkTry (s.legLock k) s.legMaster
  r.1.legDrive (r.2.extractLsb' 19 5 ++ r.2.extractLsb' 0 11) false

/-- A write of a locket acts as a release; one that releases nothing is counted and logged. -/
def State.legReleaseLock (s : State) (k : BitVec 3) : State :=
  let l := s.legLock k
  let s1 := s.legDrive s.leg.d false
  if (s.locket l).st = 1 ∧ (s.locket l).owner = s.legMaster then s1.lkFree l else s1.lkForeign l s.legMaster

/-- A read cycle (Table 15-3). (log 68, DEDUCED) -/
def State.legReadCycle (s : State) (a : BitVec 16) (coll late : Bool) : State :=
  if s.legServes = false then s
  else if a.toNat < 0x8000 then s.legReadWord a.toNat coll late
  else if a.toNat < 0x8008 then s.legTryLock (a.truncate 3)
  else s.legDrive 0 false

/-- A write cycle (Table 15-3). (log 68, DEDUCED) -/
def State.legWriteCycle (s : State) (a v : BitVec 16) (coll late : Bool) : State :=
  if s.legServes = false then s
  else if a.toNat < 0x8000 then s.legWriteWord a.toNat v coll late
  else if a.toNat < 0x8008 then s.legReleaseLock (a.truncate 3)
  else s

/-- LEG_INT_N is low (R490). -/
def State.legInt (s : State) : Bool := s.regBit (Reg.legStat 0) 23 && s.regBit 0x0DC000 20

end Sys2Proof.Machine
end

