-- ==== Sys2Proof/Machine/External.lean ====
section
/-! DEFINITION. Commands from outside the die: host functions, Ethernet ports, the DDR patrol, the legacy port, and the
messages and events of a duplex pair (R355, R476 to R493, R592 to R598). -/

namespace Sys2Proof.Machine

/-! ### Inputs (R591, R592) -/

/-- An input takes effect. -/
def State.applyInput (s : State) (x : ExtInput) : State :=
  match x with
  | .barRead f bar a tag => s.barRead f bar a tag
  | .barWrite f bar a v whole => s.barWrite f bar a v whole
  | .mailbox f cmd => s.mailSubmit f cmd
  | .noticeRead f => let r := s.takeNotice f; r.2.barReply f 0 false r.1
  | .sevFlags f v => s.doorbell f v
  | .functionReset f => s.functionReset f
  | .packet l p => s.ingest l p
  | .eth e f => s.ethReceive e f
  | .legRead a coll late => s.legReadCycle a coll late
  | .legWrite a v coll late => s.legWriteCycle a v coll late
  | .legTry k => if s.legServes then s.legTryLock k else s
  | .legRelease k => if s.legServes then s.legReleaseLock k else s
  | .capture c ty v g => (s.pairCapture c true v g).captureIn c ty v g
  | .legResult t n status ws => s.legResult t n status ws

/-- An input of this die: the lead forwards it and waits, the shadow drops it. -/
def State.outsideInput (s : State) (x : ExtInput) : State :=
  if s.pairLead then s.forwardInput x true else if s.pairShadow then s else s.applyInput x

/-- An access by a host function: one that is not presented does not exist; a fenced die and a shadow answer only reads
of the DEP range by the physical function (R588, R591). -/
def State.hostAccess (s : State) (f : Nat) (x : ExtInput) (dep : Bool) (abort : State → State) : Out :=
  if f ≥ 64 then .fault .absentUnit
  else if s.fnThere f = false then .next s
  else if s.pair.fenced || s.pairShadow then .next (if dep then s.applyInput x else abort s)
  else .next (s.outsideInput x)

/-! ### Host functions -/

/-- INGRESS_REQUEST (R355). (log 65, DEDUCED) -/
def execIngressRequest (g : Ingress) (s : State) : Out := .next ((s.take (.ingress g)).meetWindow g)

/-- PCIE_BAR_READ (R478). -/
def execPcieBarRead (f bar a tag : Nat) (s : State) : Out :=
  s.hostAccess f (.barRead f bar a tag) (decide (f = 0 ∧ bar = 0 ∧ a < 0x1000)) (fun s => s.barReply f tag true 0)

/-- PCIE_BAR_WRITE (R477, R478). -/
def execPcieBarWrite (f bar a : Nat) (v : Word) (whole : Bool) (s : State) : Out :=
  s.hostAccess f (.barWrite f bar a v whole) false id

/-- MAILBOX_READ (R479): CMD 1. -/
def execMailboxRead (f : Nat) (s : State) : Out := s.hostAccess f (.mailbox f 1) false id
/-- MAILBOX_WRITE (R479): CMD 2. -/
def execMailboxWrite (f : Nat) (s : State) : Out := s.hostAccess f (.mailbox f 2) false id
/-- MAILBOX_SET_WRITE (R479): CMD 3. -/
def execMailboxSetWrite (f : Nat) (s : State) : Out := s.hostAccess f (.mailbox f 3) false id
/-- MAILBOX_CLEAR_WRITE (R479): CMD 4. -/
def execMailboxClearWrite (f : Nat) (s : State) : Out := s.hostAccess f (.mailbox f 4) false id

/-- NOTICE_READ (R481): a read of word 10 of the function page. -/
def execNoticeRead (f : Nat) (s : State) : Out := s.hostAccess f (.noticeRead f) false (fun s => s.barReply f 0 true 0)

/-- SEVFLAGS (R481): a write of word 12 of the function page. -/
def execSevflags (f : Nat) (v : Word) (s : State) : Out := s.hostAccess f (.sevFlags f v) false id

/-- FUNCTION_LEVEL_RESET (R480). -/
def execFunctionLevelReset (f : Nat) (s : State) : Out :=
  if f ≥ 64 then .fault .absentUnit
  else if s.fnThere f = false then .next s
  else .next (s.outsideInput (.functionReset f))

/-! ### Ethernet and DDR -/

/-- ETH_FRAME_RECEIVE (R483, R484). -/
def execEthFrameReceive (e : Nat) (f : EthFrame) (s : State) : Out :=
  if unitPresent s.member .eths e = false then .fault .absentUnit else .next (s.outsideInput (.eth e f))

/-- ETH_FRAME_TRANSMIT (R484). -/
def execEthFrameTransmit (e : Nat) (ecc : Ecc) (s : State) : Out := onUnit s .eths e (s.ethTake e ecc)

/-- PATROL_SCRUB (R486): the patrol of a trained channel with a period. -/
def execPatrolScrub (d : Nat) (ecc : Ecc) (s : State) : Out :=
  if unitPresent s.member .ddrs d = false then .fault .absentUnit
  else if s.regBit (Reg.ddr d 0) 23 = false ∨ s.regField (Reg.ddr d 3) 8 16 = 0 then .next s
  else .next (s.patrol d ecc)

/-! ### The legacy port -/

/-- LEGACY_READ (R489): `coll` says that a device access to the word overlaps and one of the two writes, `late` that the
legacy side began later (R492). -/
def execLegacyRead (a : BitVec 16) (coll late : Bool) (s : State) : Out := .next (s.outsideInput (.legRead a coll late))

/-- LEGACY_WRITE (R489). -/
def execLegacyWrite (a v : BitVec 16) (coll late : Bool) (s : State) : Out :=
  .next (s.outsideInput (.legWrite a v coll late))

/-- LEGACY_MAILBOX_WRITE (R490): a write of 0x7FFE. -/
def execLegacyMailboxWrite (v : BitVec 16) (coll late : Bool) (s : State) : Out :=
  .next (s.outsideInput (.legWrite 0x7FFE v coll late))

/-- LEGACY_INT_READ (R490): a read of 0x7FFF. -/
def execLegacyIntRead (coll late : Bool) (s : State) : Out := .next (s.outsideInput (.legRead 0x7FFF coll late))

/-- LEGACY_LOCKET_TRY (R396). -/
def execLegacyLocketTry (k : BitVec 3) (s : State) : Out := .next (s.outsideInput (.legTry k))

/-- LEGACY_LOCKET_RELEASE (R396). -/
def execLegacyLocketRelease (k : BitVec 3) (s : State) : Out := .next (s.outsideInput (.legRelease k))

/-- LEG_RST_N (R493): the pin takes a level. -/
def execLegRstN (low : Bool) (s : State) : Out :=
  let s1 := s.setRegField (Reg.legStat 0) 22 1 low.toNat
  .next (if low then s1.legacyStops else s1)

/-- LEGACY_ENABLE (R493, R506): a warden write of LEG.CTL. -/
def execLegacyEnable (q : Req) (v : Word) (s : State) : Out :=
  s.wardenWrite q 0x0DC000 v true (fun s =>
    let s1 := (s.setRegField 0x0DC000 23 1 (v.bit 23).toNat).setRegField 0x0DC000 20 1 (v.bit 20).toNat
    if s.legEnabled && !(v.bit 23) then s1.legacyStops else s1)

/-! ### Pair messages (R592, R594) -/

/-- A pair message arrives; on any other link its KIND is reserved (R474). -/
def State.pairFrame (s : State) (l : Nat) (f : LinkFrame) (k : State → State) : Out :=
  s.frameArrives l true f (fun s => if s.member = .z256d ∧ l ≥ 14 then k s else s.bump (Reg.fslStat 1))

/-- PAIR_INPUT (R592): the shadow applies the input on receipt and acknowledges it. -/
def execPairInput (l : Nat) (f : LinkFrame) (n : Nat) (x : ExtInput) (s : State) : Out :=
  s.pairFrame l f (fun s => if s.pairShadow then (s.applyInput x).sendCtl l (.acknowledge n) else s)

/-- PAIR_ACKNOWLEDGEMENT (R592): the lead applies the input. -/
def execPairAcknowledgement (l : Nat) (f : LinkFrame) (n : Nat) (s : State) : Out :=
  s.pairFrame l f (fun s =>
    match s.pair.inputs.find? (fun e => decide (e.1 = n)) with
    | some e =>
      if s.pairLead then
        State.applyInput { s with pair := { s.pair with inputs := s.pair.inputs.filter (fun x => decide (x.1 ≠ n)) } } e.2
      else s
    | none => s)

/-- Change the held effects. -/
def State.mapEffects (s : State) (g : HeldEffect → HeldEffect) : State :=
  { s with pair := { s.pair with effects := s.pair.effects.map g } }

/-- PAIR_INTENT (R594): the shadow agrees once its own effect exists and the CRCs are equal. -/
def execPairIntent (l : Nat) (f : LinkFrame) (k : PairKey) (crc : BitVec 32) (s : State) : Out :=
  s.pairFrame l f (fun s =>
    if !(s.duplex && s.pairShadow) then s
    else match s.pair.effects.find? (fun e => decide (e.key = k)) with
      | none => { s with pair := { s.pair with intents := s.pair.intents ++ [(k, crc)] } }
      | some e =>
        if e.crc = crc then
          (s.mapEffects (fun (x : HeldEffect) => if x.key = k then { x with agreed := true } else x)).sendCtl l (.agreement k)
        else s.mapEffects (fun (x : HeldEffect) => if x.key = k then { x with differs := true } else x))

/-- The oldest held packet of a queue becomes readable. -/
def State.unhold (s : State) (n : Nat) : State :=
  let k := s.queue n
  match k.held with
  | [] => s
  | p :: rest => (s.setQueue n { k with held := rest }).readable n p

/-- An effect leaves the die. -/
def State.releaseEffect (s : State) (b : Effect) : State :=
  match b with
  | .link node p =>
    match s.routeLink p.hdr.ddev with
    | some l => s.linkSend l p
    | none => s.noRoute node p
  | .eth e bytes tag => s.ethSend e bytes tag
  | .queue n => s.unhold n

/-- Release agreed effects whose stream holds no earlier one; each release is reported in a DONE. (log 56, DEDUCED) -/
def State.releaseAgreed (s : State) : List HeldEffect → List HeldEffect → State
  | [], kept => { s with pair := { s.pair with effects := kept } }
  | e :: es, kept =>
    if e.agreed && !(kept.any (fun x => decide (x.key.kind = e.key.kind ∧ x.key.strm = e.key.strm))) then
      ((s.releaseEffect e.body).sendPair (.finished e.key)).releaseAgreed es kept
    else s.releaseAgreed es (kept ++ [e])

/-- PAIR_AGREEMENT (R594): the lead releases the effect. -/
def execPairAgreement (l : Nat) (f : LinkFrame) (k : PairKey) (s : State) : Out :=
  s.pairFrame l f (fun s =>
    if s.pairLead then
      let s1 := s.mapEffects (fun (x : HeldEffect) => if x.key = k then { x with agreed := true } else x)
      s1.releaseAgreed s1.pair.effects []
    else s)

/-- PAIR_DONE (R594): the shadow drops its copy; a host's packet becomes readable on it too. -/
def execPairDone (l : Nat) (f : LinkFrame) (k : PairKey) (s : State) : Out :=
  s.pairFrame l f (fun s =>
    if s.pairShadow then
      match s.pair.effects.find? (fun e => decide (e.key = k)) with
      | none => s
      | some e =>
        let s1 : State := { s with pair := { s.pair with effects := s.pair.effects.filter (fun x => decide (x.key ≠ k)) } }
        match e.body with
        | .queue n => s1.unhold n
        | _ => s1
    else s)

/-- PAIR_HEARTBEAT (R592): it carries nothing but its frame's ACK. -/
def execPairHeartbeat (l : Nat) (f : LinkFrame) (s : State) : Out := s.pairFrame l f id

/-! ### Disagreements (R593, R594, R598) -/

/-- Microseconds of a window of DEP.PAIR, with the value that 0 stands for. -/
def State.pairUs (s : State) (w lo len dflt : Nat) : Nat :=
  let n := s.regField (Reg.depPair w) lo len
  if n = 0 then dflt else n

/-- Every programmed cell, or every cell of one tenant, enters SAFE. -/
def State.cellsSafe (s : State) (tenant : Option Nat) : State :=
  (List.range (unitCount s.member .cells)).foldl (fun s c =>
    let mine := match tenant with
      | some t => decide (s.cellOwner c = t)
      | none => true
    if mine && s.programmed c && decide (s.cellState c ≠ 0 ∧ s.cellState c ≠ 3 ∧ s.cellState c ≠ 4) then s.cellStops c 3
    else s) s

/-- A disagreement is attributed to a die, or the pair does not guess. `other` says that the other die wrote a detector's
record within DISWIN. (log 54, DEDUCED) -/
def State.attribute (s : State) (kind : Nat) (owner : Option Nat) (other : Bool) : State :=
  let own := match s.pair.detected with
    | some t => decide (s.elapsed ≤ t + usTicks (s.pairUs 3 0 24 100))
    | none => false
  if own && !other then s.dieFault 7 nodeHub
  else if other && !own then s
  else
    let s1 := (s.cellsSafe (if s.regBit (Reg.depPair 0) 17 then owner else none)).setPairState 2
    State.log { s1 with pair := { s1.pair with disagreedAt := some s.elapsed } } 0x78 nodeHub 0 (BitVec.ofNat 24 kind) none

/-- PAD_MISMATCH (R593): a pad has differed from the shadow's level for longer than COMPWIN. (log 55, DESIGN CHOICE) -/
def execPadMismatch (c : Nat) (other : Bool) (s : State) : Out :=
  if unitPresent s.member .cells c = false then .fault .absentUnit
  else if s.duplex = false then .next s
  else .next (((s.bump (Reg.depPair 4)).log 0x74 (nodeBank (cellBank c)) 0 (BitVec.ofNat 24 c) none).attribute 0
    (some (s.cellOwner c)) other)

/-- CAPTURE_DISAGREEMENT (R593): on the shadow, a capture differed or found no match within CAPWAIT. (log 55, DESIGN CHOICE) -/
def execCaptureDisagreement (c : Nat) (other : Bool) (s : State) : Out :=
  if unitPresent s.member .cells c = false then .fault .absentUnit
  else
    let due := fun (e : PairCapture) => decide (e.cell = c)
      && (e.differs || decide (e.since + usTicks (s.pairUs 2 12 12 1) ≤ s.elapsed))
    if s.duplex = false ∨ (s.pairShadow && !(s.pair.captures.any due)) = true then .next s
    else
      let s1 : State := { s with pair := { s.pair with captures := s.pair.captures.filter (fun e => !due e) } }
      .next (((s1.bump (Reg.depPair 5)).log 0x75 (nodeBank (cellBank c)) 0 (BitVec.ofNat 24 c) none).attribute 1
        (some (s.cellOwner c)) other)

/-- EFFECT_DISAGREEMENT (R594): agreement is missing after PAIRWAIT on the lead, or the CRCs differ on the shadow. (log 55, DESIGN CHOICE) -/
def execEffectDisagreement (k : PairKey) (other : Bool) (s : State) : Out :=
  let due := fun (e : HeldEffect) => decide (e.key = k) && (if s.pairLead then
    !e.agreed && decide (e.since + usTicks (s.pairUs 2 0 12 100) ≤ s.elapsed) else e.differs)
  if s.duplex = false ∨ s.pair.effects.any due = false then .next s
  else
    let cls := if k.kind ≤ 2 then 0 else k.kind - 2
    .next (((s.bump (Reg.depPair 6)).log 0x76 nodeHub 0 (BitVec.ofNat 24 (cls * 0x400000 + k.psn % 16384)) none).attribute 2
      (if k.kind ≤ 2 then some (k.strm % 512) else none) other)

/-! ### The end of a pair (R595, R596, Table 18-7) -/

/-- The pair runs, or disagreed no longer than DISWIN ago. -/
def State.pairAlive (s : State) : Bool :=
  decide (s.member = .z256d) && !s.pair.fenced && (decide (s.pairState = 0)
    || (decide (s.pairState = 2) && (match s.pair.disagreedAt with
      | some t => decide (s.elapsed ≤ t + usTicks (s.pairUs 3 0 24 100))
      | none => false)))

/-- The die runs alone from now on. -/
def State.runAlone (s : State) : State :=
  let s1 : State := { s with pair := { s.pair with otherLow := true, captures := [], intents := [], disagreedAt := none } }
  (s1.setPairState 1).setPairRole 2

/-- Commits whose instant lies between the fall of FENCE_N and the takeover instant act at the takeover instant. -/
def State.lateCommits (s : State) (fell : Triple) (at' : Nat) : State :=
  (List.range (unitCount s.member .cells)).foldl (fun s c =>
    let k := s.cell c
    let late := fun (e : Commit) => decide (fell ≤ gridTime e.g) && decide (e.g < at')
    let n := (k.commits.filter late).length
    if n = 0 then s
    else (s.setCell c { k with commits := k.commits.map (fun (e : Commit) => if late e then { e with g := at' } else e) }).bumpBy
      (Reg.depPair 8) n) s

/-- Effects in doubt: posted packets and Ethernet frames that were agreed are discarded; what a host reads was readable; a
frame that was never agreed leaves now. Packets of links wait for their links. -/
def State.effectsAtTakeover (s : State) : State :=
  let lost := fun (e : HeldEffect) => e.agreed && (decide (e.key.kind = 1) || decide (e.key.kind = 3))
  let n := (s.pair.effects.filter lost).length
  let isLink := fun (e : HeldEffect) => match e.body with
    | .link _ _ => true
    | _ => false
  let s1 : State := { s with pair := { s.pair with effects := s.pair.effects.filter (fun e => isLink e && !lost e) } }
  let s2 := (s.pair.effects.filter (fun e => !isLink e && !lost e)).foldl (fun s e => s.releaseEffect e.body) s1
  if n = 0 then s2
  else (s2.bumpBy (Reg.depPair 9) n).log 0x5A nodeHub 0 (BitVec.ofNat 24 (0x800000 + min n 65535)) none

/-- The first grid instant at or after a time. -/
def gridAfter (t : Triple) : Nat := (t.toNat * 1000000000 + 4294967295) / 4294967296

/-- TAKEOVER (R595, R596): the shadow sees FENCE_N low, which fell at TIME `fell`, and becomes the lead. (log 57, DEDUCED) -/
def execTakeover (fell : Triple) (s : State) : Out :=
  if s.pairAlive = false ∨ s.pairRole ≠ 1 then .next s
  else
    let at' := gridAfter (fell + BitVec.ofNat 72 (nsTicks 25))
    let s1 := ((s.runAlone.bump (Reg.depPair 7)).log 0x77 nodeHub 0 (BitVec.ofNat 24 s.die) none).lateCommits fell at'
    let s2 := (s1.effectsAtTakeover).setSrcValid 1 false
    let waits := s2.pair.legWaits
    let s3 : State := { s2 with pair := { s2.pair with legWaits := [], legResults := [] } }
    .next (waits.foldl (fun s e => s.send (.req e.2.1 e.2.2)) s3)

/-- LEAD_SEES_FENCE_N_LOW (R595): the lead goes on alone; inputs that waited for the shadow take effect, and effects that
waited for its agreement leave. -/
def execLeadSeesFenceNLow (s : State) : Out :=
  if s.pairAlive = false ∨ s.pairRole ≠ 0 then .next s
  else
    let ins := s.pair.inputs
    let effs := s.pair.effects
    let s1 := s.runAlone
    let s2 : State := { s1 with pair := { s1.pair with inputs := [], effects := [] } }
    .next (effs.foldl (fun s e => s.releaseEffect e.body) (ins.foldl (fun s e => s.applyInput e.2) s2))

end Sys2Proof.Machine
end

