-- ==== Sys2Proof/Machine/PowerSeq.lean ====
section
/-! DEFINITION. What a reset keeps and sets, the sequencing of the rails, their failures, and the start-up that a wake source or
VAON begins (R420, R520 to R531, R552, R624, Table 17-7). -/

namespace Sys2Proof.Machine

/-! ### Resets (R552, Table 17-7) -/

/-- Registers that a device reset keeps: AON, TKEEP.SECK, DEP.FIRST, and the fuses with the hashes of programmed slots. (log 87, DEDUCED) -/
def State.keepsReg (s : State) (a : Nat) : Bool :=
  decide (0x002000 ≤ a ∧ a < 0x003000) || decide (0x004040 ≤ a ∧ a < 0x004042) || decide (0x00001A ≤ a ∧ a < 0x000020)
    || decide (a = 0x003080)
    || (decide (0x003081 ≤ a ∧ a < 0x0030C1) && s.regBit 0x003080 (20 + (a - 0x003081) / 16))

/-- A flash byte that a write was changing when it was cut off: its value is not stated. -/
def State.garble (s : State) (addr n : Nat) : State :=
  { s with
    free := s.free + 1
    fil := { s.fil with flash := (List.range n).foldl (fun m k =>
      Map.set (fun _ => (0xFF : BitVec 8)) m (addr + k) (Config.flashByte s.free (addr + k))) s.fil.flash } }

/-- A flash operation or record write that a reset cuts off. -/
def State.cutFlash (s : State) : State :=
  let s1 := match s.fil.flashOp with
    | some j => if j.op = 3 then s else s.garble j.addr (3 * j.words)
    | none => s
  match s1.fil.upd with
  | some j => match j.write with
    | some (copy, _) => s1.garble (0x10000 * copy) 96
    | none => s1
  | none => s1

/-- The keeper sets TIME at the end of device reset (R420); the divider's count is not stated. (log 44, DESIGN CHOICE) -/
def State.seedTime (s : State) : State :=
  if s.regBit 0x004040 22 then
    let d := s.draw
    let t := BitVec.ofNat 72 (s.secs * 4294967296 + d.1.toNat % 32768 * 131072)
    { d.2 with clock := { d.2.clock with time := t } }.setRegField 0x004001 17 1 1
  else s

/-- Setpoint and outputs of the VCORE rails return to VOUT_MV of rail 0. -/
def State.coreVolts (s : State) : State :=
  let v := s.regField (Reg.rail 0 2) 0 16
  (List.range 16).foldl (fun s r =>
    if s.regBit (Reg.rail r 0) 23 && decide (s.regField (Reg.rail r 0) 20 3 = 0) && (s.rail r).on then s.setRail r ⟨true, v⟩ else s)
    (s.setRegField 0x001013 0 11 v)

/-- What every kind of reset does. `keep` says that legacy RAM and code stores are kept; a warden reset leaves a fenced die and
a disagreed pair as they are (R588, R598). (log 8, DESIGN CHOICE) -/
def State.deviceReset (s0 : State) (keep warden : Bool) : State :=
  let s := s0.cutFlash
  let stays := warden && (s.pair.fenced || decide (s.pairState = 2))
  let s1 : State := { State.reset with
    pending := s.pending
    member := s.member
    die := s.die
    regs := s.regs.filter (fun e => s.keepsReg e.1)
    free := s.free
    strands := { State.reset.strands with code := if keep then s.strands.code else [] }
    memory := { State.reset.memory with legacy := if keep then s.memory.legacy else [] }
    ports := { State.reset.ports with pins := s.ports.pins }
    jtag := { s.jtag with brk := false }
    power := { s.power with
      target := []
      later := []
      beenOff := []
      retain := []
      seq := none
      release := false }
    pair := { State.reset.pair with fenced := warden && s.pair.fenced, otherLow := s.pair.otherLow }
    fil := { State.reset.fil with flash := s.fil.flash, flashSize := s.fil.flashSize } }
  let s2 := ((s1.setRegField 0x000002 8 1 (s.regBit 0x000002 8).toNat).setRegField 0x003000 19 1
    (decide (s.regField 0x003080 20 4 ≠ 0)).toNat).setRegField (Reg.legStat 0) 22 1 (s.regBit (Reg.legStat 0) 22).toNat
  let s3 := if stays then (s2.setPairState s.pairState).setPairRole s.pairRole else s2
  s3.seedTime.coreVolts

/-! ### Failures of rails and domains (R523 to R526) -/

/-- Words of a DDR channel are lost. -/
def State.ddrLost (s : State) (c : Nat) : State :=
  { s with memory := { s.memory with ddr := s.memory.ddr.filter (fun e => decide (s.ddrChannel e.1 ≠ c)) } }

/-- The unit of a domain stops: what an unpowered unit loses. (log 47, DESIGN CHOICE) -/
def State.unitOff (s : State) (d : Nat) : State :=
  if 0x160 ≤ d ∧ d < 0x180 then s.bankOff (d - 0x160)
  else if 0x180 ≤ d ∧ d < 0x190 then (if s.linkUp (d - 0x180) then s.linkDown (d - 0x180) else s)
  else if 0x1E0 ≤ d ∧ d < 0x1E8 then s.ddrLost (d - 0x1E0)
  else s

/-- A domain goes to FAILED: its node is in HOLD, and what waits for it is answered with STATUS 4. -/
def State.failDomain (s : State) (d : Nat) : State :=
  let p := s.powerOf d
  if domainPresent s.member d = false ∨ p = 5 then s
  else
    let s1 := if p = 0 ∨ p = 3 then s.unitOff d else s
    (nodesOf d).foldl State.failParked (((s1.setPower d 5).setRegField (Reg.pwrDom d) 15 1 0).setNodes d 1)

/-- The domains that a rail feeds on their own: all but those of VCORE and VSRAM, which stop the die. -/
def State.fedDomains (s : State) (r : Nat) : List Nat :=
  (List.range 512).filter (fun d => domainPresent s.member d && s.railFeeds r d)

/-- The rail feeds the spine. -/
def State.spineRail (s : State) (r : Nat) : Bool := decide (s.regField (Reg.rail r 0) 20 3 ≤ 1)

/-- The record of a rail failure; before the event log is ON it waits. -/
def State.logRail (s : State) (r cause : Nat) : State :=
  if s.power.core && !s.spineRail r then s.log 0x60 nodeAon 0 (BitVec.ofNat 24 (r * 0x80000 + cause * 0x10000)) none
  else { s with power := { s.power with owed := s.power.owed ++ [(r, cause)] } }

/-- AON.WSRC word 3 and the record. -/
def State.noteRail (s : State) (r cause : Nat) : State :=
  (s.setReg 0x002005 (BitVec.ofNat 24 (0x800000 + r * 0x80000 + cause * 0x10000))).logRail r cause

/-- OPERATION off. -/
def State.railOff (s : State) (r : Nat) : State := s.setRail r { s.rail r with on := false }

/-- Every rail goes off; the registers of a rail that is off read OFF. -/
def State.railsOff (s : State) : State :=
  (List.range 16).foldl (fun s r => if (s.rail r).on then (s.railOff r).setRailState r 0 else s) s

/-- The core is in reset and loses its supplies: all that it holds is lost. -/
def State.coreOff (s : State) : State :=
  let s1 := s.deviceReset false false
  { s1 with power := { s1.power with core := false } }

/-- R525: every rail goes off and the die enters standby; the next wake source starts the whole sequence again. -/
def State.powerStop (s : State) : State :=
  let s1 := s.railsOff.coreOff
  { s1 with power := { s1.power with standby := 2, latched := none, stopped := true } }

/-! ### The sequence of the rails (R521) -/

def State.railEn (s : State) (r : Nat) : Bool := s.regBit (Reg.rail r 0) 23
def State.railOrder (s : State) (r : Nat) : Nat := s.regField (Reg.rail r 1) 12 4

/-- The rails of an ORDER that are enabled and OFF. -/
def State.orderRails (s : State) (o : Nat) : List Nat :=
  (List.range 16).filter (fun r => s.railEn r && decide (s.railOrder r = o) && decide (s.railState r = 0))

/-- The lowest ORDER from `k` on with a rail to start. -/
def State.nextOrder (s : State) (k : Nat) : Option Nat :=
  (List.range 16).find? (fun o => decide (k ≤ o) && !(s.orderRails o).isEmpty)

/-- Every domain that a FAILED rail feeds is FAILED. -/
def State.applyFailed (s : State) : State :=
  (List.range 16).foldl (fun s r =>
    if s.railEn r && decide (s.railState r = 4) && !s.spineRail r then (s.fedDomains r).foldl State.failDomain s else s) s

/-- Reset is released: the boot goes on at row 3 of Table 17-8. -/
def State.releaseReset (s : State) : State :=
  let owed := s.power.owed
  let s1 : State := { s with power := { s.power with core := true, release := false, owed := [] } }
  let s2 := (s1.deviceReset false false).applyFailed
  owed.foldl (fun s e => s.logRail e.1 e.2) s2

/-- The rails of the next ORDER from `k` on start together; after the last one the sequence is over. -/
def State.seqFrom (s : State) (k : Nat) : State :=
  match s.nextOrder k with
  | some o =>
    let s1 := (s.orderRails o).foldl (fun s r => s.railAttempt r 1) s
    { s1 with power := { s1.power with seq := some o } }
  | none =>
    let s1 : State := { s with power := { s.power with seq := none } }
    if s.power.release then s1.releaseReset else s1

/-- The sequence moves on once each rail of its ORDER is ON or FAILED. -/
def State.seqCheck (s : State) : State :=
  match s.power.seq with
  | none => s
  | some o =>
    if (List.range 16).any (fun r => s.railEn r && decide (s.railOrder r = o)
      && (decide (s.railState r = 1) || decide (s.railState r = 3))) then s
    else s.seqFrom (o + 1)

/-- A power-up starts every rail again, those that were FAILED too. -/
def State.setFailedOff (s : State) : State :=
  (List.range 16).foldl (fun s r => if s.railState r = 0 then s else s.setRailState r 0) s

/-- Row 1 of Table 17-8: the sequencer brings up every rail, then reset is released. -/
def State.powerUp (s : State) : State :=
  let s1 : State := { s with power := { s.power with standby := 0, latched := none, stopped := false, release := true } }
  s1.railsOff.setFailedOff.seqFrom 0

/-! ### SOFTSTART (R523) -/

/-- An attempt fails. (log 85, DEDUCED) -/
def State.attemptFails (s : State) (r cause : Nat) : State :=
  let s1 := (s.railOff r).setRegField (Reg.rail r 3) 16 3 cause
  if s.regField (Reg.rail r 3) 19 2 < 3 then s1.setRailState r 3
  else
    let s2 := (s1.setRailState r 4).noteRail r cause
    if s.spineRail r then s2.powerStop else ((s.fedDomains r).foldl State.failDomain s2).seqCheck

/-- The rail is ON: its FAILED domains return to OFF. -/
def State.railOn (s : State) (r : Nat) : State :=
  let s1 := s.setRailState r 2
  ((s.fedDomains r).foldl (fun s d =>
    if s.powerOf d = 5 then { s with power := { s.power with target := Map.set (fun _ => 0) s.power.target d 2 } }.setPower d 2
    else s) s1).seqCheck

/-- A rail fails at run time (R526): its first attempt has failed, and its domains are FAILED from now on. (log 85, DEDUCED) -/
def State.railFails (s : State) (r cause : Nat) : State :=
  let s1 := ((((s.railOff r).setRegField (Reg.rail r 3) 16 3 cause).setRegField (Reg.rail r 3) 19 2 1).setRailState r 3).noteRail
    r cause
  if s.spineRail r then s1.powerStop else (s.fedDomains r).foldl State.failDomain s1

/-! ### Wake sources (R530, R531) -/

/-- Words 0 to 2 of AON.WSRC. (log 86, DEDUCED) -/
def State.noteWake (s : State) (src code : Nat) (replayed : Bool) : State :=
  let secs := if s.regBit 0x004040 23 then s.secs else 0
  ((s.setReg 0x002002 (BitVec.ofNat 24 (src * 0x200000 + replayed.toNat * 0x100000 + code % 256 * 0x1000))).setReg 0x002003
    (BitVec.ofNat 24 (secs / 16777216 % 65536))).setReg 0x002004 (BitVec.ofNat 24 secs)

/-- A wake source: it is latched during standby entry and starts the power-up in standby. After R525 it restarts the sequence. (log 86, DEDUCED) -/
def State.wakeDie (s : State) (src code : Nat) : State :=
  match s.power.standby with
  | 1 => if s.power.latched.isSome then s else { s with power := { s.power with latched := some (src, code) } }
  | 2 => (s.noteWake (if s.power.stopped then 4 else src) code false).powerUp
  | _ => s

end Sys2Proof.Machine
end

