-- ==== Sys2Proof/Machine/Power.lean ====
section
/-! DEFINITION. Commands of the power domains, the rails, the governor, standby and the resets (R509 to R531, R552, R562, R570,
R624). -/

namespace Sys2Proof.Machine

/-! ### Leaving ON (R511, R512) -/

/-- Contexts of a pavilion that are occupied. -/
def State.pavBusy (s : State) (p : Nat) : Bool :=
  s.strands.ctxs.any (fun e => decide (e.1 / 16 = p) && decide (e.2.state ≠ .free))

/-- A descriptor maps DDR, or a task record lies there. -/
def State.ddrMapped (s : State) : Bool :=
  s.regs.any (fun e => decide (0x040000 ≤ e.1 ∧ e.1 < 0x050000 ∧ e.1 % 2 = 0) && decide (Word.field e.2 20 4 = 4)
    && decide (Word.field e.2 0 13 ≠ 0))
  || s.regs.any (fun e => decide (0x05C000 ≤ e.1 ∧ e.1 < 0x05D000) && Word.bit e.2 23)

/-- Preconditions of Table 16-2 for leaving ON to RET (1) or OFF (2). -/
def State.mayLeave (s : State) (d target : Nat) : Bool :=
  if d < 0x100 then
    let ret := !s.pavBusy d && (s.pq d).isEmpty
    if target = 1 then ret
    else ret && !(s.hub.tasks.any (fun e => decide (e.2.st ≠ .free) && decide (e.2.homepav = d))) && !(s.power.retain.contains d)
  else if target = 1 then
    decide (0x1E0 ≤ d ∧ d < 0x1E8) && !(s.net.outst.any (fun o => decide (o.q.dest = d)))
  else if d < 0x140 then
    let sl := d - 0x100
    !(s.store.frames.any (fun e => e.2.alloc && decide (s.sliceOf e.1 = sl)))
      && !(s.store.groups.any (fun e => decide (e.1 / 4096 = sl) && decide (e.2.gst = .held ∨ e.2.gst = .handed)))
      && decide (s.regField 0x008000 7 7 = 0)
      && !(s.banks.queues.any (fun e => decide (e.1 % sliceCount s.member = sl) && decide (Queue.words e.2 + e.2.openW.length > 64)))
  else if d = 0x150 then false
  else if d < 0x180 then true
  else if d < 0x190 then decide (s.linkState (d - 0x180) = 0)
  else if d < 0x194 then !(s.regBit (Reg.eth (d - 0x190) 0) 23)
  else if 0x1E0 ≤ d ∧ d < 0x1E8 then !(s.net.outst.any (fun o => decide (o.q.dest = d))) && !s.ddrMapped
  else if d = nodeLegacy then !s.legEnabled
  else false

/-- The deepest state that DEEP allows and whose preconditions hold: 1 RET, 2 OFF. -/
def State.deepest (s : State) (d : Nat) : Option Nat :=
  let deep := s.regField (Reg.pwrDom d) 18 2
  if deep ≥ 2 ∧ s.mayLeave d 2 then some 2 else if deep ≥ 1 ∧ s.mayLeave d 1 then some 1 else none

/-- The node awaits no response, and its state flush is complete. -/
def State.drained (s : State) (d : Nat) : Bool :=
  !(s.net.outst.any (fun o => decide (o.q.node = d))) && (decide (d ≥ 0x100) || s.cacheClean d)

/-- NODE_DRAIN (R360), as far as it has come: FENCING once nothing is due to the node. -/
def State.drainNode (s : State) (d : Nat) : State :=
  if s.drained d && decide (s.nodeState d = 0) then s.setNodes d 2 else s

/-- Entry starts: the domain leaves the candidate set, and a pavilion flushes its state cache. (log 46, DEDUCED) -/
def State.startEntry (s : State) (d target : Nat) : State :=
  let s1 : State := { s with power := { s.power with target := Map.set (fun _ => 0) s.power.target d target } }
  let s2 := s1.setPower d 3
  (if d < 0x100 then s2.flushStart d else s2).drainNode d

/-- DOMAIN_IDLE_ENTRY (R511): the domain has met its preconditions for its idle period. -/
def execDomainIdleEntry (d : Nat) (s : State) : Out :=
  if domainPresent s.member d = false then .fault .absentUnit
  else if s.power.core = false ∨ s.regBit 0x001000 23 = false ∨ s.regField (Reg.pwrDom d) 0 12 = 0 ∨ s.powerOf d ≠ 0
      ∨ (0x160 ≤ d ∧ d < 0x180) then .next s
  else match s.deepest d with
    | some t => .next (s.startEntry d t)
    | none => .next s

/-- A REQ to RET or OFF acts if its preconditions hold, waits for a wake under way, or is refused. (log 46, DEDUCED) -/
def State.askLeave (s : State) (d target : Nat) : State :=
  let p := s.powerOf d
  if p = 4 then { s with power := { s.power with later := Map.set (fun _ => 0) s.power.later d target } }
  else if (p = 0 ∨ p = 3) ∧ s.mayLeave d target ∧ s.pavOut d = false then
    (if p = 3 then { s with power := { s.power with target := Map.set (fun _ => 0) s.power.target d target } }
     else s.startEntry d target)
  else s.bump (Reg.pwrStat 4)

/-- A write of PWR.DOM[d] also sets DEEP and IDLE. -/
def State.writeDom (s : State) (d : Nat) (v : Word) : State :=
  (s.setRegField (Reg.pwrDom d) 18 2 (v.field 18 2)).setRegField (Reg.pwrDom d) 0 12 (v.field 0 12)

/-- A warden write of PWR.DOM[d] whose REQ is `req`. -/
def State.reqWrite (s : State) (q : Req) (d : Nat) (v : Word) (req : Nat) (act : State → State) : Out :=
  s.wardenWrite q (Reg.pwrDom d) v (decide (d < 512 ∧ v.field 16 2 = req)) (fun s =>
    let s1 := s.writeDom d v
    if domainPresent s.member d then act s1 else s1)

/-- REQ_RET (R511, R519). -/
def execReqRet (q : Req) (d : Nat) (v : Word) (s : State) : Out := s.reqWrite q d v 1 (fun s => s.askLeave d 1)
/-- REQ_OFF (R511, R519). -/
def execReqOff (q : Req) (d : Nat) (v : Word) (s : State) : Out := s.reqWrite q d v 2 (fun s => s.askLeave d 2)
/-- REQ_WAKE (R513). -/
def execReqWake (q : Req) (d : Nat) (v : Word) (s : State) : Out := s.reqWrite q d v 3 (fun s => s.askWake d)

/-! ### The end of an entry (R510, R512, R518, R522) -/

/-- OFFIDLE rails whose domains are all OFF go off. -/
def State.idleRails (s : State) (d : Nat) : State :=
  (List.range 16).foldl (fun s r =>
    if s.railFeeds r d && s.offIdle r && decide (s.railState r = 2) && (s.fedDomains r).all (fun e => decide (s.powerOf e = 2)) then
      (s.railOff r).setRailState r 0 else s) s

/-- What a slice loses in OFF: its slots and group descriptors (R110, R510). (log 47, DESIGN CHOICE) -/
def State.sliceOff (s : State) (sl : Nat) : State :=
  { s with store := { s.store with
    slots := s.store.slots.filter (fun e => decide (e.1 / 65536 ≠ sl))
    groups := s.store.groups.filter (fun e => decide (e.1 / 4096 ≠ sl)) } }

/-- The switch of a domain opens. -/
def State.switchOpens (s : State) (d : Nat) : State :=
  let target := Map.get (fun _ => 0) s.power.target d
  let s1 := (s.setPower d target).bump (Reg.pwrStat 0)
  let s2 := if target ≠ 2 then s1
    else if 0x100 ≤ d ∧ d < 0x140 then s1.sliceOff (d - 0x100)
    else s1.unitOff d
  let s3 : State := if target ≠ 2 then s2 else
    { s2 with power := { s2.power with beenOff := s2.power.beenOff ++ (nodesOf d).filter (fun n => decide (s.nodeState n = 3)) } }
  let s4 := if target = 2 then s3.idleRails d else s3
  if s4.regBit (Reg.pwrDom d) 15 then ((s4.setRegField (Reg.pwrDom d) 15 1 0).bump (Reg.pwrStat 3)).startWake d else s4

/-- The last row of Table 11-9: the node is in HOLD. A request that was parked meanwhile is a wake cause that came after it. -/
def State.holdNode (s : State) (d : Nat) : State :=
  let s1 := s.setNodes d 1
  if s.net.parked.any (fun k => decide (domainOf k.q.dest = d)) then s1.setRegField (Reg.pwrDom d) 15 1 1 else s1

/-! ### The end of a fence (R584, R586) -/

/-- A pavilion is retired. (log 51, DESIGN CHOICE) -/
def State.retirePav (s : State) (p : Nat) : State :=
  ((s.setRegField (Reg.depPav p) 22 2 3).setReg 0x000023 (BitVec.ofNat 24 (min 511 (s.regField 0x000023 0 9 + 1)))).log 0x71 p 0
    (BitVec.ofNat 24 (256 + s.regField (Reg.depPav p) 0 8)) none

/-- The end of a fence: the node is isolated, the cache that could not be written back is left to R324, the domain is OFF,
and the self-test begins unless the pavilion retires. -/
def State.fenceEnds (s : State) (p : Nat) : State :=
  let s1 := (s.isolate p).setCache p Cache.empty
  let s2 : State := { s1 with net := { s1.net with
    outst := s1.net.outst.map (fun (o : Outst) => if o.q.node = p then ({ o with who := .dropped } : Outst) else o) } }
  let s3 : State := { s2 with power := { s2.power with target := Map.set (fun _ => 0) s2.power.target p 2 } }
  let s4 := (s3.setRegField (Reg.pwrDom p) 15 1 0).switchOpens p
  if s4.regField (Reg.depPav p) 22 2 = 3 then s4.retirePav p else s4.setRegField (Reg.depPav p) 22 2 2

/-- DOMAIN_ENTRY_COMPLETE (R512): the drain ends, and where `opened` is set the power switch has opened too. A context that
became occupied meanwhile abandons the entry. The entry of a fenced pavilion ends its fence (Table 18-4). (log 46, DEDUCED) -/
def execDomainEntryComplete (d : Nat) (opened : Bool) (s : State) : Out :=
  if domainPresent s.member d = false then .fault .absentUnit
  else if s.powerOf d ≠ 3 then .next s
  else if s.pavOut d then .next (if opened then s.fenceEnds d else s)
  else if d < 0x100 ∧ s.pavBusy d then .next (((s.setPower d 0).bump (Reg.pwrStat 2)).openNodes d)
  else if s.drained d = false then .next s
  else
    let s1 := if s.nodeState d = 1 then s else s.holdNode d
    .next (if opened then s1.switchOpens d else s1)

/-! ### The end of a wake (R110, R292, R513 to R519) -/

/-- The frame-number entries of a slice that pools hold: ALLOC 0, QUAR 1, GEN 0, and the quarantine starts. (log 47, DESIGN CHOICE) -/
def State.sliceWakes (s : State) (sl : Nat) : State :=
  let ks := (s.store.pools.map Prod.fst).filter (fun k => decide (k / 256 = sl))
  ks.foldl (fun s k =>
    let p := s.pool k
    (p.frames.foldl (fun s f => (s.setFrame f { s.frame f with alloc := false, quar := true, gen := 0 }).startQuar f) s).setPool k
      { p with free := [] }) s

/-- A pavilion wakes from OFF: scratchpad, spares and written bits are clear. -/
def State.pavWakes (s : State) (p : Nat) : State :=
  { s with memory := { s.memory with
    spad := s.memory.spad.filter (fun e => decide (e.1 / 65536 ≠ p))
    written := s.memory.written.filter (fun e => decide (e.1 / 8192 ≠ p))
    poisoned := s.memory.poisoned.filter (fun e => decide (e.1 / 65536 ≠ p))
    tester := s.memory.tester.filter (fun e => decide (e.1 ≠ p)) } }

/-- The unit of a domain runs again. -/
def State.unitOn (s : State) (d : Nat) (ret : Bool) : State :=
  if ret then s
  else if d < 0x100 then s.pavWakes d
  else if d < 0x140 then s.sliceWakes (d - 0x100)
  else if 0x160 ≤ d ∧ d < 0x180 then s.bankOn (d - 0x160)
  else if 0x180 ≤ d ∧ d < 0x190 then
    (if s.regBit (Reg.fslLink (d - 0x180) 0) 21 then s.enterLink (d - 0x180) 1 else s)
  else s

/-- Every OFFIDLE rail that feeds the domain is ON. -/
def State.railsReady (s : State) (d : Nat) : Bool :=
  (List.range 16).all (fun r => !(s.railFeeds r d && s.offIdle r) || decide (s.railState r = 2))

/-- DOMAIN_WAKE_COMPLETE (R515, R517): the domain is ON and its parked requests go on. A REQ that came during the wake acts. -/
def execDomainWakeComplete (d : Nat) (s : State) : Out :=
  if domainPresent s.member d = false then .fault .absentUnit
  else if s.powerOf d ≠ 4 ∨ s.railsReady d = false then .next s
  else
    let ret := decide (Map.get (fun _ => 0) s.power.target d = 1)
    let s1 := ((s.setPower d 0).unitOn d ret).bump (Reg.pwrStat 1)
    let s2 := s1.openNodes d
    let l := Map.get (fun _ => 0) s2.power.later d
    let s3 : State := { s2 with power := { s2.power with later := Map.set (fun _ => 0) s2.power.later d 0 } }
    .next (if l = 0 then s3 else s3.askLeave d l)

/-! ### Rails (R523, R526, R527) -/

/-- RAIL_POLL: the status of a ramping rail: VOUT_UV_FAULT, IOUT_OC_FAULT, POWER_GOOD# low (`good`), the level of its PWR_PG
pin, and the cause of a PMBus failure (5 VOUT_MODE not linear, 6 the third NAK or PEC error, else 0). (log 85, DEDUCED) -/
def execRailPoll (r : Nat) (uv oc good pin : Bool) (err : Nat) (s : State) : Out :=
  if r ≥ 16 then .fault .absentUnit
  else if s.railState r ≠ 1 then .next s
  else if err = 5 ∨ err = 6 then .next (s.attemptFails r err)
  else if uv then .next (s.attemptFails r 1)
  else if oc then .next (s.attemptFails r 2)
  else if good && (decide (s.regField (Reg.rail r 1) 8 4 = 15) || pin) then .next (s.railOn r)
  else .next s

/-- RAIL_TIMEOUT: TMO_MS has passed. -/
def execRailTimeout (r : Nat) (s : State) : Out :=
  if r ≥ 16 then .fault .absentUnit
  else if s.railState r ≠ 1 then .next s
  else .next (s.attemptFails r 3)

/-- RAIL_PAUSE_END: the next attempt begins. -/
def execRailPauseEnd (r : Nat) (s : State) : Out :=
  if r ≥ 16 then .fault .absentUnit
  else if s.railState r ≠ 3 then .next s
  else .next (s.railAttempt r (s.regField (Reg.rail r 3) 19 2 + 1))

/-- PGOOD_FALL (R526). -/
def execPgoodFall (r : Nat) (s : State) : Out :=
  if r ≥ 16 then .fault .absentUnit
  else if s.railState r ≠ 2 ∨ s.regField (Reg.rail r 1) 8 4 = 15 then .next s
  else .next (s.railFails r 4)

/-- PMB_ALERT (R526): PMB_ALERT_N falls; `st` gives the rails that report UV (first flag) or OC. -/
def execPmbAlert (st : List (Nat × Bool × Bool)) (s : State) : Out :=
  .next ((List.range 16).foldl (fun s r =>
    match st.find? (fun e => decide (e.1 = r)) with
    | none => s
    | some (_, uv, oc) =>
      if s.railState r ≠ 2 then s else if uv then s.railFails r 1 else if oc then s.railFails r 2 else s) s)

/-- A whole write of AON.RAIL[r]. -/
def State.writeRail (s : State) (r : Nat) (ws : List (Nat × Word)) : State :=
  ws.foldl (fun s e =>
    if e.1 = 3 then s.setRegField (Reg.rail r 3) 14 1 (e.2.bit 14).toNat
    else if e.1 = 0 then s.setReg (Reg.rail r 0) (e.2 &&& 0xFFFFF8)
    else s.setReg (Reg.rail r e.1) e.2) s

/-- CLR (R527, R541): a write of AON.RAIL[r] with CLR 1; it retries a FAILED rail. -/
def execRailClr (q : Req) (r : Nat) (v : Word) (s : State) : Out :=
  if r ≥ 16 then .fault .absentUnit
  else s.wardenWhole q (Reg.rail r 0) 4 v (fun ws => (wrote ws 3).bit 15) (fun s ws =>
    let s1 := s.writeRail r ws
    if s1.railState r = 4 then s1.railAttempt r 1 else s1)

/-! ### The governor (R528, R529) -/

/-- VSET_MV takes a value, clamped to the range FLOOR_MV to 900, which goes to every VCORE rail. (log 88, DESIGN CHOICE) -/
def State.setVset (s : State) (v : Int) : State :=
  let n := (max (s.regField 0x001010 12 11 : Int) (min v 900)).toNat
  (List.range 16).foldl (fun s r =>
    if s.railEn r && decide (s.regField (Reg.rail r 0) 20 3 = 0) then s.setRail r { s.rail r with vout := n } else s)
    (s.setRegField 0x001013 0 11 n)

/-- GOVERN. (log 88, DESIGN CHOICE) -/
def execGovern (s : State) : Out :=
  if s.regBit 0x001010 23 = false then .next s
  else
    let m := (List.range 512).foldl (fun (a : Int) t => min a (s.reg (Reg.tslack t)).toInt) 8388607
    let s1 := (List.range 512).foldl (fun s t => s.setReg (Reg.tslack t) 0x7FFFFF) s
    let s2 := s1.setReg 0x001014 (BitVec.ofInt 24 m)
    let old := s2.regField 0x001013 0 11
    let th := (s2.reg 0x001011).toInt
    let v : Int := if m > th then (old : Int) - s2.regField 0x001012 8 8
      else if m < th then (old : Int) + s2.regField 0x001012 16 8 else old
    let s3 := s2.setVset v
    .next (if s3.regField 0x001013 0 11 = old then s2 else s3.bump 0x001015)

/-- VSET_MV (R529): a warden write of PWR.GOV word 3. -/
def execVsetMv (q : Req) (v : Word) (s : State) : Out :=
  s.wardenWrite q 0x001013 v true (fun s => s.setVset (v.field 0 11))

/-! ### Standby and wake (R530, R531) -/

/-- STANDBY_ENTRY (R538): KEY 0xA5C in AON.SBY; the core goes into reset. (log 86, DEDUCED) -/
def execStandbyEntry (q : Req) (v : Word) (s : State) : Out :=
  s.wardenLast q 0x002001 v (decide (v.field 12 12 = 0xA5C)) (fun s =>
    let s1 := s.coreOff
    { s1 with power := { s1.power with standby := 1, latched := none } })

/-- STANDBY_COMPLETE: the rails are off and the oscillator stops; a latched source is replayed. -/
def execStandbyComplete (s : State) : Out :=
  if s.power.standby ≠ 1 then .next s
  else
    let s1 := s.railsOff
    let s2 : State := { s1 with power := { s1.power with standby := 2, stopped := false } }
    match s.power.latched with
    | none => .next s2
    | some (src, code) => .next (s2.noteWake src code true).powerUp

/-- WAKE_N: a falling edge on the pin. -/
def execWakeN (s : State) : Out := .next (if s.regBit 0x002000 15 then s.wakeDie 2 0 else s)

/-- ALARM: SECS reaches AON.ALARM. -/
def execSecondsAlarm (s : State) : Out :=
  let alarm := s.regField 0x002006 0 16 * 16777216 + (s.reg 0x002007).toNat
  .next (if s.regBit 0x002000 14 && s.regBit 0x004040 23 && decide (s.secs = alarm) then s.wakeDie 3 0 else s)

/-- I2C_WAKE (R494): a matching address with a data byte is the wake code, and raises a wake. -/
def execI2cWake (addr : BitVec 7) (data : BitVec 8) (s : State) : Out :=
  if s.regBit 0x002000 23 = false ∨ s.regField 0x002000 16 7 ≠ addr.toNat then .next s
  else .next (if s.power.standby = 0 then s.setRegField 0x002002 12 8 data.toNat else s.wakeDie 1 data.toNat)

/-- I2C_STATUS_READ (R494): a read of the wake port returns I2CSTAT on the bus; no state changes but the byte returned. -/
def execI2cStatusRead (addr : BitVec 7) (s : State) : Out :=
  if s.regBit 0x002000 23 = false ∨ s.regField 0x002000 16 7 ≠ addr.toNat then .next s
  else .next { s with i2cOut := some (BitVec.ofNat 8 (s.regField 0x002000 0 8)) }

/-! ### Resets (R552, R562, R570, R624) -/

/-- VAON_APPLIED (R624): a power-on reset; the sequencer starts with the boot entries of Table 16-6. (log 87, DEDUCED) -/
def execVaonApplied (s : State) : Out :=
  let s1 := s.coreOff
  let s2 : State := { s1 with
    regs := s1.regs.filter (fun e => decide (0x003080 ≤ e.1 ∧ e.1 < 0x0030C1))
    jtag := State.reset.jtag
    power := { State.reset.power with core := false, rails := s.power.rails } }
  .next s2.powerUp

/-- VAON_LOSS (R624, R595): the core is reset, and the always-on domain loses its registers, the FAULT latch and the second
count. -/
def execVaonLoss (s : State) : Out :=
  let s1 := s.coreOff
  .next { s1 with
    regs := s1.regs.filter (fun e => decide (0x003080 ≤ e.1 ∧ e.1 < 0x0030C1))
    jtag := State.reset.jtag
    power := { State.reset.power with vaon := false, core := false, rails := s.power.rails } }

/-- A reset that starts at row 3 of Table 17-8. (log 87, DEDUCED) -/
def State.warmReset (s : State) (warden : Bool) : State := (s.deviceReset true warden).applyFailed

/-- RST_N (R552, R625): the pin has been low for 1 µs; in standby and during its entry it is ignored. -/
def execRstN (s : State) : Out := .next (if s.power.core then s.warmReset false else s)

/-- WARDEN_RESET (R570): KEY 0x5E7 in FIL.RESET. The reset takes the write's answer with it. -/
def execWardenReset (q : Req) (v : Word) (s : State) : Out :=
  s.wardenLast q 0x003002 v (decide (v.field 12 12 = 0x5E7)) (fun s => s.warmReset true)

/-- TRIAL_EXPIRY (R562): the trial timer has run out without a CONFIRM. -/
def execTrialExpiry (s : State) : Out :=
  match s.fil.trialEnd with
  | some t => .next (if t ≤ s.elapsed then s.warmReset false else s)
  | none => .next s

end Sys2Proof.Machine
end

