-- ==== Sys2Proof/Machine/RegOps.lean ====
section
/-! DEFINITION. Reads and writes of device registers: words that the units hold rather than the register file, what a
write or the filigree loader sets, snapshots and whole writes of wide registers, and who may reach them (R14 to R19,
R278 to R280, R545). -/

namespace Sys2Proof.Machine

/-! ### Words that the units hold -/

/-- STATE of a task (Table 4-5). -/
def TaskState.code : TaskState → Nat
  | .free => 0
  | .reserved => 1
  | .ready => 2
  | .running => 3
  | .waitEv => 4
  | .waitTime => 5
  | .waitAlloc => 6

/-- STATE of a context (Table 7-6). -/
def CtxState.code : CtxState → Nat
  | .free => 0
  | .preload => 1
  | .restoring => 2
  | .issuing => 3
  | .ready => 4
  | .longwait => 5
  | .suspended => 6
  | .saving => 7
  | .halted => 8

/-- A word from fields: (low bit, value), each value within its field. -/
def fields (fs : List (Nat × Nat)) : Word := fs.foldl (fun w f => w ||| BitVec.ofNat 24 (f.2 <<< f.1)) 0

/-- PIPE.CTXST (R248). -/
def Context.statusWord (x : Context) : Word :=
  fields [(20, x.state.code), (19, x.inAlert.toNat), (18, x.micro.isSome.toNat), (12, x.wgrp % 64), (0, x.tenant % 512)]

/-- Word `w` of DISP.TASK (R162). -/
def Task.regWord (x : Task) (w : Nat) : Word :=
  match w with
  | 0 => fields [(21, x.st.code), (12, x.owner % 512), (6, x.wgrp % 64), (5, x.valid.toNat)]
  | 1 => x.evf
  | 2 => x.evm
  | _ => fields [(16, x.lastpav % 256), (8, x.homepav % 256)]

/-- DISP.FLOW (R161). -/
def Flow.regWord (x : Flow) : Word :=
  fields [(23, x.busy.toNat), (22, x.affv.toNat), (12, x.owner % 512), (0, x.lastpav % 256)]

/-- Granules of a slice's free frame numbers (R115). -/
def State.freeGran (s : State) (sl : Nat) : Nat :=
  (s.store.pools.filter (fun e => decide (e.1 / 256 = sl))).foldl
    (fun n e => n + e.2.size * e.2.free.length) 0

/-- Frame numbers of a slice in quarantine (R115). -/
def State.quarantined (s : State) (sl : Nat) : Nat :=
  (s.store.frames.filter (fun e => e.2.quar && decide (s.sliceOf e.1 = sl))).length

/-- Entries in the ready lists of a port (R159). -/
def State.readyUse (s : State) (r : Nat) : Nat :=
  (s.hub.rl.filter (fun e => decide (e.1 / 64 = r))).foldl (fun n e => n + e.2.length) 0

/-- All input ports of the member (Table 11-2). -/
def inputPorts : Member → Nat
  | .z16 => 39
  | .z64 => 119
  | _ => 432

/-- Word `w` of the map at `b`, register address `a`, as it reads now. -/
def State.liveWord (s : State) (b w a : Nat) : Word :=
  let m := s.member
  if b = 0x000000 then
    if w = 1 then fields [(12, (decide (m = .z256d)).toNat), (11, s.die % 2), (0, 0x4B3)] else s.reg a
  else if b = 0x000010 then (if w = 0 then BitVec.ofNat 24 s.evlog.length else s.reg a)
  else if b = 0x000014 then ((s.evlog.head?.map (fun e => e.words.getD w 0)).getD 0)
  else if b = 0x000040 then (if m = .z256d then s.reg a else 0)
  else if b = 0x004002 then s.time.word w
  else if b = 0x004005 then s.clock.elapsed.word w
  else if b = 0x006000 then
    fields [(16, match m with | .z16 => 0 | .z64 => 2 | _ => 4), (0, s.stateSize / 4096 % 4096)]
  else if b = 0x007000 then
    fields [(16, unitCount m .clusters), (12, match m with | .z16 => 1 | .z64 => 3 | _ => 7), (0, inputPorts m)]
  else if b = 0x007100 then
    let c := (a - 0x007100) / 16
    if w = 0 then fields [(2, clusterX m c), (0, clusterY m c)]
    else if w = 9 then BitVec.ofNat 24 (s.parkedAt c).length
    else s.reg a
  else if b = 0x007400 then
    let n := a - 0x007400
    if nodePresent m n then (s.reg a).setField 0 6 (nodePort m n) else s.reg a
  else if b = 0x009000 then
    let sl := (a - 0x009000) / 16
    match w with
    | 9 => BitVec.ofNat 24 (s.freeGran sl)
    | 10 => BitVec.ofNat 24 (s.firedQ (2 * sl)).length
    | 11 => BitVec.ofNat 24 (s.firedQ (2 * sl + 1)).length
    | 12 => BitVec.ofNat 24 (s.quarantined sl)
    | _ => s.reg a
  else if b = 0x00C100 then
    if w = 6 then BitVec.ofNat 24 (s.readyUse ((a - 0x00C100) / 8)) else s.reg a
  else if b = 0x010000 then (s.flow (a - 0x010000)).regWord
  else if b = 0x018000 then (s.task ((a - 0x018000) / 4)).regWord w
  else if b = 0x020000 then fields [(11, 1), (0, unitCount m .queues)]
  else if b = 0x020400 then
    let k := s.queue ((a - 0x020400) / 16)
    match w with
    | 3 => BitVec.ofNat 24 k.words
    | 4 => BitVec.ofNat 24 k.openW.length
    | 5 => k.putOwner
    | 6 => k.getOwner
    | 7 => BitVec.ofNat 24 k.packets.length
    | _ => s.reg a
  else if b = 0x028000 then (s.reg a) ||| BitVec.ofNat 24 (unitCount m .lockets)
  else if b = 0x028100 then
    let g := (a - 0x028100) / 8
    if w = 4 then (s.reg a).setField 22 1 (decide (g + 1 = unitCount m .lockets)).toNat else s.reg a
  else if b = 0x029000 then
    let k := s.locket ((a - 0x029000) / 2)
    if w = 0 then k.owner else fields [(22, k.st % 4), (16, k.waiters.length), (0, k.hcount.toNat)]
  else if b = 0x088000 then (if w = 8 then s.cellStatus ((a - 0x088000) / 32) else s.reg a)
  else if b = 0x0C0100 then
    let l := (a - 0x0C0100) / 8
    if w = 0 then (s.reg a).setField 19 1 (decide (m = .z256d ∧ l ≥ 14)).toNat else s.reg a
  else s.reg a

/-- A word of a pavilion page as it reads now: map offset `b`, word `w`, address `a`. -/
def State.livePavWord (s : State) (b w a : Nat) : Word :=
  let p := (a - 0x800000) / 0x8000
  let off := (a - 0x800000) % 0x8000
  if b = 0x110 then (s.ctx ⟨p, (off - 0x110) / 4, (off - 0x110) % 4⟩).statusWord
  else if b = 0x204 then
    if w = 4 then BitVec.ofNat 24 ((List.range 8).filter (fun k => s.regBit (Reg.remap p k) 23)).length else s.reg a
  else if b = 0x20C then
    let t := s.tester p
    fields [(23, (decide (t.op ≠ 0)).toNat), (0, t.row % 16384)]
  else if b = 0x300 then
    let k := s.cache p
    fields [(22, k.flushing.toNat), (0, k.victims.length)]
  else s.reg a

/-- A device register word as its map reads it; a bit that no field reads back is zero. -/
def State.readWord (s : State) (a : Nat) : Word :=
  match findReg s.member a with
  | none => 0
  | some (b, w) =>
    BitVec.ofNat 24 (b.word w).rd
      &&& (if a ≥ 0x800000 then s.livePavWord b.base w a else s.liveWord b.base w a)

/-! ### Writes -/

/-- What a write of `v` makes of a stored word: `img` says that the loader writes. -/
def RegWord.apply (m : RegWord) (img : Bool) (old v : Word) : Word :=
  let set := BitVec.ofNat 24 (m.rw ||| (if img then m.img else 0))
  (((old &&& ~~~set) ||| (v &&& set)) &&& ~~~(v &&& BitVec.ofNat 24 m.w1c)) ||| (v &&& BitVec.ofNat 24 m.w1s)

/-- Contexts that run keep a descriptor word as they have it until their next first issue, resume or SYNC (Table 7-8). (log 29, DEDUCED) -/
def State.keepSeg (s : State) (a : Nat) : State :=
  let t := (a - 0x040000) / 128
  let old := s.reg a
  { s with strands := { s.strands with
      ctxs := s.strands.ctxs.map (fun e =>
        if decide (e.2.state ≠ .free) && decide (e.2.tenant = t) && !(e.2.segOld.any (fun o => decide (o.1 = a)))
        then (e.1, ({ e.2 with segOld := e.2.segOld ++ [(a, old)] } : Context)) else e) } }

/-- A word of a decode table or micro-op store: for execution it takes effect at the next SYNC of the writing context,
and at once where no context writes it. (log 29, DEDUCED) -/
def State.writeSync (s : State) (writer : Option CtxId) (a : Nat) (v : Word) : State :=
  match writer with
  | some c =>
    let x := s.ctx c
    s.setCtx c { x with sync := x.sync ++ [.devReg a v] }
  | none => s.takeDevSync (.devReg a v)

/-- The fuse words of a key slot can be written while the slot is unprogrammed (R576). -/
def State.hashOpen (s : State) (w : Nat) : Bool := !(s.regBit 0x003080 (20 + (w - 1) / 16))

/-- The route entries of the other die's number are fixed (R475). -/
def State.routeFixed (s : State) (a : Nat) : Bool :=
  decide (s.member = .z256d) && (
    let n := s.pairDevice
    if a < 0x0C1100 then decide (n / 256 ≠ s.deviceNo / 256 ∧ a = 0x0C1000 + n / 256)
    else decide (a = 0x0C1100 + n % 256))

/-- What follows a write of a register outside the pavilion pages. -/
def State.afterWrite (s : State) (b w a : Nat) : State :=
  if b = 0x004000 then s.reselect
  else if b = 0x004020 then
    let i := (a - 0x004020) / 4
    if w = 0 then (s.srcCheck i).reselect else if w = 1 then s.srcCheck i else s
  else if b = 0x004040 then
    if s.regBit 0x004040 23 then s else s.setRegField 0x004040 22 1 0
  else if b = 0x00400B then
    if w = 1 ∧ s.tkState = 0 then s.setReg Reg.tkFadj s.freeRunFadj else s
  else if b = 0x00C000 then
    let s1 := if s.regField a 8 4 > 8 then s.setRegField a 8 4 8 else s
    if s1.regField a 4 2 = 3 then s1.setRegField a 4 2 2 else s1
  else s

/-- Write `v` to the word `w` of the map `b` at address `a`. `img` says that the filigree loader writes; `writer` is the
context that writes. -/
def State.writeWord (s : State) (b : RegBlock) (w a : Nat) (v : Word) (img : Bool) (writer : Option CtxId) : State :=
  let m := b.word w
  if a ≥ 0x800000 then
    let new := m.apply img (s.reg a) v
    let s1 := s.setReg a new
    if m.sy then s1.writeSync writer a new else s1
  else if b.base = 0x018000 then
    if img then
      let n := (a - 0x018000) / 4
      let x := s.task n
      if w = 0 then s.setTask n { x with owner := v.field 12 9, wgrp := v.field 6 6, valid := v.bit 5 }
      else if w = 3 then s.setTask n { x with homepav := v.field 8 8, lastpav := v.field 8 8 }
      else s
    else s
  else if b.base = 0x010000 then
    if img then (let f := a - 0x010000; s.setFlow f { s.flow f with owner := v.field 12 9 }) else s
  else if b.base = 0x000040 ∧ s.member ≠ .z256d then s
  else if b.base = 0x00C040 ∧ v.field 0 8 = 0 then s
  else if b.base = 0x003080 ∧ s.hashOpen w = false then s
  else if (b.base = 0x0C1000 ∨ b.base = 0x0C1100) ∧ s.routeFixed a = true then s
  else
    let s0 := if b.base = 0x040000 then s.keepSeg a else s
    (s0.setReg a (m.apply img (s0.reg a) v)).afterWrite b.base w a

/-- The wide register that a word belongs to: its first word and its length, where R19 applies to it. The maps of
BLV.F are wide for MATCH and MASK alone. (log 30, DEDUCED) -/
def RegBlock.wide (b : RegBlock) (w a : Nat) : Option (Nat × Nat) :=
  if b.base = 0x007800 then
    if 1 ≤ w ∧ w ≤ 3 then some (a - (w - 1), 3)
    else if 4 ≤ w ∧ w ≤ 6 then some (a - (w - 4), 3)
    else none
  else if b.whole && decide (b.words.length > 1) then some (a - w, b.words.length)
  else none

/-- The context of a master, where a strand writes. -/
def writerOf (q : Req) : Option CtxId := if Master.kind q.master = 1 then some (Master.ctx q.master) else none

/-- Write words to consecutive places of a map from address `base`, whose first is word `w0` of the map. -/
def State.writeWords (s : State) (b : RegBlock) (w0 base : Nat) (ws : List (Nat × Word)) (writer : Option CtxId) : State :=
  if b.base = 0x018000 then s.taskWrite ((base - 0x018000) / 4) ws
  else ws.foldl (fun s e => s.writeWord b (w0 + e.1) (base + e.1) e.2 false writer) s

/-- The words of one whole write reach their register. -/
def State.putWords (s : State) (base : Nat) (ws : List (Nat × Word)) : State :=
  match findReg s.member base with
  | none => s
  | some (b, w) => s.writeWords b w base ws none

/-- A write of a device register by a master that may make it. (log 30, DEDUCED) -/
def State.regWrite (s : State) (q : Req) (a : Nat) (v : Word) : State :=
  match findReg s.member a with
  | none => s
  | some (b, w) =>
    match b.wide w a with
    | none => s.writeWords b w a [(0, v)] (writerOf q)
    | some (base, n) =>
      if a + 1 = base + n then
        (s.writeWords b (w + 1 - n) base (s.written q.master base n v) (writerOf q)).setWbuf q.master base []
      else s.setWbuf q.master base ((s.wbuf q.master base).filter (fun e => decide (e.1 ≠ a - base)) ++ [(a - base, v)])

/-! ### Code stores as the register space shows them (R297) -/

/-- A word written to a code store by a master without a code-write buffer. (log 33, DEDUCED) -/
def State.codeStore (s : State) (p i : Nat) (v : Word) : State :=
  { s with strands := { s.strands with code := Map.set (fun _ => 0) s.strands.code (16384 * p + i) v } }

/-! ### Who may reach a register (R15, Table 9-4) -/

/-- Table 9-4: a status page shows register `a` to tenant `t`, for a write or a read. -/
def State.statusMay (s : State) (t a : Nat) (write : Bool) : Bool :=
  if a = 0x008002 ∨ a = 0x00C001 then !write
  else if 0x008400 ≤ a ∧ a < 0x008C00 then decide ((a - 0x008400) / 4 = t)
  else if 0x018000 ≤ a ∧ a < 0x01C000 then !write && decide ((s.task ((a - 0x018000) / 4)).owner = t)
  else if 0x00D000 ≤ a ∧ a < 0x00D800 then !write && decide ((a - 0x00D000) / 4 = t)
  else if 0x003400 ≤ a ∧ a < 0x003800 then !write && decide ((a - 0x003400) / 2 = t)
  else if 0x000400 ≤ a ∧ a < 0x000800 then !write && decide ((a - 0x000400) / 2 = t)
  else false

/-- The master may make the access: the warden everywhere, the host where the map says so, the debug port in RECOVERY as
R556 says, a tenant through its status page. An address that no map names has no domain. (log 31, DEDUCED) -/
def State.regMay (s : State) (q : Req) (a : Nat) (write : Bool) : Bool :=
  if a ≥ 0x1000000 then s.statusMay q.tenant (a - 0x1000000) write
  else if s.inRecovery q then recoveryReg a
  else isWarden q || (match findReg s.member a with
    | none => (s.codeWord a).isNone
    | some (b, _) => b.host && isHost q)

/-- The words of a wide register, or the word alone, as they read now. -/
def State.readWide (s : State) (base n : Nat) : List Word := (List.range n).map (fun k => s.readWord (base + k))

/-- A read of a device register: the word, and the state after it (R19). -/
def State.regRead (s : State) (q : Req) (a : Nat) : Word × State :=
  match s.codeWord a with
  | some (p, i) => (Map.get (fun _ => 0) s.strands.code (16384 * p + i), s)
  | none =>
    match findReg s.member a with
    | none => (0, s)
    | some (b, w) =>
      match b.wide w a with
      | none => (s.readWord a, s)
      | some (base, n) =>
        if a = base then
          let ws := s.readWide base n
          (ws.headD 0, s.setSnap q.master base ws)
        else
          let ws := s.snap q.master base
          (if ws = [] then s.readWord a else ws.getD (a - base) 0, s)

end Sys2Proof.Machine
end

