-- ==== Sys2Proof/Machine/Image.lean ====
section
/-! DEFINITION. The filigree image as the loader reads it: words of a source, header, section table, keys and signature,
records, and the checks of Table 17-6 that need no other image (R542 to R551). -/

namespace Sys2Proof.Machine

/-! ### Sources (R542, R487) -/

/-- A byte of the flash; an erased byte reads 0xFF. -/
def State.flashAt (s : State) (a : Nat) : BitVec 8 := Map.get (fun _ => 0xFF) s.fil.flash a
def State.setFlash (s : State) (a : Nat) (v : BitVec 8) : State :=
  { s with fil := { s.fil with flash := Map.set (fun _ => 0xFF) s.fil.flash a v } }

/-- The word whose three bytes start at a flash byte, first byte highest. -/
def State.flashWord (s : State) (a : Nat) : Word :=
  (s.flashAt a) ++ (s.flashAt (a + 1)) ++ (s.flashAt (a + 2))

/-- First byte and bytes of a slot: 0 A, 1 B. -/
def State.slotStart (s : State) (slot : Nat) : Nat := if slot = 0 then 0x100000 else s.fil.flashSize / 2
def State.slotBytes (s : State) (slot : Nat) : Nat :=
  if slot = 0 then s.fil.flashSize / 2 - 0x100000 else s.fil.flashSize - s.fil.flashSize / 2

/-- An image at its source: its words and how many the source has room for. -/
structure Image where
  word : Nat → Word
  room : Nat

/-- The image of a slot. -/
def State.slotImage (s : State) (slot : Nat) : Image :=
  ⟨fun i => s.flashWord (s.slotStart slot + 3 * i), s.slotBytes slot / 3⟩

/-- A tenant image in DDR. -/
def State.ddrImage (s : State) (a : Nat) : Image :=
  ⟨fun i => Map.get (fun _ => 0) s.memory.ddr (a + i), 2 ^ 24⟩

/-- Words `a` to `a + n - 1`. -/
def Image.words (m : Image) (a n : Nat) : List Word := (List.range n).map (fun i => m.word (a + i))

/-! ### Header (Table 17-1) -/

def Image.length (m : Image) : Nat := (m.word 2).toNat
def Image.nsect (m : Image) : Nat := (m.word 3).field 0 8
def Image.debug (m : Image) : Bool := (m.word 3).bit 23
def Image.svnBurn (m : Image) : Bool := (m.word 3).bit 22
def Image.svn (m : Image) : Nat := (m.word 4).field 0 8
def Image.tenant (m : Image) : Nat := (m.word 5).field 0 9

/-- MEMBER of the header that a die takes. -/
def memberCode : Member → Nat
  | .z16 => 0
  | .z64 => 1
  | .z256 => 2
  | .z256d => 3

/-- SHA-384 of the words `a` to `a + n - 1`. -/
def Image.digest (m : Image) (a n : Nat) : List (BitVec 8) := sha384 (wordBytes (m.words a n))

/-! ### Keys (R550, R551) -/

/-- No key slot is programmed. -/
def State.openPart (s : State) : Bool := decide (s.regField 0x003080 20 4 = 0)

/-- The digest in a key slot. -/
def State.keyHash (s : State) (k : Nat) : List (BitVec 8) :=
  wordBytes ((List.range 16).map (fun i => s.reg (0x003081 + 16 * k + i)))

/-- The key of an image is accepted. -/
def State.keyAccepted (s : State) (m : Image) : Bool :=
  let h := m.digest (m.length - 64) 32
  (List.range 4).any (fun k => s.regBit 0x003080 (20 + k) && !(s.regBit 0x003080 (16 + k)) && decide (s.keyHash k = h))

/-- The signature of an image verifies. (log 90, PRESUMED) -/
def Image.signed (m : Image) : Bool :=
  let bs := wordBytes (m.words (m.length - 64) 64)
  let part := fun k => beNat ((bs.drop (48 * k)).take 48)
  ecdsaVerify (part 0) (part 1) (part 2) (part 3) (beNat (m.digest 0 (m.length - 64)))

/-! ### Section table (R544) -/

/-- A section: TYPE, OFFSET and LENGTH. -/
structure Section where
  ty : Nat
  off : Nat
  len : Nat
deriving DecidableEq, Repr

/-- Entry `i` of the section table. -/
def Image.section (m : Image) (i : Nat) : Section :=
  ⟨(m.word (32 + 3 * i)).field 16 8, (m.word (33 + 3 * i)).toNat, (m.word (34 + 3 * i)).toNat⟩
def Image.sections (m : Image) : List Section := (List.range m.nsect).map m.section

/-- Two sections share no word. -/
def Section.apart (a b : Section) : Bool := decide (a.off + a.len ≤ b.off) || decide (b.off + b.len ≤ a.off)

/-- Check 7: complement, order, bounds. -/
def Image.tableOk (m : Image) : Bool :=
  let n := m.nsect
  let ss := m.sections
  decide (1 ≤ n ∧ n ≤ 15)
    && (List.range (3 * n)).all (fun i => decide (m.word (32 + 3 * n + i) = ~~~(m.word (32 + i))))
    && (List.range n).all (fun i => decide ((m.word (32 + 3 * i)).field 0 16 = 0))
    && ss.all (fun e => decide (1 ≤ e.ty ∧ e.ty ≤ 14) && decide (32 + 6 * n ≤ e.off) && decide (e.off + e.len + 64 ≤ m.length))
    && (List.range n).all (fun i => (List.range i).all (fun j =>
        decide ((m.section j).ty < (m.section i).ty) && (m.section j).apart (m.section i)))

/-! ### Records (R545 to R548) -/

/-- The triple of three words of a list from place `i` on. -/
def tripleAt (ws : List Word) (i : Nat) : Triple := Triple.ofWords (ws.getD i 0) (ws.getD (i + 1) 0) (ws.getD (i + 2) 0)

/-- A register record and its length. -/
def parseReg (ws : List Word) : Option (ImgRec × Nat) :=
  let n := (ws.getD 1 0).toNat
  if 1 ≤ n ∧ n ≤ 4096 ∧ n + 2 ≤ ws.length then some (.reg (ws.getD 0 0).toNat ((ws.drop 2).take n), n + 2) else none

/-- A code or state record and its length. -/
def parseRun (ws : List Word) (k : Word → List Word → ImgRec) : Option (ImgRec × Nat) :=
  let n := (ws.getD 1 0).toNat
  if n + 2 ≤ ws.length then some (k (ws.getD 0 0) ((ws.drop 2).take n), n + 2) else none

/-- A granule of a template record. -/
def parseGranule (a b : Word) : TmplGranule := ⟨a.field 4 4, BitVec.ofNat 16 (a.field 8 16), b.field 0 15, b.field 18 6⟩

/-- A template record and its length. -/
def parseTemplate (ws : List Word) : Option (ImgRec × Nat) :=
  let w0 := ws.getD 0 0
  let w1 := ws.getD 1 0
  let n := w0.field 3 4 + 1
  let gs := (List.range n).map (fun g => (ws.getD (2 + 2 * g) 0, ws.getD (3 + 2 * g) 0))
  if 2 + 2 * n ≤ ws.length ∧ w0.field 0 2 = 0 ∧ w1.field 0 12 = 0
      ∧ gs.all (fun e => decide (e.1.field 0 4 = 0) && decide (e.2.field 15 3 = 0)) = true then
    some (.template (w0.field 15 9) (w0.field 7 8) ⟨w0.bit 2, w1.field 12 12, gs.map (fun e => parseGranule e.1 e.2)⟩, 2 + 2 * n)
  else none

/-- An init record and its length. -/
def parseInit (ws : List Word) : Option (ImgRec × Nat) :=
  let w0 := ws.getD 0 0
  match w0.field 22 2 with
  | 0 => if 2 ≤ ws.length then some (.initAlloc (w0.field 13 9) (w0.field 5 8) ((ws.getD 1 0).field 0 12), 2) else none
  | 1 =>
    if 6 ≤ ws.length then
      some (.initToken (w0.field 14 8) (w0.field 11 3) (w0.bit 10) ((ws.getD 1 0).field 12 12) ((ws.getD 2 0).field 0 15)
        (tripleAt ws 3), 6)
    else none
  | 2 => if 7 ≤ ws.length then some (.initPort (tripleAt ws 1) (tripleAt ws 4), 7) else none
  | _ => none

/-- The first word of a record names a register of FIL.CODESET or FIL.ENTRY. In a CODE section the register records come
first; the first record that names none begins the code records. -/
def codeRegs (w : Word) : Bool := decide (0x050000 ≤ w.toNat ∧ w.toNat < 0x05C000)

/-- One record of a section: `codes` says that the code records of a CODE section have begun. -/
def parseRec (ty : Nat) (codes : Bool) (ws : List Word) : Option (ImgRec × Nat) :=
  if ty = 0x05 then
    if codes then parseRun ws (fun w v => .code (w.field 14 10) (w.field 0 14) v) else parseReg ws
  else if ty = 0x07 then
    let w := fun i => ws.getD i 0
    if 5 ≤ ws.length ∧ (w 0).field 0 5 = 0 ∧ (w 1).field 0 16 = 0 then
      some (.pool ((w 0).field 18 6) ((w 0).field 9 9) ((w 0).field 5 4 + 1) ((w 1).field 16 8) (w 2).toNat (w 3).toNat
        (w 4).toNat, 5)
    else none
  else if ty = 0x08 then parseTemplate ws
  else if ty = 0x0A then
    if 5 ≤ ws.length then some (.task ((ws.getD 0 0).field 0 12) ((ws.getD 1 0).field 0 15) (tripleAt ws 2), 5) else none
  else if ty = 0x0D then parseRun ws (fun w v => .words w.toNat v)
  else if ty = 0x0E then parseInit ws
  else parseReg ws

/-- The records of a section with their word offsets, at most `n`; the second part is the offset of a record that has
no layout. (log 79, DEDUCED) -/
def parseRecs (ty : Nat) : Nat → Bool → Nat → List Word → List (Nat × ImgRec) × Option Nat
  | 0, _, _, _ => ([], none)
  | n + 1, codes, pos, ws =>
    if ws = [] then ([], none)
    else
      let codes' := codes || !(codeRegs (ws.headD 0))
      match parseRec ty codes' ws with
      | none => ([], some pos)
      | some (r, k) =>
        let rest := parseRecs ty n codes' (pos + k) (ws.drop k)
        ((pos, r) :: rest.1, rest.2)

/-- The records of a section. -/
def Image.records (m : Image) (e : Section) : List (Nat × ImgRec) × Option Nat :=
  parseRecs e.ty e.len false e.off (m.words e.off e.len)

/-! ### Targets (Table 17-2) -/

/-- A map is a target of a section of a full image: its base or page offset, the word, the index of the register. -/
def sectionTarget (ty : Nat) (pavPage : Bool) (b w a : Nat) : Bool :=
  if pavPage then
    (decide (ty = 0x02) && decide (b = 0x100 ∨ b = 0x200 ∨ b = 0x201)) || (decide (ty = 0x06) && decide (b = 0x1000 ∨ b = 0x2000))
  else
    match ty with
    | 0x01 => decide (b = 0x002010 ∧ a ≥ 0x002018) || decide (b = 0x001200 ∨ b = 0x001000 ∨ b = 0x001010)
    | 0x02 =>
      decide (0x004000 ≤ b ∧ b < 0x005000) || decide (0x0C0000 ≤ b ∧ b < 0x0D0000)
        || decide (b = 0x0D0000 ∨ b = 0x0D4000 ∨ b = 0x0DC000 ∨ b = 0x007001 ∨ b = 0x008000 ∨ b = 0x008001 ∨ b = 0x00C000
            ∨ b = 0x00C010 ∨ b = 0x028000 ∨ b = 0x000004 ∨ b = 0x000040 ∨ b = 0x000400 ∨ b = 0x000800)
        || decide (b = 0x0D8000 ∧ w ≥ 3)
    | 0x03 => decide (b = 0x003400 ∨ b = 0x00C040 ∨ b = 0x00E000 ∨ b = 0x00D000)
    | 0x04 => decide (b = 0x040000)
    | 0x05 => decide (b = 0x058000 ∨ b = 0x050000)
    | 0x09 =>
      decide (b = 0x010000 ∨ b = 0x018000 ∨ b = 0x00C800 ∨ b = 0x01C000 ∨ b = 0x05C000 ∨ b = 0x003010 ∨ b = 0x00A000)
    | 0x0B => decide (b = 0x081000) || decide (b = 0x088000 ∧ w ≤ 6)
    | 0x0C => decide (b = 0x020400 ∨ b = 0x028100)
    | _ => false

/-- A section may stand in a tenant image. -/
def tenantSection (ty : Nat) : Bool :=
  decide (ty = 0x03 ∨ ty = 0x04 ∨ ty = 0x05 ∨ ty = 0x07 ∨ ty = 0x08 ∨ ty = 0x09 ∨ ty = 0x0A ∨ ty = 0x0B ∨ ty = 0x0D ∨ ty = 0x0E)

/-- What Table 17-2 narrows in a tenant image of tenant `t`. -/
def State.tenantTarget (s : State) (ty t b w a : Nat) : Bool :=
  match ty with
  | 0x03 => (decide (b = 0x003400 ∧ w = 1) && decide ((a - 0x003400) / 2 = t)) || (decide (b = 0x00D000) && decide ((a - 0x00D000) / 4 = t))
  | 0x04 => decide ((a - 0x040000) / 128 = t)
  | 0x0B => decide (b = 0x088000) && decide (s.cellOwner ((a - 0x088000) / 32) = t)
  | _ => true

/-- Bits that no field of a register word has. -/
def RegWord.reserved (m : RegWord) : Word := ~~~(BitVec.ofNat 24 (m.rd ||| m.rw ||| m.w1c ||| m.w1s ||| m.wo ||| m.img))

/-- A value that a map calls reserved: VIEW 3, MODE 3, FUNC 11 to 15, SAFE 3, LATE 3, PAR 3, FEEDS 7, PG 8 to 14. (log 76, DESIGN CHOICE) -/
def reservedValue (b w : Nat) (v : Word) : Bool :=
  (decide (b = 0x040000 ∧ w = 0) && decide (v.field 18 2 = 3))
    || (decide (b = 0x020400 ∧ w = 0) && decide (v.field 22 2 = 3))
    || (decide (b = 0x088000 ∧ w = 0) && (decide (v.field 20 4 > 10) || decide (v.field 18 2 = 3) || decide (v.field 16 2 = 3)))
    || (decide (b = 0x088000 ∧ w = 6) && decide (v.field 4 2 = 3))
    || (decide (b = 0x002010 ∧ w = 0) && decide (v.field 20 3 = 7))
    || (decide (b = 0x002010 ∧ w = 1) && decide (8 ≤ v.field 8 4 ∧ v.field 8 4 ≤ 14))

/-- A word of a register record is permitted in its section. -/
def State.wordOk (s : State) (ty : Nat) (tn : Option Nat) (a : Nat) (v : Word) : Bool :=
  match findReg s.member a with
  | none => false
  | some (b, w) =>
    sectionTarget ty (decide (a ≥ 0x800000)) b.base w a
      && decide (v &&& (b.word w).reserved = 0) && !(reservedValue b.base w v)
      && (match tn with | none => true | some t => s.tenantTarget ty t b.base w a)

/-- Check 8 of one record. -/
def State.recOk (s : State) (ty : Nat) (tn : Option Nat) : ImgRec → Bool
  | .reg a ws => (List.range ws.length).all (fun i => s.wordOk ty tn (a + i) (ws.getD i 0))
  | .code c _ _ => decide (c ≤ 1022)
  | .pool sl t _ _ _ _ _ => decide (sl < sliceCount s.member) && (match tn with | none => true | some k => decide (t = k))
  | .template t _ _ => (match tn with | none => true | some k => decide (t = k))
  | .initAlloc t _ _ => (match tn with | none => true | some k => decide (t = k))
  | _ => true

/-- The first record of a section that fails check 8: its offset. -/
def State.badRecord (s : State) (m : Image) (tn : Option Nat) (e : Section) : Option Nat :=
  let rs := m.records e
  if (match tn with | none => false | some _ => !(tenantSection e.ty)) then some e.off
  else
    match rs.1.find? (fun r => !(s.recOk e.ty tn r.2)) with
    | some r => some r.1
    | none => rs.2

/-- A load error: ERR, ERRSECT and ERRPOS (R549). -/
structure LoadErr where
  err : Nat
  sect : Nat
  pos : Nat
deriving DecidableEq, Repr

/-- Check 8: the first section with a failing record. (log 79, DEDUCED) -/
def State.checkRecords (s : State) (m : Image) (tn : Option Nat) : List Section → Option LoadErr
  | [] => none
  | e :: es =>
    match s.badRecord m tn e with
    | some p => some ⟨8, e.ty, p⟩
    | none => s.checkRecords m tn es

/-- Checks 1 to 8 of Table 17-6; `tn` names the tenant that a tenant image must have (check 11). (log 79, DEDUCED) -/
def State.checkImage (s : State) (m : Image) (tn : Option Nat) : Option LoadErr :=
  let kind := if tn.isSome then 1 else 0
  let sec := !(s.openPart)
  if m.word 0 ≠ 0x46494C ∨ (m.word 1).field 16 8 ≠ 1 ∨ (m.word 1).field 8 8 ≠ kind ∨ m.length > m.room ∨ m.length < 96 then
    some ⟨1, 0, 0⟩
  else if (List.range 16).any (fun i => decide (m.word (16 + i) ≠ ~~~(m.word i))) then some ⟨2, 0, 16⟩
  else if (m.word 1).field 0 8 ≠ memberCode s.member then some ⟨3, 0, 1⟩
  else if sec && !(s.keyAccepted m) then some ⟨4, 0, m.length - 64⟩
  else if sec && !m.signed then some ⟨5, 0, m.length - 32⟩
  else if sec && decide (m.svn < s.regField 0x003080 0 8) then some ⟨6, 0, 4⟩
  else if m.tableOk = false then some ⟨7, 0, 32⟩
  else
    match s.checkRecords m tn m.sections with
    | some e => some e
    | none =>
      match tn with
      | some t => if m.tenant ≠ t ∨ t = 0 then some ⟨11, 0, 5⟩ else none
      | none => none

end Sys2Proof.Machine
end

