-- ==== Sys2Proof/Machine/Loader.lean ====
section
/-! DEFINITION. What the filigree loader does with the records of an image, the resource and consistency checks of the
other chapters, and the wait domains (R544 to R549, R165, and the rules that each check names). -/

namespace Sys2Proof.Machine

/-! ### Register records (R545) -/

/-- The loader writes one device register word as the warden would, and IMG fields. -/
def State.loadWord (s : State) (a : Nat) (v : Word) : State :=
  match findReg s.member a with
  | none => s
  | some (b, w) =>
    if a ≥ 0x800000 then s.writeWord b w a v true none
    else if b.base = 0x001200 then
      let d := a - 0x001200
      let s1 := s.writeDom d v
      if domainPresent s.member d = false then s1
      else match v.field 16 2 with
        | 1 => s1.askLeave d 1
        | 2 => s1.askLeave d 2
        | 3 => s1.askWake d
        | _ => s1
    else if b.base = 0x002010 then
      let r := (a - 0x002010) / 4
      let s1 := s.writeRail r [(w, v)]
      if w = 3 ∧ v.bit 15 = true ∧ s1.railState r = 4 then s1.railAttempt r 1 else s1
    else if b.base = 0x001010 ∧ w = 3 then s.setVset (v.field 0 11)
    else if b.base = 0x081000 ∧ w = 0 then
      let s1 := s.writeWord b w a v true none
      if v.bit 21 then s1.calStart ((a - 0x081000) / 4) else s1
    else if b.base = 0x0C0100 ∧ w = 0 then s.linkEnable ((a - 0x0C0100) / 8) v
    else if b.base = 0x0DC000 then s.writeWord b w a (v.setField 23 1 0) true none
    else if a = 0x004023 then s.sample 0 v.toInt
    else if b.base = 0x004008 then s
    else if b.base = 0x018000 ∧ w = 1 then
      let n := (a - 0x018000) / 4
      let x := s.task n
      s.setTask n { x with evf := x.evf ||| v }
    else if b.base = 0x003400 then
      let t := (a - 0x003400) / 2
      let s1 := s.writeWord b w a v true none
      if s1.regField (Reg.filTen t 0) 21 3 = 0 then s1.setRegField (Reg.filTen t 0) 21 3 1 else s1
    else if b.base = 0x00A000 ∧ w = 0 then
      s.writeWord b w a (if v.field 12 12 = 0 then v.setField 12 12 8 else v) true none
    else s.writeWord b w a v true none

/-- A step that a register record of TKEEP.STEP asks (R413): it acts with word 2. -/
def State.loadStep (s : State) (a : Nat) (ws : List Word) : State :=
  if a ≤ 0x00400A ∧ 0x00400A < a + ws.length then
    let w := fun k => if a ≤ 0x004008 + k then ws.getD (0x004008 + k - a) 0 else s.reg (0x004008 + k)
    let v := Triple.ofWords (w 0) (w 1) (w 2)
    if s.stepEn then s.askStep v.toInt else s.refuseStep v
  else s

/-- Apply words to consecutive addresses. -/
def State.loadWords (s : State) (a : Nat) : List Word → State
  | [] => s
  | w :: ws => (s.loadWord a w).loadWords (a + 1) ws

/-! ### Other records (R546, R547) -/

/-- Pavilions of a code set (R305). -/
def State.setPavs (s : State) (c : Nat) : List Nat :=
  (List.range (unitCount s.member .pavs)).filter (fun p => s.regBit (Reg.codeset c (3 + p / 24)) (p % 24))
def State.setLen (s : State) (c : Nat) : Nat := s.regField (Reg.codeset c 2) 0 15

/-- Write instructions to one pavilion's code store. -/
def State.loadCode (s : State) (p a : Nat) : List Word → State
  | [] => s
  | w :: ws => (s.codeStore p a w).loadCode p (a + 1) ws

/-- Frame numbers of a pool record (R74, R546). -/
def poolFrames (m : Member) (slice first n : Nat) : List Nat := (List.range n).map (fun i => (first + i) * sliceCount m + slice)

/-- Bind the frames of a pool to their granules (Table 3-3); GEN and QUAR of an entry stay from load to reset (R85). -/
def State.bindFrames (s : State) (pool size base : Nat) : List Nat → State
  | [] => s
  | f :: fs =>
    (s.setFrame f ⟨false, (s.frame f).quar, (s.frame f).gen, size - 1, base, pool, false⟩).bindFrames pool size (base + size) fs

/-- Write initial state words (R309). -/
def State.loadState (s : State) (a : Nat) : List Word → State
  | [] => s
  | w :: ws => (s.setStWord a ⟨w, false⟩).loadState (a + 1) ws

/-- The init records of a tenant. -/
def State.initOf (s : State) (t : Nat) : List InitRec := Map.get (fun _ => []) s.fil.init t
def State.setInit (s : State) (t : Nat) (v : List InitRec) : State :=
  { s with fil := { s.fil with init := Map.set (fun _ => []) s.fil.init t v } }

/-- The tenant that a port token's init record belongs to: the owner of its cell (Table 14-2). -/
def State.portRecTenant (s : State) (tag : Triple) : Nat := s.cellOwner (tag.field 46 10)

/-- The tenant of a TOKEN record: that of the last ALLOC before it that wrote its handle. -/
def handleTenant (hs : List (Nat × Nat)) (j : Nat) : Nat := ((hs.find? (fun e => decide (e.1 = j))).map Prod.snd).getD 0

/-- Apply one record; `hs` lists the handles that ALLOC records named, newest first, with their tenants. (log 80, DEDUCED) -/
def State.loadRec (s : State) (hs : List (Nat × Nat)) : ImgRec → State × List (Nat × Nat)
  | .reg a ws => ((s.loadWords a ws).loadStep a ws, hs)
  | .code c off ws => ((s.setPavs c).foldl (fun s p => s.loadCode p (s.setBase c + off) ws) s, hs)
  | .pool sl t size k first n base =>
    let fs := poolFrames s.member sl first n
    ((s.bindFrames k size base fs).setPool (256 * sl + k) ⟨t, size, fs, fs.filter (fun f => !(s.frame f).quar), false⟩, hs)
  | .template t k v =>
    ({ s with store := { s.store with templates := Map.set (fun _ => none) s.store.templates (256 * t + k) (some v) } }, hs)
  | .task n e v => (s.setTask n { s.task n with entry := e, arg := v, image := true }, hs)
  | .words a ws => (s.loadState a ws, hs)
  | .initAlloc t k j => (s.setInit t (s.initOf t ++ [.alloc k j]), (j, t) :: hs)
  | .initToken sl ty crit j flow v =>
    let t := handleTenant hs j
    (s.setInit t (s.initOf t ++ [.token sl ty crit j flow v]), hs)
  | .initPort tag v =>
    let t := s.portRecTenant tag
    (s.setInit t (s.initOf t ++ [.port tag v]), hs)

/-- Apply the records of the sections that `p` chooses, in order. (log 80, DEDUCED) -/
def State.loadSections (s : State) (m : Image) (p : Nat → Bool) : State :=
  (((m.sections.filter (fun e => p e.ty)).flatMap (fun e => (m.records e).1)).foldl
    (fun (x : State × List (Nat × Nat)) r => x.1.loadRec x.2 r.2) (s, [])).1

/-! ### Quotas and wait domains (R84, R165) -/

/-- CSTORE.QUOTA[t].SLOTS. -/
def State.poolSlots (s : State) (t : Nat) : Nat :=
  (s.store.pools.filter (fun e => decide (e.2.tenant % 512 = t))).foldl (fun n e => n + e.2.frames.length * e.2.size * 16) 0
def State.setQuotas (s : State) : State :=
  (List.range 512).foldl (fun s t => s.setRegField (Reg.quota t 0) 0 23 (s.poolSlots t)) s

/-- Pairs of tenants that share a wait domain, from DISP.BIND. -/
def State.domainLinks (s : State) : List (Nat × Nat) :=
  (List.range 1024).filterMap (fun i =>
    let w := s.reg (Reg.bind i 0)
    let t := (s.task (w.field 0 12)).owner
    let src := w.field 12 10
    if s.reg (Reg.bind i 1) = 0 then none
    else if w.field 22 2 = 0 then (if src = 0 ∨ t = 0 ∨ src = t then none else some (src, t))
    else if w.field 22 2 = 2 ∧ s.qPkind src = 0 then
      (let o := s.qPsrc src; if o = 0 ∨ t = 0 ∨ o = t then none else some (o, t))
    else none)

/-- Join the groups of two tenants under the lower name. -/
def joinDomains (ls : List Nat) (e : Nat × Nat) : List Nat :=
  let a := ls.getD e.1 0
  let b := ls.getD e.2 0
  ls.map (fun x => if x = a ∨ x = b then min a b else x)

/-- The loader computes the wait domains (R165). -/
def State.setDomains (s : State) : State :=
  let ls := s.domainLinks.foldl joinDomains (List.range 512)
  (List.range 511).foldl (fun s i => s.setRegField (Reg.dlkTen (i + 1) 0) 12 9 (ls.getD (i + 1) 0)) s

/-! ### Consistency checks (ERR 9) -/

/-- Granules of the frame region of a slice (R78). -/
def State.frameGranules (s : State) : Nat := 64 * (64 - s.regField 0x008000 7 7 - s.regField 0x008000 0 7)
/-- Frame numbers that a slice hosts (Table 3-1). -/
def frameNumbers (m : Member) : Nat := 262144 / sliceCount m

/-- Ranges `[a, a + n)` and `[b, b + k)` share nothing. -/
def apart (a n b k : Nat) : Bool := decide (n = 0) || decide (k = 0) || decide (a + n ≤ b) || decide (b + k ≤ a)

/-- A pool as it lies in its slice: slice, number, granules of a frame, first local index, frames, first granule. -/
structure PoolSpan where
  slice : Nat
  pool : Nat
  size : Nat
  first : Nat
  n : Nat
  base : Nat
deriving DecidableEq, Repr

/-- The pools that a state holds. -/
def State.poolSpans (s : State) : List PoolSpan :=
  s.store.pools.map (fun e =>
    let f := e.2.frames.headD 0
    ⟨e.1 / 256, e.1 % 256, e.2.size, f / sliceCount s.member, e.2.frames.length, (s.frame f).base⟩)

/-- A pool lies within its slice (R80, R83). -/
def State.spanFits (s : State) (p : PoolSpan) : Bool :=
  decide (p.first + p.n ≤ frameNumbers s.member) && decide (p.base + p.n * p.size ≤ s.frameGranules)

/-- Two pools share no number, frame number or granule (R83). -/
def PoolSpan.clear (a b : PoolSpan) : Bool :=
  decide (a.slice ≠ b.slice)
    || (decide (a.pool ≠ b.pool) && apart a.first a.n b.first b.n && apart a.base (a.n * a.size) b.base (b.n * b.size))

/-- No two of a list conflict. -/
def pairwise {α : Type} (f : α → α → Bool) : List α → Bool
  | [] => true
  | a :: as => as.all (f a) && pairwise f as

/-- The pools of an image's records. -/
def Image.poolSpans (m : Image) : List PoolSpan :=
  ((m.sections.filter (fun e => decide (e.ty = 0x07))).flatMap (fun e => (m.records e).1)).filterMap (fun r =>
    match r.2 with
    | .pool sl _ size k first n base => some ⟨sl, k, size, first, n, base⟩
    | _ => none)

/-- The pools of an image fit, beside those of `s` (R80, R83). (log 96, DEDUCED) -/
def State.poolsOk (s : State) (m : Image) : Bool :=
  let ps := m.poolSpans
  ps.all s.spanFits && pairwise PoolSpan.clear (ps ++ s.poolSpans)

/-- Windows of KIND 1 and 2 spare the context and task areas of a pavilion (R281). -/
def State.windowSpares (s : State) (p base len : Nat) : Bool :=
  let l := s.reg (pavBase p + 0x202)
  let ctx := 16 * (768 + s.regField (pavBase p + 0x201) 0 5 * 64)
  apart (base * 64) (len * 64) 0 ctx
    && apart (base * 64) (len * 64) (l.field 10 10 * 64) ((l.field 0 10 - l.field 10 10) * 64)

/-- Pavilions that hold a code set of a tenant. -/
def State.tenantPavs (s : State) (t : Nat) : List Nat :=
  (List.range (unitCount s.member .pavs)).filter (fun p =>
    (List.range 1023).any (fun c => s.setValid c && decide (s.setOwner c = t) && s.regBit (Reg.codeset c (3 + p / 24)) (p % 24)))

/-- A descriptor that an image may carry (R273, R281). -/
def State.segOk (s : State) (t : Nat) (w0 w1 : Word) : Bool :=
  let kind := w0.field 20 4
  let view := w0.field 18 2
  let base := w1.toNat
  !(decide (kind > 10) || (decide (view ≠ 0) && !(decide (kind = 1) || decide (kind = 2)))
      || (decide (kind = 1) && decide (base / 1024 ≠ 0)) || (decide (kind = 2) && decide (base / 1024 % 64 ≠ 0))
      || (decide (kind = 9) && decide (base ≠ 0)))
    && (match kind with
      | 1 => (s.tenantPavs t).all (fun p => s.windowSpares p (base % 1024) (w0.field 0 13))
      | 2 => s.windowSpares (base / 65536) (base % 1024) (w0.field 0 13)
      | _ => true)

/-- Every descriptor of an image (FIL.SEG words listed in the register file). -/
def State.segsOk (s : State) : Bool :=
  (s.regs.filter (fun e => decide (0x040000 ≤ e.1 ∧ e.1 < 0x050000) && decide (e.1 % 2 = 0))).all (fun e =>
    s.segOk ((e.1 - 0x040000) / 128) e.2 (s.reg (e.1 + 1)))

/-- Valid code sets of the die. -/
def State.codeSets (s : State) : List Nat := (List.range 1023).filter s.setValid

/-- Code sets are long enough and do not overlap on one pavilion (R295). -/
def State.codeOk (s : State) : Bool :=
  (s.codeSets).all (fun c => decide (s.setLen c ≥ 8) && decide (s.setBase c + s.setLen c ≤ 16384))
    && pairwise (fun c d => apart (s.setBase c) (s.setLen c) (s.setBase d) (s.setLen d)
        || !((s.setPavs c).any (fun p => decide (p ∈ s.setPavs d)))) s.codeSets

/-- A code record lies within its set. -/
def State.codeRecOk (s : State) : ImgRec → Bool
  | .code c off ws => s.setValid c && decide (off + ws.length ≤ s.setLen c)
  | .words a ws => decide (a + ws.length ≤ s.stateSize)
  | .task n _ _ => (s.task n).valid
  | _ => true

/-- An ENTRY resolves to a code set of the tenant (R296). -/
def State.entryOk (s : State) (t e : Nat) : Bool :=
  let c := s.regField (Reg.entry e) 14 10
  let o := s.regField (Reg.entry e) 0 14
  decide (c ≠ 1023) && s.setValid c && decide (s.setOwner c = t) && decide (8 ≤ o ∧ o < s.setLen c)

/-- The templates name entries that their tenants own; a granule with ARITY 0 fires nothing. -/
def State.templatesOk (s : State) : Bool :=
  s.store.templates.all (fun e => match e.2 with
    | none => true
    | some t => t.granules.all (fun g => decide (g.arity = 0) || s.entryOk (e.1 / 256 % 512) g.entry))

/-- Valid task numbers. -/
def State.validTasks (s : State) : List Nat := (List.range 4096).filter (fun n => (s.task n).valid)
def State.recDdr (s : State) (n : Nat) : Bool := s.regBit (Reg.taskRec n) 23
def State.recBlock (s : State) (n : Nat) : Nat := s.regField (Reg.taskRec n) 0 10
/-- Length of a record with its scratch block, in units of 64 words (R283). -/
def State.recUnits (s : State) (n : Nat) : Nat := 16 + s.regField (Reg.taskRec n) 16 7
def State.taskUnit (s : State) (p : Nat) : Nat := s.regField (pavBase p + 0x202) 10 10
def State.partBase (s : State) (p : Nat) : Nat := s.regField (pavBase p + 0x202) 0 10

/-- A record block lies in the task area of a pavilion. -/
def State.recFits (s : State) (p n : Nat) : Bool :=
  decide (s.taskUnit p ≤ s.recBlock n) && decide (s.recBlock n + s.recUnits n ≤ s.partBase p)

/-- Tasks and their records (R306, R307, R585). -/
def State.tasksOk (s : State) : Bool :=
  let ns := s.validTasks
  let own := ns.filter (fun n => !(s.recDdr n))
  let ddr := ns.filter s.recDdr
  let alt := fun p => s.regField (Reg.depPav p) 0 8
  ns.all (fun n => !(decide ((s.task n).wgrp = 0) && s.recDdr n))
    && own.all (fun n => unitPresent s.member .pavs (s.task n).homepav && s.recFits (s.task n).homepav n)
    && pairwise (fun a b => decide ((s.task a).homepav ≠ (s.task b).homepav)
        || apart (s.recBlock a) (s.recUnits a) (s.recBlock b) (s.recUnits b)) own
    && ddr.all (fun n => decide (s.recUnits n ≤ s.regField 0x003011 0 13))
    && own.all (fun n =>
        let p := (s.task n).homepav
        let q := alt p
        decide (q = p) || (unitPresent s.member .pavs q && s.recFits q n
          && own.all (fun k => decide ((s.task k).homepav ≠ q)
            || apart (s.recBlock n) (s.recUnits n) (s.recBlock k) (s.recUnits k))))

/-- Queues (R368, Table 12-1). -/
def State.queuesOk (s : State) : Bool :=
  let qs := List.range (unitCount s.member .queues)
  let len := fun n => s.regField (Reg.que n 1) 18 6
  let at' := fun n => s.regField (Reg.que n 1) 0 12
  let es := (List.range (unitCount s.member .eths)).filter (fun e => s.regBit (0x0D0000 + 16 * e) 23)
  let rx := fun e => s.regField (0x0D0000 + 16 * e) 10 10
  let tx := fun e => s.regField (0x0D0000 + 16 * e) 0 10
  let ts := fun e => s.regField (0x0D0001 + 16 * e) 0 10
  qs.all (fun n => decide (len n ≠ 63))
    && pairwise (fun a b => decide (a % sliceCount s.member ≠ b % sliceCount s.member)
        || apart (at' a) (len a) (at' b) (len b)) (qs.filter (fun n => decide (len n > 0)))
    && es.all (fun e => decide (s.qPkind (rx e) = 3) && decide (s.qPkind (ts e) = 3) && decide (s.qCkind (tx e) = 3))
    && pairwise (fun e f => [rx e, tx e, ts e].all (fun n => !([rx f, tx f, ts f].contains n))) es
    && qs.all (fun n => decide (s.qMode n = 0) || decide (s.qCkind n ≠ 3) || es.any (fun e => decide (tx e = n)))

/-- Cells that a function uses beside its own (Table 14-1). -/
def partners (func : Nat) (rs485 : Bool) : Nat :=
  match func with
  | 3 => 1
  | 4 => 1
  | 6 => 1
  | 7 => if rs485 then 2 else 1
  | 8 => 3
  | _ => 0

/-- A cell configuration: FUNC, OWNER, PERIOD, PHASE and RS485, from words of PORT.CELL that start at word `k` (0 or 16). -/
def State.cellOk (s : State) (k c : Nat) : Bool :=
  let func := fun n => s.regField (Reg.cell n k) 20 4
  let owner := fun n => s.regField (Reg.cell n (k + 1)) 15 9
  let period := (s.reg (Reg.cell c (k + 2))).toNat
  let phase := (s.reg (Reg.cell c (k + 3))).toNat
  let n := partners (func c) (s.regBit (Reg.cell c (k + 6)) 3)
  decide (c % 32 + n < 32)
    && (List.range n).all (fun i => decide (func (c + 1 + i) = 10) && decide (owner (c + 1 + i) = owner c))
    && (if period = 0 then decide (phase = 0) else decide (1000000000 % period = 0) && decide (phase < period))

/-- The remaining checks on registers: device number of a pair (R464), VF of tenant 0 (R482), FLOOR_MV (R529), region
sizes (R78, R111). (log 96, DEDUCED) -/
def State.platformOk (s : State) : Bool :=
  !(decide (s.member = .z256d) && s.regBit 0x0C0000 8)
    && (List.range 63).all (fun v => !(s.regBit (0x0D4001 + v) 23) || decide (s.regField (0x0D4001 + v) 0 9 ≠ 0))
    && decide (s.regField 0x001010 12 11 ≥ 720)
    && decide (s.regField 0x008000 7 7 + s.regField 0x008000 0 7 ≤ 60)

/-- Check 9 of a full image: `s` is the state before it, `t` the state that it would load. The sections concerned, in the
order of their types. (log 96, DEDUCED) -/
def State.checkLoaded (s t : State) (m : Image) : Option Nat :=
  let recs := fun ty => (m.sections.filter (fun e => decide (e.ty = ty))).flatMap (fun e => (m.records e).1)
  if t.platformOk = false then some 0x02
  else if t.segsOk = false then some 0x04
  else if t.codeOk = false ∨ (recs 0x05).all (fun r => t.codeRecOk r.2) = false then some 0x05
  else if (({ s with regs := t.regs }).poolsOk m) = false then some 0x07
  else if t.templatesOk = false then some 0x08
  else if t.tasksOk = false then some 0x09
  else if (recs 0x0A).all (fun r => t.codeRecOk r.2) = false then some 0x0A
  else if (List.range (unitCount t.member .cells)).all (t.cellOk 0) = false then some 0x0B
  else if t.queuesOk = false then some 0x0C
  else if (recs 0x0D).all (fun r => t.codeRecOk r.2) = false then some 0x0D
  else none

/-- Where a section starts. -/
def Image.sectionAt (m : Image) (ty : Nat) : Nat := ((m.sections.find? (fun e => decide (e.ty = ty))).map Section.off).getD 0

end Sys2Proof.Machine
end

