-- ==== Sys2Proof/Machine/Tenants.lean ====
section
/-! DEFINITION. Starting and stopping tenants, and their init records (R548, R557, R579). -/

namespace Sys2Proof.Machine

/-- STATE of a tenant: 0 UNDEFINED, 1 STOPPED, 2 RUNNING, 3 EXCHANGING. -/
def State.tenState (s : State) (t : Nat) : Nat := s.regField (Reg.filTen t 0) 21 3
def State.setTenState (s : State) (t v : Nat) : State := s.setRegField (Reg.filTen t 0) 21 3 v

/-! ### Init records (R548) -/

/-- The handle that an image's record of a tenant names. -/
def State.handle (s : State) (t j : Nat) : Triple := Map.get (fun _ => 0) s.fil.handles (4096 * t + j)
def State.setHandle (s : State) (t j : Nat) (v : Triple) : State :=
  { s with fil := { s.fil with handles := Map.set (fun _ => 0) s.fil.handles (4096 * t + j) v } }

/-- A token of the loader: source tenant 0, the unused bits of its type clear (R57), with its complement where it is critical.
(log 80, DEDUCED) -/
def loaderToken (tag v0 : Triple) : Token :=
  let v := clearUnused (Tag.ty tag) v0
  ⟨nodeLoader, 0, 0, 0, if Tag.crit tag then 3 else 2, tag, v, if Tag.crit tag then ~~~v else 0, false⟩

/-- One init record of tenant `t`; none where an ALLOC finds no frame. -/
def State.initRec (s : State) (t : Nat) : InitRec → Option State
  | .alloc k j =>
    match s.template t k with
    | none => none
    | some v =>
      match s.allocRun t t (clusterOf s.member nodeLoader) v with
      | (none, _) => none
      | (some h, s1) =>
        let f := Tag.frame h
        some ((s1.setFrame f { s1.frame f with init := true }).setHandle t j h)
  | .token sl ty crit j flow v =>
    let h := s.handle t j
    some (s.send (.ftok (loaderToken (Tag.mk (Tag.device h) (Tag.frame h) (Tag.gen h) ((Tag.slot h + sl) % 256) flow ty crit.toNat) v)))
  | .port tag v => some (s.inject nodeLoader (.ptok (loaderToken tag v)))

/-- Init records in order. -/
def State.runInit (s : State) (t : Nat) : List InitRec → Option State
  | [] => some s
  | r :: rs => match s.initRec t r with
    | none => none
    | some s1 => s1.runInit t rs

/-! ### START and STOP (R557) -/

/-- The cells of a tenant that have a function of their own. -/
def State.tenantCells (s : State) (t : Nat) : List Nat :=
  (List.range (unitCount s.member .cells)).filter (fun c => s.programmed c && decide (s.cellOwner c = t))

/-- A cell goes from IDLE to RUN and drives its safe levels until its first commit acts. -/
def State.cellStart (s : State) (c : Nat) : State :=
  if s.cellState c = 0 then (s.cellFresh c).cellRuns c else s

/-- An image task becomes READY with a cleared record (R141, R283). -/
def State.imageTask (s : State) (n : Nat) : State :=
  let s1 := s.recClear n
  let t := s1.task n
  (s1.setTask n { t with
    evm := 0
    lastpav := t.homepav
    saved := false
    target := 0
    result := none
    epoch := s.epochOf t.owner }).taskReady n

/-- Image tasks of a tenant. -/
def State.imageTasks (s : State) (t : Nat) : List Nat :=
  (s.hub.tasks.filter (fun e => e.2.image && e.2.valid && decide (e.2.owner = t) && decide (e.2.st = .free))).map Prod.fst

/-- START of a tenant that is STOPPED: a first one starts cells, tasks and init records; a later one lets the hub bind
again. (log 81, DEDUCED) -/
def State.startTenant (s : State) (t : Nat) : State :=
  if s.tenState t ≠ 1 then s
  else if t ∈ s.fil.started then s.setTenState t 2
  else
    let s1 := (s.imageTasks t).foldl State.imageTask ((s.tenantCells t).foldl State.cellStart s)
    match s1.runInit t (s1.initOf t) with
    | none => (s.setRegField 0x003000 8 8 13).log 0x61 nodeLoader 0 0x000D0E (some 0)
    | some s2 => State.setTenState { s2 with fil := { s2.fil with started := s2.fil.started ++ [t] } } t 2

/-- STOP of a RUNNING tenant: its cells go to SAFE, and strands in service run to END. (log 81, DEDUCED) -/
def State.stopTenant (s : State) (t : Nat) : State :=
  if s.tenState t ≠ 2 then s else (s.setTenState t 1).cellsSafe (some t)

/-- A write of FIL.TEN[t]. (log 81, DEDUCED) -/
def State.tenWrite (s : State) (t : Nat) (ws : List (Nat × Word)) : State :=
  let s1 := if (wrote ws 0).bit 18 then s.startTenant t else s
  if (wrote ws 0).bit 17 then s1.stopTenant t else s1

/-- START (R557): a warden write of FIL.TEN[t] with START 1. -/
def execTenantStart (q : Req) (t : Nat) (v : Word) (s : State) : Out :=
  if t ≥ 512 then .fault .absentUnit
  else s.wardenWhole q (Reg.filTen t 0) 2 v (fun ws => (wrote ws 0).bit 18) (fun s ws => s.tenWrite t ws)

/-- STOP (R557, R579): a warden write of FIL.TEN[t] with STOP 1, or the device's own STOP after a tenant fault. -/
def execTenantStop (q : Option Req) (t : Nat) (v : Word) (s : State) : Out :=
  if t ≥ 512 then .fault .absentUnit
  else match q with
    | some q => s.wardenWhole q (Reg.filTen t 0) 2 v (fun ws => (wrote ws 0).bit 17) (fun s ws => s.tenWrite t ws)
    | none => .next ((s.take (.stopTenant t)).stopTenant t)

end Sys2Proof.Machine
end

