-- ==== Sys2Proof/Machine/Boot.lean ====
section
/-! DEFINITION. The update-state record, the choice of a slot, the load of a full image, and the exchange of digests
between the dies of a pair (R554 to R562, R589). -/

namespace Sys2Proof.Machine

/-! ### The update-state record (R558, R559) -/

/-- Slot states of the record (Table 17-9). -/
def recState (r : List Word) (slot : Nat) : Nat := (r.getD 2 0).field (if slot = 0 then 21 else 18) 3
def setRecState (r : List Word) (slot v : Nat) : List Word :=
  r.set 2 ((r.getD 2 0).setField (if slot = 0 then 21 else 18) 3 v)
def recCount (r : List Word) : Nat := (r.getD 2 0).field 8 8
def setRecCount (r : List Word) (v : Nat) : List Word := r.set 2 ((r.getD 2 0).setField 8 8 v)
def recMax (r : List Word) : Nat := (r.getD 2 0).field 0 8
def recSeq (r : List Word) : Nat := (r.getD 1 0).toNat

/-- A pair of slot states that Table 17-10 can produce: CONFIRMED beside EMPTY, DOWNLOADING, VERIFIED or PENDING, or TRIAL
beside FALLBACK. -/
def legalPair (a b : Nat) : Bool :=
  decide ((a = 5 ∧ b ≤ 3) ∨ (b = 5 ∧ a ≤ 3) ∨ (a = 4 ∧ b = 6) ∨ (a = 6 ∧ b = 4))

/-- A copy of 32 words is valid. -/
def recValid (c : List Word) : Bool :=
  (List.range 16).all (fun i => decide (c.getD (16 + i) 0 = ~~~(c.getD i 0)))
    && decide (c.getD 0 0 = 0x5A0001) && legalPair (recState c 0) (recState c 1)

/-- Copy `a` is newer than copy `b`. -/
def recNewer (a b : List Word) : Bool :=
  let d := (recSeq a + 16777216 - recSeq b) % 16777216
  decide (1 ≤ d ∧ d < 8388608)

/-- The copies: flash copy 0 or 1, and the cache. -/
def State.flashCopy (s : State) (k : Nat) : List Word := (List.range 32).map (fun i => s.flashWord (0x10000 * k + 3 * i))
def State.cacheCopy (s : State) : List Word := (List.range 32).map (fun i => s.reg (0x002080 + i))

/-- The newer of two copies that are valid. -/
def newerOf (a b : Option (List Word)) : Option (List Word) :=
  match a, b with
  | some x, some y => if recNewer y x then some y else some x
  | some x, none => some x
  | none, y => y

/-- A copy, if it is valid. -/
def validCopy (c : List Word) : Option (List Word) := if recValid c then some (c.take 16) else none

/-- The newest valid record of the flash, and of all three copies. -/
def State.flashRecord (s : State) : Option (List Word) := newerOf (validCopy (s.flashCopy 0)) (validCopy (s.flashCopy 1))
def State.newestRecord (s : State) : Option (List Word) := newerOf s.flashRecord (validCopy s.cacheCopy)

/-- The flash copy that a write replaces: the one that does not hold the newest valid record. -/
def State.writeCopy (s : State) : Nat :=
  match validCopy (s.flashCopy 0), validCopy (s.flashCopy 1) with
  | some x, some y => if recNewer y x then 0 else 1
  | some _, none => 1
  | _, _ => 0

/-- Erase a 64 KiB sector. -/
def State.eraseSector (s : State) (k : Nat) : State :=
  { s with fil := { s.fil with flash := s.fil.flash.filter (fun e => decide (e.1 / 65536 ≠ k)) } }

/-- Program words at a byte address whose bytes are erased. -/
def State.putFlash (s : State) (a : Nat) : List Word → State
  | [] => s
  | w :: ws =>
    (((s.setFlash a (w.extractLsb' 16 8)).setFlash (a + 1) (w.extractLsb' 8 8)).setFlash (a + 2) (w.extractLsb' 0 8)).putFlash
      (a + 3) ws

/-- The 32 words of a record with SEQ raised by 1. -/
def recCopy (r : List Word) : List Word :=
  let r1 := r.set 1 ((r.getD 1 0) + 1)
  r1 ++ r1.map (fun w => ~~~w)

/-- The first steps of a record write: AON.UPDC takes the record, and the flash copy is erased. It ends at the state's next
record step with RESULT `result`. (log 77, DESIGN CHOICE) -/
def State.startWrite (s : State) (r : List Word) (result : Nat) (reset : Bool) (svn : Option Nat) : State :=
  let c := recCopy r
  let k := s.writeCopy
  let s1 := (List.range 32).foldl (fun s i => s.setReg (0x002080 + i) (c.getD i 0)) s
  let s2 := s1.eraseSector k
  { s2 with fil := { s2.fil with upd := some ⟨result, some (k, c), reset, svn⟩ } }

/-- The last step of a record write: the copy is programmed and reads back. -/
def State.endWrite (s : State) : State :=
  match s.fil.upd with
  | some j =>
    let s1 : State := { s with fil := { s.fil with upd := none } }
    match j.write with
    | some (k, c) => s1.putFlash (0x10000 * k) c
    | none => s1
  | none => s

/-! ### The choice (R561) -/

/-- The boot of a slot starts: rows 6 to 9 of Table 17-8. -/
def State.bootSlot (s : State) (slot : Nat) (trial rescue fresh : Bool) : State :=
  let s1 : State := { s with fil := { s.fil with boot := some ⟨slot, trial, rescue, fresh, false⟩ } }
  (((s1.setRegField 0x003000 20 1 slot).setRegField 0x003000 18 1 rescue.toNat).setRegField 0x003000 16 1 trial.toNat).setRegField
    0x003000 21 3 1

/-- RECOVERY: no tenant runs, and rails other than 0 and 1 are off (R556). -/
def State.enterRecovery (s : State) : State :=
  let s1 : State := { s with fil := { s.fil with boot := none } }
  State.setRegField ((List.range 14).foldl (fun s i =>
    let r := i + 2
    if s.railState r = 0 then s else (s.railOff r).setRailState r 0) s1) 0x003000 21 3 3

/-- FALL BACK(e): the TRIAL slot is EMPTY, the other CONFIRMED, and it boots. -/
def State.fallBack (s : State) (r : List Word) (e : Nat) : State :=
  let t := if recState r 0 = 4 then 0 else 1
  let r1 := setRecState (setRecState r t 0) (1 - t) 5
  let r2 := r1.set 6 ((r1.getD 6 0).setField 16 8 e)
  (s.startWrite r2 0 false none).bootSlot (1 - t) false false false

/-- CHOOSE of R561. (log 77, DESIGN CHOICE) -/
def State.choose (s : State) : State :=
  match s.newestRecord with
  | none => s.bootSlot 0 false false true
  | some r0 =>
    let cached := match s.flashRecord with
      | some f => recNewer r0 f
      | none => true
    let s1 := if cached then (s.startWrite r0 0 false none).endWrite else s
    let r := if cached then (recCopy r0).take 16 else r0
    let p := if recState r 0 = 3 then some 0 else if recState r 1 = 3 then some 1 else none
    let t := if recState r 0 = 4 then some 0 else if recState r 1 = 4 then some 1 else none
    match p, t with
    | some a, _ =>
      let r1 := setRecCount (setRecState (setRecState r a 4) (1 - a) 6) 1
      (s1.startWrite r1 0 false none).bootSlot a true false false
    | none, some a =>
      if recCount r ≥ recMax r then s1.fallBack r 0x80
      else (s1.startWrite (setRecCount r (recCount r + 1)) 0 false none).bootSlot a true false false
    | none, none => s1.bootSlot (if recState r 0 = 5 then 0 else 1) false false false

/-- CHOOSE: the boot ROM reads STRAP_BOOT, and the record where the strap is low. (log 77, DESIGN CHOICE) -/
def execBootChoose (strap : Bool) (s : State) : Out :=
  if s.power.core = false ∨ s.power.seq.isSome = true ∨ s.fil.boot.isSome = true ∨ s.regField 0x003000 21 3 ≠ 0 then .next s
  else if strap then .next s.enterRecovery
  else .next s.choose

/-! ### The load (R549, R555) -/

/-- A load error is reported: ERR, ERRSECT, ERRPOS and the record. -/
def State.loadFails (s : State) (e : LoadErr) : State :=
  (((s.setRegField 0x003000 8 8 e.err).setRegField 0x003000 0 8 e.sect).setReg 0x003001 (BitVec.ofNat 24 e.pos)).log 0x61
    nodeLoader 0 (BitVec.ofNat 24 (e.err * 256 + e.sect)) (some (Triple.ofWords (BitVec.ofNat 24 e.pos) 0 0))

/-- What R561 does on a load failure. -/
def State.bootFails (s0 : State) (j : BootJob) (e : LoadErr) : State :=
  let s := s0.loadFails e
  if j.fresh then (if j.slot = 0 then s.bootSlot 1 false false true else s.enterRecovery)
  else match s.newestRecord with
    | none => s.enterRecovery
    | some r =>
      if j.trial then s.fallBack r e.err
      else if !j.rescue && decide (recState r (1 - j.slot) = 2) then s.bootSlot (1 - j.slot) false true false
      else s.enterRecovery

/-- The loader resets the units that it wrote: rails 2 to 15, domains and the governor. -/
def State.resetLoaded (s : State) : State :=
  let s1 := (List.range 14).foldl (fun s i => if s.railState (i + 2) = 0 then s else s.railOff (i + 2)) s
  { s1 with regs := s1.regs.filter (fun e => !(decide (0x002018 ≤ e.1 ∧ e.1 < 0x002050) || decide (0x001000 ≤ e.1 ∧ e.1 < 0x002000))) }

/-- The JESD79-5 data rates, highest first, in units of 8 MT/s. (log 78, DESIGN CHOICE) -/
def ddrRates : List Nat := [700, 650, 600, 550, 500, 450, 400]

/-- Train one channel: first at REQRATE, then at each lower rate. `oks` lists the rates at which each channel trains. (log 78, DESIGN CHOICE) -/
def State.trainDdr (s : State) (oks : List (Nat × Nat)) (c : Nat) : State :=
  let w := s.reg (Reg.ddr c 4)
  let size := w.field 0 8
  if size = 0 then s
  else
    let req := if w.field 8 12 = 0 then 400 else min 700 (w.field 8 12)
    match (req :: ddrRates.filter (fun r => decide (r < req))).find? (fun r => decide ((c, r) ∈ oks)) with
    | some r => s.setReg (Reg.ddr c 0) (fields [(23, 1), (8, r), (0, size)])
    | none => s.log 0x56 (nodeDdr c) 0 (BitVec.ofNat 24 c) none

/-- Row 10 of Table 17-8: tenant 0 starts, then every tenant with AUTOSTART, unless the dies of a pair must first agree
on their digests. (log 97, DEDUCED) -/
def State.autostart (s : State) : State :=
  (List.range 511).foldl (fun s i => if s.regBit (Reg.filTen (i + 1) 0) 19 then s.startTenant (i + 1) else s) s

/-- The end of a boot. -/
def State.runImage (s : State) (j : BootJob) : State :=
  let s1 := (s.setTenState 0 1).startTenant 0
  let s2 := s1.setRegField 0x003000 21 3 2
  let r := s2.newestRecord
  let s3 : State := { s2 with fil := { s2.fil with
    boot := none
    digestDue := decide (s.member = .z256d)
    trialEnd := if j.trial then some (s2.elapsed + (((r.map (fun r => (r.getD 3 0).toNat)).getD 0) * 2 ^ 32)) else none } }
  let s4 := if j.fresh then
      let a := setRecState (List.replicate 16 0 |>.set 0 0x5A0001 |>.set 2 1) j.slot 5
      (s3.startWrite a 0 false none).endWrite
    else s3
  if s4.fil.digestDue then s4 else s4.autostart

/-- The state that an image's sections of types 0x02 to 0x0E make, before anything starts. -/
def State.loadImage (s : State) (m : Image) : State := (s.loadSections m (fun ty => decide (ty ≥ 2))).setQuotas.setDomains

/-- The die as a reset leaves it, to check an image on without loading it. -/
def State.blankDie (s : State) : State :=
  { State.reset with
    member := s.member
    die := s.die
    regs := s.regs.filter (fun e => s.keepsReg e.1) }

/-- The first pass: checks 1 to 9. -/
def State.firstPass (s : State) (m : Image) : Option LoadErr :=
  let b := s.blankDie
  match b.checkImage m none with
  | some e => some e
  | none =>
    match b.checkLoaded (b.loadSections m (fun _ => true)) m with
    | some ty => some ⟨9, ty, m.sectionAt ty⟩
    | none => none

/-- The second pass, once the rails of row 7 stand. -/
def State.secondPass (s : State) (j : BootJob) (m : Image) (bad : Bool) (oks : List (Nat × Nat)) (retain : List Nat) : State :=
  if bad then s.resetLoaded.bootFails j ⟨10, 0, 0⟩
  else
    let s1 := (List.range (unitCount s.member .ddrs)).foldl (fun s c => s.trainDdr oks c) (s.loadImage m)
    State.runImage { s1 with power := { s1.power with retain := retain } } j

/-- IMAGE_LOAD: rows 6 to 10 of Table 17-8 for the slot that CHOOSE took. `fail` says that a flash read failed, `differs`
that the digest of the second pass differs; `oks` lists the channels and rates at which DDR training succeeds, and
`retain` the pavilions with a partition that carries the RETAIN mark. Where rails must come up first, the command after
they stand goes on. (log 78, DESIGN CHOICE) -/
def execImageLoad (fail differs : Bool) (oks : List (Nat × Nat)) (retain : List Nat) (s0 : State) : Out :=
  match s0.fil.boot with
  | none => .next s0
  | some j =>
    if s0.power.core = false ∨ s0.power.seq.isSome = true then .next s0
    else
      let s := s0.endWrite
      let m := s.slotImage j.slot
      if j.passed then .next (s.secondPass j m (fail || differs) oks retain)
      else if fail then .next (s.bootFails j ⟨10, 0, 0⟩)
      else match s.firstPass m with
        | some e => .next (s.bootFails j e)
        | none =>
          let s1 := (s.loadSections m (fun ty => decide (ty = 1))).setRegField 0x003000 17 1 (m.debug || s.openPart).toNat
          let s2 := State.seqFrom { s1 with
            power := { s1.power with release := false }
            fil := { s1.fil with boot := some { j with passed := true } } } 2
          if s2.power.seq.isSome then .next s2 else .next (s2.secondPass { j with passed := true } m differs oks retain)

/-! ### The pair at the end of boot (R589) -/

/-- DIGEST_EXCHANGE: the other die's digest arrives. The role of the die is fixed by DEP.PAIR.LEAD. (log 97, DEDUCED) -/
def execDigestExchange (digest : List (BitVec 8)) (s : State) : Out :=
  if s.fil.digestDue = false then .next s
  else
    let m := s.slotImage (s.regField 0x003000 20 1)
    let s1 : State := { s with fil := { s.fil with digestDue := false } }
    let lead := if s.regBit 0x000040 18 then 1 else 0
    let s2 := s1.setPairRole (if s.die % 2 = lead then 0 else 1)
    if m.digest 0 m.length = digest then .next s2.autostart
    else .next ((s2.setPairState 3).log 0x7B nodeLog 0 0 none)

end Sys2Proof.Machine
end

