-- ==== Sys2Proof/Machine/Coherent.lean ====
section
/-! DEFINITION. Commands of coherent state memory: requests and notices at the home, forwards and invalidations at a
cache, answers, and fills (R311 to R324). -/

namespace Sys2Proof.Machine

/-- The request names a line of the state space, at its home. -/
def State.homed (s : State) (q : Req) (l : Nat) : Bool := decide (q.dest = nodeSlice (s.homeOf l) ∧ 8 * l < s.stateSize)

/-- Serve a request at the home, or refuse one that lies outside the state space. -/
def State.atHome (s : State) (q : Req) (op : ReqOp) (w : Nat) (ecc : Ecc) : Out :=
  if s.homed q (w / 8) then .next ((s.homeCheck w ecc).homeRequest (w / 8) q op) else .next (s.refuse q op 2)

/-- RD (R315); `n` is the line. -/
def execRdLine (q : Req) (n : Nat) (ecc : Ecc) (s : State) : Out :=
  s.arriveReq q (.rd n) false (fun s => s.atHome q (.rd n) (8 * n) ecc)

/-- RDX (R315). -/
def execRdxLine (q : Req) (n : Nat) (ecc : Ecc) (s : State) : Out :=
  s.arriveReq q (.rdx n) false (fun s => s.atHome q (.rdx n) (8 * n) ecc)

/-- RDU (R315); `n` is the state word. -/
def execRduLine (q : Req) (n : Nat) (ecc : Ecc) (s : State) : Out :=
  s.arriveReq q (.rdu n) false (fun s => s.atHome q (.rdu n) n ecc)

/-- WRU (R315). -/
def execWruLine (q : Req) (n : Nat) (v : Word) (s : State) : Out :=
  s.arriveReq q (.wru n v) false (fun s => s.atHome q (.wru n v) n .sound)

/-- WB (R314, Table 11-7): its data is written on arrival, the words of a poisoned unit poisoned. -/
def execWbLine (q : Req) (line : Nat) (ws : List SWord) (s : State) : Out :=
  s.arriveReq q (.wb line ws) true (fun s =>
    if s.homed q line then .next (s.homeNotice line q (some (markBad q.poison 0 ws))) else .next (s.refuse q (.wb line ws) 2))

/-- EVC (R315). -/
def execEvcLine (q : Req) (line : Nat) (s : State) : Out :=
  s.arriveReq q (.evc line) false (fun s =>
    if s.homed q line then .next (s.homeNotice line q none) else .next (s.refuse q (.evc line) 2))

/-- A check of the forwarded line's word before it is read (R323). A double-bit error in an E line drops the line, and
the forward is answered from the victim buffer. -/
def State.checkedForward (s : State) (q : Req) (line : Nat) (excl : Bool) (ecc : Ecc) : State :=
  let held := ((s.cache q.dest).find line).isSome
  (if held then (s.cacheCheck q.dest line 0 ecc).1 else s).forwardAt q.dest line excl q

/-- FWD_S (R316). -/
def execFwdS (q : Req) (line : Nat) (ecc : Ecc) (s : State) : Out :=
  s.arriveReq q (.fwdS line) false (fun s => .next (s.checkedForward q line false ecc))

/-- FWD_X (R316). -/
def execFwdX (q : Req) (line : Nat) (ecc : Ecc) (s : State) : Out :=
  s.arriveReq q (.fwdX line) false (fun s => .next (s.checkedForward q line true ecc))

/-- INV (R316). -/
def execInvLine (q : Req) (line : Nat) (s : State) : Out :=
  s.arriveReq q (.inv line) false (fun s => .next (s.invAt q.dest line q))

/-! ### Answers at the home -/

/-- An answer of a cache reaches the home that asked for line `line`. -/
def State.answerHome (s : State) (p : Rsp) (pkt : Packet) (cmd line : Nat) (k : State → State) : Out :=
  if nodePresent s.member p.node = false then .fault .absentUnit
  else s.arriveRsp p pkt cmd (fun o _ s => match o.who with
    | .home l => if l = line then .next (k s) else .next s
    | _ => .next s)

/-- FDATA (R315); the words of a poisoned unit are poisoned in the store (Table 11-7). -/
def execFdata (p : Rsp) (line : Nat) (ws : List SWord) (dirty : Bool) (s : State) : Out :=
  s.answerHome p (.fdata p line ws dirty) 0x2D line (fun s => s.homeData line p.src ws dirty p.poison)

/-- ACK (R315). -/
def execAckLine (p : Rsp) (line : Nat) (s : State) : Out :=
  s.answerHome p (.ack p line) 0x2E line (fun s => s.homeAck line p.src)

/-- GONE (R317). -/
def execGoneLine (p : Rsp) (line : Nat) (s : State) : Out :=
  s.answerHome p (.gone p line) 0x2F line (fun s => s.homeGone line p.src)

/-! ### Fills and acknowledgements at a cache -/

/-- A fill reaches the cache that awaits it. -/
def State.fillRow (s : State) (p : Rsp) (kind : FillKind) (ws : List SWord) : Out :=
  if nodePresent s.member p.node = false then .fault .absentUnit
  else s.arriveRsp p (.fill kind p ws) kind.cmd (fun o _ s => match o.who with
    | .fill c l => .next ((s.fillArrives c l kind p.poison ws).flushStep c)
    | _ => .next s)

/-- DATA_S (R311, R316). -/
def execDataS (p : Rsp) (ws : List SWord) (s : State) : Out := s.fillRow p .shared ws

/-- DATA_E (R311). -/
def execDataE (p : Rsp) (ws : List SWord) (s : State) : Out := s.fillRow p .exclusive ws

/-- DATA_M (R318). -/
def execDataM (p : Rsp) (ws : List SWord) (s : State) : Out := s.fillRow p .modified ws

/-- WB_ACK (R317): the victim buffer entry is free. -/
def execWbAck (p : Rsp) (line : Nat) (s : State) : Out :=
  if nodePresent s.member p.node = false then .fault .absentUnit
  else s.arriveRsp p (.wbAck p line) 0x30 (fun o _ s => match o.who with
    | .evict c l => .next (s.victimFreed c l)
    | _ => .next s)

end Sys2Proof.Machine
end

