-- ==== Sys2Proof/Machine/Update.lean ====
section
/-! DEFINITION. Record commands, flash operations and fuses (R551, R559, R560, R571, R572, R576). -/

namespace Sys2Proof.Machine

/-! ### Record commands (Table 17-10) -/

/-- A record command is under way. -/
def State.updBusy (s : State) : Bool := s.regBit 0x003021 19

/-- BUSY and RESULT of FIL.UPDCMD. -/
def State.setUpd (s : State) (busy : Bool) (result : Nat) : State :=
  (s.setRegField 0x003021 19 1 busy.toNat).setRegField 0x003021 16 3 result

/-- A command ends without a record write: refused (1) or with its verification failed (2). -/
def State.updFails (s : State) (result : Nat) : State :=
  { s with fil := { s.fil with upd := some ⟨result, none, false, none⟩ } }

/-- The record after a command, where Table 17-10 allows it. VERIFY and CONFIRM have more to say. -/
def recCommand (r : List Word) (cmd slot max : Nat) (seconds : Word) (trial : Bool) : Option (List Word) :=
  let a := recState r slot
  let b := recState r (1 - slot)
  let busy := decide (a = 3 ∨ a = 4 ∨ b = 3 ∨ b = 4)
  match cmd with
  | 1 => if (a = 0 ∨ a = 2 ∨ a = 1) ∧ busy = false then some (setRecState r slot 1) else none
  | 2 => if a = 1 then some (setRecState r slot 2) else none
  | 3 =>
    if a = 2 ∧ b = 5 then
      some (((setRecCount (setRecState r slot 3) 0).set 2 (((setRecCount (setRecState r slot 3) 0).getD 2 0).setField 0 8
        (if max = 0 then 1 else max))).set 3 seconds)
    else none
  | 4 => if a = 3 then some (setRecState r slot 2) else none
  | 5 => if trial ∧ a = 4 then some (setRecCount (setRecState (setRecState r slot 5) (1 - slot) 2) 0) else none
  | 6 =>
    if a = 4 then
      (let r1 := setRecState (setRecState r slot 0) (1 - slot) 5
       some (r1.set 6 ((r1.getD 6 0).setField 16 8 0x80)))
    else none
  | 7 => if a = 0 ∨ a = 1 ∨ a = 2 then some (setRecState r slot 0) else none
  | _ => none

/-- A record command starts. (log 84, DEDUCED) -/
def State.updCommand (s : State) (cmd slot max : Nat) (seconds : Word) : State :=
  let s1 := s.setUpd true 0
  match s1.newestRecord with
  | none => s1.updFails 1
  | some r =>
    match recCommand r cmd slot max seconds (s1.regBit 0x003000 16) with
    | none => s1.updFails 1
    | some r1 =>
      let m := s1.slotImage slot
      if cmd = 2 then
        (match s1.firstPass m with
          | some _ => s1.updFails 2
          | none => s1.startWrite (r1.set (4 + slot) (BitVec.ofNat 24 m.svn)) 0 false none)
      else if cmd = 5 then
        let s2 : State := { s1 with fil := { s1.fil with trialEnd := none } }
        s2.startWrite r1 0 false (if m.svnBurn then some m.svn else none)
      else s1.startWrite r1 0 (decide (cmd = 6)) none

/-- A write of FIL.UPDCMD; one while a command runs is ignored. -/
def State.updWrite (s : State) (ws : List (Nat × Word)) : State :=
  if s.updBusy then s
  else
    let v := wrote ws 1
    let s1 := match ws.find? (fun e => decide (e.1 = 0)) with
      | some e => s.setReg 0x003020 e.2
      | none => s
    let s2 := s1.setReg 0x003021 ((s1.reg 0x003021 &&& 0x0F0000) ||| (v &&& 0x10FF00))
    let s3 := if v.bit 7 then (List.range 32).foldl (fun s i => s.setReg (0x002080 + i) 0) s2 else s2
    if v.field 21 3 = 0 then s3 else s3.updCommand (v.field 21 3) (v.field 20 1) (v.field 8 8) (s3.reg 0x003020)

/-- A warden write of FIL.UPDCMD whose CMD is `cmd`. -/
def State.updRow (s : State) (q : Req) (v : Word) (cmd : Nat) : Out :=
  s.wardenWhole q 0x003020 2 v (fun ws => decide ((wrote ws 1).field 21 3 = cmd)) (fun s ws => s.updWrite ws)

/-- BEGIN. -/
def execUpdBegin (q : Req) (v : Word) (s : State) : Out := s.updRow q v 1
/-- VERIFY. -/
def execUpdVerify (q : Req) (v : Word) (s : State) : Out := s.updRow q v 2
/-- ARM. -/
def execUpdArm (q : Req) (v : Word) (s : State) : Out := s.updRow q v 3
/-- DISARM. -/
def execUpdDisarm (q : Req) (v : Word) (s : State) : Out := s.updRow q v 4
/-- CONFIRM. (log 84, DEDUCED) -/
def execUpdConfirm (q : Req) (v : Word) (s : State) : Out := s.updRow q v 5
/-- REJECT. -/
def execUpdReject (q : Req) (v : Word) (s : State) : Out := s.updRow q v 6
/-- ERASE. -/
def execUpdErase (q : Req) (v : Word) (s : State) : Out := s.updRow q v 7
/-- CLRC (R571): AON.UPDC is zeroed. -/
def execClrc (q : Req) (v : Word) (s : State) : Out :=
  s.wardenWhole q 0x003020 2 v (fun ws => (wrote ws 1).bit 7) (fun s ws => s.updWrite ws)

/-- The fuse SVN never decreases (R551). -/
def State.raiseSvn (s : State) (n : Nat) : State :=
  if n ≤ s.regField 0x003080 0 8 then s else s.setRegField 0x003080 0 8 n

/-- RECORD_COMMAND_END (R559): the copy is programmed and read back; a failed flash write ends with RESULT 3. (log 84, DEDUCED) -/
def execRecordCommandEnd (ok : Bool) (s : State) : Out :=
  match s.fil.upd with
  | none => .next s
  | some j =>
    if s.updBusy = false then .next (if ok then s.endWrite else s)
    else match j.write with
      | none => .next (s.endWrite.setUpd false j.result)
      | some (k, _) =>
        if ok then
          let s1 := s.endWrite.setUpd false j.result
          let s2 := match j.svn with | some n => s1.raiseSvn n | none => s1
          .next (if j.reset then s2.warmReset true else s2)
        else .next (State.setUpd { s.garble (0x10000 * k) 96 with fil := { (s.garble (0x10000 * k) 96).fil with upd := none } } false 3)

/-! ### Flash operations (R572) -/

/-- The state of a slot in the newest record; EMPTY where none is valid. -/
def State.slotState (s : State) (slot : Nat) : Nat := (s.newestRecord.map (fun r => recState r slot)).getD 0

/-- Programs and erases stay within one slot that is DOWNLOADING (R560); in RECOVERY they stay within one slot (R556). (log 83, DEDUCED) -/
def State.flashMay (s : State) (addr n : Nat) : Bool :=
  let lo := addr / 65536 * 65536
  let hi := (addr + n + 65535) / 65536 * 65536
  [0, 1].any (fun k =>
    decide (s.slotStart k ≤ lo) && decide (hi ≤ s.slotStart k + s.slotBytes k)
      && (decide (s.slotState k = 1) || decide (s.regField 0x003000 21 3 = 3)))

/-- BUSY and RESULT of FIL.FLASHCMD. -/
def State.setFlashStat (s : State) (busy : Bool) (result : Nat) : State :=
  (s.setRegField 0x003027 21 1 busy.toNat).setRegField 0x003027 19 2 result

/-- A write of FIL.FLASHCMD; one while an operation runs is ignored. (log 83, DEDUCED) -/
def State.flashWrite (s : State) (ws : List (Nat × Word)) : State :=
  if s.fil.flashOp.isSome then s
  else
    let s1 := ws.foldl (fun s e => if e.1 = 3 then s.setRegField 0x003027 18 1 (e.2.bit 18).toNat else s.setReg (0x003024 + e.1) e.2) s
    let op := (wrote ws 3).field 22 2
    let addr := 16 * (s1.reg 0x003024).toNat
    let n := (s1.reg 0x003026).toNat
    let rbuf := s1.regBit 0x003027 18
    let d := 16 * (s1.reg 0x003025).toNat
    if op = 0 then s1
    else if (rbuf = true ∧ n > 256) ∨ addr + 3 * n > s1.fil.flashSize ∨ (op ≠ 3 ∧ n > 0 ∧ s1.flashMay addr (3 * n) = false) then
      s1.setFlashStat false 1
    else
      State.setFlashStat { s1 with fil := { s1.fil with flashOp := some ⟨op, addr, n, if rbuf then none else some d⟩ } } true 0

/-- A warden write of FIL.FLASHCMD whose OP is `op`. -/
def State.flashRow (s : State) (q : Req) (v : Word) (op : Nat) : Out :=
  s.wardenWhole q 0x003024 4 v (fun ws => decide ((wrote ws 3).field 22 2 = op)) (fun s ws => s.flashWrite ws)

/-- FLASH_ERASE. (log 83, DEDUCED) -/
def execFlashErase (q : Req) (v : Word) (s : State) : Out := s.flashRow q v 1
/-- FLASH_PROGRAM. -/
def execFlashProgram (q : Req) (v : Word) (s : State) : Out := s.flashRow q v 2
/-- FLASH_READ. -/
def execFlashRead (q : Req) (v : Word) (s : State) : Out := s.flashRow q v 3

/-- A word of a flash operation's other side: DDR, or FIL.RBUF. -/
def State.flashSide (s : State) (j : FlashJob) (i : Nat) : Word :=
  match j.ddr with
  | some d => s.ddrRead (d + i)
  | none => s.reg (0x003100 + i)
def State.setFlashSide (s : State) (j : FlashJob) (i : Nat) (v : Word) : State :=
  match j.ddr with
  | some d => s.ddrWrite (d + i) v
  | none => s.setReg (0x003100 + i) v

/-- Program one byte: an erased byte takes the value; what another byte becomes is not stated. -/
def State.progByte (s : State) (a : Nat) (v : BitVec 8) : State :=
  if s.flashAt a = 0xFF ∨ s.flashAt a = v then s.setFlash a v else s.setFlash a (Config.flashByte s.free a)

/-- Program one word. -/
def State.progWord (s : State) (a : Nat) (v : Word) : State :=
  ((s.progByte a (v.extractLsb' 16 8)).progByte (a + 1) (v.extractLsb' 8 8)).progByte (a + 2) (v.extractLsb' 0 8)

/-- The effect of a flash operation. -/
def State.flashEffect (s : State) (j : FlashJob) : State :=
  match j.op with
  | 1 => (List.range ((j.addr % 65536 + 3 * j.words + 65535) / 65536)).foldl (fun s k => s.eraseSector (j.addr / 65536 + k)) s
  | 2 =>
    let s1 := (List.range j.words).foldl (fun s i => s.progWord (j.addr + 3 * i) (s.flashSide j i)) s
    { s1 with free := s1.free + 1 }
  | _ => (List.range j.words).foldl (fun s i => s.setFlashSide j i (s.flashWord (j.addr + 3 * i))) s

/-- What a failed operation leaves in its range or its destination is not stated. -/
def State.flashFails (s : State) (j : FlashJob) : State :=
  if j.op = 3 then (List.range j.words).foldl (fun s i => let d := s.draw; d.2.setFlashSide j i d.1) s
  else s.garble j.addr (3 * j.words)

/-- FLASH_OP_DONE (R572). -/
def execFlashOpDone (ok : Bool) (s : State) : Out :=
  match s.fil.flashOp with
  | none => .next s
  | some j =>
    let s1 : State := { s with fil := { s.fil with flashOp := none } }
    .next (if ok then (s1.flashEffect j).setFlashStat false 0 else (s1.flashFails j).setFlashStat false 2)

/-! ### Fuses (R551, R576) -/

/-- A programming write of FIL.FUSE word 65 with OP `op`. -/
def State.fuseRow (s : State) (q : Req) (v : Word) (op : Nat) (act : State → State) : Out :=
  s.openWrite q 0x0030C1 v (decide (v.field 12 12 = 0xF05) && decide (v.field 10 2 = op)) act

/-- Burn a key slot from its hash words; a programmed slot stays as it is. -/
def State.burnKey (s : State) (k : Nat) : State := (s.setRegField 0x003080 (20 + k) 1 1).setRegField 0x003000 19 1 1

/-- Slots that are programmed and not revoked. -/
def State.liveKeys (s : State) : List Nat :=
  (List.range 4).filter (fun k => s.regBit 0x003080 (20 + k) && !(s.regBit 0x003080 (16 + k)))

/-- Revoke a slot, unless it is the last programmed one that is not revoked. -/
def State.revokeKey (s : State) (k : Nat) : State :=
  if s.liveKeys = [k] then s else s.setRegField 0x003080 (16 + k) 1 1

/-- FUSE_BURN. -/
def execFuseBurn (q : Req) (v : Word) (s : State) : Out := s.fuseRow q v 1 (fun s => s.burnKey (v.field 8 2))
/-- FUSE_REVOKE. -/
def execFuseRevoke (q : Req) (v : Word) (s : State) : Out := s.fuseRow q v 2 (fun s => s.revokeKey (v.field 8 2))
/-- FUSE_RAISE_SVN. -/
def execFuseRaiseSvn (q : Req) (v : Word) (s : State) : Out := s.fuseRow q v 3 (fun s => s.raiseSvn (v.field 0 8))

end Sys2Proof.Machine
end

