-- ==== Sys2Proof/Machine/Exchange.lean ====
section
/-! DEFINITION. The exchange of one tenant while the machine runs (R458, R564 to R568). -/

namespace Sys2Proof.Machine

/-- FIL.XCHG: STATE and ERR. -/
def State.xState (s : State) : Nat := s.regField 0x003046 19 3
def State.setXState (s : State) (v : Nat) : State := s.setRegField 0x003046 19 3 v
def State.setXErr (s : State) (v : Nat) : State := s.setRegField 0x003046 9 8 v

/-! ### Loading beside the running image (R564) -/

/-- The place of a word is one that the running image leaves unused. -/
def State.placeOk (s : State) (t a : Nat) (v : Word) : Bool :=
  match findReg s.member a with
  | none => false
  | some (b, w) =>
    match b.base with
    | 0x058000 => !(s.regBit (a - w) 23) && (decide (w ≠ 0) || decide (v.field 12 9 = t))
    | 0x050000 => decide (s.reg a = 0xFFC000)
    | 0x018000 => !((s.task ((a - 0x018000) / 4)).valid) && (decide (w ≠ 0) || decide (v.field 12 9 = t))
    | 0x05C000 => !((s.task (a - 0x05C000)).valid)
    | 0x010000 =>
      let o := (s.flow (a - 0x010000)).owner
      (decide (o = t) || decide (o = 0)) && decide (v.field 12 9 = t)
    | 0x00A000 =>
      let o := s.regField (a - w + 1) 12 9
      (decide (o = t) || decide (o = 0)) && (decide (w ≠ 1) || decide (v.field 12 9 = t))
    | 0x00C800 => decide (s.reg (a - w + 1) = 0)
    | 0x01C000 => decide (s.reg (a - w + 1) = 0)
    | 0x003010 => decide (s.reg a = v)
    | 0x088000 => decide (w ≠ 1) || decide (v.field 15 9 = t)
    | _ => true

/-- Place one register word, noting what it replaces. -/
def State.placeWord (s : State) (x : Exchange) (a : Nat) (v : Word) : State × Exchange :=
  match findReg s.member a with
  | none => (s, x)
  | some (b, w) =>
    match b.base with
    | 0x040000 =>
      let a' := 0x05D000 + (a - 0x040000) % 128
      (s.setReg a' v, { x with wrote := x.wrote ++ [(a', s.reg a')] })
    | 0x088000 =>
      let n := a - w + 23
      ((s.setReg (a + 16) (if w = 6 then v &&& 0x0000FF else v)).setRegField n 23 1 1,
        { x with wrote := x.wrote ++ [(a + 16, s.reg (a + 16)), (n, s.reg n)] })
    | 0x003400 => (s, { x with later := x.later ++ [(a, v)] })
    | 0x00D000 => (s, { x with later := x.later ++ [(a, v)] })
    | 0x018000 =>
      let n := (a - 0x018000) / 4
      (s.loadWord a v, { x with tasksWas := x.tasksWas ++ [(n, s.task n)] })
    | 0x010000 =>
      let f := a - 0x010000
      (s.loadWord a v, { x with flowsWas := x.flowsWas ++ [(f, s.flow f)] })
    | _ => (s.loadWord a v, { x with wrote := x.wrote ++ [(a, s.reg a)] })

/-- Place consecutive register words. -/
def State.placeWords (s : State) (x : Exchange) (a : Nat) : List Word → State × Exchange
  | [] => (s, x)
  | v :: vs =>
    let r := s.placeWord x a v
    r.1.placeWords r.2 (a + 1) vs

/-- Place one record: code words at once, other resources at T_switch. -/
def State.placeRec (s : State) (x : Exchange) : ImgRec → State × Exchange
  | .reg a ws => s.placeWords x a ws
  | .code c off ws =>
    let at' := s.setBase c + off
    let ps := s.setPavs c
    let was := ps.flatMap (fun p => (List.range ws.length).map (fun i =>
      (16384 * p + at' + i, Map.get (fun _ => (0 : Word)) s.strands.code (16384 * p + at' + i))))
    (ps.foldl (fun s p => s.loadCode p at' ws) s, { x with code := x.code ++ was })
  | r => (s, { x with recs := x.recs ++ [r] })

/-- CARRY of a cell: its next configuration equals the current one, skews excepted. -/
def State.carry (s : State) (c : Nat) : Bool :=
  (List.range 6).all (fun w => decide (s.reg (Reg.cell c w) = s.reg (Reg.cell c (w + 16))))
    && decide (s.regField (Reg.cell c 6) 0 8 = s.regField (Reg.cell c 22) 0 8)

/-- Cells with a next configuration. -/
def State.nextCells (s : State) : List Nat :=
  (List.range (unitCount s.member .cells)).filter (fun c => s.regBit (Reg.cell c 23) 23)

/-- Place every record of an image, then CARRY. (log 82, DEDUCED) -/
def State.placeAll (s : State) (x : Exchange) (m : Image) : State × Exchange :=
  let rs := (m.sections.flatMap (fun e => (m.records e).1)).map Prod.snd
  let r := rs.foldl (fun (y : State × Exchange) e => y.1.placeRec y.2 e) (s, x)
  (r.1.nextCells.foldl (fun s c => s.setRegField (Reg.cell c 23) 22 1 (s.carry c).toNat) r.1, r.2)

/-- What the loader placed is removed, newest first. -/
def State.unplace (s : State) (x : Exchange) : State :=
  let s1 := x.wrote.reverse.foldl (fun s e => s.setReg e.1 e.2) s
  let s2 := x.tasksWas.reverse.foldl (fun s e => s.setTask e.1 e.2) s1
  let s3 := x.flowsWas.reverse.foldl (fun s e => s.setFlow e.1 { s.flow e.1 with owner := e.2.owner }) s2
  x.code.reverse.foldl (fun s e => s.codeStore (e.1 / 16384) (e.1 % 16384) e.2) s3

/-- Registers of the old image that the end of the drain clears: code sets, entries, binds and signals of the tenant. -/
def State.oldRegs (s : State) (t : Nat) : List Nat :=
  let cs := s.codeSets.filter (fun c => decide (s.setOwner c = t))
  let es := (List.range 32768).filter (fun e => decide (s.regField (Reg.entry e) 14 10 ∈ cs))
  let owned := fun (n : Nat) => (s.task n).valid && decide ((s.task n).owner = t)
  let bs := (List.range 1024).filter (fun i => decide (s.reg (Reg.bind i 1) ≠ 0) && owned (s.regField (Reg.bind i 0) 0 12))
  let gs := (List.range 8192).filter (fun i => decide (s.reg (Reg.signal i 1) ≠ 0) && owned (s.regField (Reg.signal i 0) 12 12))
  cs.flatMap (fun c => (List.range 14).map (Reg.codeset c)) ++ es.map Reg.entry
    ++ bs.flatMap (fun i => [Reg.bind i 0, Reg.bind i 1]) ++ gs.flatMap (fun i => [Reg.signal i 0, Reg.signal i 1])

/-- HQUEUE is a queue of the die in MODE 1 or 2 with PKIND 3. -/
def State.hqueueOk (s : State) : Bool :=
  let n := s.regField 0x003045 0 10
  unitPresent s.member .queues n && decide (s.qMode n = 1 ∨ s.qMode n = 2) && decide (s.qPkind n = 3)

/-- Check 9 of a tenant image: `s` is the running state, `c` the state with the image placed. (log 82, DEDUCED) -/
def State.exchangeOk (s c : State) (m : Image) (t : Nat) : Bool :=
  let rs := (m.sections.flatMap (fun e => (m.records e).1)).map Prod.snd
  s.hqueueOk
    && rs.all (fun r => match r with
      | .reg a ws => (List.range ws.length).all (fun i => s.placeOk t (a + i) (ws.getD i 0))
      | .template _ _ v => v.granules.all (fun g => decide (g.arity = 0) || c.entryOk t g.entry)
      | .task n _ _ => (c.task n).valid && decide ((c.task n).owner = t) && !((s.task n).valid)
      | .code k _ _ => decide (c.setOwner k = t) && !(s.setValid k) && c.codeRecOk r
      | r => c.codeRecOk r)
    && (List.range 63).all (fun g => c.segOk t (c.reg (0x05D000 + 2 * g)) (c.reg (0x05D001 + 2 * g)))
    && c.codeOk && s.poolsOk m && c.tasksOk && c.nextCells.all (c.cellOk 16)

/-! ### GO, ABORT and the end of loading -/

/-- A write of FIL.XCHG. -/
def State.xWrite (s : State) (ws : List (Nat × Word)) : State :=
  let v := wrote ws 6
  let st := s.xState
  if v.bit 23 then
    if st = 1 ∨ st = 2 ∨ st = 3 then s
    else
      let s1 := ws.foldl (fun s e => if e.1 = 6 then s.setRegField 0x003046 0 9 (e.2.field 0 9)
        else if e.1 = 5 then s.setReg 0x003045 (e.2 &&& 0x0003FF) else s.setReg (0x003040 + e.1) e.2) s
      let t := v.field 0 9
      let d := (s1.reg 0x003044).toNat
      let run := decide (s1.tenState t = 2)
      let x : Exchange := ⟨t, Triple.ofWords (s1.reg 0x003041) (s1.reg 0x003042) (s1.reg 0x003043), if d = 0 then 1000 else d,
        run, [], [], [], [], [], [], []⟩
      let s2 : State := { (s1.setXState 1).setXErr 0 with fil := { s1.fil with exchange := some x } }
      if run then s2.setTenState t 3 else s2
  else
    match s.fil.exchange with
    | some x =>
      if st = 1 ∨ st = 2 then
        let s1 := (s.unplace x).setXState 5
        let s2 : State := { s1 with fil := { s1.fil with exchange := none } }
        if x.running then s2.setTenState x.tenant 2 else s2
      else s
    | none => s

/-- GO (R564, R568): a warden write of FIL.XCHG with GO 1. (log 82, DEDUCED) -/
def execExchangeGo (q : Req) (v : Word) (s : State) : Out :=
  s.wardenWhole q 0x003040 7 v (fun ws => (wrote ws 6).bit 23) (fun s ws => s.xWrite ws)

/-- ABORT (R568): a warden write of FIL.XCHG with ABORT 1. -/
def execExchangeAbort (q : Req) (v : Word) (s : State) : Out :=
  s.wardenWhole q 0x003040 7 v (fun ws => (wrote ws 6).bit 22 && !((wrote ws 6).bit 23)) (fun s ws => s.xWrite ws)

/-- The exchange is rejected: nothing that it loaded stays. -/
def State.xReject (s : State) (x : Exchange) (e : LoadErr) : State :=
  let s1 := ((s.setXState 5).setXErr e.err).loadFails e
  let s2 : State := { s1 with fil := { s1.fil with exchange := none } }
  if x.running then s2.setTenState x.tenant 2 else s2

/-- EXCHANGE_LOADED (R564): the image is checked and stands beside the running one, or is rejected. -/
def execExchangeLoaded (s : State) : Out :=
  match s.fil.exchange with
  | none => .next s
  | some x =>
    if s.xState ≠ 1 then .next s
    else
      let m := s.ddrImage (4096 * (s.reg 0x003040).toNat)
      match s.checkImage m (some x.tenant) with
      | some e => .next (s.xReject x e)
      | none =>
        let r := s.placeAll { x with old := s.oldRegs x.tenant } m
        if s.exchangeOk r.1 m x.tenant = false then .next (s.xReject x ⟨9, 0, 0⟩)
        else if s.time.toNat + usTicks 100 > x.tsw.toNat then .next (s.xReject x ⟨12, 0, 0⟩)
        else .next (State.setXState { r.1 with fil := { r.1.fil with exchange := some r.2 } } 2)

/-! ### T_switch (R566) -/

/-- An old task ends as KILL ends it, with no tenant fault. -/
def State.endOldTask (s : State) (n : Nat) : State :=
  let s1 := s.unlistTask n
  let gone := fun (s : State) => (s.dropGrant n nodeHub 0).taskFree n
  State.bump (match s1.ctxOfTask n with
    | some c =>
      if (s1.ctx c).state = .saving then ((gone s1).setCtx c Context.idle).schedule c.pav c.pipe
      else s1.cutShort c .oldEpoch
    | none => gone s1) 0x003049

/-- Entries of a ready list or pavilion queue that are activations of a tenant. -/
def oldEntry (t : Nat) (e : Entry) : Bool := !e.isTask && decide (e.act.tenant = t)

/-- Drop every activation of the tenant that is not bound; a flow of one that stood in a pavilion queue, or waited for its
replay, is free. Its frame stays allocated; the source of a fire notice gets its
landing reply. -/
def State.dropOld (s : State) (t : Nat) : State :=
  let mine := fun (a : Activation) => decide (a.tenant = t)
  let count := fun {α : Type} (f : α → Bool) (m : Map (List α)) => (m.map (fun e => (e.2.filter f).length)).foldl (· + ·) 0
  let keep := fun {α : Type} (f : α → Bool) (m : Map (List α)) =>
    (m.map (fun e => (e.1, e.2.filter (fun a => !(f a))))).filter (fun e => !e.2.isEmpty)
  let parked := (s.hub.flows.map (fun e => (e.2.parked.filter mine).length)).foldl (· + ·) 0
  let recalled := (s.hub.recalls.filter (fun e => mine e.2)).length
  let n := count mine s.store.fired + count (oldEntry t) s.hub.rl + count (oldEntry t) s.hub.pq + parked + recalled
  let back := (s.hub.rl.flatMap (fun e => e.2)).filter (oldEntry t)
  let lands := s.store.notices.flatMap (fun e => (e.2.filter (fun k => mine k.act && k.reply)).map (fun k =>
    Packet.land e.1 k.node k.unit k.act.flow))
  let s1 := back.foldl State.returnCredit s
  let gone := ((s.hub.rl ++ s.hub.pq).flatMap (fun e => e.2.filter (oldEntry t))).map (fun e => actId e.act.handle)
  let runs := fun (x : Flow) => x.busy && !(x.order.take 1).any (fun h => decide (h ∈ gone))
  let flows := (s1.hub.flows.map (fun e => if e.2.owner = t then
      (e.1, ({ e.2 with
        busy := runs e.2
        hangReported := e.2.hangReported && runs e.2
        order := if runs e.2 then e.2.order.take 1 else []
        parked := [] } : Flow)) else e)).filter
    (fun e => decide (e.2 ≠ Flow.zero))
  let s2 : State := { s1 with
    store := { s1.store with fired := keep mine s1.store.fired, notices := keep (fun k => mine k.act) s1.store.notices }
    hub := { s1.hub with
      rl := keep (oldEntry t) s1.hub.rl
      pq := keep (oldEntry t) s1.hub.pq
      flows := flows
      recalls := s1.hub.recalls.filter (fun e => !(mine e.2)) } }
  (s2.sendAll lands).bumpBy 0x003048 n

/-- FIL.SEG of the tenant and FIL.SEGNEXT change places. -/
def State.swapSegs (s : State) (t : Nat) : State :=
  (List.range 126).foldl (fun s i =>
    let a := 0x040000 + 128 * t + i
    let v := s.reg a
    (s.setReg a (s.reg (0x05D000 + i))).setReg (0x05D000 + i) v) s

/-- The old pools and templates move to the old bank. -/
def State.ageBanks (s : State) (t : Nat) : State :=
  { s with
    store := { s.store with
      pools := s.store.pools.map (fun e => if e.2.tenant = t ∧ e.2 ≠ Pool.none then (e.1, { e.2 with tenant := t + 512, waiters := false }) else e)
      templates := (List.range 256).foldl (fun m k =>
        Map.set (fun _ => none) (Map.set (fun _ => none) m (256 * (t + 512) + k) (Map.get (fun _ => none) m (256 * t + k))) (256 * t + k) none)
        s.store.templates }
    hub := { s.hub with epoch := Map.set (fun _ => 0) s.hub.epoch t (s.epochOf t + 1) } }

/-- State words of the new image go to their homes as uncached writes (R309). -/
def State.sendStates (s : State) (a : Nat) : List Word → State
  | [] => s
  | w :: ws =>
    ((s.request nodeLoader 0 0 0 (nodeSlice (s.homeOf (a / 8))) (.wru a w) (BitVec.ofNat 24 a) .dropped).2).sendStates (a + 1) ws

/-- A record of the new image takes effect. -/
def State.switchRec (s : State) (hs : List (Nat × Nat)) : ImgRec → State × List (Nat × Nat)
  | .words a ws => (s.sendStates a ws, hs)
  | .task n e v => ((s.setTask n { s.task n with entry := e, arg := v, image := true }).imageTask n, hs)
  | r => s.loadRec hs r

/-- The steps of R566. -/
def State.switchTenant (s : State) (x : Exchange) : State :=
  let t := x.tenant
  let old := (s.hub.tasks.filter (fun e => decide (e.2.owner = t) && decide (e.2.st ≠ .free))).map Prod.fst
  let s1 := (old.foldl State.endOldTask s).dropOld t
  let s2 := (s1.tenantCells t).foldl (fun s c => s.cellSwitch c x.tsw) s1
  let s3 := ((s2.swapSegs t).ageBanks t).setInit t []
  let s4 := x.later.foldl (fun s e => s.loadWord e.1 e.2) s3
  let s5 := (x.recs.foldl (fun (y : State × List (Nat × Nat)) r => y.1.switchRec y.2 r) (s4, [])).1
  let s6 := match s5.runInit t (s5.initOf t) with
    | some s => s
    | none => (s5.setXErr 13).setTenState t 1
  (s6.setQuotas.setDomains).setXState 3

/-- T_SWITCH (R566): TIME has reached T_switch. -/
def execTSwitch (s : State) : Out :=
  match s.fil.exchange with
  | some x => if s.xState = 2 ∧ x.tsw ≤ s.time then .next (s.switchTenant x) else .next s
  | none => .next s

/-! ### The end of the drain (R567) -/

/-- Contexts that a strand of the tenant's old epoch occupies. -/
def State.oldContexts (s : State) (t : Nat) : List CtxId :=
  (s.strands.ctxs.filter (fun e => decide (e.2.state ≠ .free) && decide (e.2.tenant = t) && decide (e.2.epoch ≠ s.epochOf t))).map
    (fun e => ctxOfKey e.1)

/-- An old strand is cut short at the deadline. -/
def State.cutOld (s : State) (c : CtxId) : State := (s.cutShort c .oldEpoch).bump 0x00304A

/-- Keys of the old image's pools. -/
def State.oldPools (s : State) (t : Nat) : List Nat := (s.store.pools.filter (fun e => decide (e.2.tenant = t + 512))).map Prod.fst

/-- The old image's frames are released and what it held is removed. -/
def State.endDrain (s : State) (x : Exchange) : State :=
  let t := x.tenant
  let s1 := (s.oldContexts t).foldl State.cutOld s
  let ks := s1.oldPools t
  let fs := (ks.flatMap (fun k => (s1.pool k).frames)).filter (fun f => (s1.frame f).alloc)
  let s2 := ks.foldl (fun s k => s.setPool k Pool.none) (fs.foldl State.releaseFrame s1)
  let s3 : State := { s2 with store := { s2.store with
    templates := s2.store.templates.filter (fun e => decide (e.1 / 256 ≠ t + 512)) } }
  let s4 := x.old.foldl (fun s a => s.setReg a (regReset s.member a)) s3
  let s5 := (List.range 126).foldl (fun s i => s.setReg (0x05D000 + i) 0) s4
  let s6 : State := { s5.setQuotas.setDomains with fil := { s5.fil with exchange := none } }
  (if x.running ∧ s6.tenState t = 3 then s6.setTenState t 2 else s6).setXState 4

/-- DRAIN_END (R567): no context of the old epoch is occupied, or the drain limit has passed. -/
def execDrainEnd (s : State) : Out :=
  match s.fil.exchange with
  | some x =>
    if s.xState = 3 ∧ (s.oldContexts x.tenant = [] ∨ x.tsw.toNat + usTicks x.drain ≤ s.time.toNat) then .next (s.endDrain x)
    else .next s
  | none => .next s

end Sys2Proof.Machine
end

