-- ==== Sys2Proof/Machine/Port.lean ====
section
/-! DEFINITION. Commands of port cells: tokens, commits, arms, instants, edges, transfers, captures, the window, supply
and calibration (14_port_cells). -/

namespace Sys2Proof.Machine

/-! ### Port tokens (R441, R442, R449) -/

/-- PTOK (R441, Table 14-3): a discarded token is counted and logged; an accepted one waits its turn at the bank. -/
def execPtok (b : Nat) (t : Token) (s : State) : Out :=
  let h := mkHeader t.vc 2 (nodeBank b) t.node (if t.node < 256 then t.unit else 0) t.tenant 0 (Tag.device t.tag)
  if unitPresent s.member .banks b = false then .fault .absentUnit
  else if t.vc ≠ 2 ∧ t.vc ≠ 3 then .next ((s.take (.ptok t)).badVc t.node t.master h)
  else s.arrivePosted t.node (nodeBank b) (.ptok t) h t.poison (fun s =>
    match s.checkPort b t with
    | none => .next (s.setInbox b (s.inbox b ++ [t]))
    | some cause =>
      let c := if cellBank (portCell t.tag) = b then portCell t.tag else 32 * b
      .next ((s.bump (Reg.cell c 14)).log 0x02 (nodeBank b) t.master
        (BitVec.ofNat 24 (cause * 0x200000 + portCell t.tag % 1024)) (some t.tag)))

/-- The oldest accepted token of a bank, if it has this OP. -/
def State.headToken (s : State) (b op : Nat) : Option (Token × State) :=
  match s.inbox b with
  | [] => none
  | t :: rest => if portOp t.tag = op then some (t, s.setInbox b rest) else none

/-- PORT_COMMIT (R442). (log 39, DESIGN CHOICE) -/
def execPortCommit (b : Nat) (s : State) : Out :=
  if unitPresent s.member .banks b = false then .fault .absentUnit
  else match s.headToken b 0 with
    | none => .next s
    | some (t, s1) => .next (s1.commitEntry (portCell t.tag) t.tag t.value)

/-- PORT_ARM (R449). -/
def execPortArm (b : Nat) (s : State) : Out :=
  if unitPresent s.member .banks b = false then .fault .absentUnit
  else match s.headToken b 1 with
    | none => .next s
    | some (t, s1) => .next (s1.setCell (portCell t.tag) { s1.cell (portCell t.tag) with cont := some t.value })

/-- PORT_DISARM (R449). -/
def execPortDisarm (b : Nat) (s : State) : Out :=
  if unitPresent s.member .banks b = false then .fault .absentUnit
  else match s.headToken b 2 with
    | none => .next s
    | some (t, s1) => .next (s1.disarm (portCell t.tag))

/-! ### Instants (R435, R436, R443, R444) -/

/-- COMMIT_ACT (R443): the head entry acts once TIME has reached its grid instant. -/
def execCommitAct (c : Nat) (s : State) : Out :=
  if unitPresent s.member .cells c = false then .fault .absentUnit
  else
    let k := s.cell c
    match k.commits with
    | [] => .next s
    | e :: rest =>
      if s.reached e.g then .next ((s.setCell c { k with commits := rest }).actCommit c e) else .next s

/-- EXPECT_DEADLINE (R444). (log 42, DEDUCED) -/
def execExpectDeadline (c : Nat) (s : State) : Out :=
  if unitPresent s.member .cells c = false then .fault .absentUnit
  else
    let k := s.cell c
    match k.deadline with
    | none => .next s
    | some d =>
      if s.elapsed < d then .next s
      else if k.commits ≠ [] ∨ s.cellLive c = false then .next (s.setCell c { k with deadline := none })
      else
        .next (((s.setCell c { k with deadline := some (d + nsTicks (s.cellExpect c)) }).bump (Reg.cell c 11)).lateEvent c 3)

/-- A PWM period starts: the latest duty whose commit has acted comes into force. -/
def State.pwmStart (s : State) (c g : Nat) : State :=
  let k := s.cell c
  match (k.duties.filter (fun e => decide (e.g ≤ g))).getLast? with
  | none => s
  | some e => s.setCell c { k with
      duty := (e.v.word 0).toNat
      duties := k.duties.filter (fun e => decide (g < e.g))
      safeOut := false }

/-- SCHEDULE_INSTANT (R435): each instant serves a cell once. -/
def execScheduleInstant (c : Nat) (s : State) : Out :=
  if unitPresent s.member .cells c = false then .fault .absentUnit
  else match s.schedInstant c with
    | none => .next s
    | some g =>
      if s.cellLive c = false ∨ (s.cell c).sched = some g then .next s
      else
        let s1 := s.setCell c { s.cell c with sched := some g }
        .next (match s.cellFunc c with
          | 3 => s1.capture c 0 ((s1.cell c).count.zeroExtend 72) g
          | 5 => s1.pwmStart c g
          | 6 => s1.startSsi c g
          | _ => s1)

/-! ### Edges and transfers (R436) -/

/-- The edges that EDGE selects: 1 rising, 2 falling, 3 both. -/
def State.edgeCounts (s : State) (c : Nat) (rising : Bool) : Bool :=
  let e := s.regField (Reg.cell c 0) 9 2
  decide (e = 3) || (decide (e = 1) && rising) || (decide (e = 2) && !rising)

/-- Interval of a TIMER in ns, saturating; the first edge after enable has none. -/
def State.timerValue (s : State) (c : Nat) : Nat :=
  match (s.cell c).lastEdge with
  | none => 0xFFFFFF
  | some e => min 0xFFFFFF (((s.elapsed - e) * 1000000000 + 2147483648) / 4294967296)

/-- INPUT_EDGE (R436): the pin of a TSIN or TIMER cell takes a level, in a transition that FILT accepts. A TIMER measures on in
SAFE and FAULTED, where it takes no captures. (log 40, 93, DESIGN CHOICE) -/
def execInputEdge (c : Nat) (level : Bool) (s : State) : Out :=
  if unitPresent s.member .cells c = false then .fault .absentUnit
  else if s.pin c = level then .next s
  else
    let s1 := s.setPin c level
    let l := level ^^ s.regBit (Reg.cell c 0) 11
    if s.cellState c = 0 ∨ s.vioOk (cellBank c) = false ∨ s.edgeCounts c l = false then .next s1
    else match s.cellFunc c with
      | 1 => .next (s1.capture c 0 (BitVec.ofNat 72 (l.toNat + 2 * l.toNat)) (gridOf s.time))
      | 9 =>
        let s2 := s1.capture c 0 (BitVec.ofNat 72 (s.timerValue c)) (gridOf s.time)
        .next (s2.setCell c { s2.cell c with lastEdge := some s.elapsed })
      | _ => .next s1

/-- The decoder counts: in RUN and HOLDING, and on in SAFE and FAULTED (R437). -/
def State.quadCounts (s : State) (c : Nat) : Bool :=
  decide (s.cellFunc c = 3) && decide (1 ≤ s.cellState c ∧ s.cellState c ≤ 4) && s.vioOk (cellBank c)

/-- QUAD_TRANSITION (R436): A and B of a QUAD cell take levels, in transitions that FILT accepts. -/
def execQuadTransition (c : Nat) (a b : Bool) (s : State) : Out :=
  if unitPresent s.member .cells c = false then .fault .absentUnit
  else
    let a0 := s.pin c
    let b0 := s.pin (c + 1)
    let s1 := (s.setPin c a).setPin (c + 1) b
    if (a = a0 ∧ b = b0) ∨ s.quadCounts c = false then .next s1
    else
      let k := s1.cell c
      let soon := match k.lastTrans with
        | some t => decide (((s.elapsed - t) * 1000000000 + 2147483648) / 4294967296 < 20)
        | none => false
      let s2 := s1.setCell c { k with lastTrans := some s.elapsed }
      if soon || (decide (a ≠ a0) && decide (b ≠ b0)) then .next (s2.funcErr c)
      else
        let up := (if a ≠ a0 then a != b else a == b) ^^ s.regBit (Reg.cell c 6) 7
        .next (s2.setCell c { s2.cell c with count := if up then k.count + 1 else k.count - 1 })

/-- PULSE_EDGE (R436): the next pulse of a burst rises. -/
def execPulseEdge (c : Nat) (s : State) : Out :=
  if unitPresent s.member .cells c = false then .fault .absentUnit
  else
    let k := s.cell c
    match k.burst with
    | none => .next s
    | some u =>
      if s.cellLive c = false ∨ s.reached (u.start + u.done * u.sp) = false then .next s
      else .next (s.setCell c { k with
        count := if u.up then k.count + 1 else k.count - 1
        burst := if u.left ≤ 1 then none else some { u with left := u.left - 1, done := u.done + 1 } })

/-- Binary from Gray code, `n` bits. -/
def grayDecode (v : Nat) : Nat → Nat
  | 0 => 0
  | n + 1 => v ^^^ grayDecode (v / 2) n

/-- SSI_TRANSFER_DONE (R436): `data` is what the data pin gave, first bit highest. -/
def execSsiTransferDone (c data : Nat) (s : State) : Out :=
  if unitPresent s.member .cells c = false then .fault .absentUnit
  else match (s.cell c).xfers with
    | [] => .next s
    | x :: rest =>
      if s.cellFunc c ≠ 6 ∨ s.reached (x.g + s.ssiSpan c) = false then .next s
      else
        let raw := data % 2 ^ s.cellBits c
        let inv := if s.regBit (Reg.cell c 0) 11 then 2 ^ s.cellBits c - 1 - raw else raw
        let v := if s.regBit (Reg.cell c 6) 6 then grayDecode inv (s.cellBits c) else inv
        .next ((s.setCell c { s.cell c with xfers := rest }).capture c (s.bitsType c) (BitVec.ofNat 72 v) x.g)

/-- DE of an RS-485 cell is high. -/
def State.deHigh (s : State) (c : Nat) : Bool :=
  s.regBit (Reg.cell c 6) 3 && (s.cell c).xfers.any (fun x =>
    s.reached (x.g - s.cellAux c) && !(s.reached (x.g + s.uartSpan c)))

/-- UART_RX_CHARACTER (R436): a character with its framing and parity errors; `start` is the grid instant of the
start-bit edge. -/
def execUartRxCharacter (c ch : Nat) (ferr perr : Bool) (start : Nat) (s : State) : Out :=
  if unitPresent s.member .cells c = false then .fault .absentUnit
  else if s.cellFunc c ≠ 7 ∨ s.deHigh c = true ∨ s.vioOk (cellBank c) = false then .next s
  else .next (s.capture c 0
    (BitVec.ofNat 72 (ch % 2 ^ min 9 (s.cellBits c) + ferr.toNat * 512
      + (perr && decide (s.regField (Reg.cell c 6) 4 2 ≠ 0)).toNat * 1024)) start)

/-- SPI_TRANSFER_DONE (R436): `data` is the word that came in. -/
def execSpiTransferDone (c data : Nat) (s : State) : Out :=
  if unitPresent s.member .cells c = false then .fault .absentUnit
  else match (s.cell c).xfers with
    | [] => .next s
    | x :: rest =>
      if s.cellFunc c ≠ 8 ∨ s.reached (x.g + s.spiSpan c) = false then .next s
      else .next ((s.setCell c { s.cell c with xfers := rest }).capture c (s.bitsType c)
        (BitVec.ofNat 72 (data % 2 ^ min 48 (s.cellBits c))) x.g)

/-! ### Captures (R449, R450) -/

/-- CAPTURE_INJECT (R450): the head capture's tokens leave together, unless the pacer holds them. -/
def execCaptureInject (c : Nat) (s : State) : Out :=
  if unitPresent s.member .cells c = false then .fault .absentUnit
  else
    let k := s.cell c
    match k.cont, k.captures with
    | some t, e :: rest =>
      let ps := s.captureTokens c t e
      let node := nodeBank (cellBank c)
      if ps.any (fun p => s.mustWait node (c % 32) p) then .next s
      else
        let s1 := (s.setCell c { k with captures := rest }).release node (c % 32) ps
        .next (if s.regBit (Reg.cell c 0) 12 then s1 else s1.disarm c)
    | _, _ => .next s

/-! ### The window and the warden (R446, R453, R459) -/

/-- A window write of a bank. -/
def servePortWrite (q : Req) (w : Nat) (v : Word) (op : ReqOp) (s : State) : State :=
  match s.portWrite w q.tenant v with
  | some t => t.answer q 0
  | none => s.refuse q op 2

/-- RESUME (R446): an owner's CONTROL write with RESUME. -/
def execCellResume (q : Req) (c : Nat) (s : State) : Out :=
  let v : Word := 0x800000
  s.arriveReq q (.wrw (16 * c + 1) [v]) false (fun s => .next (servePortWrite q (16 * c + 1) v (.wrw (16 * c + 1) [v]) s))

/-- FLUSH (R459): an owner's CONTROL write with FLUSH. -/
def execCellFlush (q : Req) (c : Nat) (s : State) : Out :=
  let v : Word := 0x400000
  s.arriveReq q (.wrw (16 * c + 1) [v]) false (fun s => .next (servePortWrite q (16 * c + 1) v (.wrw (16 * c + 1) [v]) s))

/-- POP (R453). -/
def execCellPop (q : Req) (c : Nat) (s : State) : Out :=
  s.arriveReq q (.rdw (16 * c + 4) 1) false (fun s => .next (match s.portRead (16 * c + 4) q.tenant q.master with
    | some (t, v) => t.answerData q [v]
    | none => s.refuse q (.rdw (16 * c + 4) 1) 2))

/-- RECOVER (R446): a warden write of PORT.CELL whose word 8 has RECOVER. -/
def execCellRecover (q : Req) (c : Nat) (v : Word) (s : State) : Out :=
  if unitPresent s.member .cells c = false then .fault .absentUnit
  else s.wardenWhole q (Reg.cell c 0) 32 v (fun ws => (wrote ws 8).bit 10) (fun s ws =>
    let s1 := s.putWords (Reg.cell c 0) ws
    if s1.cellState c = 3 ∨ s1.cellState c = 4 then s1.cellRuns c else s1)

/-! ### Banks (R439, R456) -/

/-- CALGO (R439). -/
def execCalgo (q : Req) (b : Nat) (v : Word) (s : State) : Out :=
  if unitPresent s.member .banks b = false then .fault .absentUnit
  else s.wardenWrite q (Reg.bank b 0) v (v.bit 21) (fun s => s.calStart b)

/-- The skews that a run found: what the silicon of each cell gives. (log 41, DESIGN CHOICE) -/
def State.drawSkews (s : State) : List Nat → State
  | [] => s
  | c :: cs =>
    let u := s.draw
    (u.2.setReg (Reg.cell c 6) ((u.2.reg (Reg.cell c 6)).setField 8 16 (u.1.field 8 16))).drawSkews cs

/-- CALIBRATION_DONE (R439). (log 41, DESIGN CHOICE) -/
def execCalibrationDone (b : Nat) (s : State) : Out :=
  if unitPresent s.member .banks b = false then .fault .absentUnit
  else if Map.get (fun _ => true) s.ports.caling b = false then .next s
  else
    let s1 := { s with ports := { s.ports with caling := Map.set (fun _ => true) s.ports.caling b false } }
    .next ((s1.setRegField (Reg.bank b 0) 23 1 1).drawSkews (bankCells b))

/-- VIO_LOSS (R456). -/
def execVioLoss (b : Nat) (s : State) : Out :=
  if unitPresent s.member .banks b = false then .fault .absentUnit
  else if s.vioOk b = false then .next s
  else .next ((((s.setRegField (Reg.bank b 0) 22 1 0).bump (Reg.bank b 1)).log 0x41 (nodeBank b) 0
    (BitVec.ofNat 24 b) none).bankLosesVio b)

/-- VIO_RETURN (R456, R619): the cells drive their safe levels until RESUME or RECOVER; inputs take a starting level. -/
def execVioReturn (b : Nat) (s : State) : Out :=
  if unitPresent s.member .banks b = false then .fault .absentUnit
  else if s.vioOk b then .next s
  else .next ((bankCells b).foldl (fun s c => s.setCell c { s.cell c with lastEdge := none, lastTrans := none })
    (s.setRegField (Reg.bank b 0) 22 1 1))

/-- REPROGRAMMING_END (R458): a cell whose function changed enters RUN with its new configuration. -/
def execReprogrammingEnd (c : Nat) (s : State) : Out :=
  if unitPresent s.member .cells c = false then .fault .absentUnit
  else if s.cellState c ≠ 5 then .next s
  else
    let s1 := (s.dropCommits c).loadNext c
    .next (((s1.cellFresh c).setCell c { (s1.cellFresh c).cell c with out := 0, duty := 0, dir := false }).cellRuns c)

end Sys2Proof.Machine
end

