-- ==== Sys2Proof/Machine/Depend.lean ====
section
/-! DEFINITION. Commands of 18_dependability_and_duplex on the die itself: fences and retirements of pavilions (R584 to R587),
die faults (R588), SIMPLEX (R589), and the event log as a reader drains it (R600, R607). -/

namespace Sys2Proof.Machine

/-! ### Enough pavilions (R587) -/

/-- The pavilions that are in service if `p` is not. (log 50, DEDUCED) -/
def State.spared (s : State) (p : Nat) : List Nat :=
  (List.range (unitCount s.member .pavs)).filter (fun k => decide (k ≠ p) && s.domainOn k && s.pavInService k)

/-- A code set that group 0 of a running tenant uses: an entry of one of its tasks or templates of group 0 lies in it. (log 50, DEDUCED) -/
def State.groupZeroSet (s : State) (c : Nat) : Bool :=
  let t := s.setOwner c
  let run := decide (s.tenState t = 2 ∨ s.tenState t = 3)
  let tasks := s.hub.tasks.any (fun e => e.2.valid && decide (e.2.owner = t ∧ e.2.wgrp = 0) && decide (s.entrySet e.2.entry = c))
  let tmpls := s.store.templates.any (fun e => decide (e.1 / 256 = t) && (match e.2 with
    | none => false
    | some k => k.granules.any (fun g => decide (g.arity ≠ 0 ∧ g.wgrp = 0) && decide (s.entrySet g.entry = c))))
  run && s.setValid c && (tasks || tmpls)

/-- The die can do without pavilion `p`. (log 50, DEDUCED) -/
def State.canSpare (s : State) (p : Nat) : Bool :=
  let ps := s.spared p
  decide (s.regField 0x000004 0 9 ≤ ps.length)
    && (List.range 1023).all (fun c => !(s.groupZeroSet c) || ps.any (fun k => s.setOn c k))

/-! ### The fence (R584, R585, Table 18-4) -/

/-- A context of a fenced pavilion is cut short. -/
def State.fenceCtx (s : State) (c : CtxId) : State :=
  let x := s.ctx c
  if x.state = .free then s else if x.isTask then s.killTask x.task else s.cutShort c .fence

/-- The contexts of a pavilion. -/
def ctxsOf (p : Nat) : List CtxId := (List.range 16).map (fun k => (⟨p, k / 4, k % 4⟩ : CtxId))

/-- An entry that waited at the pavilion goes back to the head of its ready list; its flow stays in service. (log 48, DESIGN CHOICE) -/
def State.requeue (s : State) (e : Entry) : State :=
  let s1 := s.setRl e.port e.act.wgrp (e :: s.rl e.port e.act.wgrp)
  if e.isTask then (s1.setTask e.task { s1.task e.task with st := .ready }).taskChanged e.task else s1

/-- The entries of a pavilion queue leave it, in order. -/
def State.emptyPq (s : State) (p : Nat) : State := ((s.pq p).reverse).foldl State.requeue (s.setPq p [])

/-- The words of a task's record and scratch block. -/
def State.recWords (s : State) (n : Nat) : List Word := (List.range (1024 + s.taskScratch n)).map (fun k => s.recRead n k)

/-- A word of the record cannot be corrected. (log 49, DEDUCED) -/
def State.recBad (s : State) (p n : Nat) : Bool :=
  (List.range (1024 + s.taskScratch n)).any (fun k => Map.get (fun _ => false) s.memory.poisoned (65536 * p + s.recBase n + k))

/-- The tasks homed on a pavilion, not FREE, whose records lie there. (log 49, DEDUCED) -/
def State.homedAt (s : State) (p : Nat) : List Nat :=
  ((s.hub.tasks.filter (fun e => decide (e.2.st ≠ .free) && decide (e.2.homepav = p))).map (fun e => e.1)).filter
    (fun n => !(s.recInDdr n))

/-- The records of the tasks homed on a pavilion go to its alternate, and MOVED is set; a task whose record holds a word
that cannot be corrected ends as KILL ends it. `bad` lists the tasks whose records the check of their words fails on. (log 49, DEDUCED) -/
def State.moveRecords (s : State) (p : Nat) (bad : List Nat) : State :=
  if s.regBit (Reg.depPav p) 19 then s
  else
    let alt := s.regField (Reg.depPav p) 0 8
    let ns := s.homedAt p
    let lost := fun n => bad.contains n || s.recBad p n
    let s1 := (ns.filter lost).foldl State.killTask s
    let kept := (ns.filter (fun n => !(lost n))).map (fun n => (s.recBase n, s.recWords n))
    (kept.foldl (fun s e => s.spadStore alt e.1 0 e.2) s1).setRegField (Reg.depPav p) 19 1 1

/-- FENCES of a pavilion, which saturates. (log 51, DESIGN CHOICE) -/
def State.countFence (s : State) (p : Nat) : State :=
  (s.setRegField (Reg.depPav p) 8 8 (min 255 (s.regField (Reg.depPav p) 8 8 + 1))).bump 0x000022

/-- The fence of a pavilion in service (Table 18-4): `cause` is the DETAIL of its record, and `retire` says that it retires
after it. The flush takes its messages; DOMAIN_ENTRY_COMPLETE ends the fence. (log 48, DESIGN CHOICE) -/
def State.fencePav (s : State) (p cause : Nat) (retire : Bool) (bad : List Nat) : State :=
  let st := s.regField (Reg.depPav p) 22 2
  if st = 2 ∧ retire then s.retirePav p
  else if st = 1 ∧ retire then s.setRegField (Reg.depPav p) 22 2 3
  else if st ≠ 0 then s
  else if s.canSpare p = false then s.dieFault 6 nodeHub
  else
    let s1 := ((s.setRegField (Reg.depPav p) 22 2 (if retire then 3 else 1)).countFence p).log 0x70 p 0 (BitVec.ofNat 24 cause) none
    let s2 := (((ctxsOf p).foldl State.fenceCtx s1).emptyPq p).moveRecords p bad
    let w := s2.powerOf p
    if w = 2 ∨ w = 5 then s2.fenceEnds p
    else
      let s3 : State := { s2 with power := { s2.power with
        target := Map.set (fun _ => 0) s2.power.target p 2
        later := Map.set (fun _ => 0) s2.power.later p 0 } }
      ((s3.setPower p 3).flushStart p).drainNode p

/-- PAVILION_FENCE (R584): a check of the pavilion fails, or the warden writes FENCE to DEP.PAV[p]. (log 48, DESIGN CHOICE) -/
def execPavilionFence (p : Nat) (why : FenceWhy) (bad : List Nat) (s : State) : Out :=
  if unitPresent s.member .pavs p = false then .fault .absentUnit
  else match why with
    | .residue => .next (s.fencePav p 1 false bad)
    | .parity => .next (s.fencePav p 2 false bad)
    | .store => .next (s.fencePav p 3 false bad)
    | .warden q v => s.wardenWrite q (Reg.depPav p) v (v.bit 21) (fun s => s.fencePav p 4 (v.bit 20) bad)

/-- RETIRE (R586): a warden write of RETIRE to DEP.PAV[p]. -/
def execPavRetire (q : Req) (p : Nat) (v : Word) (bad : List Nat) (s : State) : Out :=
  if unitPresent s.member .pavs p = false then .fault .absentUnit
  else s.wardenWrite q (Reg.depPav p) v (v.bit 20) (fun s => s.fencePav p 4 true bad)

/-- SELF_TEST_DONE (R586): the self-test of a fenced pavilion ends. (log 51, DESIGN CHOICE) -/
def execSelfTestDone (p : Nat) (ok : Bool) (s : State) : Out :=
  if unitPresent s.member .pavs p = false then .fault .absentUnit
  else if s.regField (Reg.depPav p) 22 2 ≠ 2 then .next s
  else if ok && decide (s.regField (Reg.depPav p) 8 8 < s.regField 0x000002 16 4) then
    let s1 := (s.unisolate p).setRegField (Reg.depPav p) 22 2 0
    .next ((if s1.powerOf p = 2 then s1.startWake p else s1).log 0x71 p 0 (BitVec.ofNat 24 (s.regField (Reg.depPav p) 0 8)) none)
  else .next (s.retirePav p)

/-! ### Die faults and the FAULT latch (R588, R603, R605) -/

/-- A whole write of DEP.CTL: its fields, a written 1 clears the FAULT latch and DEP.FIRST with it, and KEY 0xD1E faults
the die. -/
def State.ctlWrite (s : State) (ws : List (Nat × Word)) : State :=
  let s1 := s.putWords 0x000002 ws
  let s2 := if (wrote ws 0).bit 8 then (List.range 6).foldl (fun s k => s.setReg (0x00001A + k) 0) s1 else s1
  if (wrote ws 1).field 12 12 = 0xD1E then s2.dieFault 9 nodeLog else s2

/-- DIE_FAULT: a warden write of DEP.CTL with KEY 0xD1E. (log 52, DESIGN CHOICE) -/
def execDieFault (q : Req) (v : Word) (s : State) : Out :=
  s.wardenWhole q 0x000002 2 v (fun ws => decide ((wrote ws 1).field 12 12 = 0xD1E)) (fun s ws => s.ctlWrite ws)

/-- FAULT_CLEAR: a warden write of DEP.CTL with 1 in FAULT. (log 52, DESIGN CHOICE) -/
def execFaultClear (q : Req) (v : Word) (s : State) : Out :=
  s.wardenWhole q 0x000002 2 v (fun ws => (wrote ws 0).bit 8) (fun s ws => s.ctlWrite ws)

/-- REFCLK_LOSS (Table 18-1): REFCLK has been absent for more than 1 µs. -/
def execRefclkLoss (s : State) : Out := .next (if s.power.core then s.dieFault 5 nodeTime else s)

/-! ### SIMPLEX (R589, R609) -/

/-- This die runs alone: from DIGEST it starts what the exchange of digests held back; a lead goes on, and a shadow takes
over. (log 57, DEDUCED) -/
def State.goSimplex (s : State) : Out :=
  if s.pair.fenced then .next s
  else if s.pairState = 3 then .next ((s.runAlone).autostart)
  else if s.pairState ≠ 0 then .next s
  else if s.pairRole = 0 then execLeadSeesFenceNLow s
  else execTakeover s.time s

/-- SIMPLEX: a write of DEP.PAIR word 0 with SIMPLEX 1; without `q` the other die was written, and this one is fenced. (log 57, DEDUCED) -/
def execPairSimplex (q : Option Req) (v : Word) (s : State) : Out :=
  if s.member ≠ .z256d then .next s
  else match q with
    | none => .next (if s.pairState = 0 ∨ s.pairState = 3 then s.fenceSelf else s)
    | some q => if v.bit 16 = false then .next s else
      s.arriveReq q (.regwr (Reg.depPair 0) v) false (fun s1 =>
        if s1.mayWarden q (Reg.depPair 0) || (isHost q && !s1.inRecovery q) then
          match s1.goSimplex with
          | .next t => .next (t.answer q 0)
          | o => o
        else .next (s1.refuseDomain q (.regwr (Reg.depPair 0) v) (Reg.depPair 0)))

/-! ### The event log (R600, R607) -/

/-- A whole write of DEP.LOGSTAT: LOST takes its value, and NEXT drops the oldest unread record. -/
def State.logWrite (s : State) (ws : List (Nat × Word)) : State :=
  let s1 := s.putWords 0x000010 ws
  if (wrote ws 0).bit 23 then { s1 with evlog := s1.evlog.tail } else s1

/-- NEXT: a write of DEP.LOGSTAT with NEXT 1 by the warden or the host. (log 53, DEDUCED) -/
def execLogNext (q : Req) (v : Word) (s : State) : Out :=
  s.openWhole q 0x000010 2 v (fun ws => (wrote ws 0).bit 23) (fun s ws => s.logWrite ws)

end Sys2Proof.Machine
end

