-- ==== Sys2Proof/Machine/Integer.lean ====
section
/-! DEFINITION. The strand instructions that only read and write registers: integer, move, special-register, multiply,
divide, accumulator, floating-point and branch instructions (Tables 6-7 to 6-10, R197, R198). -/

namespace Sys2Proof.Machine

/-- ADD (Table 6-7). -/
def execAdd (c : CtxId) (d a b : Reg) (s : State) : Out := runBody s c (fun x => bodyAlu opAdd x d a b)

/-- ADC (Table 6-7). -/
def execAdc (c : CtxId) (d a b : Reg) (s : State) : Out := runBody s c (fun x => bodyAlu opAdc x d a b)

/-- SUB (Table 6-7). -/
def execSub (c : CtxId) (d a b : Reg) (s : State) : Out := runBody s c (fun x => bodyAlu opSub x d a b)

/-- SBC (Table 6-7). -/
def execSbc (c : CtxId) (d a b : Reg) (s : State) : Out := runBody s c (fun x => bodyAlu opSbc x d a b)

/-- AND (Table 6-7). -/
def execAndW (c : CtxId) (d a b : Reg) (s : State) : Out := runBody s c (fun x => bodyAlu opAnd x d a b)

/-- OR (Table 6-7). -/
def execOrW (c : CtxId) (d a b : Reg) (s : State) : Out := runBody s c (fun x => bodyAlu opOr x d a b)

/-- XOR (Table 6-7). -/
def execXorW (c : CtxId) (d a b : Reg) (s : State) : Out := runBody s c (fun x => bodyAlu opXor x d a b)

/-- ANDN (Table 6-7). -/
def execAndn (c : CtxId) (d a b : Reg) (s : State) : Out := runBody s c (fun x => bodyAlu opAndn x d a b)

/-- SHL (Table 6-7). -/
def execShl (c : CtxId) (d a b : Reg) (s : State) : Out := runBody s c (fun x => bodyAlu opShl x d a b)

/-- SHR (Table 6-7). -/
def execShr (c : CtxId) (d a b : Reg) (s : State) : Out := runBody s c (fun x => bodyAlu opShr x d a b)

/-- SAR (Table 6-7). -/
def execSar (c : CtxId) (d a b : Reg) (s : State) : Out := runBody s c (fun x => bodyAlu opSar x d a b)

/-- ROL (Table 6-7). -/
def execRol (c : CtxId) (d a b : Reg) (s : State) : Out := runBody s c (fun x => bodyAlu opRol x d a b)

/-- MIN (Table 6-7). -/
def execMinW (c : CtxId) (d a b : Reg) (s : State) : Out := runBody s c (fun x => bodyAluQuiet opMin x d a b)

/-- MAX (Table 6-7). -/
def execMaxW (c : CtxId) (d a b : Reg) (s : State) : Out := runBody s c (fun x => bodyAluQuiet opMax x d a b)

/-- MINU (Table 6-7). -/
def execMinu (c : CtxId) (d a b : Reg) (s : State) : Out := runBody s c (fun x => bodyAluQuiet opMinu x d a b)

/-- MAXU (Table 6-7). -/
def execMaxu (c : CtxId) (d a b : Reg) (s : State) : Out := runBody s c (fun x => bodyAluQuiet opMaxu x d a b)

/-- CMP (Table 6-7). -/
def execCmp (c : CtxId) (d a b : Reg) (s : State) : Out := runBody s c (fun x => bodyCmp opSub x d a b)

/-- TST (Table 6-7). -/
def execTst (c : CtxId) (d a b : Reg) (s : State) : Out := runBody s c (fun x => bodyCmp opAnd x d a b)

/-- SLT (Table 6-7). -/
def execSlt (c : CtxId) (d a b : Reg) (s : State) : Out := runBody s c (fun x => bodyAluQuiet opSlt x d a b)

/-- SLTU (Table 6-7). -/
def execSltu (c : CtxId) (d a b : Reg) (s : State) : Out := runBody s c (fun x => bodyAluQuiet opSltu x d a b)

/-- SEQ (Table 6-7). -/
def execSeq (c : CtxId) (d a b : Reg) (s : State) : Out := runBody s c (fun x => bodyAluQuiet opSeq x d a b)

/-- ADDI (Table 6-7). -/
def execAddi (c : CtxId) (d a : Reg) (imm : BitVec 8) (s : State) : Out := runBody s c (fun x => bodyImm opAdd false x d a (sext8 imm))

/-- ANDI (Table 6-7). -/
def execAndi (c : CtxId) (d a : Reg) (imm : BitVec 8) (s : State) : Out := runBody s c (fun x => bodyImm opAnd false x d a (zext8 imm))

/-- ORI (Table 6-7). -/
def execOri (c : CtxId) (d a : Reg) (imm : BitVec 8) (s : State) : Out := runBody s c (fun x => bodyImm opOr false x d a (zext8 imm))

/-- XORI (Table 6-7). -/
def execXori (c : CtxId) (d a : Reg) (imm : BitVec 8) (s : State) : Out := runBody s c (fun x => bodyImm opXor false x d a (zext8 imm))

/-- SHLI (Table 6-7): imm[7:5] must be 0. -/
def execShli (c : CtxId) (d a : Reg) (imm : BitVec 8) (s : State) : Out := 
  runBody s c (fun x => bodyImm opShl (decide (imm.toNat ≥ 32)) x d a (zext8 imm))

/-- SHRI (Table 6-7): imm[7:5] must be 0. -/
def execShri (c : CtxId) (d a : Reg) (imm : BitVec 8) (s : State) : Out := 
  runBody s c (fun x => bodyImm opShr (decide (imm.toNat ≥ 32)) x d a (zext8 imm))

/-- SARI (Table 6-7): imm[7:5] must be 0. -/
def execSari (c : CtxId) (d a : Reg) (imm : BitVec 8) (s : State) : Out := 
  runBody s c (fun x => bodyImm opSar (decide (imm.toNat ≥ 32)) x d a (zext8 imm))

/-- CMPI (Table 6-7): D must be 0. -/
def execCmpi (c : CtxId) (d a : Reg) (imm : BitVec 8) (s : State) : Out := 
  runBody s c (fun x => bodyCmpi x d a (sext8 imm))

/-- MOVI (Table 6-7). -/
def execMovi (c : CtxId) (d : Reg) (imm : BitVec 13) (s : State) : Out := runBody s c (fun x => bodyMovi x d imm)

/-- MOVH (Table 6-7). -/
def execMovh (c : CtxId) (d : Reg) (imm : BitVec 13) (s : State) : Out := runBody s c (fun x => bodyMovh x d imm)

/-- MOV (Table 6-7). -/
def execMov (c : CtxId) (d a b : Reg) (s : State) : Out := runBody s c (fun x => bodyMov 1 x d a b)

/-- MOVP (Table 6-7). -/
def execMovp (c : CtxId) (d a b : Reg) (s : State) : Out := runBody s c (fun x => bodyMov 2 x d a b)

/-- MOVT (Table 6-7). -/
def execMovt (c : CtxId) (d a b : Reg) (s : State) : Out := runBody s c (fun x => bodyMov 3 x d a b)

/-- NOT (Table 6-7). -/
def execNotW (c : CtxId) (d a b : Reg) (s : State) : Out := runBody s c (fun x => bodyUn opNot x d a b)

/-- NEG (Table 6-7). -/
def execNeg (c : CtxId) (d a b : Reg) (s : State) : Out := runBody s c (fun x => bodyUn opNeg x d a b)

/-- CLZ (Table 6-7). -/
def execClz (c : CtxId) (d a b : Reg) (s : State) : Out := runBody s c (fun x => bodyUnQuiet clzWord x d a b)

/-- POPC (Table 6-7). -/
def execPopc (c : CtxId) (d a b : Reg) (s : State) : Out := runBody s c (fun x => bodyUnQuiet popcWord x d a b)

/-- MFS (R187). -/
def execMfs (c : CtxId) (d a b : Reg) (s : State) : Out := runBody s c (fun x => bodyMfs c (s.task x.task).evm (s.task x.task).evf false x d a b)

/-- MTS (R187). -/
def execMts (c : CtxId) (d a b : Reg) (s : State) : Out := runBody s c (fun x => bodyMts false x d a b)

/-- MUL (Table 6-8). -/
def execMul (c : CtxId) (d a b : Reg) (s : State) : Out := runBody s c (fun x => bodyMul true x d a b)

/-- MULU (Table 6-8). -/
def execMulu (c : CtxId) (d a b : Reg) (s : State) : Out := runBody s c (fun x => bodyMul false x d a b)

/-- MAC (Table 6-8). -/
def execMac (c : CtxId) (d a b : Reg) (s : State) : Out := runBody s c (fun x => bodyMac true false x d a b)

/-- MACU (Table 6-8). -/
def execMacu (c : CtxId) (d a b : Reg) (s : State) : Out := runBody s c (fun x => bodyMac false false x d a b)

/-- MSU (Table 6-8). -/
def execMsu (c : CtxId) (d a b : Reg) (s : State) : Out := runBody s c (fun x => bodyMac true true x d a b)

/-- MSUU (Table 6-8). -/
def execMsuu (c : CtxId) (d a b : Reg) (s : State) : Out := runBody s c (fun x => bodyMac false true x d a b)

/-- MULW (Table 6-8). -/
def execMulw (c : CtxId) (d a b : Reg) (s : State) : Out := runBody s c (fun x => bodyMulw x d a b)

/-- DIV (Table 6-8). -/
def execDiv (c : CtxId) (d a b : Reg) (s : State) : Out := runBody s c (fun x => bodyDiv true x d a b)

/-- DIVU (Table 6-8). -/
def execDivu (c : CtxId) (d a b : Reg) (s : State) : Out := runBody s c (fun x => bodyDiv false x d a b)

/-- CLRACC (Table 6-8). -/
def execClracc (c : CtxId) (d a b : Reg) (s : State) : Out := runBody s c (fun x => bodyClracc x d a b)

/-- ACCSR (Table 6-8). -/
def execAccsr (c : CtxId) (d a b : Reg) (s : State) : Out := runBody s c (fun x => bodyAccsr x d a b)

/-- ACCSAT (Table 6-8). -/
def execAccsat (c : CtxId) (d a b : Reg) (s : State) : Out := runBody s c (fun x => bodyAccsat x d a b)

/-- FADD.D (R203). -/
def execFaddD (c : CtxId) (d a b : Reg) (s : State) : Out := runBody s c (fun x => bodyFp2D .fpPipe (fun rm => fpAdd fmtD rm false) x d a b)

/-- FADD.S (R203). -/
def execFaddS (c : CtxId) (d a b : Reg) (s : State) : Out := runBody s c (fun x => bodyFp2S .fpPipe (fun rm => fpAdd fmtS rm false) x d a b)

/-- FSUB.D (R203). -/
def execFsubD (c : CtxId) (d a b : Reg) (s : State) : Out := runBody s c (fun x => bodyFp2D .fpPipe (fun rm => fpAdd fmtD rm true) x d a b)

/-- FSUB.S (R203). -/
def execFsubS (c : CtxId) (d a b : Reg) (s : State) : Out := runBody s c (fun x => bodyFp2S .fpPipe (fun rm => fpAdd fmtS rm true) x d a b)

/-- FMUL.D (R203). -/
def execFmulD (c : CtxId) (d a b : Reg) (s : State) : Out := runBody s c (fun x => bodyFp2D .fpPipe (fpMul fmtD) x d a b)

/-- FMUL.S (R203). -/
def execFmulS (c : CtxId) (d a b : Reg) (s : State) : Out := runBody s c (fun x => bodyFp2S .fpPipe (fpMul fmtS) x d a b)

/-- FDIV.D (R203). -/
def execFdivD (c : CtxId) (d a b : Reg) (s : State) : Out := runBody s c (fun x => bodyFp2D .fpIter (fpDiv fmtD) x d a b)

/-- FDIV.S (R203). -/
def execFdivS (c : CtxId) (d a b : Reg) (s : State) : Out := runBody s c (fun x => bodyFp2S .fpIter (fpDiv fmtS) x d a b)

/-- FMA.D (R266). -/
def execFmaD (c : CtxId) (d a b : Reg) (s : State) : Out := runBody s c (fun x => bodyFmaD false x d a b)

/-- FMA.S (R266). -/
def execFmaS (c : CtxId) (d a b : Reg) (s : State) : Out := runBody s c (fun x => bodyFmaS false x d a b)

/-- FMS.D (R266). -/
def execFmsD (c : CtxId) (d a b : Reg) (s : State) : Out := runBody s c (fun x => bodyFmaD true x d a b)

/-- FMS.S (R266). -/
def execFmsS (c : CtxId) (d a b : Reg) (s : State) : Out := runBody s c (fun x => bodyFmaS true x d a b)

/-- FSQRT.D (R203). -/
def execFsqrtD (c : CtxId) (d a b : Reg) (s : State) : Out := runBody s c (fun x => bodyFsqrtD x d a b)

/-- FSQRT.S (R203). -/
def execFsqrtS (c : CtxId) (d a b : Reg) (s : State) : Out := runBody s c (fun x => bodyFsqrtS x d a b)

/-- FMIN.D (R269). -/
def execFminD (c : CtxId) (d a b : Reg) (s : State) : Out := runBody s c (fun x => bodyFp2D .fpPipe (fun _ => fpMinMax fmtD false) x d a b)

/-- FMAX.D (R269). -/
def execFmaxD (c : CtxId) (d a b : Reg) (s : State) : Out := runBody s c (fun x => bodyFp2D .fpPipe (fun _ => fpMinMax fmtD true) x d a b)

/-- FCMP.D (R204). -/
def execFcmpD (c : CtxId) (d a b : Reg) (s : State) : Out := runBody s c (fun x => bodyFcmp fmtD Context.fdAt x d a b)

/-- FCMP.S (R204). -/
def execFcmpS (c : CtxId) (d a b : Reg) (s : State) : Out := runBody s c (fun x => bodyFcmp fmtS Context.fsAt x d a b)

/-- FNEG.D (R269). -/
def execFnegD (c : CtxId) (d a b : Reg) (s : State) : Out := runBody s c (fun x => bodyFsign opFneg x d a b)

/-- FABS.D (R269). -/
def execFabsD (c : CtxId) (d a b : Reg) (s : State) : Out := runBody s c (fun x => bodyFsign opFabs x d a b)

/-- FCVT.SD (R268). -/
def execFcvtSd (c : CtxId) (d a b : Reg) (s : State) : Out := runBody s c (fun x => bodyFcvtSD x d a b)

/-- FCVT.DS (R268). -/
def execFcvtDs (c : CtxId) (d a b : Reg) (s : State) : Out := runBody s c (fun x => bodyFcvtDS x d a b)

/-- FITOF.D (R268). -/
def execFitofD (c : CtxId) (d a b : Reg) (s : State) : Out := runBody s c (fun x => bodyFitof x d a b)

/-- FFTOI.D (R268). -/
def execFftoiD (c : CtxId) (d a b : Reg) (s : State) : Out := runBody s c (fun x => bodyFftoi x d a b)

/-- FMVW.D (R203). -/
def execFmvwD (c : CtxId) (d a b : Reg) (s : State) : Out := runBody s c (fun x => bodyFmvwD x d a b)

/-- FMVW.S (R203). -/
def execFmvwS (c : CtxId) (d a b : Reg) (s : State) : Out := runBody s c (fun x => bodyFmvwS x d a b)

/-- WMVF.D (R203). -/
def execWmvfD (c : CtxId) (d a b : Reg) (s : State) : Out := runBody s c (fun x => bodyWmvfD x d a b)

/-- WMVF.S (R203). -/
def execWmvfS (c : CtxId) (d a b : Reg) (s : State) : Out := runBody s c (fun x => bodyWmvfS x d a b)

/-- B cond (R198). -/
def execBCond (c : CtxId) (cond : BitVec 4) (off : BitVec 14) (s : State) : Out := runBody s c (fun x => bodyBcond x cond off)

/-- BRA (R198). -/
def execBra (c : CtxId) (off : BitVec 18) (s : State) : Out := runBody s c (fun x => bodyBra x off)

/-- JR (R198). -/
def execJr (c : CtxId) (d a b : Reg) (s : State) : Out := runBody s c (fun x => bodyJr x d a b)

end Sys2Proof.Machine
end

