-- ==== Sys2Proof/Machine/Jtag.lean ====
section
/-! DEFINITION. The JTAG port (R495, R628): the IEEE 1149.1 instructions with one scan of their data register, and the two
private instructions. -/

namespace Sys2Proof.Machine

/-- IDCODE of a member (Table 18-10). -/
def idcode : Member → BitVec 32
  | .z16 => 0x10010967
  | .z64 => 0x10040967
  | .z256 => 0x10100967
  | .z256d => 0x10101967

/-- The port takes an instruction while VAON is present. -/
def State.jtagLoad (s : State) (i : JtagInstr) (dr : BitVec 32) : State :=
  if s.power.vaon then { s with jtag := { s.jtag with ir := i, dr := dr } } else s

/-- BYPASS: the one-bit bypass register captures 0. -/
def execJtagBypass (s : State) : Out := .next (s.jtagLoad .bypass 0)

/-- IDCODE (R628). -/
def execJtagIdcode (s : State) : Out := .next (s.jtagLoad .idcode (idcode s.member))

/-- A scan of the boundary register: it captures the port pins, and what was shifted in goes to its outputs. (log 89, DESIGN CHOICE) -/
def State.boundaryScan (s : State) (i : JtagInstr) (load : List (Nat × Bool)) : State :=
  if s.power.vaon then
    { s with jtag := { s.jtag with
      ir := i
      boundary := s.ports.pins
      latch := load.foldl (fun (m : Map Bool) e => Map.set (fun _ => false) m e.1 e.2) s.jtag.latch } }
  else s

/-- SAMPLE/PRELOAD: `load` gives the levels shifted in, by pin. -/
def execJtagSamplePreload (load : List (Nat × Bool)) (s : State) : Out := .next (s.boundaryScan .sample load)

/-- EXTEST: the pins are driven from the boundary register. (log 89, DESIGN CHOICE) -/
def execJtagExtest (load : List (Nat × Bool)) (s : State) : Out := .next (s.boundaryScan .extest load)

/-- CLAMP: the pins keep the preloaded levels, and the bypass register is selected. -/
def execJtagClamp (s : State) : Out := .next (s.jtagLoad .clamp 0)

/-- HIGHZ: the outputs float, and the bypass register is selected. -/
def execJtagHighz (s : State) : Out := .next (s.jtagLoad .highz 0)

/-- What the port imposes on pin `n`: nothing, high impedance, or a level. -/
def State.jtagDrives (s : State) (n : Nat) : Option (Option Bool) :=
  match s.jtag.ir with
  | .extest => some (some (Map.get (fun _ => false) s.jtag.latch n))
  | .clamp => some (some (Map.get (fun _ => false) s.jtag.latch n))
  | .highz => some none
  | _ => none

/-! ### The private instructions -/

/-- The debug permit of the image in force (Table 17-1, R551). -/
def State.debugPermit (s : State) : Bool := s.regBit 0x003000 17

/-- DBGACC: a read, or a write of `w`, of device register `a` as host function 0x3F. In RECOVERY it acts without the permit
(R556). (log 89, DESIGN CHOICE) -/
def execDbgacc (a : Nat) (w : Option Word) (s : State) : Out :=
  if (s.debugPermit || decide (s.regField 0x003000 21 3 = 3)) = false then .next (s.jtagLoad .bypass 0)
  else if s.power.vaon = false then .next s
  else
    let s1 : State := { s with jtag := { s.jtag with ir := .dbgacc, status := none } }
    let op := match w with
      | none => ReqOp.regrd a
      | some v => ReqOp.regwr a v
    .next (if s.power.core then
      (s1.request (nodePcie 0x3F) 0 0 (masterHost 0 0x3F) (s1.servingNode a) op (BitVec.ofNat 24 a) .debug).2 else s1)

/-- DBGCTX acts on a running die with the debug permit; else it is BYPASS. -/
def State.dbgctx (s : State) (act : State → State) : State :=
  if s.debugPermit = false then s.jtagLoad .bypass 0
  else if s.power.vaon && s.power.core then act (s.jtagLoad .dbgctx 0)
  else s.jtagLoad .dbgctx 0

/-- DBGCTX acts on one context. -/
def State.dbgOne (s : State) (c : CtxId) (act : State → State) : Out :=
  if ctxPresent s.member c = false then .fault .absentUnit else .next (s.dbgctx act)

/-- DBGCTX_HALT: a context between instructions halts. -/
def execDbgctxHalt (c : CtxId) (s : State) : Out :=
  s.dbgOne c (fun s =>
    let x := s.ctx c
    if x.micro.isNone && decide (x.state ∈ [CtxState.issuing, .ready, .longwait, .suspended]) then
      (s.setCtx c { x with state := .halted, stepping := false }).schedule c.pav c.pipe
    else s)

/-- A HALTED context can issue again. -/
def State.unhalt (s : State) (c : CtxId) (step : Bool) : State :=
  let x := s.ctx c
  if x.state = .halted then (s.setCtx c { x with state := .ready, stepping := step }).schedule c.pav c.pipe else s

/-- DBGCTX_STEP: a HALTED context issues one instruction. -/
def execDbgctxStep (c : CtxId) (s : State) : Out := s.dbgOne c (fun s => s.unhalt c true)

/-- DBGCTX_RESUME. -/
def execDbgctxResume (c : CtxId) (s : State) : Out := s.dbgOne c (fun s => s.unhalt c false)

/-- DBGCTX_BRK_ENABLE. -/
def execDbgctxBrkEnable (s : State) : Out := .next (s.dbgctx (fun s => { s with jtag := { s.jtag with brk := true } }))

/-- DBGCTX_BRK_DISABLE. -/
def execDbgctxBrkDisable (s : State) : Out := .next (s.dbgctx (fun s => { s with jtag := { s.jtag with brk := false } }))

end Sys2Proof.Machine
end

