-- ==== Sys2Proof/Machine/Queues.lean ====
section
/-! DEFINITION. Commands of the hardware queues and the lockets (R371 to R396, R401). -/

namespace Sys2Proof.Machine

/-! ### Queues -/

/-- Serve an operation at the queue node: a queue in MODE 0, or a master of the wrong side, gets STATUS 2 (R371, R372). -/
def State.atQueue (s : State) (q : Req) (op : ReqOp) (n : Nat) (side : State → Bool) (k : State → State) : Out :=
  s.arriveReq q op false (fun s =>
    if s.qMode n = 0 ∨ side s = false ∨ q.dest ≠ nodeQueues then .next (s.answer q 2) else .next (k s))

/-- QUEUE_PUT (R373, R374, R377). -/
def execQueuePut (q : Req) (n : Nat) (v : Word) (s : State) : Out :=
  s.atQueue q (.qput n v) n (fun s => s.onPut n q.master) (fun s =>
    let r := s.qPut n q.master v
    r.1.answerData q [BitVec.ofNat 24 r.2.toNat])

/-- The check of a word that leaves the queue (R383): a double-bit error loses the rest of the packet. -/
def State.qChecked (s : State) (q : Req) (n : Nat) (ecc : Ecc) : State :=
  let takes := (s.queue n).mayGet q.master
  let r := s.qGet n q.master
  if takes = false then r.1.answerData q [r.2.1, 0]
  else match ecc with
    | .sound => r.1.answerData q [r.2.1, 1]
    | .single => (r.1.bump (Reg.que n 13)).answerData q [r.2.1, 1]
    | .double => (((r.1.bump (Reg.que n 14)).qDrop n q.master).log 0x2D nodeQueues q.master (BitVec.ofNat 24 (n % 1024))
        none).answer q 5

/-- QUEUE_GET (R379, R383). -/
def execQueueGet (q : Req) (n : Nat) (ecc : Ecc) (s : State) : Out :=
  s.atQueue q (.qget n) n (fun s => s.onGet n q.master) (fun s => s.qChecked q n ecc)

/-- QUEUE_COMMIT (R375): a strand's commit is posted; a host function's or the legacy port's is answered. -/
def execQueueCommit (q : Req) (n : Nat) (s : State) : Out :=
  if Master.kind q.master = 1 then
    s.arrivePosted q.node nodeQueues (.req q (.qcommit n)) (s.reqHeader q (.qcommit n)) false
      (fun s => .next (s.qCommit n q.master))
  else s.atQueue q (.qcommit n) n (fun s => s.onPut n q.master) (fun s => (s.qCommit n q.master).answer q 0)

/-- QUEUE_REWIND (R376). -/
def execQueueRewind (q : Req) (n : Nat) (s : State) : Out :=
  s.atQueue q (.qrwd n) n (fun s => s.onPut n q.master) (fun s => (s.qRewind n q.master).answer q 0)

/-- QUEUE_DROP (R380). -/
def execQueueDrop (q : Req) (n : Nat) (s : State) : Out :=
  s.atQueue q (.qdrop n) n (fun s => s.onGet n q.master) (fun s => (s.qDrop n q.master).answer q 0)

/-- QUEUE_STATUS (R382): the consumer status, or the producer status for a master of that side only. -/
def execQueueStatus (q : Req) (n : Nat) (s : State) : Out :=
  s.atQueue q (.qstat n) n (fun s => s.onPut n q.master || s.onGet n q.master) (fun s =>
    s.answerData q [if s.onGet n q.master then s.qConsumer n q.master else s.qProducer n q.master])

/-- PSTATUS (R382, R387). -/
def execPstatus (q : Req) (n : Nat) (s : State) : Out :=
  s.atQueue q (.qpstat n) n (fun s => s.onPut n q.master || s.onGet n q.master) (fun s =>
    s.answerData q [s.qProducer n q.master])

/-- QUEUE_RECORD (R362, R385). -/
def execQueueRecord (n node : Nat) (ws : List Word) (s : State) : Out :=
  let p : Packet := .queueRec n node ws
  let s1 := s.take p
  let s2 := match s.wire p with
    | some (d, h, _) => if node < 0x200 then s1.passes node d h false else s1
    | none => s1
  .next (s2.qRecord n node ws)

/-! ### Lockets -/

/-- Serve a locket operation: a locket that is absent, or a master without the right, gets STATUS 2 (R390). -/
def State.atLocket (s : State) (q : Req) (op : ReqOp) (l bit : Nat) (k : State → State) : Out :=
  s.arriveReq q op false (fun s =>
    if unitPresent s.member .lockets (l / 64) = false ∨ s.lkMay l bit q.master = false ∨ q.dest ≠ nodeLockets then
      .next (s.answer q 2)
    else if s.pairShadow && s.legLocket l && decide (Master.kind q.master = 1) then .next (s.shadowLegacy q op)
    else .next (k s))

/-- The strand that asked has ended (R394): its request is no longer its own. -/
def State.askerGone (s : State) (q : Req) : Bool :=
  decide (Master.kind q.master = 1) && (match s.outstOf q.node q.rid with
    | some o => decide (o.who = .dropped)
    | none => true)

/-- Act and answer as TRY; an acquisition by a strand that has ended is orphaned at once (R394). -/
def State.tryLocket (s : State) (q : Req) (l : Nat) : State :=
  let r := s.lkTry l q.master
  let got := r.2.bit 23
  (if got && s.askerGone q then r.1.lkOrphan l else r.1).answerData q [r.2]

/-- TRY (R391, R392). -/
def execLockTry (q : Req) (l : Nat) (s : State) : Out := s.atLocket q (.lkTry l) l 22 (fun s => s.tryLocket q l)

/-- WAIT (R392): parks behind the locket's waiters where TRY would return none of GOT, SELF and FULL; W is the one that
LKT.CTL gives at its arrival (R399). -/
def execLockWait (q : Req) (l : Nat) (s : State) : Out :=
  s.atLocket q (.lkWait l) l 22 (fun s =>
    let w := (s.lkTry l q.master).2
    if w.bit 23 || w.bit 22 || w.bit 20 || decide (s.lkWait = 0) || decide (s.lkWaiters (l / 64) ≥ 16) || s.askerGone q then
      s.tryLocket q l
    else
      let k := s.locket l
      s.setLocket l { k with waiters := k.waiters ++ [⟨q, s.elapsed + s.lkWait⟩] })

/-- WAIT_TIMEOUT (R392). -/
def execWaitTimeout (l : Nat) (m : Word) (s : State) : Out :=
  let k := s.locket l
  match k.waiters.find? (fun w => decide (w.q.master = m)) with
  | none => .next s
  | some w =>
    if s.elapsed < w.due then .next s
    else .next (((s.setLocket l { k with waiters := k.waiters.erase w }).bump (Reg.lktGrp (l / 64) 7)).answerData w.q
      [lkWord false false (decide (k.st = 2)) false true k.hcount])

/-- PEEK (R391). -/
def execLockPeek (q : Req) (l : Nat) (s : State) : Out :=
  s.atLocket q (.lkPeek l) l 22 (fun s => s.answerData q [(s.locket l).owner])

/-- LOCKET_RELEASE (R392): a write to the TRY or WAIT view. -/
def execLocketRelease (q : Req) (l : Nat) (s : State) : Out :=
  s.atLocket q (.lkRel l) l 22 (fun s =>
    let k := s.locket l
    if k.st = 1 ∧ k.owner = q.master then (s.lkFree l).answer q 0 else (s.lkForeign l q.master).answer q 2)

/-- LOCKET_RECOVERY (R392): a write to the PEEK view. -/
def execLocketRecovery (q : Req) (l : Nat) (s : State) : Out :=
  s.atLocket q (.lkRec l) l 21 (fun s => if (s.locket l).st = 2 then (s.lkFree l).answer q 0 else s.answer q 2)

/-- FORCE (R401): a warden write of the highest word of LKT.L. -/
def execLockForce (q : Req) (l : Nat) (v : Word) (s : State) : Out :=
  if unitPresent s.member .lockets (l / 64) = false then .fault .absentUnit
  else s.wardenWrite q (0x029001 + 2 * l) v (v.bit 21) (fun s => if (s.locket l).st = 0 then s else s.lkFree l)

end Sys2Proof.Machine
end

