-- ==== Sys2Proof/Machine/RegAccess.lean ====
section
/-! DEFINITION. Reads and writes of device registers at the node that serves them (R15, R19, R278). A write that asks the
action of another row of the table acts as that row does. -/

namespace Sys2Proof.Machine

/-- Whole writes of the registers whose write asks an action: the register's first word, and the write `q` of its highest
word. -/
def State.wholeAction (s : State) (q : Req) (base n : Nat) (v : Word) : Option Out :=
  let ws := s.written q.master base n v
  let act := fun (f : State → List (Nat × Word) → State) => some (s.wardenWhole q base n v (fun _ => true) f)
  if base = 0x000002 then act State.ctlWrite
  else if base = 0x000010 then some (s.openWhole q base n v (fun _ => true) State.logWrite)
  else if base = 0x003020 then act State.updWrite
  else if base = 0x003024 then act State.flashWrite
  else if base = 0x003040 then (if (wrote ws 6).bit 23 || (wrote ws 6).bit 22 then act State.xWrite else none)
  else if 0x003400 ≤ base ∧ base < 0x003800 then act (fun s ws => s.tenWrite ((base - 0x003400) / 2) ws)
  else if 0x002010 ≤ base ∧ base < 0x002050 then
    (if (wrote ws 3).bit 15 then some (execRailClr q ((base - 0x002010) / 4) v s) else none)
  else if base = 0x004008 then some (execTimeStep q v s)
  else if 0x088000 ≤ base ∧ base < 0x0C0000 then
    (if (wrote ws 8).bit 10 then some (execCellRecover q ((base - 0x088000) / 32) v s) else none)
  else none

/-- Writes of single words that ask an action. -/
def State.wordAction (s : State) (q : Req) (a : Nat) (v : Word) : Option Out :=
  if a = 0x000040 then (if v.bit 16 ∧ s.member = .z256d then some (execPairSimplex (some q) v s) else none)
  else if 0x000800 ≤ a ∧ a < 0x000900 then
    (if v.bit 20 then some (execPavRetire q (a - 0x000800) v [] s)
     else if v.bit 21 then some (execPavilionFence (a - 0x000800) (.warden q v) [] s) else none)
  else if a = 0x001013 then some (execVsetMv q v s)
  else if 0x001200 ≤ a ∧ a < 0x001400 then
    (match v.field 16 2 with
     | 1 => some (execReqRet q (a - 0x001200) v s)
     | 2 => some (execReqOff q (a - 0x001200) v s)
     | 3 => some (execReqWake q (a - 0x001200) v s)
     | _ => none)
  else if a = 0x002001 then (if v.field 12 12 = 0xA5C then some (execStandbyEntry q v s) else none)
  else if a = 0x003002 then (if v.field 12 12 = 0x5E7 then some (execWardenReset q v s) else none)
  else if a = 0x0030C1 then
    (if v.field 12 12 ≠ 0xF05 then none
     else match v.field 10 2 with
     | 1 => some (execFuseBurn q v s)
     | 2 => some (execFuseRevoke q v s)
     | 3 => some (execFuseRaiseSvn q v s)
     | _ => none)
  else if a = 0x004023 then some (execPtpOffset q v s)
  else if 0x007400 ≤ a ∧ a < 0x007800 then some (execNodeIso q (a - 0x007400) v s)
  else if 0x029000 ≤ a ∧ a < 0x02A000 then
    (if a % 2 = 1 ∧ v.bit 21 then some (execLockForce q ((a - 0x029001) / 2) v s) else none)
  else if 0x081000 ≤ a ∧ a < 0x081080 then
    (if a % 4 = 0 ∧ v.bit 21 then some (execCalgo q ((a - 0x081000) / 4) v s) else none)
  else if 0x0C0100 ≤ a ∧ a < 0x0C0180 then (if a % 8 = 0 then some (execLinkEnable q ((a - 0x0C0100) / 8) v s) else none)
  else if a = 0x0DC000 then some (execLegacyEnable q v s)
  else if a ≥ 0x800000 then
    (let p := (a - 0x800000) / 0x8000
     if (a - 0x800000) % 0x8000 = 0x101 ∧ v.bit 23 then some (execAlertRequest q p v s)
     else if (a - 0x800000) % 0x8000 = 0x300 ∧ v.bit 23 then some (execStateFlush q p v s)
     else none)
  else none

/-- The action that a write asks beside its fields, if it asks one. (log 32, DEDUCED) -/
def State.writeAction (s : State) (q : Req) (a : Nat) (v : Word) : Option Out :=
  match findReg s.member a with
  | none => none
  | some (b, w) =>
    match b.wide w a with
    | none => s.wordAction q a v
    | some (base, n) => if a + 1 = base + n then s.wholeAction q base n v else none

/-- REGISTER_WRITE (R15, R19): a REGWR reaches the node that serves the register. A status page has its own addresses, from
0x1000000 on. (log 32, DEDUCED) -/
def execRegisterWrite (q : Req) (a : Nat) (v : Word) (s : State) : Out :=
  match s.writeAction q a v with
  | some o => o
  | none =>
    s.arriveReq q (.regwr a v) false (fun s1 =>
      if s1.regMay q a true then
        let b := a % 0x1000000
        .next ((match s1.codeWord b with
          | some (p, i) => s1.codeStore p i v
          | none => s1.regWrite q b v).answer q 0)
      else .next (s1.refuseDomain q (.regwr a v) a))

/-- REGISTER_READ (R15, R19): a REGRD reaches the node that serves the register. -/
def execRegisterRead (q : Req) (a : Nat) (s : State) : Out :=
  s.arriveReq q (.regrd a) false (fun s1 =>
    if s1.regMay q a false then
      let r := s1.regRead q (a % 0x1000000)
      .next (r.2.answerData q [r.1])
    else .next (s1.refuseDomain q (.regrd a) a))

end Sys2Proof.Machine
end

