-- ==== Sys2Proof/Machine/Dispatch.lean ====
section
/-! DEFINITION. One arm for each command, each a direct call of its meaning. -/

namespace Sys2Proof.Machine

/-- The effect of a command on everything but the queue of waiting commands. -/
def exec (i : Instr) (s : State) : Host.Outcome State Fault Refusal :=
  match i with
  | .nop c a b k => Sys2Proof.Machine.execNop c a b k s
  | .sync c a b k => Sys2Proof.Machine.execSync c a b k s
  | .syncI c a b k => Sys2Proof.Machine.execSyncI c a b k s
  | .endStrand c a b k svc => Sys2Proof.Machine.execEndStrand c a b k svc s
  | .fence c a b k => Sys2Proof.Machine.execFence c a b k s
  | .fenceWrites c a b => Sys2Proof.Machine.execFenceWrites c a b s
  | .aret c a b k => Sys2Proof.Machine.execAret c a b k s
  | .brk c a b k => Sys2Proof.Machine.execBrk c a b k s
  | .lpop c a b k => Sys2Proof.Machine.execLpop c a b k s
  | .mcommit c a b k => Sys2Proof.Machine.execMcommit c a b k s
  | .add c d a b => Sys2Proof.Machine.execAdd c d a b s
  | .adc c d a b => Sys2Proof.Machine.execAdc c d a b s
  | .sub c d a b => Sys2Proof.Machine.execSub c d a b s
  | .sbc c d a b => Sys2Proof.Machine.execSbc c d a b s
  | .andW c d a b => Sys2Proof.Machine.execAndW c d a b s
  | .orW c d a b => Sys2Proof.Machine.execOrW c d a b s
  | .xorW c d a b => Sys2Proof.Machine.execXorW c d a b s
  | .andn c d a b => Sys2Proof.Machine.execAndn c d a b s
  | .shl c d a b => Sys2Proof.Machine.execShl c d a b s
  | .shr c d a b => Sys2Proof.Machine.execShr c d a b s
  | .sar c d a b => Sys2Proof.Machine.execSar c d a b s
  | .rol c d a b => Sys2Proof.Machine.execRol c d a b s
  | .minW c d a b => Sys2Proof.Machine.execMinW c d a b s
  | .maxW c d a b => Sys2Proof.Machine.execMaxW c d a b s
  | .minu c d a b => Sys2Proof.Machine.execMinu c d a b s
  | .maxu c d a b => Sys2Proof.Machine.execMaxu c d a b s
  | .cmp c d a b => Sys2Proof.Machine.execCmp c d a b s
  | .tst c d a b => Sys2Proof.Machine.execTst c d a b s
  | .slt c d a b => Sys2Proof.Machine.execSlt c d a b s
  | .sltu c d a b => Sys2Proof.Machine.execSltu c d a b s
  | .seq c d a b => Sys2Proof.Machine.execSeq c d a b s
  | .addi c d a imm => Sys2Proof.Machine.execAddi c d a imm s
  | .andi c d a imm => Sys2Proof.Machine.execAndi c d a imm s
  | .ori c d a imm => Sys2Proof.Machine.execOri c d a imm s
  | .xori c d a imm => Sys2Proof.Machine.execXori c d a imm s
  | .shli c d a imm => Sys2Proof.Machine.execShli c d a imm s
  | .shri c d a imm => Sys2Proof.Machine.execShri c d a imm s
  | .sari c d a imm => Sys2Proof.Machine.execSari c d a imm s
  | .cmpi c d a imm => Sys2Proof.Machine.execCmpi c d a imm s
  | .movi c d imm => Sys2Proof.Machine.execMovi c d imm s
  | .movh c d imm => Sys2Proof.Machine.execMovh c d imm s
  | .mov c d a b => Sys2Proof.Machine.execMov c d a b s
  | .movp c d a b => Sys2Proof.Machine.execMovp c d a b s
  | .movt c d a b => Sys2Proof.Machine.execMovt c d a b s
  | .notW c d a b => Sys2Proof.Machine.execNotW c d a b s
  | .neg c d a b => Sys2Proof.Machine.execNeg c d a b s
  | .clz c d a b => Sys2Proof.Machine.execClz c d a b s
  | .popc c d a b => Sys2Proof.Machine.execPopc c d a b s
  | .mfs c d a b => Sys2Proof.Machine.execMfs c d a b s
  | .mts c d a b => Sys2Proof.Machine.execMts c d a b s
  | .ld c d a mode x ecc => Sys2Proof.Machine.execLd c d a mode x ecc s
  | .ldp c d a mode x ecc => Sys2Proof.Machine.execLdp c d a mode x ecc s
  | .ldt c d a mode x ecc => Sys2Proof.Machine.execLdt c d a mode x ecc s
  | .st c d a mode x => Sys2Proof.Machine.execSt c d a mode x s
  | .stp c d a mode x => Sys2Proof.Machine.execStp c d a mode x s
  | .stt c d a mode x => Sys2Proof.Machine.execStt c d a mode x s
  | .lds c d a imm => Sys2Proof.Machine.execLds c d a imm s
  | .sts c d a imm => Sys2Proof.Machine.execSts c d a imm s
  | .mul c d a b => Sys2Proof.Machine.execMul c d a b s
  | .mulu c d a b => Sys2Proof.Machine.execMulu c d a b s
  | .mac c d a b => Sys2Proof.Machine.execMac c d a b s
  | .macu c d a b => Sys2Proof.Machine.execMacu c d a b s
  | .msu c d a b => Sys2Proof.Machine.execMsu c d a b s
  | .msuu c d a b => Sys2Proof.Machine.execMsuu c d a b s
  | .mulw c d a b => Sys2Proof.Machine.execMulw c d a b s
  | .div c d a b => Sys2Proof.Machine.execDiv c d a b s
  | .divu c d a b => Sys2Proof.Machine.execDivu c d a b s
  | .clracc c d a b => Sys2Proof.Machine.execClracc c d a b s
  | .accsr c d a b => Sys2Proof.Machine.execAccsr c d a b s
  | .accsat c d a b => Sys2Proof.Machine.execAccsat c d a b s
  | .faddD c d a b => Sys2Proof.Machine.execFaddD c d a b s
  | .fsubD c d a b => Sys2Proof.Machine.execFsubD c d a b s
  | .fmulD c d a b => Sys2Proof.Machine.execFmulD c d a b s
  | .fdivD c d a b => Sys2Proof.Machine.execFdivD c d a b s
  | .faddS c d a b => Sys2Proof.Machine.execFaddS c d a b s
  | .fsubS c d a b => Sys2Proof.Machine.execFsubS c d a b s
  | .fmulS c d a b => Sys2Proof.Machine.execFmulS c d a b s
  | .fdivS c d a b => Sys2Proof.Machine.execFdivS c d a b s
  | .fmaD c d a b => Sys2Proof.Machine.execFmaD c d a b s
  | .fmsD c d a b => Sys2Proof.Machine.execFmsD c d a b s
  | .fmaS c d a b => Sys2Proof.Machine.execFmaS c d a b s
  | .fmsS c d a b => Sys2Proof.Machine.execFmsS c d a b s
  | .fsqrtD c d a b => Sys2Proof.Machine.execFsqrtD c d a b s
  | .fsqrtS c d a b => Sys2Proof.Machine.execFsqrtS c d a b s
  | .fminD c d a b => Sys2Proof.Machine.execFminD c d a b s
  | .fmaxD c d a b => Sys2Proof.Machine.execFmaxD c d a b s
  | .fcmpD c d a b => Sys2Proof.Machine.execFcmpD c d a b s
  | .fcmpS c d a b => Sys2Proof.Machine.execFcmpS c d a b s
  | .fnegD c d a b => Sys2Proof.Machine.execFnegD c d a b s
  | .fabsD c d a b => Sys2Proof.Machine.execFabsD c d a b s
  | .fcvtSd c d a b => Sys2Proof.Machine.execFcvtSd c d a b s
  | .fcvtDs c d a b => Sys2Proof.Machine.execFcvtDs c d a b s
  | .fitofD c d a b => Sys2Proof.Machine.execFitofD c d a b s
  | .fftoiD c d a b => Sys2Proof.Machine.execFftoiD c d a b s
  | .fmvwD c d a b => Sys2Proof.Machine.execFmvwD c d a b s
  | .fmvwS c d a b => Sys2Proof.Machine.execFmvwS c d a b s
  | .wmvfD c d a b => Sys2Proof.Machine.execWmvfD c d a b s
  | .wmvfS c d a b => Sys2Proof.Machine.execWmvfS c d a b s
  | .bCond c cond off => Sys2Proof.Machine.execBCond c cond off s
  | .bra c off => Sys2Proof.Machine.execBra c off s
  | .call c off => Sys2Proof.Machine.execCall c off s
  | .jr c d a b => Sys2Proof.Machine.execJr c d a b s
  | .callr c d a b => Sys2Proof.Machine.execCallr c d a b s
  | .ret c d a b => Sys2Proof.Machine.execRet c d a b s
  | .loop c a last => Sys2Proof.Machine.execLoop c a last s
  | .loopi c cnt last => Sys2Proof.Machine.execLoopi c cnt last s
  | .send c h v ty off => Sys2Proof.Machine.execSend c h v ty off s
  | .sendC c h v ty off => Sys2Proof.Machine.execSendC c h v ty off s
  | .sendc c d a b => Sys2Proof.Machine.execSendc c d a b s
  | .sendcC c d a b => Sys2Proof.Machine.execSendcC c d a b s
  | .sendp c d a b => Sys2Proof.Machine.execSendp c d a b s
  | .sendpC c d a b => Sys2Proof.Machine.execSendpC c d a b s
  | .alloc c d a imm => Sys2Proof.Machine.execAlloc c d a imm s
  | .allocw c d a imm svc => Sys2Proof.Machine.execAllocw c d a imm svc s
  | .freeF c d a b => Sys2Proof.Machine.execFreeF c d a b s
  | .spawn c d a b => Sys2Proof.Machine.execSpawn c d a b s
  | .sev c d a b => Sys2Proof.Machine.execSev c d a b s
  | .wfe c d a b svc => Sys2Proof.Machine.execWfe c d a b svc s
  | .waitt c d a b svc => Sys2Proof.Machine.execWaitt c d a b svc s
  | .gett c d a b => Sys2Proof.Machine.execGett c d a b s
  | .qput c d a b => Sys2Proof.Machine.execQput c d a b s
  | .qget c d a b => Sys2Proof.Machine.execQget c d a b s
  | .qcmt c d a b => Sys2Proof.Machine.execQcmt c d a b s
  | .qrwd c d a b => Sys2Proof.Machine.execQrwd c d a b s
  | .qdrop c d a b => Sys2Proof.Machine.execQdrop c d a b s
  | .qstat c d a b => Sys2Proof.Machine.execQstat c d a b s
  | .customInstruction c sub ops => Sys2Proof.Machine.execCustomInstruction c sub ops s
  | .longOpComplete c n => Sys2Proof.Machine.execLongOpComplete c n s
  | .timeSliceExpiry c => Sys2Proof.Machine.execTimeSliceExpiry c s
  | .preloadComplete c reread ecc k => Sys2Proof.Machine.execPreloadComplete c reread ecc k s
  | .preemption c => Sys2Proof.Machine.execPreemption c s
  | .taskSaveComplete c => Sys2Proof.Machine.execTaskSaveComplete c s
  | .taskRestoreComplete c => Sys2Proof.Machine.execTaskRestoreComplete c s
  | .budgetAlert c => Sys2Proof.Machine.execBudgetAlert c s
  | .alertEntry c => Sys2Proof.Machine.execAlertEntry c s
  | .ftok t => Sys2Proof.Machine.execFtok t s
  | .fireNotice sl => Sys2Proof.Machine.execFireNotice sl s
  | .handOver sl => Sys2Proof.Machine.execHandOver sl s
  | .dispatchDecision r => Sys2Proof.Machine.execDispatchDecision r s
  | .pavilionQueueBind p => Sys2Proof.Machine.execPavilionQueueBind p s
  | .recallAnswer f => Sys2Proof.Machine.execRecallAnswer f s
  | .land sl node unit flow => Sys2Proof.Machine.execLand sl node unit flow s
  | .paceTimeout node unit flow => Sys2Proof.Machine.execPaceTimeout node unit flow s
  | .wakeRequest r g => Sys2Proof.Machine.execWakeRequest r g s
  | .slotRelease h => Sys2Proof.Machine.execSlotRelease h s
  | .freePacket q => Sys2Proof.Machine.execFreePacket q s
  | .allocRequest q => Sys2Proof.Machine.execAllocRequest q s
  | .allocReply c rid h ok => Sys2Proof.Machine.execAllocReply c rid h ok s
  | .allocwRerun => Sys2Proof.Machine.execAllocwRerun s
  | .genQuarantineEnd f => Sys2Proof.Machine.execGenQuarantineEnd f s
  | .sevArrival task flags src => Sys2Proof.Machine.execSevArrival task flags src s
  | .spres q => Sys2Proof.Machine.execSpres q s
  | .spawnRelease n entry wgrp c tenant arg => Sys2Proof.Machine.execSpawnRelease n entry wgrp c tenant arg s
  | .waittTargetReached n => Sys2Proof.Machine.execWaittTargetReached n s
  | .domainVisit d => Sys2Proof.Machine.execDomainVisit d s
  | .flowhang f => Sys2Proof.Machine.execFlowhang f s
  | .taskKill q n v => Sys2Proof.Machine.execTaskKill q n v s
  | .evfWrite q n v => Sys2Proof.Machine.execEvfWrite q n v s
  | .ptok b t => Sys2Proof.Machine.execPtok b t s
  | .portCommit b => Sys2Proof.Machine.execPortCommit b s
  | .portArm b => Sys2Proof.Machine.execPortArm b s
  | .portDisarm b => Sys2Proof.Machine.execPortDisarm b s
  | .commitAct c => Sys2Proof.Machine.execCommitAct c s
  | .expectDeadline c => Sys2Proof.Machine.execExpectDeadline c s
  | .scheduleInstant c => Sys2Proof.Machine.execScheduleInstant c s
  | .inputEdge c level => Sys2Proof.Machine.execInputEdge c level s
  | .quadTransition c a b => Sys2Proof.Machine.execQuadTransition c a b s
  | .pulseEdge c => Sys2Proof.Machine.execPulseEdge c s
  | .ssiTransferDone c data => Sys2Proof.Machine.execSsiTransferDone c data s
  | .uartRxCharacter c ch ferr perr start => Sys2Proof.Machine.execUartRxCharacter c ch ferr perr start s
  | .spiTransferDone c data => Sys2Proof.Machine.execSpiTransferDone c data s
  | .captureInject c => Sys2Proof.Machine.execCaptureInject c s
  | .cellResume q c => Sys2Proof.Machine.execCellResume q c s
  | .cellFlush q c => Sys2Proof.Machine.execCellFlush q c s
  | .cellPop q c => Sys2Proof.Machine.execCellPop q c s
  | .cellRecover q c v => Sys2Proof.Machine.execCellRecover q c v s
  | .calgo q b v => Sys2Proof.Machine.execCalgo q b v s
  | .calibrationDone b => Sys2Proof.Machine.execCalibrationDone b s
  | .vioLoss b => Sys2Proof.Machine.execVioLoss b s
  | .vioReturn b => Sys2Proof.Machine.execVioReturn b s
  | .tick => Sys2Proof.Machine.execTick s
  | .ppsEdge => Sys2Proof.Machine.execPpsEdge s
  | .ptpOffset q v => Sys2Proof.Machine.execPtpOffset q v s
  | .sourceTimeout src => Sys2Proof.Machine.execSourceTimeout src s
  | .holdLimitExceeded => Sys2Proof.Machine.execHoldLimitExceeded s
  | .timeStep q v => Sys2Proof.Machine.execTimeStep q v s
  | .secondsKeeperSecond => Sys2Proof.Machine.execSecondsKeeperSecond s
  | .hopResend cl port fail idx unit => Sys2Proof.Machine.execHopResend cl port fail idx unit s
  | .requestTimeout node rid => Sys2Proof.Machine.execRequestTimeout node rid s
  | .ingressRequest g => Sys2Proof.Machine.execIngressRequest g s
  | .holdRsp p => Sys2Proof.Machine.execHoldRsp p s
  | .rdLine q n ecc => Sys2Proof.Machine.execRdLine q n ecc s
  | .rdxLine q n ecc => Sys2Proof.Machine.execRdxLine q n ecc s
  | .rduLine q n ecc => Sys2Proof.Machine.execRduLine q n ecc s
  | .wruLine q n v => Sys2Proof.Machine.execWruLine q n v s
  | .wbLine q line ws => Sys2Proof.Machine.execWbLine q line ws s
  | .evcLine q line => Sys2Proof.Machine.execEvcLine q line s
  | .fwdS q line ecc => Sys2Proof.Machine.execFwdS q line ecc s
  | .fwdX q line ecc => Sys2Proof.Machine.execFwdX q line ecc s
  | .invLine q line => Sys2Proof.Machine.execInvLine q line s
  | .fdata p line ws dirty => Sys2Proof.Machine.execFdata p line ws dirty s
  | .ackLine p line => Sys2Proof.Machine.execAckLine p line s
  | .goneLine p line => Sys2Proof.Machine.execGoneLine p line s
  | .dataS p ws => Sys2Proof.Machine.execDataS p ws s
  | .dataE p ws => Sys2Proof.Machine.execDataE p ws s
  | .dataM p ws => Sys2Proof.Machine.execDataM p ws s
  | .wbAck p line => Sys2Proof.Machine.execWbAck p line s
  | .rdata p ws => Sys2Proof.Machine.execRdata p ws s
  | .rsp p => Sys2Proof.Machine.execRsp p s
  | .rdw q a n ecc coll late => Sys2Proof.Machine.execRdw q a n ecc coll late s
  | .wrw q a ws coll late => Sys2Proof.Machine.execWrw q a ws coll late s
  | .setw q a ws => Sys2Proof.Machine.execSetw q a ws s
  | .clrw q a ws => Sys2Proof.Machine.execClrw q a ws s
  | .cwr q n v => Sys2Proof.Machine.execCwr q n v s
  | .rrd q a n ecc coll late => Sys2Proof.Machine.execRrd q a n ecc coll late s
  | .rwr q a ws coll late => Sys2Proof.Machine.execRwr q a ws coll late s
  | .rrsp p ws => Sys2Proof.Machine.execRrsp p ws s
  | .registerWrite q a v => Sys2Proof.Machine.execRegisterWrite q a v s
  | .evlog r => Sys2Proof.Machine.execEvlog r s
  | .testerOperation p ok forced => Sys2Proof.Machine.execTesterOperation p ok forced s
  | .stateFlush q p v => Sys2Proof.Machine.execStateFlush q p v s
  | .queuePut q n v => Sys2Proof.Machine.execQueuePut q n v s
  | .queueGet q n ecc => Sys2Proof.Machine.execQueueGet q n ecc s
  | .queueCommit q n => Sys2Proof.Machine.execQueueCommit q n s
  | .queueRewind q n => Sys2Proof.Machine.execQueueRewind q n s
  | .queueDrop q n => Sys2Proof.Machine.execQueueDrop q n s
  | .queueStatus q n => Sys2Proof.Machine.execQueueStatus q n s
  | .pstatus q n => Sys2Proof.Machine.execPstatus q n s
  | .queueRecord n node ws => Sys2Proof.Machine.execQueueRecord n node ws s
  | .lockTry q l => Sys2Proof.Machine.execLockTry q l s
  | .lockWait q l => Sys2Proof.Machine.execLockWait q l s
  | .waitTimeout l m => Sys2Proof.Machine.execWaitTimeout l m s
  | .lockPeek q l => Sys2Proof.Machine.execLockPeek q l s
  | .locketRelease q l => Sys2Proof.Machine.execLocketRelease q l s
  | .locketRecovery q l => Sys2Proof.Machine.execLocketRecovery q l s
  | .lockForce q l v => Sys2Proof.Machine.execLockForce q l v s
  | .nodeIso q n v => Sys2Proof.Machine.execNodeIso q n v s
  | .alertRequest q p v => Sys2Proof.Machine.execAlertRequest q p v s
  | .linkFrameReceive l f => Sys2Proof.Machine.execLinkFrameReceive l f s
  | .replayTimeout l => Sys2Proof.Machine.execReplayTimeout l s
  | .laneLockLoss l => Sys2Proof.Machine.execLaneLockLoss l s
  | .linkRetrain l => Sys2Proof.Machine.execLinkRetrain l s
  | .linkUp l peer => Sys2Proof.Machine.execLinkUp l peer s
  | .linkEnable q l v => Sys2Proof.Machine.execLinkEnable q l v s
  | .timeExchangeStart l => Sys2Proof.Machine.execTimeExchangeStart l s
  | .syncFrame l f xno => Sys2Proof.Machine.execSyncFrame l f xno s
  | .delreq l f xno => Sys2Proof.Machine.execDelreq l f xno s
  | .timesFrame l f xno t1 t4 => Sys2Proof.Machine.execTimesFrame l f xno t1 t4 s
  | .pairInput l f n x => Sys2Proof.Machine.execPairInput l f n x s
  | .pairAcknowledgement l f n => Sys2Proof.Machine.execPairAcknowledgement l f n s
  | .pairIntent l f k crc => Sys2Proof.Machine.execPairIntent l f k crc s
  | .pairAgreement l f k => Sys2Proof.Machine.execPairAgreement l f k s
  | .pairDone l f k => Sys2Proof.Machine.execPairDone l f k s
  | .pairHeartbeat l f => Sys2Proof.Machine.execPairHeartbeat l f s
  | .pcieBarRead f bar a tag => Sys2Proof.Machine.execPcieBarRead f bar a tag s
  | .pcieBarWrite f bar a v whole => Sys2Proof.Machine.execPcieBarWrite f bar a v whole s
  | .mailboxRead f => Sys2Proof.Machine.execMailboxRead f s
  | .mailboxWrite f => Sys2Proof.Machine.execMailboxWrite f s
  | .mailboxSetWrite f => Sys2Proof.Machine.execMailboxSetWrite f s
  | .mailboxClearWrite f => Sys2Proof.Machine.execMailboxClearWrite f s
  | .noticeRead f => Sys2Proof.Machine.execNoticeRead f s
  | .sevflags f v => Sys2Proof.Machine.execSevflags f v s
  | .functionLevelReset f => Sys2Proof.Machine.execFunctionLevelReset f s
  | .ethFrameReceive e f => Sys2Proof.Machine.execEthFrameReceive e f s
  | .ethFrameTransmit e ecc => Sys2Proof.Machine.execEthFrameTransmit e ecc s
  | .patrolScrub d ecc => Sys2Proof.Machine.execPatrolScrub d ecc s
  | .legacyRead a coll late => Sys2Proof.Machine.execLegacyRead a coll late s
  | .legacyWrite a v coll late => Sys2Proof.Machine.execLegacyWrite a v coll late s
  | .legacyMailboxWrite v coll late => Sys2Proof.Machine.execLegacyMailboxWrite v coll late s
  | .legacyIntRead coll late => Sys2Proof.Machine.execLegacyIntRead coll late s
  | .legacyLocketTry k => Sys2Proof.Machine.execLegacyLocketTry k s
  | .legacyLocketRelease k => Sys2Proof.Machine.execLegacyLocketRelease k s
  | .legRstN low => Sys2Proof.Machine.execLegRstN low s
  | .legacyEnable q v => Sys2Proof.Machine.execLegacyEnable q v s
  | .i2cWake addr data => Sys2Proof.Machine.execI2cWake addr data s
  | .i2cStatusRead addr => Sys2Proof.Machine.execI2cStatusRead addr s
  | .jtagBypass => Sys2Proof.Machine.execJtagBypass s
  | .jtagIdcode => Sys2Proof.Machine.execJtagIdcode s
  | .jtagSamplePreload load => Sys2Proof.Machine.execJtagSamplePreload load s
  | .jtagExtest load => Sys2Proof.Machine.execJtagExtest load s
  | .jtagClamp => Sys2Proof.Machine.execJtagClamp s
  | .jtagHighz => Sys2Proof.Machine.execJtagHighz s
  | .dbgacc a w => Sys2Proof.Machine.execDbgacc a w s
  | .dbgctxHalt c => Sys2Proof.Machine.execDbgctxHalt c s
  | .dbgctxStep c => Sys2Proof.Machine.execDbgctxStep c s
  | .dbgctxResume c => Sys2Proof.Machine.execDbgctxResume c s
  | .dbgctxBrkEnable => Sys2Proof.Machine.execDbgctxBrkEnable s
  | .dbgctxBrkDisable => Sys2Proof.Machine.execDbgctxBrkDisable s
  | .domainIdleEntry d => Sys2Proof.Machine.execDomainIdleEntry d s
  | .reqRet q d v => Sys2Proof.Machine.execReqRet q d v s
  | .reqOff q d v => Sys2Proof.Machine.execReqOff q d v s
  | .reqWake q d v => Sys2Proof.Machine.execReqWake q d v s
  | .domainEntryComplete d opened => Sys2Proof.Machine.execDomainEntryComplete d opened s
  | .domainWakeComplete d => Sys2Proof.Machine.execDomainWakeComplete d s
  | .railPoll r uv oc good pin err => Sys2Proof.Machine.execRailPoll r uv oc good pin err s
  | .railTimeout r => Sys2Proof.Machine.execRailTimeout r s
  | .railPauseEnd r => Sys2Proof.Machine.execRailPauseEnd r s
  | .pgoodFall r => Sys2Proof.Machine.execPgoodFall r s
  | .pmbAlert st => Sys2Proof.Machine.execPmbAlert st s
  | .railClr q r v => Sys2Proof.Machine.execRailClr q r v s
  | .govern => Sys2Proof.Machine.execGovern s
  | .vsetMv q v => Sys2Proof.Machine.execVsetMv q v s
  | .standbyEntry q v => Sys2Proof.Machine.execStandbyEntry q v s
  | .standbyComplete => Sys2Proof.Machine.execStandbyComplete s
  | .wakeN => Sys2Proof.Machine.execWakeN s
  | .secondsAlarm => Sys2Proof.Machine.execSecondsAlarm s
  | .vaonApplied => Sys2Proof.Machine.execVaonApplied s
  | .vaonLoss => Sys2Proof.Machine.execVaonLoss s
  | .rstN => Sys2Proof.Machine.execRstN s
  | .wardenReset q v => Sys2Proof.Machine.execWardenReset q v s
  | .trialExpiry => Sys2Proof.Machine.execTrialExpiry s
  | .bootChoose strap => Sys2Proof.Machine.execBootChoose strap s
  | .imageLoad fail differs oks retain => Sys2Proof.Machine.execImageLoad fail differs oks retain s
  | .digestExchange digest => Sys2Proof.Machine.execDigestExchange digest s
  | .updBegin q v => Sys2Proof.Machine.execUpdBegin q v s
  | .updVerify q v => Sys2Proof.Machine.execUpdVerify q v s
  | .updArm q v => Sys2Proof.Machine.execUpdArm q v s
  | .updDisarm q v => Sys2Proof.Machine.execUpdDisarm q v s
  | .updConfirm q v => Sys2Proof.Machine.execUpdConfirm q v s
  | .updReject q v => Sys2Proof.Machine.execUpdReject q v s
  | .updErase q v => Sys2Proof.Machine.execUpdErase q v s
  | .clrc q v => Sys2Proof.Machine.execClrc q v s
  | .flashErase q v => Sys2Proof.Machine.execFlashErase q v s
  | .flashProgram q v => Sys2Proof.Machine.execFlashProgram q v s
  | .flashRead q v => Sys2Proof.Machine.execFlashRead q v s
  | .flashOpDone ok => Sys2Proof.Machine.execFlashOpDone ok s
  | .exchangeGo q v => Sys2Proof.Machine.execExchangeGo q v s
  | .exchangeLoaded => Sys2Proof.Machine.execExchangeLoaded s
  | .exchangeAbort q v => Sys2Proof.Machine.execExchangeAbort q v s
  | .tSwitch => Sys2Proof.Machine.execTSwitch s
  | .reprogrammingEnd c => Sys2Proof.Machine.execReprogrammingEnd c s
  | .drainEnd => Sys2Proof.Machine.execDrainEnd s
  | .tenantStart q t v => Sys2Proof.Machine.execTenantStart q t v s
  | .tenantStop q t v => Sys2Proof.Machine.execTenantStop q t v s
  | .fuseBurn q v => Sys2Proof.Machine.execFuseBurn q v s
  | .fuseRevoke q v => Sys2Proof.Machine.execFuseRevoke q v s
  | .fuseRaiseSvn q v => Sys2Proof.Machine.execFuseRaiseSvn q v s
  | .pavilionFence p why bad => Sys2Proof.Machine.execPavilionFence p why bad s
  | .pavRetire q p v bad => Sys2Proof.Machine.execPavRetire q p v bad s
  | .selfTestDone p ok => Sys2Proof.Machine.execSelfTestDone p ok s
  | .dieFault q v => Sys2Proof.Machine.execDieFault q v s
  | .refclkLoss => Sys2Proof.Machine.execRefclkLoss s
  | .takeover fell => Sys2Proof.Machine.execTakeover fell s
  | .padMismatch c other => Sys2Proof.Machine.execPadMismatch c other s
  | .captureDisagreement c other => Sys2Proof.Machine.execCaptureDisagreement c other s
  | .effectDisagreement k other => Sys2Proof.Machine.execEffectDisagreement k other s
  | .pairSimplex q v => Sys2Proof.Machine.execPairSimplex q v s
  | .logNext q v => Sys2Proof.Machine.execLogNext q v s
  | .faultClear q v => Sys2Proof.Machine.execFaultClear q v s
  | .leadSeesFenceNLow => Sys2Proof.Machine.execLeadSeesFenceNLow s
  | .recordCommandEnd ok => Sys2Proof.Machine.execRecordCommandEnd ok s
  | .registerRead q a => Sys2Proof.Machine.execRegisterRead q a s

end Sys2Proof.Machine
end

