-- ==== Sys2Proof/Safety.lean ====
section
/-! DEFINITION. The terms in which statements are made: what every step keeps, when a strand's next instruction issues, and
the state after it. -/

namespace Sys2Proof.Machine

/-- The invariant of the machine: every memory is in its canonical form. -/
def State.wf (s : State) : Prop := s.memory.wf = true

/-- States that a run reaches from `s`: each step takes one waiting command. -/
inductive Runs (s : State) : State → Prop
  | start : Runs s s
  | more {t u : State} (h : Runs s t) (e : step t = .next u) : Runs s u

/-- The next instruction of the strand in context `c` issues: the context is there and ISSUING (R231), outside a custom
instruction (R213), the die is not fenced (R588), no alert is pending (R241), no ALLOCW awaits its answer (R208), no lost
store waits to be reported (R318), the address lies in the code store (R198), and no debugger steps it (R495). -/
structure Issues (s : State) (c : CtxId) : Prop where
  present : ctxPresent s.member c = true
  working : s.pair.fenced = false
  issuing : (s.ctx c).state = .issuing
  plain : (s.ctx c).micro = none
  calm : (s.ctx c).alertDue = false
  granted : (s.ctx c).awaitsGrant = false
  stored : (s.ctx c).lateErr = none
  inside : (s.ctx c).ip < 16384
  running : (s.ctx c).stepping = false

/-- A result is still owed to one of these registers (R224). -/
def Context.owes (x : Context) (rs : List RegRef) : Bool := x.waitBusy rs || x.longBusy rs

/-- The state after an instruction of context `c` that left its registers as `y`: issue goes on at the next address (R200),
and the pipeline counts the instruction. -/
def State.issued (s : State) (c : CtxId) (y : Context) : State := (s.setCtx c y.advance).countIssue c

/-- The state after a taken transfer of context `c` to address `a`. -/
def State.went (s : State) (c : CtxId) (y : Context) (a : Nat) : State := (s.setCtx c { y with ip := a }).countIssue c

/-- Everything but the strands' contexts and the counters of the pipelines is as before, and so is every other context. -/
structure OnlyContext (c : CtxId) (s t : State) : Prop where
  rest : t = { s with strands := t.strands, regs := t.regs }
  code : t.strands = { s.strands with ctxs := t.strands.ctxs }
  others : ∀ d : CtxId, ctxKey d ≠ ctxKey c → t.ctx d = s.ctx d
  counters : ∀ a : Nat, a ≠ Reg.pipeStat c.pav c.pipe 0 → t.reg a = s.reg a

end Sys2Proof.Machine
end

