-- ==== Sys2Proof/WellFormed.lean ====
section
/-! DEFINITION. Well-formed commands: each operand is a value that its field can hold on some member of the family (R1, R2,
Table 0-1). Whether a unit is there on a given member is a question for the command's meaning. -/

namespace Sys2Proof

/-- A context number of the largest member (R26). -/
def CtxId.wf (c : CtxId) : Bool := decide (c.pav < 256 ∧ c.pipe < 4 ∧ c.ctx < 4)

/-- Header fields of a request (Table 11-3). -/
def Req.wf (q : Req) : Bool := decide (q.dest < 1024 ∧ q.node < 1024 ∧ q.unit < 16 ∧ q.rid < 16384 ∧ q.tenant < 512)

/-- Header fields of a response (Table 11-3). -/
def Rsp.wf (p : Rsp) : Bool := decide (p.node < 1024 ∧ p.unit < 16 ∧ p.rid < 16384 ∧ p.src < 1024 ∧ p.status < 16)

/-- Header fields of a token (Table 11-4). -/
def Token.wf (t : Token) : Bool := decide (t.node < 1024 ∧ t.unit < 1024 ∧ t.tenant < 512 ∧ t.vc < 8)

/-- An event-log record (Table 18-8). -/
def LogRec.wf (r : LogRec) : Bool := decide (r.code < 256 ∧ r.node < 1024)

/-- A FREE names its sender (R99). -/
def FreePkt.wf (q : FreePkt) : Bool := decide (q.tenant < 512 ∧ q.node < 1024)

/-- An allocation request (R102). -/
def AllocReq.wf (q : AllocReq) : Bool := q.c.wf && decide (q.rid < 16384 ∧ q.tenant < 512 ∧ q.tmpl < 256)

/-- A SPAWN reservation (R142). -/
def SpawnReq.wf (q : SpawnReq) : Bool := q.c.wf && decide (q.rid < 16384 ∧ q.tenant < 512 ∧ q.wgrp < 64 ∧ q.entry < 32768)

/-- SEQ and ACK of a link frame (R470). -/
def LinkFrame.wf (f : LinkFrame) : Bool := decide (f.seq < 2048 ∧ f.ack < 2048)

/-- A request of a host function or of a link (R354). -/
def Ingress.wf (g : Ingress) : Bool := decide (g.node < 1024 ∧ g.rid < 16384)

/-- Every operand of a command lies in the range that its field has in the largest member (R1, R2). -/
def Instr.wf : Instr → Bool
  | .nop c _ _ _ => c.wf
  | .sync c _ _ _ => c.wf
  | .syncI c _ _ _ => c.wf
  | .endStrand c _ _ _ _ => c.wf
  | .fence c _ _ _ => c.wf
  | .fenceWrites c _ _ => c.wf
  | .aret c _ _ _ => c.wf
  | .brk c _ _ _ => c.wf
  | .lpop c _ _ _ => c.wf
  | .mcommit c _ _ _ => c.wf
  | .add c _ _ _ => c.wf
  | .adc c _ _ _ => c.wf
  | .sub c _ _ _ => c.wf
  | .sbc c _ _ _ => c.wf
  | .andW c _ _ _ => c.wf
  | .orW c _ _ _ => c.wf
  | .xorW c _ _ _ => c.wf
  | .andn c _ _ _ => c.wf
  | .shl c _ _ _ => c.wf
  | .shr c _ _ _ => c.wf
  | .sar c _ _ _ => c.wf
  | .rol c _ _ _ => c.wf
  | .minW c _ _ _ => c.wf
  | .maxW c _ _ _ => c.wf
  | .minu c _ _ _ => c.wf
  | .maxu c _ _ _ => c.wf
  | .cmp c _ _ _ => c.wf
  | .tst c _ _ _ => c.wf
  | .slt c _ _ _ => c.wf
  | .sltu c _ _ _ => c.wf
  | .seq c _ _ _ => c.wf
  | .addi c _ _ _ => c.wf
  | .andi c _ _ _ => c.wf
  | .ori c _ _ _ => c.wf
  | .xori c _ _ _ => c.wf
  | .shli c _ _ _ => c.wf
  | .shri c _ _ _ => c.wf
  | .sari c _ _ _ => c.wf
  | .cmpi c _ _ _ => c.wf
  | .movi c _ _ => c.wf
  | .movh c _ _ => c.wf
  | .mov c _ _ _ => c.wf
  | .movp c _ _ _ => c.wf
  | .movt c _ _ _ => c.wf
  | .notW c _ _ _ => c.wf
  | .neg c _ _ _ => c.wf
  | .clz c _ _ _ => c.wf
  | .popc c _ _ _ => c.wf
  | .mfs c _ _ _ => c.wf
  | .mts c _ _ _ => c.wf
  | .ld c _ _ _ _ _ => c.wf
  | .ldp c _ _ _ _ _ => c.wf
  | .ldt c _ _ _ _ _ => c.wf
  | .st c _ _ _ _ => c.wf
  | .stp c _ _ _ _ => c.wf
  | .stt c _ _ _ _ => c.wf
  | .lds c _ _ _ => c.wf
  | .sts c _ _ _ => c.wf
  | .mul c _ _ _ => c.wf
  | .mulu c _ _ _ => c.wf
  | .mac c _ _ _ => c.wf
  | .macu c _ _ _ => c.wf
  | .msu c _ _ _ => c.wf
  | .msuu c _ _ _ => c.wf
  | .mulw c _ _ _ => c.wf
  | .div c _ _ _ => c.wf
  | .divu c _ _ _ => c.wf
  | .clracc c _ _ _ => c.wf
  | .accsr c _ _ _ => c.wf
  | .accsat c _ _ _ => c.wf
  | .faddD c _ _ _ => c.wf
  | .fsubD c _ _ _ => c.wf
  | .fmulD c _ _ _ => c.wf
  | .fdivD c _ _ _ => c.wf
  | .faddS c _ _ _ => c.wf
  | .fsubS c _ _ _ => c.wf
  | .fmulS c _ _ _ => c.wf
  | .fdivS c _ _ _ => c.wf
  | .fmaD c _ _ _ => c.wf
  | .fmsD c _ _ _ => c.wf
  | .fmaS c _ _ _ => c.wf
  | .fmsS c _ _ _ => c.wf
  | .fsqrtD c _ _ _ => c.wf
  | .fsqrtS c _ _ _ => c.wf
  | .fminD c _ _ _ => c.wf
  | .fmaxD c _ _ _ => c.wf
  | .fcmpD c _ _ _ => c.wf
  | .fcmpS c _ _ _ => c.wf
  | .fnegD c _ _ _ => c.wf
  | .fabsD c _ _ _ => c.wf
  | .fcvtSd c _ _ _ => c.wf
  | .fcvtDs c _ _ _ => c.wf
  | .fitofD c _ _ _ => c.wf
  | .fftoiD c _ _ _ => c.wf
  | .fmvwD c _ _ _ => c.wf
  | .fmvwS c _ _ _ => c.wf
  | .wmvfD c _ _ _ => c.wf
  | .wmvfS c _ _ _ => c.wf
  | .bCond c _ _ => c.wf
  | .bra c _ => c.wf
  | .call c _ => c.wf
  | .jr c _ _ _ => c.wf
  | .callr c _ _ _ => c.wf
  | .ret c _ _ _ => c.wf
  | .loop c _ _ => c.wf
  | .loopi c _ _ => c.wf
  | .send c _ _ _ _ => c.wf
  | .sendC c _ _ _ _ => c.wf
  | .sendc c _ _ _ => c.wf
  | .sendcC c _ _ _ => c.wf
  | .sendp c _ _ _ => c.wf
  | .sendpC c _ _ _ => c.wf
  | .alloc c _ _ _ => c.wf
  | .allocw c _ _ _ _ => c.wf
  | .freeF c _ _ _ => c.wf
  | .spawn c _ _ _ => c.wf
  | .sev c _ _ _ => c.wf
  | .wfe c _ _ _ _ => c.wf
  | .waitt c _ _ _ _ => c.wf
  | .gett c _ _ _ => c.wf
  | .qput c _ _ _ => c.wf
  | .qget c _ _ _ => c.wf
  | .qcmt c _ _ _ => c.wf
  | .qrwd c _ _ _ => c.wf
  | .qdrop c _ _ _ => c.wf
  | .qstat c _ _ _ => c.wf
  | .customInstruction c _ _ => c.wf
  | .longOpComplete c n => c.wf && decide (n < 32)
  | .timeSliceExpiry c => c.wf
  | .preloadComplete c _ _ k => c.wf && decide (k < 16)
  | .preemption c => c.wf
  | .taskSaveComplete c => c.wf
  | .taskRestoreComplete c => c.wf
  | .budgetAlert c => c.wf
  | .alertEntry c => c.wf
  | .ftok t => t.wf
  | .fireNotice sl => decide (sl < 64)
  | .handOver sl => decide (sl < 64)
  | .dispatchDecision r => decide (r < 16)
  | .pavilionQueueBind p => decide (p < 256)
  | .recallAnswer f => decide (f < 32768)
  | .land sl node unit flow => decide (sl < 64) && decide (node < 1024) && decide (unit < 1024) && decide (flow < 32768)
  | .paceTimeout node unit flow => decide (node < 1024) && decide (unit < 1024) && decide (flow < 32768)
  | .wakeRequest r g => decide (r < 16) && decide (g < 64)
  | .slotRelease _ => true
  | .freePacket q => q.wf
  | .allocRequest q => q.wf
  | .allocReply c rid _ _ => c.wf && decide (rid < 16384)
  | .allocwRerun => true
  | .genQuarantineEnd f => decide (f < 262144)
  | .sevArrival task _ _ => decide (task < 4096)
  | .spres q => q.wf
  | .spawnRelease n entry wgrp c tenant _ => decide (n < 4096) && decide (entry < 32768) && decide (wgrp < 64) && c.wf && decide (tenant < 512)
  | .waittTargetReached n => decide (n < 4096)
  | .domainVisit d => decide (d < 512)
  | .flowhang f => decide (f < 32768)
  | .taskKill q n _ => q.wf && decide (n < 4096)
  | .evfWrite q n _ => q.wf && decide (n < 4096)
  | .ptok b t => decide (b < 32) && t.wf
  | .portCommit b => decide (b < 32)
  | .portArm b => decide (b < 32)
  | .portDisarm b => decide (b < 32)
  | .commitAct c => decide (c < 1024)
  | .expectDeadline c => decide (c < 1024)
  | .scheduleInstant c => decide (c < 1024)
  | .inputEdge c _ => decide (c < 1024)
  | .quadTransition c _ _ => decide (c < 1024)
  | .pulseEdge c => decide (c < 1024)
  | .ssiTransferDone c _ => decide (c < 1024)
  | .uartRxCharacter c ch _ _ _ => decide (c < 1024) && decide (ch < 512)
  | .spiTransferDone c _ => decide (c < 1024)
  | .captureInject c => decide (c < 1024)
  | .cellResume q c => q.wf && decide (c < 1024)
  | .cellFlush q c => q.wf && decide (c < 1024)
  | .cellPop q c => q.wf && decide (c < 1024)
  | .cellRecover q c _ => q.wf && decide (c < 1024)
  | .calgo q b _ => q.wf && decide (b < 32)
  | .calibrationDone b => decide (b < 32)
  | .vioLoss b => decide (b < 32)
  | .vioReturn b => decide (b < 32)
  | .tick => true
  | .ppsEdge => true
  | .ptpOffset q _ => q.wf
  | .sourceTimeout i => decide (i < 4)
  | .holdLimitExceeded => true
  | .timeStep q _ => q.wf
  | .secondsKeeperSecond => true
  | .hopResend cl _ fail _ _ => decide (cl < 64) && decide (fail < 5)
  | .requestTimeout node rid => decide (node < 1024) && decide (rid < 16384)
  | .ingressRequest g => g.wf
  | .holdRsp p => p.wf
  | .rdLine q n _ => q.wf && decide (n < 4194304)
  | .rdxLine q n _ => q.wf && decide (n < 4194304)
  | .rduLine q _ _ => q.wf
  | .wruLine q _ _ => q.wf
  | .wbLine q _ _ => q.wf
  | .evcLine q _ => q.wf
  | .fwdS q _ _ => q.wf
  | .fwdX q _ _ => q.wf
  | .invLine q _ => q.wf
  | .fdata p _ _ _ => p.wf
  | .ackLine p _ => p.wf
  | .goneLine p _ => p.wf
  | .dataS p _ => p.wf
  | .dataE p _ => p.wf
  | .dataM p _ => p.wf
  | .wbAck p _ => p.wf
  | .rdata p _ => p.wf
  | .rsp p => p.wf
  | .rdw q a _ _ _ _ => q.wf && decide (a < 16777216)
  | .wrw q a _ _ _ => q.wf && decide (a < 16777216)
  | .setw q a _ => q.wf && decide (a < 16777216)
  | .clrw q a _ => q.wf && decide (a < 16777216)
  | .cwr q _ _ => q.wf
  | .rrd q a _ _ _ _ => q.wf && decide (a < 16777216)
  | .rwr q a _ _ _ => q.wf && decide (a < 16777216)
  | .rrsp p _ => p.wf
  | .registerWrite q a _ => q.wf && decide (a < 33554432)
  | .evlog r => r.wf
  | .testerOperation p _ _ => decide (p < 256)
  | .stateFlush q p _ => q.wf && decide (p < 256)
  | .queuePut q n _ => q.wf && decide (n < 1024)
  | .queueGet q n _ => q.wf && decide (n < 1024)
  | .queueCommit q n => q.wf && decide (n < 1024)
  | .queueRewind q n => q.wf && decide (n < 1024)
  | .queueDrop q n => q.wf && decide (n < 1024)
  | .queueStatus q n => q.wf && decide (n < 1024)
  | .pstatus q n => q.wf && decide (n < 1024)
  | .queueRecord n node _ => decide (n < 1024) && decide (node < 1024)
  | .lockTry q l => q.wf && decide (l < 2048)
  | .lockWait q l => q.wf && decide (l < 2048)
  | .waitTimeout l _ => decide (l < 2048)
  | .lockPeek q l => q.wf && decide (l < 2048)
  | .locketRelease q l => q.wf && decide (l < 2048)
  | .locketRecovery q l => q.wf && decide (l < 2048)
  | .lockForce q l _ => q.wf && decide (l < 2048)
  | .nodeIso q n _ => q.wf && decide (n < 1024)
  | .alertRequest q p _ => q.wf && decide (p < 256)
  | .linkFrameReceive l f => decide (l < 16) && f.wf
  | .replayTimeout l => decide (l < 16)
  | .laneLockLoss l => decide (l < 16)
  | .linkRetrain l => decide (l < 16)
  | .linkUp l peer => decide (l < 16) && decide (peer < 65536)
  | .linkEnable q l _ => q.wf && decide (l < 16)
  | .timeExchangeStart l => decide (l < 16)
  | .syncFrame l f _ => decide (l < 16) && f.wf
  | .delreq l f _ => decide (l < 16) && f.wf
  | .timesFrame l f _ _ _ => decide (l < 16) && f.wf
  | .pairInput l f _ _ => decide (l < 16) && f.wf
  | .pairAcknowledgement l f _ => decide (l < 16) && f.wf
  | .pairIntent l f _ _ => decide (l < 16) && f.wf
  | .pairAgreement l f _ => decide (l < 16) && f.wf
  | .pairDone l f _ => decide (l < 16) && f.wf
  | .pairHeartbeat l f => decide (l < 16) && f.wf
  | .pcieBarRead f bar a _ => decide (f < 64) && decide (bar < 6) && decide (a < 16777216)
  | .pcieBarWrite f bar a _ _ => decide (f < 64) && decide (bar < 6) && decide (a < 16777216)
  | .mailboxRead f => decide (f < 64)
  | .mailboxWrite f => decide (f < 64)
  | .mailboxSetWrite f => decide (f < 64)
  | .mailboxClearWrite f => decide (f < 64)
  | .noticeRead f => decide (f < 64)
  | .sevflags f _ => decide (f < 64)
  | .functionLevelReset f => decide (f < 64)
  | .ethFrameReceive e _ => decide (e < 4)
  | .ethFrameTransmit e _ => decide (e < 4)
  | .patrolScrub d _ => decide (d < 8)
  | .legacyRead _ _ _ => true
  | .legacyWrite _ _ _ _ => true
  | .legacyMailboxWrite _ _ _ => true
  | .legacyIntRead _ _ => true
  | .legacyLocketTry _ => true
  | .legacyLocketRelease _ => true
  | .legRstN _ => true
  | .legacyEnable q _ => q.wf
  | .i2cWake _ _ => true
  | .i2cStatusRead _ => true
  | .jtagBypass => true
  | .jtagIdcode => true
  | .jtagSamplePreload _ => true
  | .jtagExtest _ => true
  | .jtagClamp => true
  | .jtagHighz => true
  | .dbgacc a _ => decide (a < 16777216)
  | .dbgctxHalt c => c.wf
  | .dbgctxStep c => c.wf
  | .dbgctxResume c => c.wf
  | .dbgctxBrkEnable => true
  | .dbgctxBrkDisable => true
  | .domainIdleEntry d => decide (d < 512)
  | .reqRet q d _ => q.wf && decide (d < 512)
  | .reqOff q d _ => q.wf && decide (d < 512)
  | .reqWake q d _ => q.wf && decide (d < 512)
  | .domainEntryComplete d _ => decide (d < 512)
  | .domainWakeComplete d => decide (d < 512)
  | .railPoll r _ _ _ _ _ => decide (r < 16)
  | .railTimeout r => decide (r < 16)
  | .railPauseEnd r => decide (r < 16)
  | .pgoodFall r => decide (r < 16)
  | .pmbAlert _ => true
  | .railClr q r _ => q.wf && decide (r < 16)
  | .govern => true
  | .vsetMv q _ => q.wf
  | .standbyEntry q _ => q.wf
  | .standbyComplete => true
  | .wakeN => true
  | .secondsAlarm => true
  | .vaonApplied => true
  | .vaonLoss => true
  | .rstN => true
  | .wardenReset q _ => q.wf
  | .trialExpiry => true
  | .bootChoose _ => true
  | .imageLoad _ _ _ _ => true
  | .digestExchange _ => true
  | .updBegin q _ => q.wf
  | .updVerify q _ => q.wf
  | .updArm q _ => q.wf
  | .updDisarm q _ => q.wf
  | .updConfirm q _ => q.wf
  | .updReject q _ => q.wf
  | .updErase q _ => q.wf
  | .clrc q _ => q.wf
  | .flashErase q _ => q.wf
  | .flashProgram q _ => q.wf
  | .flashRead q _ => q.wf
  | .flashOpDone _ => true
  | .exchangeGo q _ => q.wf
  | .exchangeLoaded => true
  | .exchangeAbort q _ => q.wf
  | .tSwitch => true
  | .reprogrammingEnd c => decide (c < 1024)
  | .drainEnd => true
  | .tenantStart q t _ => q.wf && decide (t < 512)
  | .tenantStop q t _ => q.all Req.wf && decide (t < 512)
  | .fuseBurn q _ => q.wf
  | .fuseRevoke q _ => q.wf
  | .fuseRaiseSvn q _ => q.wf
  | .pavilionFence p _ _ => decide (p < 256)
  | .pavRetire q p _ _ => q.wf && decide (p < 256)
  | .selfTestDone p _ => decide (p < 256)
  | .dieFault q _ => q.wf
  | .refclkLoss => true
  | .takeover _ => true
  | .padMismatch c _ => decide (c < 1024)
  | .captureDisagreement c _ => decide (c < 1024)
  | .effectDisagreement _ _ => true
  | .pairSimplex q _ => q.all Req.wf
  | .logNext q _ => q.wf
  | .faultClear q _ => q.wf
  | .leadSeesFenceNLow => true
  | .recordCommandEnd _ => true
  | .registerRead q a => q.wf && decide (a < 33554432)

end Sys2Proof
end

