-- ==== Sys2Proof/Certificates/Slice0/Obligations.lean ====
section
/-! DEFINITION. The statements about the model, one definition each, from the numbered rules of the spec. -/

open Sys2Proof Sys2Proof.Machine

namespace Sys2Proof.Claims

/-! ### Integer and move instructions -/

/-- The exact signed result leaves the 24 bits of a word. -/
abbrev overflows (v : Int) : Prop := v < -8388608 ∨ 8388607 < v

/-- FL after an "arith" instruction with result `r` (R201): T stays. -/
def arithFl (f : Fl) (r : Word) (carry overflow : Prop) [Decidable carry] [Decidable overflow] : Fl :=
  Fl.ofBools f.t r.msb (decide (r = 0)) (decide carry) (decide overflow)

/-- FL after a "logic" instruction with result `r` (R201): T, C and V stay. -/
def logicFl (f : Fl) (r : Word) : Fl := Fl.ofBools f.t r.msb (decide (r = 0)) f.c f.v

/-- FL after a shift with result `r` and carry `k` (R253): T and V stay. -/
def shiftFl (f : Fl) (r : Word) (k : Bool) : Fl := Fl.ofBools f.t r.msb (decide (r = 0)) k f.v

/-- Context `x` after W(d) := `r` with flags `f`. -/
def setWF (x : Context) (d : Reg) (r : Word) (f : Fl) : Context := x.applyAll [x.wr d r, .fl f]

/-- Context `x` after W(d) := `r`. -/
def setW (x : Context) (d : Reg) (r : Word) : Context := x.applyAll [x.wr d r]

/-- Context `x` with flags `f`. -/
def setF (x : Context) (f : Fl) : Context := x.applyAll [.fl f]

/-- C of the carry-out table of the shifts (R253). -/
def shlCarry (f : Fl) (a : Word) (n : Nat) : Bool := if n = 0 then f.c else if n ≤ 24 then a.getLsbD (24 - n) else false
def shrCarry (f : Fl) (a : Word) (n : Nat) : Bool := if n = 0 then f.c else if n ≤ 24 then a.getLsbD (n - 1) else false
def sarCarry (f : Fl) (a : Word) (n : Nat) : Bool := if n = 0 then f.c else if n ≤ 23 then a.getLsbD (n - 1) else a.msb

/-- Results that SHL, SHR and SAR of `a` by `n` places leave (R201). -/
def shlValue (a : Word) (n : Nat) : Word := BitVec.ofNat 24 (a.toNat * 2 ^ n)
def shrValue (a : Word) (n : Nat) : Word := BitVec.ofNat 24 (a.toNat / 2 ^ n)
def sarValue (a : Word) (n : Nat) : Word := BitVec.ofInt 24 (a.toInt / 2 ^ n)

end Sys2Proof.Claims

open Sys2Proof.Claims

/-- ADD, ADC, SUB, SBC (R201, R252): the sum or difference, N and Z of it, C as carry or as no borrow, V where the exact signed
result does not fit. AND, OR, XOR, ANDN: the bitwise result, with "logic" flags. SHL, SHR, SAR by the unsigned count in W(b),
and ROL by that count modulo 24 (R253). Nothing else of the context changes but the next address. -/
def Obligations.ArithmeticLogicAndShiftResults : Prop :=
  ∀ (s : State) (c : CtxId) (d a b : Reg), Issues s c →
    let x := s.ctx c
    let u := x.w a.toNat
    let v := x.w b.toNat
    let k := Fl.c x.fl
    let n := v.toNat
    x.owes (x.wRefs a 1 ++ x.wRefs b 1 ++ x.wRefs d 1 ++ [.fl]) = false →
      exec (.add c d a b) s = .next (s.issued c (setWF x d (u + v)
        (arithFl x.fl (u + v) (2 ^ 24 ≤ u.toNat + v.toNat) (overflows (u.toInt + v.toInt))))) ∧
      exec (.adc c d a b) s = .next (s.issued c (setWF x d (u + v + BitVec.ofNat 24 k.toNat)
        (arithFl x.fl (u + v + BitVec.ofNat 24 k.toNat) (2 ^ 24 ≤ u.toNat + v.toNat + k.toNat)
          (overflows (u.toInt + v.toInt + k.toNat))))) ∧
      exec (.sub c d a b) s = .next (s.issued c (setWF x d (u - v)
        (arithFl x.fl (u - v) (v.toNat ≤ u.toNat) (overflows (u.toInt - v.toInt))))) ∧
      exec (.sbc c d a b) s = .next (s.issued c (setWF x d (u - v - BitVec.ofNat 24 (!k).toNat)
        (arithFl x.fl (u - v - BitVec.ofNat 24 (!k).toNat) (v.toNat + (!k).toNat ≤ u.toNat)
          (overflows (u.toInt - v.toInt - (!k).toNat))))) ∧
      exec (.andW c d a b) s = .next (s.issued c (setWF x d (u &&& v) (logicFl x.fl (u &&& v)))) ∧
      exec (.orW c d a b) s = .next (s.issued c (setWF x d (u ||| v) (logicFl x.fl (u ||| v)))) ∧
      exec (.xorW c d a b) s = .next (s.issued c (setWF x d (u ^^^ v) (logicFl x.fl (u ^^^ v)))) ∧
      exec (.andn c d a b) s = .next (s.issued c (setWF x d (u &&& ~~~v) (logicFl x.fl (u &&& ~~~v)))) ∧
      exec (.shl c d a b) s = .next (s.issued c (setWF x d (shlValue u n) (shiftFl x.fl (shlValue u n) (shlCarry x.fl u n)))) ∧
      exec (.shr c d a b) s = .next (s.issued c (setWF x d (shrValue u n) (shiftFl x.fl (shrValue u n) (shrCarry x.fl u n)))) ∧
      exec (.sar c d a b) s = .next (s.issued c (setWF x d (sarValue u n) (shiftFl x.fl (sarValue u n) (sarCarry x.fl u n)))) ∧
      exec (.rol c d a b) s = .next (s.issued c (setWF x d (u.rotateLeft (n % 24)) (logicFl x.fl (u.rotateLeft (n % 24)))))

/-- MIN, MAX, MINU, MAXU, SLT, SLTU, SEQ write W(d) and no flag; CMP and TST write the flags alone, and with D not 0 they
raise ILLEGAL (R201, R191). -/
def Obligations.CompareAndSelectResults : Prop :=
  ∀ (s : State) (c : CtxId) (d a b : Reg), Issues s c →
    let x := s.ctx c
    let u := x.w a.toNat
    let v := x.w b.toNat
    (x.owes (x.wRefs a 1 ++ x.wRefs b 1 ++ x.wRefs d 1) = false →
      exec (.minW c d a b) s = .next (s.issued c (setW x d (if u.toInt < v.toInt then u else v))) ∧
      exec (.maxW c d a b) s = .next (s.issued c (setW x d (if u.toInt < v.toInt then v else u))) ∧
      exec (.minu c d a b) s = .next (s.issued c (setW x d (if u.toNat < v.toNat then u else v))) ∧
      exec (.maxu c d a b) s = .next (s.issued c (setW x d (if u.toNat < v.toNat then v else u))) ∧
      exec (.slt c d a b) s = .next (s.issued c (setW x d (if u.toInt < v.toInt then 1 else 0))) ∧
      exec (.sltu c d a b) s = .next (s.issued c (setW x d (if u.toNat < v.toNat then 1 else 0))) ∧
      exec (.seq c d a b) s = .next (s.issued c (setW x d (if u = v then 1 else 0)))) ∧
    (x.owes (x.wRefs a 1 ++ x.wRefs b 1 ++ [.fl]) = false →
      exec (.cmp c 0 a b) s = .next (s.issued c (setF x
        (arithFl x.fl (u - v) (v.toNat ≤ u.toNat) (overflows (u.toInt - v.toInt))))) ∧
      exec (.tst c 0 a b) s = .next (s.issued c (setF x (logicFl x.fl (u &&& v))))) ∧
    (d ≠ 0 → exec (.cmp c d a b) s = .next ((s.countIssue c).instrFault c .illegal) ∧
      exec (.tst c d a b) s = .next ((s.countIssue c).instrFault c .illegal))

/-- ADDI, ANDI, ORI, XORI, SHLI, SHRI, SARI with an immediate; CMPI with D = 0; SHLI, SHRI, SARI with IMM8[7:5] not 0 and
CMPI with D not 0 raise ILLEGAL (R201, R191). -/
def Obligations.ImmediateResults : Prop :=
  ∀ (s : State) (c : CtxId) (d a : Reg) (imm : BitVec 8), Issues s c →
    let x := s.ctx c
    let u := x.w a.toNat
    let i := imm.signExtend 24
    let z := imm.zeroExtend 24
    let n := imm.toNat
    (x.owes (x.wRefs a 1 ++ x.wRefs d 1 ++ [.fl]) = false →
      exec (.addi c d a imm) s = .next (s.issued c (setWF x d (u + i)
        (arithFl x.fl (u + i) (2 ^ 24 ≤ u.toNat + i.toNat) (overflows (u.toInt + i.toInt))))) ∧
      exec (.andi c d a imm) s = .next (s.issued c (setWF x d (u &&& z) (logicFl x.fl (u &&& z)))) ∧
      exec (.ori c d a imm) s = .next (s.issued c (setWF x d (u ||| z) (logicFl x.fl (u ||| z)))) ∧
      exec (.xori c d a imm) s = .next (s.issued c (setWF x d (u ^^^ z) (logicFl x.fl (u ^^^ z)))) ∧
      (n < 32 →
        exec (.shli c d a imm) s = .next (s.issued c (setWF x d (shlValue u n) (shiftFl x.fl (shlValue u n) (shlCarry x.fl u n)))) ∧
        exec (.shri c d a imm) s = .next (s.issued c (setWF x d (shrValue u n) (shiftFl x.fl (shrValue u n) (shrCarry x.fl u n)))) ∧
        exec (.sari c d a imm) s = .next (s.issued c (setWF x d (sarValue u n) (shiftFl x.fl (sarValue u n) (sarCarry x.fl u n)))))) ∧
    (x.owes (x.wRefs a 1 ++ [.fl]) = false →
      exec (.cmpi c 0 a imm) s = .next (s.issued c (setF x
        (arithFl x.fl (u - i) (i.toNat ≤ u.toNat) (overflows (u.toInt - i.toInt)))))) ∧
    (32 ≤ n → exec (.shli c d a imm) s = .next ((s.countIssue c).instrFault c .illegal) ∧
      exec (.shri c d a imm) s = .next ((s.countIssue c).instrFault c .illegal) ∧
      exec (.sari c d a imm) s = .next ((s.countIssue c).instrFault c .illegal)) ∧
    (d ≠ 0 → exec (.cmpi c d a imm) s = .next ((s.countIssue c).instrFault c .illegal))

/-- MOVI, MOVH, NOT, NEG, CLZ and POPC (R201): MOVH with IMM13[12:11] not 0, and the others with B not 0, raise ILLEGAL. -/
def Obligations.UnaryAndConstantResults : Prop :=
  ∀ (s : State) (c : CtxId) (d a b : Reg) (imm : BitVec 13), Issues s c →
    let x := s.ctx c
    let u := x.w a.toNat
    (x.owes (x.wRefs d 1) = false →
      exec (.movi c d imm) s = .next (s.issued c (setW x d (imm.signExtend 24))) ∧
      (imm.toNat < 2048 → exec (.movh c d imm) s = .next (s.issued c (setW x d
        (BitVec.ofNat 24 (imm.toNat * 2 ^ 13 + (x.w d.toNat).toNat % 2 ^ 13)))))) ∧
    (2048 ≤ imm.toNat → exec (.movh c d imm) s = .next ((s.countIssue c).instrFault c .illegal)) ∧
    (x.owes (x.wRefs a 1 ++ x.wRefs d 1 ++ [.fl]) = false →
      exec (.notW c d a 0) s = .next (s.issued c (setWF x d (~~~u) (logicFl x.fl (~~~u)))) ∧
      exec (.neg c d a 0) s = .next (s.issued c (setWF x d (-u) (arithFl x.fl (-u) (u = 0) (u = 0x800000))))) ∧
    (x.owes (x.wRefs a 1 ++ x.wRefs d 1) = false →
      (∃ r : Word, exec (.clz c d a 0) s = .next (s.issued c (setW x d r)) ∧
        (u = 0 → r = 24) ∧ (u ≠ 0 → 2 ^ 23 ≤ u.toNat * 2 ^ r.toNat ∧ u.toNat * 2 ^ r.toNat < 2 ^ 24)) ∧
      exec (.popc c d a 0) s = .next (s.issued c (setW x d
        (BitVec.ofNat 24 ((List.range 24).countP (fun i => u.getLsbD i)))))) ∧
    (b ≠ 0 → exec (.notW c d a b) s = .next ((s.countIssue c).instrFault c .illegal) ∧
      exec (.neg c d a b) s = .next ((s.countIssue c).instrFault c .illegal) ∧
      exec (.clz c d a b) s = .next ((s.countIssue c).instrFault c .illegal) ∧
      exec (.popc c d a b) s = .next ((s.countIssue c).instrFault c .illegal))

/-! ### Moves and special registers -/

/-- MOV, MOVP and MOVT copy one, two or three words (R201); a group that leaves W0 to W31 raises REGRANGE, and B not 0
raises ILLEGAL (R191). -/
def Obligations.MoveResults : Prop :=
  ∀ (s : State) (c : CtxId) (d a b : Reg), Issues s c →
    let x := s.ctx c
    let copy := fun (k : Nat) => RegWrite.ring (x.wi (d.toNat + k)) (x.w (a.toNat + k))
    (x.owes (x.wRefs a 1 ++ x.wRefs d 1) = false →
      exec (.mov c d a 0) s = .next (s.issued c (x.applyAll [copy 0]))) ∧
    (x.owes (x.wRefs a 2 ++ x.wRefs d 2) = false → d.toNat ≤ 30 → a.toNat ≤ 30 →
      exec (.movp c d a 0) s = .next (s.issued c (x.applyAll [copy 0, copy 1]))) ∧
    (x.owes (x.wRefs a 3 ++ x.wRefs d 3) = false → d.toNat ≤ 29 → a.toNat ≤ 29 →
      exec (.movt c d a 0) s = .next (s.issued c (x.applyAll [copy 0, copy 1, copy 2]))) ∧
    (30 < d.toNat ∨ 30 < a.toNat → exec (.movp c d a 0) s = .next ((s.countIssue c).instrFault c .regRange)) ∧
    (29 < d.toNat ∨ 29 < a.toNat → exec (.movt c d a 0) s = .next ((s.countIssue c).instrFault c .regRange)) ∧
    (b ≠ 0 → exec (.mov c d a b) s = .next ((s.countIssue c).instrFault c .illegal) ∧
      exec (.movp c d a b) s = .next ((s.countIssue c).instrFault c .illegal) ∧
      exec (.movt c d a b) s = .next ((s.countIssue c).instrFault c .illegal))

/-- MFS reads the special registers of Table 6-2 into W(d); EVF is the task's alone; a reserved or microcode-only number, and
A not 0, raise ILLEGAL (R187). -/
def Obligations.ReadSpecialRegisters : Prop :=
  ∀ (s : State) (c : CtxId) (d a b : Reg), Issues s c →
    let x := s.ctx c
    let gives := fun (n : Reg) (v : Word) => x.owes (spRefs n.toNat ++ x.wRefs d 1) = false →
      exec (.mfs c d 0 n) s = .next (s.issued c (Claims.setW x d v))
    gives 0 x.lnk ∧ gives 1 x.pl ∧ gives 2 x.ph ∧ gives 3 (x.acc.word 0) ∧ gives 4 (x.acc.word 1) ∧ gives 5 (x.acc.word 2) ∧
    gives 8 (x.loop 0).lc ∧ gives 11 (x.loop 1).lc ∧ gives 14 (x.loop 2).lc ∧ gives 15 (x.fl.zeroExtend 24) ∧
    gives 16 (s.task x.task).evm ∧ (x.isTask = true → gives 17 (s.task x.task).evf) ∧ (x.fpOut = false → gives 18 x.fpsc) ∧
    (x.sync = [] → gives 6 (x.loop 0).ls ∧ gives 7 (x.loop 0).le ∧ gives 9 (x.loop 1).ls ∧ gives 10 (x.loop 1).le ∧
      gives 12 (x.loop 2).ls ∧ gives 13 (x.loop 2).le ∧ gives 19 (BitVec.ofNat 24 x.wb) ∧ gives 20 x.lcfgWord) ∧
    gives 21 (BitVec.ofNat 24 (c.pav % 256 * 0x10000 + c.pipe % 4 * 0x4000 + c.ctx % 4 * 0x1000 + x.depth % 32)) ∧
    (22 ≤ b.toNat ∨ a ≠ 0 → exec (.mfs c d a b) s = .next ((s.countIssue c).instrFault c .illegal)) ∧
    (x.isTask = false → exec (.mfs c d 0 17) s = .next ((s.countIssue c).instrFault c .taskOnly))

/-- MTS writes the special registers (R187): a plain one holds the word (in its bits) at once; WB, LCFG, LSn and LEn wait for
SYNC; EVM is written in the task table. A read-only, reserved or microcode-only number and B not 0 raise ILLEGAL, and so
does a window base of 192 or more; EVM in an activation raises TASKONLY. -/
def Obligations.WriteSpecialRegisters : Prop :=
  ∀ (s : State) (c : CtxId) (d a b : Reg), Issues s c →
    let x := s.ctx c
    let v := x.w a.toNat
    let makes := fun (n : Reg) (y : Context) => x.owes (x.wRefs a 1 ++ spRefs n.toNat) = false →
      exec (.mts c n a 0) s = .next (s.issued c y)
    makes 0 { x with lnk := v &&& 0x003FFF } ∧ makes 1 { x with pl := v } ∧ makes 2 { x with ph := v } ∧
    makes 3 { x with acc := Triple.ofWords v (x.acc.word 1) (x.acc.word 2) } ∧
    makes 4 { x with acc := Triple.ofWords (x.acc.word 0) v (x.acc.word 2) } ∧
    makes 5 { x with acc := Triple.ofWords (x.acc.word 0) (x.acc.word 1) v } ∧
    makes 8 (x.setLoop 0 { x.loop 0 with lc := v }) ∧ makes 11 (x.setLoop 1 { x.loop 1 with lc := v }) ∧
    makes 14 (x.setLoop 2 { x.loop 2 with lc := v }) ∧ makes 15 { x with fl := v.setWidth 5 } ∧
    (x.fpOut = false → makes 18 { x with fpsc := v &&& 0x0C1F1F }) ∧
    makes 6 { x with sync := x.sync ++ [.ls 0 (v &&& 0x003FFF)] } ∧ makes 7 { x with sync := x.sync ++ [.le 0 (v &&& 0x003FFF)] } ∧
    makes 9 { x with sync := x.sync ++ [.ls 1 (v &&& 0x003FFF)] } ∧ makes 10 { x with sync := x.sync ++ [.le 1 (v &&& 0x003FFF)] } ∧
    makes 12 { x with sync := x.sync ++ [.ls 2 (v &&& 0x003FFF)] } ∧ makes 13 { x with sync := x.sync ++ [.le 2 (v &&& 0x003FFF)] } ∧
    (v.toNat % 256 < 192 → makes 19 { x with sync := x.sync ++ [.wb (v &&& 0x0000FF)] }) ∧
    makes 20 { x with sync := x.sync ++ [.lcfg (v &&& 0x03FFFB)] } ∧
    (x.isTask = true → x.owes (x.wRefs a 1) = false → exec (.mts c 16 a 0) s =
      .next ((s.setTask x.task { s.task x.task with evm := v }).issued c x)) ∧
    (x.owes (x.wRefs a 1) = false →
      (192 ≤ v.toNat % 256 → exec (.mts c 19 a 0) s = .next ((s.countIssue c).instrFault c .illegal)) ∧
      (x.isTask = false → exec (.mts c 16 a 0) s = .next ((s.countIssue c).instrFault c .taskOnly))) ∧
    (d = 17 ∨ 21 ≤ d.toNat ∨ b ≠ 0 → exec (.mts c d a b) s = .next ((s.countIssue c).instrFault c .illegal))

/-! ### Multiply, divide, accumulate -/

/-- A long operation of the multiplier or the divider that writes `ws` later; `mac` marks the MAC group. -/
def Sys2Proof.Claims.owesLong (x : Context) (u : LongUnit) (mac : Bool) (ws : List RegWrite) : Context :=
  { x with longOps := x.longOps ++ [⟨u, mac, ws, 0, false, x.ip, false⟩] }

/-- PL and PH take a 48-bit product, low word first. -/
def Sys2Proof.Claims.productWrites (p : BitVec 48) : List RegWrite := [.pl (p.extractLsb' 0 24), .ph (p.extractLsb' 24 24)]

/-- MUL and MULU owe the exact product to PH:PL, MULW its low word to W(d) (R202, R254); MAC, MACU, MSU, MSUU owe the
accumulator plus or minus the exact product modulo 2⁷² to ACC (R255). -/
def Obligations.MultiplyResults : Prop :=
  ∀ (s : State) (c : CtxId) (d a b : Reg), Issues s c →
    let x := s.ctx c
    let u := x.w a.toNat
    let v := x.w b.toNat
    (x.owes (x.wRefs a 1 ++ x.wRefs b 1 ++ [.pl, .ph]) = false →
      exec (.mul c 0 a b) s =
        .next (s.issued c (Claims.owesLong x .mult false (Claims.productWrites (BitVec.ofInt 48 (u.toInt * v.toInt))))) ∧
      exec (.mulu c 0 a b) s =
        .next (s.issued c (Claims.owesLong x .mult false (Claims.productWrites (BitVec.ofNat 48 (u.toNat * v.toNat)))))) ∧
    (x.owes (x.wRefs a 1 ++ x.wRefs b 1 ++ x.wRefs d 1) = false →
      exec (.mulw c d a b) s = .next (s.issued c (Claims.owesLong x .mult false [x.wr d (u * v)]))) ∧
    (x.owes (x.wRefs a 1 ++ x.wRefs b 1) = false → x.accHeld = false →
      exec (.mac c 0 a b) s =
        .next (s.issued c (Claims.owesLong x .mult true [.acc (x.accNow + BitVec.ofInt 72 (u.toInt * v.toInt))])) ∧
      exec (.macu c 0 a b) s =
        .next (s.issued c (Claims.owesLong x .mult true [.acc (x.accNow + BitVec.ofNat 72 (u.toNat * v.toNat))])) ∧
      exec (.msu c 0 a b) s =
        .next (s.issued c (Claims.owesLong x .mult true [.acc (x.accNow - BitVec.ofInt 72 (u.toInt * v.toInt))])) ∧
      exec (.msuu c 0 a b) s =
        .next (s.issued c (Claims.owesLong x .mult true [.acc (x.accNow - BitVec.ofNat 72 (u.toNat * v.toNat))]))) ∧
    (d ≠ 0 → exec (.mul c d a b) s = .next ((s.countIssue c).instrFault c .illegal) ∧ exec (.mulu c d a b) s = .next ((s.countIssue c).instrFault c .illegal) ∧
      exec (.mac c d a b) s = .next ((s.countIssue c).instrFault c .illegal) ∧ exec (.macu c d a b) s = .next ((s.countIssue c).instrFault c .illegal) ∧
      exec (.msu c d a b) s = .next ((s.countIssue c).instrFault c .illegal) ∧ exec (.msuu c d a b) s = .next ((s.countIssue c).instrFault c .illegal))

/-- DIV and DIVU owe PL the quotient rounded toward zero and PH the remainder: PL × b + PH = a exactly, PH is smaller than b
in magnitude and has the sign of a or is 0; a divisor of 0 gives 0xFFFFFF and a, and −2²³ by −1 gives 0x800000 and 0 (R256).
A busy divider stalls. -/
def Obligations.DivideResults : Prop :=
  ∀ (s : State) (c : CtxId) (a b : Reg), Issues s c →
    let x := s.ctx c
    let u := x.w a.toNat
    let v := x.w b.toNat
    x.owes (x.wRefs a 1 ++ x.wRefs b 1 ++ [.pl, .ph]) = false →
      (s.unitBusy c .divider = false →
        (∃ q r : Word, exec (.div c 0 a b) s = .next (s.issued c (Claims.owesLong x .divider false [.pl q, .ph r])) ∧
          (v = 0 → q = 0xFFFFFF ∧ r = u) ∧ (u = 0x800000 → v = 0xFFFFFF → q = 0x800000 ∧ r = 0) ∧
          (v ≠ 0 → ¬ (u = 0x800000 ∧ v = 0xFFFFFF) → q.toInt * v.toInt + r.toInt = u.toInt ∧
            r.toInt.natAbs < v.toInt.natAbs ∧ (r.toInt = 0 ∨ (r.toInt < 0 ↔ u.toInt < 0)))) ∧
        (∃ q r : Word, exec (.divu c 0 a b) s = .next (s.issued c (Claims.owesLong x .divider false [.pl q, .ph r])) ∧
          (v = 0 → q = 0xFFFFFF ∧ r = u) ∧
          (v ≠ 0 → q.toNat * v.toNat + r.toNat = u.toNat ∧ r.toNat < v.toNat))) ∧
      (s.unitBusy c .divider = true → exec (.div c 0 a b) s = .next (s.stallCtx c false) ∧
        exec (.divu c 0 a b) s = .next (s.stallCtx c false))

/-- CLRACC, ACCSR and ACCSAT (R202, R255): zero, the floor of ACC over 2ⁿ with n = W(a)[6:0], and the value clamped to a
signed word with V, which is owed to W(d) and FL. -/
def Obligations.AccumulatorResults : Prop :=
  ∀ (s : State) (c : CtxId) (d a b : Reg), Issues s c →
    let x := s.ctx c
    let v := x.acc.toInt
    (x.owes [.acc] = false → exec (.clracc c 0 0 0) s = .next (s.issued c { x with acc := 0 })) ∧
    (x.owes (x.wRefs a 1 ++ [.acc]) = false → exec (.accsr c 0 a 0) s =
      .next (s.issued c { x with acc := BitVec.ofInt 72 (v / 2 ^ ((x.w a.toNat).toNat % 128)) })) ∧
    (x.owes (x.wRefs d 1 ++ [.acc, .fl]) = false → exec (.accsat c d 0 0) s =
      .next (s.issued c (Claims.owesLong x .mult false [x.wr d (BitVec.ofInt 24 (max (-8388608) (min 8388607 v))),
        .fl (Fl.ofBools (Fl.t x.fl) (Fl.n x.fl) (Fl.z x.fl) (Fl.c x.fl) (decide (Claims.overflows v)))]))) ∧
    (d ≠ 0 ∨ a ≠ 0 ∨ b ≠ 0 → exec (.clracc c d a b) s = .next ((s.countIssue c).instrFault c .illegal)) ∧
    (d ≠ 0 ∨ b ≠ 0 → exec (.accsr c d a b) s = .next ((s.countIssue c).instrFault c .illegal)) ∧
    (a ≠ 0 ∨ b ≠ 0 → exec (.accsat c d a b) s = .next ((s.countIssue c).instrFault c .illegal))

/-- LONG_OP_COMPLETE (R226, R227, R260): outside a custom instruction, the operation leaves the list and its registers take its
results; its flags are added to FPSC, and an enabled one raises FPTRAP (alert 1) with the operation's address.
Model's readings, no rules of the spec: the order of completions (log 23). -/
def Obligations.LongOperationCompletes : Prop :=
  ∀ (s : State) (c : CtxId) (n : Nat) (o : LongOp), ctxPresent s.member c = true →
    let x := s.ctx c
    let y := { x with longOps := x.longOps.eraseIdx n }.applyAll o.writes
    let z := { y with fpsc := y.fpsc ||| (o.fpFlags &&& 0x00001F) }
    x.micro = none → o.micro = false → x.longOps[n]? = some o → (o.unit = .mult → ∀ p ∈ x.longOps.take n, p.unit ≠ .mult) →
      (o.fpFlags = 0 → exec (.longOpComplete c n) s = .next (s.setCtx c y)) ∧
      (o.fpFlags ≠ 0 → o.fpFlags &&& 0x00001F &&& (y.fpsc >>> 8) = 0 → exec (.longOpComplete c n) s = .next (s.setCtx c z)) ∧
      (o.fpFlags &&& 0x00001F &&& (y.fpsc >>> 8) ≠ 0 →
        exec (.longOpComplete c n) s = .next ((s.setCtx c z).raiseAlert c 1 o.addr))

/-! ### Floating point -/

/-- An FP operation of context `x` on unit `u` that writes `ws` and raises `flags` when it completes. -/
def Sys2Proof.Claims.owesFp (x : Context) (u : LongUnit) (ws : List RegWrite) (flags : Nat) : Context :=
  { x with longOps := x.longOps ++ [⟨u, false, ws, BitVec.ofNat 24 flags, true, x.ip, false⟩] }

/-- The double-precision operations owe F(d) their IEEE result, rounded under FPSC.RM as it stands at issue (R203, R227). -/
def Obligations.DoublePrecisionResults : Prop :=
  ∀ (s : State) (c : CtxId) (d a b : Reg), Issues s c →
    let x := s.ctx c
    let u := (x.fr a.toNat).toNat
    let v := (x.fr b.toNat).toNat
    let gives := fun (i : Instr) (k : LongUnit) (r : Nat × Nat) =>
      s.unitBusy c k = false → exec i s = .next (s.issued c (Claims.owesFp x k [.freg d.toNat (BitVec.ofNat 64 r.1)] r.2))
    d.toNat < 16 → a.toNat < 16 → b.toNat < 16 →
      (x.owes [.freg d.toNat, .freg a.toNat, .freg b.toNat] = false →
        gives (.faddD c d a b) .fpPipe (fpAdd fmtD x.rm false u v) ∧ gives (.fsubD c d a b) .fpPipe (fpAdd fmtD x.rm true u v) ∧
        gives (.fmulD c d a b) .fpPipe (fpMul fmtD x.rm u v) ∧ gives (.fdivD c d a b) .fpIter (fpDiv fmtD x.rm u v) ∧
        gives (.fmaD c d a b) .fpPipe (fpFma fmtD x.rm false u v (x.fr d.toNat).toNat) ∧
        gives (.fmsD c d a b) .fpPipe (fpFma fmtD x.rm true u v (x.fr d.toNat).toNat) ∧
        gives (.fminD c d a b) .fpPipe (fpMinMax fmtD false u v) ∧ gives (.fmaxD c d a b) .fpPipe (fpMinMax fmtD true u v)) ∧
      (x.owes [.freg d.toNat, .freg a.toNat] = false →
        gives (.fsqrtD c d a 0) .fpIter (fpSqrt fmtD x.rm u) ∧
        gives (.fnegD c d a 0) .fpPipe ((x.fr a.toNat ^^^ 0x8000000000000000).toNat, 0) ∧
        gives (.fabsD c d a 0) .fpPipe ((x.fr a.toNat &&& 0x7FFFFFFFFFFFFFFF).toNat, 0))

/-- The single-precision operations read and write bits [31:0] and leave bits [63:32] of F(d) zero (R189, R203); FCMP owes FL
the outcome of its table and leaves T (R204). -/
def Obligations.SinglePrecisionAndCompareResults : Prop :=
  ∀ (s : State) (c : CtxId) (d a b : Reg), Issues s c →
    let x := s.ctx c
    let lo := fun (r : Reg) => (x.fr r.toNat).toNat % 2 ^ 32
    let gives := fun (i : Instr) (k : LongUnit) (r : Nat × Nat) =>
      s.unitBusy c k = false → exec i s = .next (s.issued c (Claims.owesFp x k [.freg d.toNat (BitVec.ofNat 64 (r.1 % 2 ^ 32))] r.2))
    let flags := fun (r : (Bool × Bool × Bool × Bool) × Nat) =>
      Claims.owesFp x .fpPipe [.fl (Fl.ofBools (Fl.t x.fl) r.1.1 r.1.2.1 r.1.2.2.1 r.1.2.2.2)] r.2
    a.toNat < 16 → b.toNat < 16 →
      (d.toNat < 16 → x.owes [.freg d.toNat, .freg a.toNat, .freg b.toNat] = false →
        gives (.faddS c d a b) .fpPipe (fpAdd fmtS x.rm false (lo a) (lo b)) ∧
        gives (.fsubS c d a b) .fpPipe (fpAdd fmtS x.rm true (lo a) (lo b)) ∧
        gives (.fmulS c d a b) .fpPipe (fpMul fmtS x.rm (lo a) (lo b)) ∧
        gives (.fdivS c d a b) .fpIter (fpDiv fmtS x.rm (lo a) (lo b)) ∧
        gives (.fmaS c d a b) .fpPipe (fpFma fmtS x.rm false (lo a) (lo b) (lo d)) ∧
        gives (.fmsS c d a b) .fpPipe (fpFma fmtS x.rm true (lo a) (lo b) (lo d))) ∧
      (d.toNat < 16 → x.owes [.freg d.toNat, .freg a.toNat] = false →
        gives (.fsqrtS c d a 0) .fpIter (fpSqrt fmtS x.rm (lo a))) ∧
      (x.owes [.freg a.toNat, .freg b.toNat, .fl] = false →
        exec (.fcmpD c 0 a b) s = .next (s.issued c (flags (fpCmp fmtD (x.fr a.toNat).toNat (x.fr b.toNat).toNat))) ∧
        exec (.fcmpS c 0 a b) s = .next (s.issued c (flags (fpCmp fmtS (lo a) (lo b)))))

/-- FCVT.SD, FCVT.DS, FITOF.D and FFTOI.D owe their conversion (R268); FMVW and WMVF move the bits of one F register and its
window registers at once (R203). -/
def Obligations.ConvertAndMoveFpResults : Prop :=
  ∀ (s : State) (c : CtxId) (d a b : Reg), Issues s c →
    let x := s.ctx c
    let u := (x.fr a.toNat).toNat
    let owing := fun (w : RegWrite) (f : Nat) => Host.Outcome.next (s.issued c (Claims.owesFp x .fpPipe [w] f))
    let fr := fun (v : Nat) => RegWrite.freg d.toNat (BitVec.ofNat 64 v)
    (d.toNat < 16 → a.toNat < 16 → x.owes [.freg d.toNat, .freg a.toNat] = false →
      exec (.fcvtSd c d a b) s = owing (fr ((fpCvtSD x.rm u).1 % 2 ^ 32)) (fpCvtSD x.rm u).2 ∧
      exec (.fcvtDs c d a b) s = owing (fr (fpCvtDS (u % 2 ^ 32)).1) (fpCvtDS (u % 2 ^ 32)).2) ∧
    (d.toNat < 16 → x.owes (.freg d.toNat :: x.wRefs a 1) = false →
      exec (.fitofD c d a b) s = owing (fr (fpItoF (x.w a.toNat))) 0) ∧
    (a.toNat < 16 → x.owes (.freg a.toNat :: x.wRefs d 1) = false →
      exec (.fftoiD c d a b) s = owing (x.wr d (fpFtoI x.rm u).1) (fpFtoI x.rm u).2) ∧
    (d.toNat < 16 → a.toNat ≤ 29 → x.owes (.freg d.toNat :: x.wRefs a 3) = false →
      exec (.fmvwD c d a b) s = .next (s.issued c (x.applyAll [fr ((x.w (a.toNat + 2)).toNat % 2 ^ 16 * 2 ^ 48
        + (x.w (a.toNat + 1)).toNat * 2 ^ 24 + (x.w a.toNat).toNat)]))) ∧
    (d.toNat < 16 → a.toNat ≤ 30 → x.owes (.freg d.toNat :: x.wRefs a 2) = false →
      exec (.fmvwS c d a b) s = .next (s.issued c (x.applyAll [fr ((x.w (a.toNat + 1)).toNat % 2 ^ 8 * 2 ^ 24
        + (x.w a.toNat).toNat)]))) ∧
    (a.toNat < 16 → d.toNat ≤ 29 → x.owes (.freg a.toNat :: x.wRefs d 3) = false →
      exec (.wmvfD c d a b) s = .next (s.issued c (x.applyAll [.ring (x.wi d.toNat) (BitVec.ofNat 24 u),
        .ring (x.wi (d.toNat + 1)) (BitVec.ofNat 24 (u / 2 ^ 24)), .ring (x.wi (d.toNat + 2)) (BitVec.ofNat 24 (u / 2 ^ 48))]))) ∧
    (a.toNat < 16 → d.toNat ≤ 30 → x.owes (.freg a.toNat :: x.wRefs d 2) = false →
      exec (.wmvfS c d a b) s = .next (s.issued c (x.applyAll [.ring (x.wi d.toNat) (BitVec.ofNat 24 u),
        .ring (x.wi (d.toNat + 1)) (BitVec.ofNat 24 (u / 2 ^ 24 % 2 ^ 8))])))

/-- An F register field with bit 4 set raises ILLEGAL (R190), and so does a field that must be 0 and is not; a window group of
FMVW or WMVF that leaves W0 to W31 raises REGRANGE (R191). -/
def Obligations.FpRegisterFieldChecks : Prop :=
  ∀ (s : State) (c : CtxId) (d a b : Reg), Issues s c →
    let ill := fun (i : Instr) => exec i s = .next ((s.countIssue c).instrFault c .illegal)
    let rng := fun (i : Instr) => exec i s = .next ((s.countIssue c).instrFault c .regRange)
    (16 ≤ d.toNat ∨ 16 ≤ a.toNat ∨ 16 ≤ b.toNat →
      ill (.faddD c d a b) ∧ ill (.fsubD c d a b) ∧ ill (.fmulD c d a b) ∧ ill (.fdivD c d a b) ∧ ill (.faddS c d a b) ∧
      ill (.fsubS c d a b) ∧ ill (.fmulS c d a b) ∧ ill (.fdivS c d a b) ∧ ill (.fmaD c d a b) ∧ ill (.fmsD c d a b) ∧
      ill (.fmaS c d a b) ∧ ill (.fmsS c d a b) ∧ ill (.fminD c d a b) ∧ ill (.fmaxD c d a b)) ∧
    (16 ≤ d.toNat ∨ 16 ≤ a.toNat ∨ b ≠ 0 →
      ill (.fsqrtD c d a b) ∧ ill (.fsqrtS c d a b) ∧ ill (.fnegD c d a b) ∧ ill (.fabsD c d a b)) ∧
    (d ≠ 0 ∨ 16 ≤ a.toNat ∨ 16 ≤ b.toNat → ill (.fcmpD c d a b) ∧ ill (.fcmpS c d a b)) ∧
    (16 ≤ d.toNat ∨ 16 ≤ a.toNat → ill (.fcvtSd c d a b) ∧ ill (.fcvtDs c d a b)) ∧
    (16 ≤ d.toNat → ill (.fitofD c d a b) ∧ ill (.fmvwD c d a b) ∧ ill (.fmvwS c d a b)) ∧
    (16 ≤ a.toNat → ill (.fftoiD c d a b) ∧ ill (.wmvfD c d a b) ∧ ill (.wmvfS c d a b)) ∧
    (d.toNat < 16 → (29 < a.toNat → rng (.fmvwD c d a b)) ∧ (30 < a.toNat → rng (.fmvwS c d a b))) ∧
    (a.toNat < 16 → (29 < d.toNat → rng (.wmvfD c d a b)) ∧ (30 < d.toNat → rng (.wmvfS c d a b)))

/-! ### Branches, loops and calls -/

/-- The condition COND of a branch holds (R197): an odd code is the negation of the even one before it. -/
def Sys2Proof.Claims.taken (f : Fl) (cond : BitVec 4) : Bool :=
  (match cond.toNat / 2 with
    | 0 => f.z
    | 1 => f.c
    | 2 => f.n
    | 3 => f.v
    | 4 => f.c && !f.z
    | 5 => decide (f.n = f.v)
    | 6 => !f.z && decide (f.n = f.v)
    | _ => f.t) != decide (cond.toNat % 2 = 1)

/-- B cond, BRA and JR (R197, R198): a taken transfer goes to the instruction's own address plus the signed offset, or to
W(a); outside 0 to 16,383 it raises IPRANGE and has no effect; a branch not taken goes on at the next address. -/
def Obligations.BranchTargets : Prop :=
  ∀ (s : State) (c : CtxId) (cond : BitVec 4) (o14 : BitVec 14) (o18 : BitVec 18) (d a b : Reg), Issues s c →
    let x := s.ctx c
    let t14 := (x.ip : Int) + o14.toInt
    let t18 := (x.ip : Int) + o18.toInt
    let u := (x.w a.toNat).toNat
    (x.owes [.fl] = false →
      (Claims.taken x.fl cond = false → exec (.bCond c cond o14) s = .next (s.issued c x)) ∧
      (Claims.taken x.fl cond = true → 0 ≤ t14 → t14 ≤ 16383 → exec (.bCond c cond o14) s = .next (s.went c x t14.toNat)) ∧
      (Claims.taken x.fl cond = true → t14 < 0 ∨ 16383 < t14 → exec (.bCond c cond o14) s = .next ((s.countIssue c).instrFault c .ipRange))) ∧
    (0 ≤ t18 → t18 ≤ 16383 → exec (.bra c o18) s = .next (s.went c x t18.toNat)) ∧
    (t18 < 0 ∨ 16383 < t18 → exec (.bra c o18) s = .next ((s.countIssue c).instrFault c .ipRange)) ∧
    (x.owes (x.wRefs a 1) = false →
      (u ≤ 16383 → exec (.jr c 0 a 0) s = .next (s.went c x u)) ∧
      (16383 < u → exec (.jr c 0 a 0) s = .next ((s.countIssue c).instrFault c .ipRange))) ∧
    (d ≠ 0 ∨ b ≠ 0 → exec (.jr c d a b) s = .next ((s.countIssue c).instrFault c .illegal))

/-- LOOP and LOOPI open the next level with start a + 1, end a + END and the count (R199); a count of 0 skips the body and uses
no level; an END of 0 raises ILLEGAL and a fourth level LOOPDEPTH. LPOP ends the innermost level (R211). At the end of the
innermost level of this call depth, a count above 1 falls by one and goes back to the start; at the last pass the level ends
with count 0 and the next outer level is tested; anywhere else the next address follows (R200).
Model's readings, no rules of the spec: an address modulo 16,384 and the fault of a skipped LOOP beyond the code store (log 16, 17). -/
def Obligations.LoopInstructions : Prop :=
  ∀ (s : State) (c : CtxId) (a : Reg) (e13 : BitVec 13) (n8 : BitVec 8) (e10 : BitVec 10), Issues s c →
    let x := s.ctx c
    let n := (x.w a.toNat).toNat
    let opened := fun (last count : Nat) =>
      { x.setLoop x.lcfgDepth ⟨BitVec.ofNat 24 ((x.ip + 1) % 16384), BitVec.ofNat 24 ((x.ip + last) % 16384),
          BitVec.ofNat 24 count, x.depth⟩ with lcfgDepth := x.lcfgDepth + 1 }
    (e13 ≠ 0 → x.owes (x.wRefs a 1) = false →
      (n ≠ 0 → x.lcfgDepth < 3 → exec (.loop c a e13) s = .next (s.issued c (opened e13.toNat n))) ∧
      (n ≠ 0 → x.lcfgDepth = 3 → exec (.loop c a e13) s = .next ((s.countIssue c).instrFault c .loopDepth)) ∧
      (n = 0 → x.ip + e13.toNat + 1 ≤ 16383 → exec (.loop c a e13) s = .next (s.went c x (x.ip + e13.toNat + 1))) ∧
      (n = 0 → 16383 < x.ip + e13.toNat + 1 → exec (.loop c a e13) s = .next ((s.countIssue c).instrFault c .ipRange))) ∧
    (e10 ≠ 0 →
      (n8 ≠ 0 → x.lcfgDepth < 3 → exec (.loopi c n8 e10) s = .next (s.issued c (opened e10.toNat n8.toNat))) ∧
      (n8 ≠ 0 → x.lcfgDepth = 3 → exec (.loopi c n8 e10) s = .next ((s.countIssue c).instrFault c .loopDepth)) ∧
      (n8 = 0 → x.ip + e10.toNat + 1 ≤ 16383 → exec (.loopi c n8 e10) s = .next (s.went c x (x.ip + e10.toNat + 1))) ∧
      (n8 = 0 → 16383 < x.ip + e10.toNat + 1 → exec (.loopi c n8 e10) s = .next ((s.countIssue c).instrFault c .ipRange))) ∧
    exec (.loop c a 0) s = .next ((s.countIssue c).instrFault c .illegal) ∧ exec (.loopi c n8 0) s = .next ((s.countIssue c).instrFault c .illegal) ∧
    exec (.lpop c 0 0 0) s = .next (s.issued c { x with lcfgDepth := x.lcfgDepth - 1 }) ∧
    (∀ y : Context, y.lcfgDepth ≤ 3 →
      let n := y.lcfgDepth - 1
      let l := y.loop n
      let atEnd := y.lcfgDepth ≠ 0 ∧ y.ip = l.le.toNat ∧ y.depth = l.ld
      (¬ atEnd → y.advance = { y with ip := y.ip + 1 }) ∧
      (atEnd → 1 < l.lc.toNat → y.advance = { y.setLoop n { l with lc := l.lc - 1 } with ip := l.ls.toNat }) ∧
      (atEnd → l.lc.toNat ≤ 1 → y.advance = Context.advance { y.setLoop n { l with lc := 0 } with lcfgDepth := n }))

/-- CALL and CALLR with a free quarter (R185, R198): LNK takes the return address, the window slides up by 24 words, W8 to W31
of the new window read zero, W0 to W7 are the caller's W24 to W31, and nothing outside the context changes. At depth 31
they raise CALLDEPTH, and a target outside the code store raises IPRANGE. -/
def Obligations.CallSlidesTheWindow : Prop :=
  ∀ (s : State) (c : CtxId) (off : BitVec 18) (a : Reg), Issues s c →
    let x := s.ctx c
    let good := fun (i : Instr) (target : Nat) => ∃ t, exec i s = .next t ∧ OnlyContext c s t ∧
      let y := t.ctx c
      y.ip = target ∧ y.lnk = BitVec.ofNat 24 ((x.ip + 1) % 16384) ∧ y.wb = (x.wb + 24) % 192 ∧ y.res = x.res + 24 ∧
      y.depth = x.depth + 1 ∧ (∀ k, 8 ≤ k → k < 32 → y.w k = 0) ∧ (∀ k, k < 8 → y.w k = x.w (24 + k)) ∧
      y.fl = x.fl ∧ y.f = x.f ∧ y.acc = x.acc ∧ y.pl = x.pl ∧ y.ph = x.ph ∧ y.loops = x.loops
    let target := (x.ip : Int) + off.toInt
    let u := (x.w a.toNat).toNat
    x.owes x.upRefs = false → x.owes (x.wRefs a 1) = false →
      (x.depth < 31 → x.res < 176 →
        (0 ≤ target → target ≤ 16383 → good (.call c off) target.toNat) ∧ (u ≤ 16383 → good (.callr c 0 a 0) u)) ∧
      (x.depth < 31 → (target < 0 ∨ 16383 < target → exec (.call c off) s = .next ((s.countIssue c).instrFault c .ipRange)) ∧
        (16383 < u → exec (.callr c 0 a 0) s = .next ((s.countIssue c).instrFault c .ipRange))) ∧
      (x.depth = 31 → exec (.call c off) s = .next ((s.countIssue c).instrFault c .callDepth) ∧
        exec (.callr c 0 a 0) s = .next ((s.countIssue c).instrFault c .callDepth))

/-- RET (R185): with the caller's window resident the window slides back by 24 words, every loop level of this call depth ends,
issue goes on at LNK, and nothing outside the context changes; at depth 0 it raises RETDEPTH. A call with 176 resident words
writes the 24 oldest to spill block DEPTH − 6 before it slides (R186); a return whose caller's words were spilled reads block
DEPTH − 1 back into the caller's W0 to W23. -/
def Obligations.ReturnsSpillsAndFills : Prop :=
  ∀ (s : State) (c : CtxId) (off : BitVec 18) (d a b : Reg), Issues s c →
    let x := s.ctx c
    let target := (x.ip : Int) + off.toInt
    (0 < x.depth → x.res ≠ 32 → ∃ t, exec (.ret c 0 0 0) s = .next t ∧ OnlyContext c s t ∧
      let y := t.ctx c
      y.ip = x.lnk.toNat % 16384 ∧ y.wb = (x.wb + 168) % 192 ∧ y.res = x.res - 24 ∧ y.depth = x.depth - 1 ∧ y.ring = x.ring ∧
      y.fl = x.fl ∧ y.lnk = x.lnk ∧
      y.lcfgDepth = ((List.range x.lcfgDepth).filter (fun k => decide ((x.loop k).ld ≠ x.depth))).length) ∧
    (x.depth = 0 → exec (.ret c 0 0 0) s = .next ((s.countIssue c).instrFault c .retDepth)) ∧
    (d ≠ 0 ∨ a ≠ 0 ∨ b ≠ 0 → exec (.ret c d a b) s = .next ((s.countIssue c).instrFault c .illegal)) ∧
    (x.owes x.upRefs = false → x.depth < 31 → x.res = 176 → 0 ≤ target → target ≤ 16383 →
      ∃ t, exec (.call c off) s = .next t ∧ (t.ctx c).res = 176 ∧ (t.ctx c).depth = x.depth + 1 ∧
        t.memory = ((s.setCtx c { x with lnk := BitVec.ofNat 24 ((x.ip + 1) % 16384) }).spillStore c (x.depth - 6)
          ((List.range 24).map (fun k => Map.get (fun _ => 0) x.ring ((x.wb + 48 + k) % 192)))).memory) ∧
    (x.owes x.downRefs = false → 0 < x.depth → x.res = 32 →
      ∃ t, exec (.ret c 0 0 0) s = .next t ∧ (t.ctx c).res = 32 ∧ (t.ctx c).depth = x.depth - 1 ∧ t.memory = s.memory ∧
        (∀ k, k < 24 → (t.ctx c).w k = (s.spillLoad c (x.depth - 1))[k]?.getD 0))

/-! ### Loads, stores and slots -/

/-- The address forms (R194): displacement, post-increment, pre-decrement and indexed, modulo 2²⁴; the step is X, or the
access width where X is 0; MODE 3 raises ILLEGAL before anything else, and a register group that leaves W0 to W31 raises
REGRANGE (R191). -/
def Obligations.AddressForms : Prop :=
  ∀ (s : State) (c : CtxId) (d a : Reg) (mode : BitVec 3) (i : Reg) (e : Ecc),
    let x := s.ctx c
    let b := x.w a.toNat
    (∀ n : Nat,
      let step : Word := if i = 0 then BitVec.ofNat 24 n else i.zeroExtend 24
      (mode = 0 → mAddr x n a mode i = (b + i.zeroExtend 24, none)) ∧
      (mode = 1 → mAddr x n a mode i = (b, some (b + step))) ∧
      (mode = 2 → mAddr x n a mode i = (b - step, some (b - step))) ∧
      (4 ≤ mode.toNat → mAddr x n a mode i = (b + BitVec.ofNat 24 ((x.w i.toNat).toNat * (mode.toNat - 3)), none))) ∧
    (Issues s c →
      exec (.ld c d a 3 i e) s = .next ((s.countIssue c).instrFault c .illegal) ∧ exec (.ldp c d a 3 i e) s = .next ((s.countIssue c).instrFault c .illegal) ∧
      exec (.ldt c d a 3 i e) s = .next ((s.countIssue c).instrFault c .illegal) ∧ exec (.st c d a 3 i) s = .next ((s.countIssue c).instrFault c .illegal) ∧
      exec (.stp c d a 3 i) s = .next ((s.countIssue c).instrFault c .illegal) ∧ exec (.stt c d a 3 i) s = .next ((s.countIssue c).instrFault c .illegal) ∧
      (mode ≠ 3 → 30 < d.toNat → exec (.ldp c d a mode i e) s = .next ((s.countIssue c).instrFault c .regRange) ∧
        exec (.stp c d a mode i) s = .next ((s.countIssue c).instrFault c .regRange)) ∧
      (mode ≠ 3 → 29 < d.toNat → exec (.ldt c d a mode i e) s = .next ((s.countIssue c).instrFault c .regRange) ∧
        exec (.stt c d a mode i) s = .next ((s.countIssue c).instrFault c .regRange)))

/-- The base register's update, lost where a load's destinations include it (R195). -/
def Sys2Proof.Claims.baseWrites (x : Context) (a : Reg) (u : Option Word) (dests : List Nat) : List RegWrite :=
  match u with
  | some v => if x.wi a.toNat ∈ dests then [] else [.ring (x.wi a.toNat) v]
  | none => []

/-- LD, LDP and LDT of sound words of the pavilion's own scratchpad (R195, R229): the words at the address upward reach W(d)
and the registers after it, and the base takes its update unless a loaded word replaces it; nothing else changes but the
next address. Where a word is not mapped for reading they raise SEGMENT; where a word is poisoned they end with a bus error
of STATUS 5 (R586).
Model's readings, no rules of the spec: the load ends at its issue (log 15). -/
def Obligations.LoadsFromScratchpad : Prop :=
  ∀ (s : State) (c : CtxId) (d a : Reg) (mode : BitVec 3) (i : Reg) (l view : Nat), Issues s c → mode ≠ 3 →
    let x := s.ctx c
    let gives := fun (n : Nat) (k : Instr) =>
      let m := mAddr x n a mode i
      let ts := (List.range n).map (fun j => Target.own (l + j) view)
      let dests := (List.range n).map (fun j => x.wi (d.toNat + j))
      d.toNat + n ≤ 32 → x.owes (mRefs x a mode i ++ x.wRefs d n) = false →
        (s.translateAll c x m.1 false n = none → exec k s = .next ((s.countIssue c).instrFault c .segment)) ∧
        (s.translateAll c x m.1 false n = some ts → (∀ j, j < n → s.spadBad c.pav (l + j) = false) →
          exec k s = .next (s.issued c (x.applyAll (Claims.baseWrites x a m.2 dests
            ++ (List.range n).map (fun j => .ring (x.wi (d.toNat + j)) (s.spadRead c.pav (l + j))))))) ∧
        (s.translateAll c x m.1 false n = some ts → (∃ j, j < n ∧ s.spadBad c.pav (l + j) = true) →
          exec k s = .next ((s.countIssue c).busFault c 5 (BitVec.ofNat 24 l)))
    gives 1 (.ld c d a mode i .sound) ∧ gives 2 (.ldp c d a mode i .sound) ∧ gives 3 (.ldt c d a mode i .sound)

/-- ST, STP and STT into the pavilion's own scratchpad (R195, R229, R288): the registers, read before the base's update, are
written at the address upward, each through the segment's view; every other word of every scratchpad reads as before, and
nothing else changes but the base and the next address. Where a word is not mapped for writing they raise SEGMENT. -/
def Obligations.StoresToScratchpad : Prop :=
  ∀ (s : State) (c : CtxId) (d a : Reg) (mode : BitVec 3) (i : Reg) (l view : Nat), Issues s c → mode ≠ 3 →
    let x := s.ctx c
    let gives := fun (n : Nat) (k : Instr) =>
      let m := mAddr x n a mode i
      let ts := (List.range n).map (fun j => Target.own (l + j) view)
      d.toNat + n ≤ 32 → l + n ≤ 65536 → x.owes (mRefs x a mode i ++ x.wRefs d n) = false →
        (s.translateAll c x m.1 true n = none → exec k s = .next ((s.countIssue c).instrFault c .segment)) ∧
        (s.translateAll c x m.1 true n = some ts →
          ∃ t, exec k s = .next t ∧ t.ctx c = (x.applyAll (Claims.baseWrites x a m.2 [])).advance ∧
            (∀ j, j < n → t.spadRead c.pav (l + j) = viewWrite view (s.spadRead c.pav (l + j)) (x.w (d.toNat + j))) ∧
            (∀ p w, w < 65536 → ¬ (p = c.pav ∧ l ≤ w ∧ w < l + n) → t.spadRead p w = s.spadRead p w) ∧
            OnlyContext c { s with memory := t.memory } t ∧
            t.memory = { s.memory with spad := t.memory.spad, written := t.memory.written, poisoned := t.memory.poisoned })
    gives 1 (.st c d a mode i) ∧ gives 2 (.stp c d a mode i) ∧ gives 3 (.stt c d a mode i)

/-- LDS and STS (R196, R91): LDS reads the triple of a slot of the activation's own frame, STS writes it as a token of TYPE 2
where Table 3-7 takes one and raises SLOTWRITE where it does not; where the frame is gone LDS gives zero and STS counts in STALE; a
slot beyond the frame, or a task, raises FRAMEONLY; A not 0 raises ILLEGAL. -/
def Obligations.SlotAccess : Prop :=
  ∀ (s : State) (c : CtxId) (d a : Reg) (n : BitVec 8), Issues s c →
    let x := s.ctx c
    let f := Tag.frame x.handle
    let gone := s.frameGone x.handle
    (a ≠ 0 → exec (.lds c d a n) s = .next ((s.countIssue c).instrFault c .illegal) ∧ exec (.sts c d a n) s = .next ((s.countIssue c).instrFault c .illegal)) ∧
    (29 < d.toNat → exec (.lds c d 0 n) s = .next ((s.countIssue c).instrFault c .regRange) ∧
      exec (.sts c d 0 n) s = .next ((s.countIssue c).instrFault c .regRange)) ∧
    (d.toNat ≤ 29 → x.isTask = true ∨ (gone = false ∧ (s.frame f).slots ≤ n.toNat) →
      exec (.lds c d 0 n) s = .next ((s.countIssue c).instrFault c .frameOnly) ∧ exec (.sts c d 0 n) s = .next ((s.countIssue c).instrFault c .frameOnly)) ∧
    (d.toNat ≤ 29 → x.isTask = false → x.owes (x.wRefs d 3) = false →
      (gone = true → exec (.lds c d 0 n) s = .next (s.issued c (x.applyAll (x.wrTriple d.toNat 0))) ∧
        exec (.sts c d 0 n) s = .next ((s.bump (Reg.sliceStat (s.sliceOf f) 0)).issued c x)) ∧
      (gone = false → n.toNat < (s.frame f).slots →
        exec (.lds c d 0 n) s = .next (s.issued c (x.applyAll (x.wrTriple d.toNat (slotRead (s.slot (s.slotKey f n.toNat)))))) ∧
        (s.matchRow f n.toNat false = .passive →
          exec (.sts c d 0 n) s = .next ((s.slotStore f n.toNat (x.wTriple d.toNat)).issued c x)) ∧
        (s.matchRow f n.toNat false ≠ .passive → exec (.sts c d 0 n) s = .next ((s.countIssue c).instrFault c .slotWrite))))

/-- SEND, SEND.C, SENDC, SENDC.C, SENDP, SENDP.C, FREE, SEV and QCMT add one effect to the staged set and change nothing else
(R205 to R207, R209): the token's tag and value are those of R205 and R206. A 33rd effect raises STAGED, a slot past 255
SLOTRANGE.
Model's readings, no rules of the spec: the CRIT bit of SENDC and SENDP, and QCMT's check of MODE 0 (log 26, 27). -/
def Obligations.StagedEffects : Prop :=
  ∀ (s : State) (c : CtxId) (h v b : Reg) (ty : BitVec 3) (off : Reg), Issues s c →
    let x := s.ctx c
    let staged := fun (e : Staged) => (if x.staged.length < 32 then .next (s.issued c { x with staged := x.staged ++ [e] })
      else .next ((s.countIssue c).instrFault c .staged) : Out)
    let tag := x.wTriple h.toNat
    let sl := Tag.slot tag + off.toNat
    let tagOf := fun (crit : Nat) => (((tag.setField 21 8 sl).setField 3 3 ty.toNat).setField 2 1 crit).setField 0 2 0
    let value := fun (k : Nat) (w : Triple) => if k = 7 then Triple.ofWords (w.word 0) x.eventId 0 else clearUnused k w
    let val := x.wTriple v.toNat
    let plain := tag.setField 0 2 0
    let crit := plain.setField 2 1 1
    (h.toNat ≤ 29 → v.toNat ≤ 29 → x.owes (x.wRefs h 3 ++ x.wRefs v 3) = false →
      (sl ≤ 255 → exec (.send c h v ty off) s = staged (.token (tagOf 0) (value ty.toNat val)) ∧
        exec (.sendC c h v ty off) s = staged (.token (tagOf 1) (value ty.toNat val))) ∧
      (255 < sl → exec (.send c h v ty off) s = .next ((s.countIssue c).instrFault c .slotRange) ∧
        exec (.sendC c h v ty off) s = .next ((s.countIssue c).instrFault c .slotRange)) ∧
      exec (.sendc c h v 0) s = staged (.token plain (value (Tag.ty plain) val)) ∧
      exec (.sendcC c h v 0) s = staged (.token crit (value (Tag.ty crit) val)) ∧
      exec (.sendp c h v 0) s = staged (.port plain (value (Tag.ty plain) val)) ∧
      exec (.sendpC c h v 0) s = staged (.port crit (value (Tag.ty crit) val))) ∧
    (h.toNat ≤ 29 → x.owes (x.wRefs h 3) = false → exec (.freeF c 0 h 0) s = staged (.freeFrame tag)) ∧
    (x.owes (x.wRefs h 1 ++ x.wRefs v 1) = false →
      exec (.sev c 0 h v) s = staged (.sev ((x.w h.toNat).field 0 12) (x.w v.toNat))) ∧
    (x.owes (x.wRefs h 1) = false → (x.w h.toNat).toNat < 1024 → s.qMode (x.w h.toNat).toNat ≠ 0 →
      (s.onPut (x.w h.toNat).toNat (masterCtx x.tenant c) = true → exec (.qcmt c 0 h 0) s = staged (.qcommit (x.w h.toNat).toNat)) ∧
      (s.onPut (x.w h.toNat).toNat (masterCtx x.tenant c) = false → exec (.qcmt c 0 h 0) s = .next ((s.countIssue c).instrFault c .rights))) ∧
    (b ≠ 0 → exec (.sendc c h v b) s = .next ((s.countIssue c).instrFault c .illegal) ∧ exec (.sendp c h v b) s = .next ((s.countIssue c).instrFault c .illegal) ∧
      exec (.sendcC c h v b) s = .next ((s.countIssue c).instrFault c .illegal) ∧ exec (.sendpC c h v b) s = .next ((s.countIssue c).instrFault c .illegal) ∧
      exec (.freeF c 0 h b) s = .next ((s.countIssue c).instrFault c .illegal) ∧ exec (.sev c b h v) s = .next ((s.countIssue c).instrFault c .illegal) ∧
      exec (.qcmt c 0 h b) s = .next ((s.countIssue c).instrFault c .illegal))

/-- The requests of a strand (R103, R142, R208, R209, R371): ALLOC, ALLOCW and SPAWN go to a slice and to the hub, QPUT, QGET,
QRWD, QDROP and QSTAT to the queue node; each waits with its destination registers under a fresh RID, and issue goes on.
Model's readings, no rules of the spec: the checks of SPAWN and of a queue in MODE 0 at issue (log 25, 26). -/
def Obligations.StrandRequests : Prop :=
  ∀ (s : State) (c : CtxId) (d a b : Reg) (svc : Nat), Issues s c →
    let x := s.ctx c
    let m := masterCtx x.tenant c
    let k := (x.w a.toNat).toNat
    let rid := Map.get (fun _ => 0) s.net.ridNext c.pav
    let asks := fun (j : Instr) (p : Packet) (kind : WaitKind) (rd : Bool) => ∃ t : State, exec j s = .next t ∧
      t.flight = s.flight ++ [p] ∧
      t.ctx c = Context.advance { x with waits := x.waits ++ [⟨rid, kind, false⟩], readQueue := x.readQueue || rd } ∧
      OnlyContext c { s with net := t.net, flight := t.flight } t
    let que := fun (op : ReqOp) => Packet.req ⟨nodeQueues, c.pav, slotOf c, rid, x.tenant, m, 0⟩ op
    (k < 1024 → s.qMode k ≠ 0 →
      (s.onPut k m = true → x.owes (x.wRefs a 1 ++ .fl :: x.wRefs b 1) = false →
        asks (.qput c 0 a b) (que (.qput k (x.w b.toNat))) .qput false) ∧
      (s.onGet k m = true → x.owes (x.wRefs a 1 ++ .fl :: x.wRefs d 1) = false →
        asks (.qget c d a 0) (que (.qget k)) (.qget (x.wi d.toNat)) true ∧
        asks (.qdrop c 0 a 0) (que (.qdrop k)) .qctl true) ∧
      (s.onPut k m = true → x.owes (x.wRefs a 1) = false → asks (.qrwd c 0 a 0) (que (.qrwd k)) .qctl false) ∧
      (s.onPut k m = true ∨ s.onGet k m = true → x.owes (x.wRefs a 1 ++ x.wRefs d 1) = false →
        asks (.qstat c d a 0) (que (.qstat k)) (.qstat (x.wi d.toNat)) false)) ∧
    (∀ (n : BitVec 8), d.toNat ≤ 29 →
      (s.allocCheck x n.toNat = none → x.owes (.fl :: x.wRefs d 3) = false →
        asks (.alloc c d 0 n) (.allocReq ⟨c, rid, x.tenant, n.toNat, x.epoch, false⟩)
          (.alloc ((List.range 3).map (fun j => x.wi (d.toNat + j)))) false) ∧
      (∀ f, s.allocCheck x n.toNat = some f → exec (.alloc c d 0 n) s = .next ((s.countIssue c).instrFault c f)) ∧
      (x.isTask = false → exec (.allocw c d 0 n svc) s = .next ((s.countIssue c).instrFault c .taskOnly)) ∧
      (x.isTask = true → x.longOps = [] → x.waits = [] → s.bufferEmpty c = true → s.syncHeld c = false →
        s.allocCheck { x with allocs := [] } n.toNat = none →
        let t := (s.releasePoint c svc).allocSend c n.toNat true (.allocw d.toNat)
        exec (.allocw c d 0 n svc) s = .next (t.issued c (t.ctx c)) ∧ (t.ctx c).staged = [] ∧ (t.ctx c).allocs = [] ∧
          ∃ r, (t.ctx c).waits = [⟨r, .allocw d.toNat, false⟩])) ∧
    (a.toNat ≤ 29 → x.owes (.fl :: (x.wRefs d 1 ++ x.wRefs a 3 ++ x.wRefs b 1)) = false → (x.w b.toNat).toNat < 2 ^ 21 →
      let e := (x.w b.toNat).toNat % 2 ^ 15
      let g := (x.w b.toNat).toNat / 2 ^ 15
      (s.entryOwned e x.tenant = false → exec (.spawn c d a b) s = .next ((s.countIssue c).instrFault c .rights)) ∧
      (s.entryOwned e x.tenant = true → x.staged.length < 32 →
        asks (.spawn c d a b) (.spres ⟨c, rid, x.tenant, g, e, x.wTriple a.toNat⟩)
          (.spawn (x.wi d.toNat) e g (x.wTriple a.toNat)) false))

/-! ### The system group, waits and the pipeline -/

/-- NOP, SYNC, SYNC.I, FENCE, BRK, GETT and ARET (R211, R235, R237, R242, R320, R417); MCOMMIT outside a routine raises ILLEGAL,
and so does a field that must be 0 and is not. SYNC and SYNC.I wait for every outstanding operation of their context (R228).
Model's readings, no rules of the spec: where BRK leaves the context, and MCOMMIT as an instruction (log 19, 20). -/
def Obligations.SystemInstructions : Prop :=
  ∀ (s : State) (c : CtxId) (d a b : Reg) (k : BitVec 2), Issues s c →
    let x := s.ctx c
    let quiet := x.longOps = [] ∧ x.waits = []
    let ill := fun (i : Instr) => exec i s = .next ((s.countIssue c).instrFault c .illegal)
    exec (.nop c 0 0 0) s = .next (s.issued c x) ∧
    (quiet → s.syncHeld c = false → ∃ t, exec (.sync c 0 0 0) s = .next t ∧
      t.ctx c = Context.advance { (x.sync.foldl Context.takeSync x) with sync := [], segOld := [], syncWait := false } ∧
      ∀ r v, x.sync = [.devReg r v] → t.effWord r = v) ∧
    (quiet → x.codeBuf = [] → s.draining c = false → exec (.syncI c 0 0 0) s = .next (s.issued c x)) ∧
    (quiet → s.draining c = false → ∀ p v, x.codeBuf = [⟨c.pav, p, v⟩] → ∃ t, exec (.syncI c 0 0 0) s = .next t ∧
      t.codeRead c.pav p = v ∧ (t.ctx c).codeBuf = [] ∧ (∀ q j, q < 256 → j < 16384 → p < 16384 → ¬ (q = c.pav ∧ j = p) → t.codeRead q j = s.codeRead q j)) ∧
    (¬ quiet → exec (.sync c 0 0 0) s = .next (s.stallCtx c (!x.waits.isEmpty)) ∧
      exec (.syncI c 0 0 0) s = .next (s.stallCtx c (!x.waits.isEmpty))) ∧
    (s.stateQuiet c = true → exec (.fence c 0 0 0) s = .next (s.issued c x)) ∧
    (s.stateQuiet c = false → exec (.fence c 0 0 0) s = .next (s.stallCtx c true)) ∧
    (s.bufferEmpty c = true → exec (.fence c 0 0 1) s = .next (s.issued c x) ∧ exec (.fenceWrites c 0 0) s = .next (s.issued c x)) ∧
    (s.bufferEmpty c = false → exec (.fence c 0 0 1) s = .next (s.issued c { x with fenced := true }) ∧
      exec (.fenceWrites c 0 0) s = .next (s.issued c { x with fenced := true })) ∧
    (s.jtag.brk = true → ∃ t, exec (.brk c 0 0 0) s = .next t ∧ t.ctx c = { x.advance with state := .halted }) ∧
    (s.jtag.brk = false → exec (.brk c 0 0 0) s = .next ((s.countIssue c).instrFault c .break)) ∧
    (d.toNat ≤ 29 → x.owes (x.wRefs d 3) = false →
      exec (.gett c d 0 0) s = .next (s.issued c (x.applyAll (x.wrTriple d.toNat s.time)))) ∧
    (x.inAlert = false → ill (.aret c 0 0 0)) ∧
    (x.inAlert = true → x.alerts = [] → x.depth ≠ 0 → x.res ≠ 32 → (x.w 8).toNat ≤ 16383 →
      x.owes (.fl :: x.wRefs (8 : Reg) 2) = false → ∃ t, exec (.aret c 0 0 0) s = .next t ∧ OnlyContext c s t ∧
        let y := t.ctx c
        y.ip = (x.w 8).toNat ∧ y.fl = (x.w 9).setWidth 5 ∧ y.inAlert = false ∧ y.wb = (x.wb + 168) % 192 ∧
        y.depth = x.depth - 1 ∧ y.res = x.res - 24 ∧ y.ring = x.ring ∧ y.lnk = x.lnk) ∧
    (∀ e es, x.inAlert = true → x.alerts = e :: es → x.owes (x.wRefs (10 : Reg) 1) = false →
      ∃ t, exec (.aret c 0 0 0) s = .next t ∧ t.ctx c =
        { x.setRing (x.wi 10) (causeWord e) with alerts := es, ip := s.alertBase x + e.1 }) ∧
    ill (.mcommit c a b k) ∧
    (a ≠ 0 ∨ b ≠ 0 ∨ k ≠ 0 → ill (.nop c a b k) ∧ ill (.sync c a b k) ∧ ill (.syncI c a b k) ∧ ill (.brk c a b k) ∧
      ill (.aret c a b k)) ∧
    (a ≠ 0 ∨ b ≠ 0 ∨ 2 ≤ k.toNat → ill (.fence c a b k)) ∧ (a ≠ 0 ∨ b ≠ 0 → ill (.gett c d a b))

/-- END, WFE and WAITT (R97, R143, R144, R146, R228): END frees the context, releases the slots of an activation and returns a
task to FREE; WFE takes the flags that are there or waits in WAIT_EV, WAITT goes on if TIME has come or waits in WAIT_TIME; a
waiting task's context saves. With an operation of the context outstanding they wait; in an activation WFE and WAITT fault. -/
def Obligations.EndAndWaits : Prop :=
  ∀ (s : State) (c : CtxId) (d a : Reg) (svc : Nat), Issues s c →
    let x := s.ctx c
    let k := s.task x.task
    let hit := k.evf &&& k.evm
    let go := x.longOps = [] ∧ x.waits = [] ∧ s.bufferEmpty c = true ∧ s.syncHeld c = false
    let saves := fun (t : State) => (t.ctx c).state = .saving ∧ (t.ctx c).staged = [] ∧ (t.ctx c).lockets = [] ∧
      (t.ctx c).alerts = []
    (go → ∃ t, exec (.endStrand c 0 0 0 svc) s = .next t ∧ t.ctx c = Context.idle ∧
      (x.isTask = false → .slotRelease x.handle ∈ t.flight) ∧
      (x.isTask = true → (t.task x.task).st = .free ∧ (t.task x.task).evf = 0)) ∧
    (x.isTask = true → go → x.sync = [] →
      (hit ≠ 0 → ∃ t, exec (.wfe c d 0 0 svc) s = .next t ∧ (t.ctx c).w d.toNat = hit ∧ (t.ctx c).state = .issuing ∧
        (t.ctx c).staged = [] ∧ t.task x.task = { k with evf := k.evf &&& ~~~hit }) ∧
      (hit = 0 → ∃ t, exec (.wfe c d 0 0 svc) s = .next t ∧ saves t ∧ (t.task x.task).st = .waitEv ∧ (t.task x.task).evf = k.evf) ∧
      (a.toNat ≤ 29 → s.time < x.wTriple a.toNat → ∃ t, exec (.waitt c 0 a 0 svc) s = .next t ∧ saves t ∧
        (t.task x.task).st = .waitTime ∧ (t.task x.task).target = x.wTriple a.toNat) ∧
      (a.toNat ≤ 29 → x.wTriple a.toNat ≤ s.time → ∃ t, exec (.waitt c 0 a 0 svc) s = .next t ∧ (t.ctx c).state = .issuing ∧
        (t.ctx c).staged = [] ∧ t.task x.task = k)) ∧
    (x.isTask = false → exec (.wfe c d 0 0 svc) s = .next ((s.countIssue c).instrFault c .taskOnly) ∧
      (a.toNat ≤ 29 → exec (.waitt c 0 a 0 svc) s = .next ((s.countIssue c).instrFault c .taskOnly))) ∧
    (x.longOps ≠ [] ∨ x.waits ≠ [] → exec (.endStrand c 0 0 0 svc) s = .next (s.stallCtx c (!x.waits.isEmpty)) ∧
      (x.isTask = true → exec (.wfe c d 0 0 svc) s = .next (s.stallCtx c (!x.waits.isEmpty))))

/-- The request reaches its node, which is there and takes it, without a poisoned unit (Table 11-8). -/
def Sys2Proof.Claims.reaches (s : State) (q : Req) : Prop :=
  nodePresent s.member q.dest = true ∧ q.poison = 0 ∧ s.nodeState q.dest = 0

/-- The state in which a request's node acts: the packet has left the Trellis and passed its filters. -/
def Sys2Proof.Claims.arrived (s : State) (q : Req) (op : ReqOp) : State :=
  (s.take (.req q op)).passes q.node q.dest (s.reqHeader q op) false

/-- The pipeline's events (R131, R231 to R233, R240, R241, R247): the slice's end and preemption hand issue to another context;
preload leaves the registers of Table 6-1; a save writes the save area of Table 7-7 and a restore reads it; an alert becomes
pending once, and its entry slides the window and goes to the vector.
Model's readings, no rules of the spec: which events may come in which order (log 3, 23, 24). -/
def Obligations.PipelineEvents : Prop :=
  ∀ (s : State) (c : CtxId) (q : Req) (v : Word), ctxPresent s.member c = true → s.pair.fenced = false →
    let x := s.ctx c
    let at_ := fun (t : State) (k : Nat) => t.ctx ⟨c.pav, c.pipe, k⟩
    (x.state = .issuing → x.wgrp ≠ 0 → s.regField (pavBase c.pav + 0x100) 0 8 ≠ 0 →
      Map.get (fun _ => 3) s.strands.lastIssued (4 * c.pav + c.pipe) = c.ctx →
      (∃ k, k < 4 ∧ k ≠ c.ctx ∧ (at_ s k).state = .ready) →
      ∃ t k, exec (.timeSliceExpiry c) s = .next t ∧ (t.ctx c).state = .ready ∧ k < 4 ∧ k ≠ c.ctx ∧ (at_ t k).state = .issuing) ∧
    (x.state = .issuing → x.wgrp ≠ 0 → x.micro = none →
      (∃ k, k < 4 ∧ k ≠ c.ctx ∧ (at_ s k).state = .ready ∧ (at_ s k).wgrp = 0) →
      ∃ t k, exec (.preemption c) s = .next t ∧ (t.ctx c).state = .suspended ∧ k < 4 ∧ (at_ t k).wgrp = 0 ∧
        (at_ t k).state = .issuing) ∧
    (x.state = .preload → s.frameGone x.handle = false →
      (∀ n ∈ s.operandSlots x.handle, s.operandBad (Tag.frame x.handle) n = false) →
      ∃ t, exec (.preloadComplete c false .sound 0) s = .next t ∧
        let y := t.ctx c
        y.ip = s.entryAddr x.entry ∧ y.depth = 0 ∧ y.res = 32 ∧ y.fl = 0 ∧ y.lnk = 0 ∧ y.acc = 0 ∧ y.lcfgDepth = 0 ∧
        (y.state = .ready ∨ y.state = .issuing) ∧
        (x.isTask = false → y.w 0 = x.handle.word 0 ∧ y.w 1 = x.handle.word 1 ∧ y.w 2 = x.handle.word 2 ∧ y.w 4 = 0) ∧
        y.w 6 = 0 ∧ y.w 7 = 0 ∧ (∀ j n, (s.operandSlots x.handle)[j]? = some n → j < 8 → ∀ i, i < 3 →
          y.w (8 + 3 * j + i) = (slotRead (s.slot (s.slotKey (Tag.frame x.handle) n))).word i)) ∧
    (x.state = .preload → s.frameGone x.handle = true →
      exec (.preloadComplete c false .sound 0) s = .next (s.dropPreload c)) ∧
    (x.state = .saving → x.task < 4096 → ∃ t, exec (.taskSaveComplete c) s = .next t ∧ t.ctx c = Context.idle ∧
      (t.task x.task).saved = true ∧
      ∀ k, k < 128 → t.recRead x.task k = (x.saveWords (s.task x.task).evm)[k]?.getD 0) ∧
    (x.state = .restoring → s.savingTask x.task = false →
      ∃ t, exec (.taskRestoreComplete c) s = .next t ∧ ((t.ctx c).state = .ready ∨ (t.ctx c).state = .issuing) ∧
        ((s.task x.task).saved = true → (s.task x.task).result = none → (t.ctx c).ip = (s.recRead x.task 99).field 0 14 ∧
          t.task x.task = s.task x.task ∧
          (t.ctx c).wb = 0 ∧ (t.ctx c).res = 32 ∧ ∀ i, i < 32 → (t.ctx c).w i = s.recRead x.task i) ∧
        ((s.task x.task).saved = false → x.isTask = true → (t.ctx c).ip = s.entryAddr x.entry ∧ (t.ctx c).w 4 = BitVec.ofNat 24 x.task ∧
          ∀ i, i < 3 → (t.ctx c).w (8 + i) = (s.task x.task).arg.word i)) ∧
    (x.state = .issuing → x.budgetLimit ≠ 0 → x.budgetRaised = false → (∀ e ∈ x.alerts, e.1 ≠ 2) →
      exec (.budgetAlert c) s = .next (s.setCtx c { x with budgetRaised := true, alerts := insertAlert (2, 0) x.alerts })) ∧
    (v.bit 23 = true → Claims.reaches s q → (Claims.arrived s q (.regwr (pavBase c.pav + 0x101) v)).mayWarden q (pavBase c.pav + 0x101) = true →
      exec (.alertRequest q c.pav v) s = .next (((Claims.arrived s q (.regwr (pavBase c.pav + 0x101) v)).raiseAlert
        ⟨c.pav, v.field 18 2, v.field 16 2⟩ 3 (v.field 0 14)).answer q 0)) ∧
    (∀ e es, x.state = .issuing → x.inAlert = false → x.alerts = e :: es → x.micro = none → x.awaitsGrant = false →
      x.lateErr = none → x.ip < 16384 → x.depth < 31 → x.entry < 32768 → x.dropMicro.owes (.fl :: x.dropMicro.upRefs) = false →
      ∃ t, exec (.alertEntry c) s = .next t ∧
        let y := t.ctx c
        y.ip = s.alertBase x + e.1 ∧ y.inAlert = true ∧ y.alerts = es ∧ y.wb = (x.wb + 24) % 192 ∧ y.depth = x.depth + 1 ∧
        y.lnk = x.lnk ∧ y.w 8 = BitVec.ofNat 24 x.ip ∧ y.w 9 = x.fl.zeroExtend 24 ∧ y.w 10 = causeWord e)

/-- CUSTOM_INSTRUCTION (R213, R216, R238): an entry that cannot run raises ILLEGAL; a routine of one micro-op NOP leaves the
registers as they were but for U0 to U7 and MIMM, and the next instruction follows.
Model's readings, no rules of the spec: a routine runs in one command (log 21). -/
def Obligations.CustomInstructions : Prop :=
  ∀ (s : State) (c : CtxId) (sub : BitVec 6) (ops : BitVec 12), Issues s c →
    let x := s.ctx c
    let w0 := s.effWord (Reg.decode c.pav sub.toNat 0)
    let w1 := s.effWord (Reg.decode c.pav sub.toNat 1)
    let start := w0.field 0 12
    (w0.bit 23 = false ∨ w1.field 0 13 = 0 ∨ 4096 < start + w1.field 0 13 ∨ (w0.bit 22 = true ∧ 64 < w1.field 0 13) →
      exec (.customInstruction c sub ops) s = .next ((s.countIssue c).instrFault c .illegal)) ∧
    (w0.bit 23 = true → w1.field 0 13 = 1 → start < 4096 → w0.field 20 2 = 0 → s.customHeld c.pav = false → x.longOps = [] →
      x.waits = [] → s.effWord (Reg.uop c.pav start 0) = 0 → s.effWord (Reg.uop c.pav start 1) = 0x800000 →
      ∃ t, exec (.customInstruction c sub ops) s = .next t ∧ OnlyContext c s t ∧
        t.ctx c = { x.setRings0 with mimm := BitVec.ofNat 24 (ops.toNat % 4) }.advance)

/-! ### The central store -/

/-- The state in which a node acts on a posted packet: it has left the Trellis and passed its filters. -/
def Sys2Proof.Claims.carried (s : State) (p : Packet) (src dst : Nat) (h : Triple) (poison : Bool) : State :=
  (s.take p).passes src dst h poison

/-- FTOK at a slice that takes packets (R72, R82, R90 to R92, R135): the first failing check discards and counts the token;
Table 3-7 discards it as LAYOUT or COLLISION, stores it as a passive value, or stores it as an operand; the last operand
makes the group HELD and its activation joins the fired queue.
Model's readings, no rules of the spec: the landing reply's header (log 98). -/
def Obligations.TokensAtTheStore : Prop :=
  ∀ (s : State) (t : Token), t.vc = 2 ∨ t.vc = 3 → Tag.device t.tag = s.deviceNo →
    let f := Tag.frame t.tag
    let sl := Tag.slot t.tag
    let sc := s.sliceOf f
    let node := nodeSlice sc
    let u := Claims.carried s (.ftok t) t.node node
      (mkHeader t.vc 1 node t.node (if t.node < 256 then t.unit else 0) t.tenant 0 (Tag.device t.tag)) t.poison
    let crit := Tag.crit t.tag
    let k := s.slotKey f sl
    let gk := s.groupKey f (sl / 16)
    let g := s.group gk
    let kept := fun (v : State) => (v.slot k).val = t.value ∧ (v.slot k).pres = true ∧ (v.slot k).ty = Tag.ty t.tag ∧
      (v.slot k).crit = crit ∧ (crit = true → (v.slot (k + 1)).cpl = true ∧ (v.slot (k + 1)).val = t.comp) ∧
      (∀ j, j ≠ k → j ≠ k + 1 → v.slot j = s.slot j)
    s.nodeState node = 0 ∨ s.nodeState node = 2 →
      (∀ w, s.checkToken t = some w → ∃ v, exec (.ftok t) s = .next v ∧ v.store = s.store ∧
        v = (u.discardToken sc t w).landReply t) ∧
      (s.checkToken t = none → s.matchRow f sl crit = .layout →
        exec (.ftok t) s = .next (((u.bump (Reg.sliceStat sc 6)).logDiscard sc t 6).landReply t)) ∧
      (s.checkToken t = none → s.matchRow f sl crit = .collision →
        exec (.ftok t) s = .next (((u.bump (Reg.sliceStat sc 5)).logDiscard sc t 5).landReply t)) ∧
      (s.checkToken t = none → s.matchRow f sl crit = .passive →
        ∃ v, exec (.ftok t) s = .next v ∧ kept v ∧ (∀ j, v.group j = s.group j) ∧ (∀ q, v.firedQ q = s.firedQ q) ∧
          v.store.frames = s.store.frames ∧ v.store.pools = s.store.pools) ∧
      (s.checkToken t = none → s.matchRow f sl crit = .operand →
        ∃ v, exec (.ftok t) s = .next v ∧ kept v ∧ v.store.frames = s.store.frames ∧ v.store.pools = s.store.pools ∧
          (∀ j, j ≠ gk → v.group j = s.group j) ∧
          (g.join + 1 ≠ g.arity → v.group gk = { g with join := g.join + 1 } ∧ ∀ q, v.firedQ q = s.firedQ q) ∧
          (g.join + 1 = g.arity → v.group gk = { g with join := g.join + 1, gst := .held } ∧
            ∃ a, v.firedQ (2 * sc + (if g.wgrp = 0 then 0 else 1)) = s.firedQ (2 * sc + (if g.wgrp = 0 then 0 else 1)) ++ [a] ∧
              a.tenant = g.owner ∧ a.entry = g.entry ∧ a.wgrp = g.wgrp ∧ a.flow = Tag.flow t.tag ∧
              (Tag.flow t.tag ≠ 0 → (v.notices sc).length = (s.notices sc).length + 1)))

/-- Slots and frames go back (R97 to R99, R101): END's release clears the operand slots and re-arms the group, or releases a
frame whose entries are all DONE; a FREE by the owner or tenant 0 releases the frame, whose GEN rises; a stale one counts and
a foreign one is logged; the number leaves its quarantine for its pool's free list. -/
def Obligations.SlotsAndFramesGoBack : Prop :=
  ∀ (s : State) (h : Triple) (q : FreePkt) (f : Nat),
    let fr := Tag.frame h
    let gr := Tag.slot h / 16
    let k := s.groupKey fr gr
    let alive := (s.frame fr).alloc = true ∧ (s.frame fr).gen.toNat = Tag.gen h
    let gone := fun (t : State) (n : Nat) => t.frame n =
      { s.frame n with alloc := false, gen := (s.frame n).gen + 1, quar := decide ((s.frame n).gen + 1 = 0), init := false }
    (¬ alive → exec (.slotRelease h) s = .next (s.take (.slotRelease h))) ∧
    (alive → (s.group k).oneshot = false → ∃ t, exec (.slotRelease h) s = .next t ∧
      t.group k = { s.group k with join := 0, gst := .waiting } ∧ t.store.frames = s.store.frames ∧
      (∀ n, n < 16 → (s.group k).opmask.getLsbD n = true → (t.slot (s.slotKey fr (16 * gr + n))).pres = false)) ∧
    (alive → (s.group k).oneshot = true →
      (∀ j ∈ s.groupKeys fr, j ≠ k → (s.group j).arity = 0 ∨ (s.group j).gst = .done) →
      ∃ t, exec (.slotRelease h) s = .next t ∧ gone t fr ∧ (t.group k).gst = .done) ∧
    (let fq := Tag.frame q.handle
     let sc := s.sliceOf fq
     let node := nodeSlice sc
     let u := Claims.carried s (.free q) q.node node (mkHeader 2 3 node q.node 0 q.tenant 0 s.deviceNo) false
     Tag.device q.handle = s.deviceNo → s.nodeState node = 0 ∨ s.nodeState node = 2 →
      ((s.frame fq).alloc = false ∨ (s.frame fq).gen.toNat ≠ Tag.gen q.handle →
        exec (.freePacket q) s = .next (u.bump (Reg.sliceStat sc 0))) ∧
      ((s.frame fq).alloc = true → (s.frame fq).gen.toNat = Tag.gen q.handle →
        (q.tenant = 0 ∨ q.tenant = (s.groupOf fq 0).owner → ∃ t, exec (.freePacket q) s = .next t ∧ gone t fq ∧
          ∀ n, n ≠ fq → t.frame n = s.frame n) ∧
        (q.tenant ≠ 0 → q.tenant ≠ (s.groupOf fq 0).owner → exec (.freePacket q) s =
          .next ((u.bump (Reg.sliceStat sc 4)).log 0x04 node q.master 0 (some q.handle))))) ∧
    ((s.frame f).quar = true → Map.get (fun _ => 0) s.store.quarEnd f ≤ s.elapsed →
      ∃ t, exec (.genQuarantineEnd f) s = .next t ∧ t.frame f = { s.frame f with quar := false } ∧
        (t.pool (256 * s.sliceOf f + (s.frame f).pool)).free = (s.pool (256 * s.sliceOf f + (s.frame f).pool)).free ++ [f])

/-- Allocation (R102 to R105): the request of a template takes the head of the first usable pool's free list and answers its
handle, or answers none; an ALLOCW that finds none parks; the answer reaches the strand's registers and its record; a release
reruns the oldest parked request of its key, whose task becomes READY with the handle.
Model's readings, no rules of the spec: the zero head of HOME (log 7). -/
def Obligations.AllocationAnswers : Prop :=
  ∀ (s : State) (q : AllocReq) (c : CtxId) (rid : Nat) (h : Triple) (ok : Bool), ctxPresent s.member q.c = true →
    ctxPresent s.member c = true →
    let m := s.take (.allocReq q)
    let terr := clusterOf s.member q.c.pav
    (s.templateIn q.tenant q.tmpl q.epoch = none →
      exec (.allocRequest q) s = .next (m.send (.allocReply q.c q.rid 0 false))) ∧
    (∀ tm, s.templateIn q.tenant q.tmpl q.epoch = some tm →
      let sl := s.allocStart q.c.pav tm
      let u := m.passes q.c.pav (nodeSlice sl)
        (mkHeader 0 0x14 (nodeSlice sl) q.c.pav (slotOf q.c) q.tenant q.rid s.deviceNo) false
      let r := u.allocRun q.tenant (u.bankOf q.tenant q.epoch) terr tm
      (∀ g, r.1 = some g → exec (.allocRequest q) s = .next (r.2.send (.allocReply q.c q.rid g true))) ∧
      (r.1 = none → q.wait = false → exec (.allocRequest q) s = .next (r.2.send (.allocReply q.c q.rid 0 false))) ∧
      (r.1 = none → q.wait = true → exec (.allocRequest q) s = .next (r.2.parkRequest q tm))) ∧
    (∀ (w : State) (tm : Template) (owner bank n f : Nat) (rest : List Nat), terr < 16 → tm.win = 0 →
      let sc := 4 * terr + w.home terr
      w.domainOn (nodeSlice sc) = true → w.usablePool sc bank tm.granules.length false 256 = some n →
      (w.pool (256 * sc + n)).free = f :: rest → 0 < sliceCount w.member →
      ∃ v, w.allocRun owner bank terr tm = (some (Tag.mk w.deviceNo f (w.frame f).gen.toNat 0 0 0 0), v) ∧
        (v.frame f).alloc = true ∧ (v.pool (256 * sc + n)).free = rest ∧ v.home terr = (w.home terr + 1) % 4) ∧
    (s.awaitsAlloc c rid = true → ∃ t w, exec (.allocReply c rid h ok) s = .next t ∧
      (s.ctx c).waits.find? (fun w => decide (w.rid = rid)) = some w ∧ (t.ctx c).waits = (s.ctx c).waits.erase w ∧
      Fl.t (t.ctx c).fl = ok ∧ (t.ctx c).allocs = (if ok then (s.ctx c).allocs ++ [h] else (s.ctx c).allocs) ∧
      t.store = s.store) ∧
    (s.awaitsAlloc c rid = false → s.outstOf c.pav rid = none → exec (.allocReply c rid h true) s =
      .next (((s.take (.allocReply c rid h true)).bumpCluster c.pav 6).send
        (.free ⟨h, (s.groupOf (Tag.frame h) 0).owner, 0, c.pav, true⟩))) ∧
    (s.store.rerun = [] → exec .allocwRerun s = .next s) ∧
    (∀ n rest a tm g v, s.store.rerun = n :: rest →
      let s1 := { s with store := { s.store with rerun := rest } }
      s.store.waits.find? (fun a => if n.byWin then decide (a.win = n.win) else decide (a.tenant = n.tenant ∧ a.size = n.size)) = some a →
      s1.templateIn a.tenant a.tmpl (s.task a.task).epoch = some tm → s1.rerunAlloc a tm n.slice = (some g, v) →
      ∃ t, exec .allocwRerun s = .next t ∧ (t.task a.task).st = .ready ∧ ∃ d, (t.task a.task).result = some (d, 2, g))

/-! ### The hub -/

/-- The hub's traffic (R95, R119, R121, R126, R127, R134, R135, R138): a fire notice joins its flow's order, a hand-over takes
the oldest activation of a fired queue, a decision is SELECT, a queued entry takes a context, a recall returns the flow's
head, a landing reply or its timeout takes one token off the pacer.
Model's readings, no rules of the spec: hand-overs wait for notices, recalls for room (log 35, 36). -/
def Obligations.HubTraffic : Prop :=
  ∀ (s : State) (sl r p f : Nat), unitPresent s.member .slices sl = true → unitPresent s.member .ports r = true →
    unitPresent s.member .pavs p = true →
    (∀ n rest, s.notices sl = n :: rest → (s.flow n.act.flow).owner = n.act.tenant → s.frameGone n.act.handle = false →
      ∃ t, exec (.fireNotice sl) s = .next t ∧ t.notices sl = rest ∧
        (t.flow n.act.flow).order = (s.flow n.act.flow).order ++ [actId n.act.handle] ∧
        t.flight = s.flight ++ (if n.reply then [.land sl n.node n.unit n.act.flow] else [])) ∧
    (∀ n rest, s.notices sl = n :: rest → (s.flow n.act.flow).owner ≠ n.act.tenant →
      ∃ t, exec (.fireNotice sl) s = .next t ∧ t.notices sl = rest ∧ (∀ k, t.flow k = s.flow k)) ∧
    (∀ a rest key, s.notices sl = [] → key = 2 * sl ∨ (key = 2 * sl + 1 ∧ s.firedQ (2 * sl) = []) → s.firedQ key = a :: rest →
      s.creditUsed key < (if key = 2 * sl then 24 else 96) → a.flow = 0 →
      ∃ t, exec (.handOver sl) s = .next t ∧ t.firedQ key = rest ∧ t.creditUsed key = s.creditUsed key + 1 ∧
        t.rl (portOfSlice s.member sl) a.wgrp = s.rl (portOfSlice s.member sl) a.wgrp ++ [entryOfAct a (some key) false s.elapsed] ∧
        (t.group (s.groupKey (Tag.frame a.handle) (Tag.slot a.handle / 16))).gst = .handed) ∧
    (∀ a rest key, s.notices sl = [] → key = 2 * sl ∨ (key = 2 * sl + 1 ∧ s.firedQ (2 * sl) = []) → s.firedQ key = a :: rest →
      s.creditUsed key < (if key = 2 * sl then 24 else 96) → a.flow ≠ 0 →
      (s.flow a.flow).order.head? ≠ some (actId a.handle) ∨ (s.flow a.flow).busy = true →
      ∃ t, exec (.handOver sl) s = .next t ∧ t.firedQ key = rest ∧ t.creditUsed key = s.creditUsed key ∧
        (t.flow a.flow).parked = (s.flow a.flow).parked ++ [a]) ∧
    exec (.dispatchDecision r) s = .next (s.select r) ∧
    (∀ e rest c q, s.pq p = e :: rest → s.freeCtx p e.act.wgrp ≠ 0 → s.pavInService p = true → s.domainOn p = true →
      s.tenantStopped e.act.tenant = false → s.pair.fenced = false → s.pickPipe p e.act.wgrp = some q → s.pickCtx p q = some c →
      c < 4 → q < 4 → ∃ t, exec (.pavilionQueueBind p) s = .next t ∧ t.pq p = rest ∧
        let x := t.ctx ⟨p, q, c⟩
        x.state = (if e.isTask then .restoring else .preload) ∧ x.handle = e.act.handle ∧ x.tenant = e.act.tenant ∧
        x.entry = e.act.entry ∧ x.task = e.task ∧ x.waits = [] ∧ x.staged = [] ∧
        (e.isTask = true → (t.task e.task).st = .running ∧ (t.task e.task).lastpav = p) ∧
        (e.isTask = false → e.act.flow ≠ 0 → (t.flow e.act.flow).lastpav = p ∧
          (actId e.act.handle ∈ (s.flow e.act.flow).order → (t.flow e.act.flow).busy = true))) ∧
    (∀ e, s.hub.recalls.find? (fun e => decide (e.1 = f)) = some e → s.frameGone e.2.handle = false →
      let port := portOfSlice s.member (s.sliceOf (Tag.frame e.2.handle))
      s.recalledAt port < 32 → ∃ t, exec (.recallAnswer f) s = .next t ∧ t.hub.recalls = s.hub.recalls.erase e ∧
        t.rl port e.2.wgrp = s.rl port e.2.wgrp ++ [entryOfAct e.2 none true s.elapsed]) ∧
    (∀ unit flow, s.nodeState p ≠ 1 → s.nodeState p ≠ 3 → nodePresent s.member p = true → p < 256 →
      let key := paceKey p unit flow
      let v := (s.take (.land sl p unit flow)).passes (nodeSlice sl) p (mkHeader 1 0x31 p (nodeSlice sl) unit 0 0 s.deviceNo) false
      ((s.paceOf key).owed = 0 ∨ s.sliceOf (s.paceOf key).frame ≠ sl → exec (.land sl p unit flow) s = .next (v.bumpCluster p 6)) ∧
      ((s.paceOf key).owed ≠ 0 → s.sliceOf (s.paceOf key).frame = sl → exec (.land sl p unit flow) s = .next (v.paceDone p unit flow)) ∧
      ((s.paceOf key).owed ≠ 0 → (s.paceOf key).due ≤ s.elapsed →
        exec (.paceTimeout p unit flow) s = .next (((s.bump (Reg.dispStat 3)).log 0x20 p (s.masterOf ⟨p, unit / 4, unit % 4⟩)
          (BitVec.ofNat 24 (flow % 32768)) (some (s.paceOf key).tag)).paceDone p unit flow)) ∧
      (s.held p unit = [] → 1 < (s.paceOf key).owed → ((s.paceDone p unit flow).paceOf key).owed = (s.paceOf key).owed - 1)) ∧
    (∀ e v g, 0 < g → g < 64 → s.wakeAfter ≠ 0 →
      (s.rl r g).find? (fun e => s.overdue e && (s.sleeper e.act.entry r).isSome) = some e → s.sleeper e.act.entry r = some v →
      exec (.wakeRequest r g) s = .next (((s.bump (Reg.port r 7)).traceEvent 6 g e.act.tenant (some v) 0 0 r
        (if e.isTask then 0 else e.act.flow % 32768 * 0x200)).askWake v))

/-- Tasks (R142, R145, R146, R148, R162, R177): SPRES reserves the lowest free number; its release makes the task READY; an SEV
sets the flags that its sender may set and wakes a waiting task; WAITT's target wakes its task; a warden sets flags or ends a
task; a hung flow is reported once.
Model's readings, no rules of the spec: the KILL of a RESERVED task (log 34). -/
def Obligations.TaskEvents : Prop :=
  ∀ (s : State) (n : Nat) (fl : Word) (q : Req) (v : Word),
    let k := s.task n
    let awake := k.st ≠ .free ∧ k.st ≠ .reserved
    (awake → ∃ t, exec (.sevArrival n fl .device) s = .next t ∧
      let hit := (k.evf ||| fl) &&& k.evm
      (k.st ≠ .waitEv ∨ hit = 0 → t.task n = { k with evf := k.evf ||| fl }) ∧
      (k.st = .waitEv → hit ≠ 0 → (t.task n).st = .ready ∧ (t.task n).evf = (k.evf ||| fl) &&& ~~~hit)) ∧
    (k.st = .free ∨ k.st = .reserved →
      exec (.sevArrival n fl .device) s = .next ((s.take (.sev n fl .device)).bump (Reg.dispStat 1))) ∧
    (∀ tenant m node, tenant ≠ 0 → k.owner ≠ tenant → fl ≠ 0 → ((s.take (.sev n fl (.master tenant m node))).sevPasses
        (.master tenant m node)).bindFlags 0 tenant n 1024 = 0 →
      ∃ t, exec (.sevArrival n fl (.master tenant m node)) s = .next t ∧ t.task n = k) ∧
    (∀ (r : SpawnReq), ctxPresent s.member r.c = true →
      let rsp : Rsp := ⟨r.c.pav, slotOf r.c, r.rid, nodeHub, 0, false, 0⟩
      (∀ j, s.spawnPick r.tenant r.wgrp 4096 = some j → ∃ t, exec (.spres r) s = .next t ∧ (t.task j).st = .reserved ∧
        .rdata rsp [BitVec.ofNat 24 j, 1] ∈ t.flight ∧ ∀ i, i ≠ j → t.task i = s.task i) ∧
      (s.spawnPick r.tenant r.wgrp 4096 = none → ∃ t, exec (.spres r) s = .next t ∧ .rdata rsp [0, 0] ∈ t.flight ∧
        t.hub.tasks = s.hub.tasks)) ∧
    (∀ entry g c tenant arg, k.st = .reserved → ∃ t, exec (.spawnRelease n entry g c tenant arg) s = .next t ∧
      (t.task n).st = .ready ∧ (t.task n).evf = 0 ∧ (t.task n).evm = 0 ∧ (t.task n).arg = arg ∧ (t.task n).entry = entry ∧
      (t.task n).saved = false ∧ (t.task n).lastpav = c.pav) ∧
    (k.st = .waitTime → k.target ≤ s.time → ∃ t, exec (.waittTargetReached n) s = .next t ∧ (t.task n).st = .ready ∧
      (t.task n).target = 0) ∧
    (k.st = .waitTime → s.time < k.target → exec (.waittTargetReached n) s = .next s) ∧
    (let a := 0x018000 + 4 * n
     let ws := s.written q.master a 4 v
     let u := Claims.arrived s q (.regwr (a + 4 - 1) v)
     Claims.reaches s q → u.mayWarden q (a + 4 - 1) = true →
      ((wrote ws 3).bit 1 = true → exec (.taskKill q n v) s = .next (((u.taskWrite n ws).setWbuf q.master a []).answer q 0)) ∧
      (wrote ws 1 ≠ 0 → exec (.evfWrite q n v) s = .next (((u.taskWrite n ws).setWbuf q.master a []).answer q 0))) ∧
    (k.st = .waitEv → s.ctxOfTask n = none → ((s.killTask n).task n).st = .free) ∧
    (let x := s.flow n
     (s.reg 0x00C012).toNat ≠ 0 → x.busy = true → x.hangReported = false → s.flowWaits n = true →
      x.busySince + usTicks (s.reg 0x00C012).toNat < s.elapsed →
      ∃ t, exec (.flowhang n) s = .next t ∧ t.flow n = { x with hangReported := true } ∧
        .evlog ⟨0x23, nodeHub, 0, BitVec.ofNat 24 (n * 512 + x.owner % 512), s.time,
          some (Triple.ofWords (BitVec.ofNat 24 x.lastpav) 0 0)⟩ ∈ t.flight) ∧
    (n ≠ 0 → n ≤ 511 → s.domain n = n → s.regBit 0x00C010 23 = true →
      (s.deadlocked n = false ∨ n ∈ s.hub.active → ∃ t, exec (.domainVisit n) s = .next t ∧ n ∉ t.hub.active ∧
        Map.get (fun _ => 0) t.hub.qstart n = s.elapsed) ∧
      (s.deadlocked n = true → n ∉ s.hub.active → Map.get (fun _ => 0) s.hub.qstart n + s.quietTicks ≤ s.elapsed →
        s.regBit (Reg.dlkTen n 0) 22 = false → s.hub.reports.any (fun r => decide (r.domain = n)) = false →
        ∃ t, exec (.domainVisit n) s = .next (t.report n) ∧
          t = { s with hub := { s.hub with active := s.hub.active.filter (fun x => decide (x ≠ n)) } }))

/-! ### Port cells -/

/-- Port tokens and instants (R435, R436, R441 to R444, R449, R450, Table 14-3): a checked token waits at its bank; a commit enters
its cell's list by its instant, late or full events meet the policy; an arm and a disarm change the continuation; a commit acts
once its instant is reached; inputs, pulses and transfers count and capture; the head capture leaves as two tokens.
Model's readings, no rules of the spec: the bank's list between PTOK and the action (log 39, 40). -/
def Obligations.PortTokensAndInstants : Prop :=
  ∀ (s : State) (b c : Nat), unitPresent s.member .banks b = true → unitPresent s.member .cells c = true →
    let k := s.cell c
    let fn := s.cellFunc c
    let live := s.cellLive c = true
    (∀ t : Token, t.vc = 2 ∨ t.vc = 3 → s.nodeState (nodeBank b) = 0 ∨ s.nodeState (nodeBank b) = 2 →
      let u := Claims.carried s (.ptok t) t.node (nodeBank b)
        (mkHeader t.vc 2 (nodeBank b) t.node (if t.node < 256 then t.unit else 0) t.tenant 0 (Tag.device t.tag)) t.poison
      (u.checkPort b t = none → exec (.ptok b t) s = .next (u.setInbox b (s.inbox b ++ [t]))) ∧
      (∀ w, u.checkPort b t = some w → ∃ v, exec (.ptok b t) s = .next v ∧ v.ports = s.ports)) ∧
    (∀ t rest, s.inbox b = t :: rest →
      let m := portCell t.tag
      let u := s.setInbox b rest
      (portOp t.tag = 0 → exec (.portCommit b) s = .next (u.commitEntry m t.tag t.value)) ∧
      (portOp t.tag = 1 → exec (.portArm b) s = .next (u.setCell m { s.cell m with cont := some t.value })) ∧
      (portOp t.tag = 2 → ∃ v, exec (.portDisarm b) s = .next v ∧ v.cell m = { s.cell m with cont := none } ∧ v.inbox b = rest)) ∧
    (∀ e rest, k.commits = e :: rest → s.reached e.g = true → s.cellState c = 1 → s.cellExpect c = 0 → fn = 2 →
      exec (.commitAct c) s = .next (s.setCell c { k with commits := rest, out := (e.v.word 0).field 0 2, safeOut := false })) ∧
    (∀ e rest, k.commits = e :: rest → s.reached e.g = true →
      exec (.commitAct c) s = .next ((s.setCell c { k with commits := rest }).actCommit c e)) ∧
    (∀ e rest, k.commits = e :: rest → s.reached e.g = false → exec (.commitAct c) s = .next s) ∧
    (∀ d, k.deadline = some d → d ≤ s.elapsed → k.commits = [] → live →
      exec (.expectDeadline c) s = .next (((s.setCell c { k with deadline := some (d + nsTicks (s.cellExpect c)) }).bump
        (Reg.cell c 11)).lateEvent c 3)) ∧
    (∀ g, s.schedInstant c = some g → live → k.sched ≠ some g → fn = 3 → exec (.scheduleInstant c) s =
      .next ((s.setCell c { k with sched := some g }).capture c 0 (k.count.zeroExtend 72) g)) ∧
    (∀ g, s.schedInstant c = some g → live → k.sched ≠ some g → fn = 6 → exec (.scheduleInstant c) s =
      .next ((s.setCell c { k with sched := some g }).startSsi c g)) ∧
    (∀ g, s.schedInstant c = some g → live → k.sched ≠ some g → fn = 5 → exec (.scheduleInstant c) s =
      .next ((s.setCell c { k with sched := some g }).pwmStart c g)) ∧
    (∀ level, s.pin c ≠ level → live → s.vioOk (cellBank c) = true →
      s.edgeCounts c (level ^^ s.regBit (Reg.cell c 0) 11) = true → fn = 1 → exec (.inputEdge c level) s =
        .next ((s.setPin c level).capture c 0 (BitVec.ofNat 72 (if (level ^^ s.regBit (Reg.cell c 0) 11) = true then 3 else 0))
          (gridOf s.time))) ∧
    (∀ x y, s.quadCounts c = true → (x ≠ s.pin c ∧ y = s.pin (c + 1)) ∨ (x = s.pin c ∧ y ≠ s.pin (c + 1)) → k.lastTrans = none →
      ∃ t, exec (.quadTransition c x y) s = .next t ∧ t.pin c = x ∧ t.pin (c + 1) = y ∧ (t.cell c).lastTrans = some s.elapsed ∧
        ((t.cell c).count = k.count + 1 ∨ (t.cell c).count = k.count - 1)) ∧
    (∀ u, k.burst = some u → live → s.reached (u.start + u.done * u.sp) = true →
      exec (.pulseEdge c) s = .next (s.setCell c { k with
        count := if u.up then k.count + 1 else k.count - 1
        burst := if u.left ≤ 1 then none else some { u with left := u.left - 1, done := u.done + 1 } })) ∧
    (∀ x rest d, k.xfers = x :: rest → fn = 6 → s.reached (x.g + s.ssiSpan c) = true → s.regBit (Reg.cell c 0) 11 = false →
      s.regBit (Reg.cell c 6) 6 = false → exec (.ssiTransferDone c d) s = .next ((s.setCell c { k with xfers := rest }).capture c
        (s.bitsType c) (BitVec.ofNat 72 (d % 2 ^ s.cellBits c)) x.g)) ∧
    (∀ x rest d, k.xfers = x :: rest → fn = 8 → s.reached (x.g + s.spiSpan c) = true →
      exec (.spiTransferDone c d) s = .next ((s.setCell c { k with xfers := rest }).capture c
        (s.bitsType c) (BitVec.ofNat 72 (d % 2 ^ min 48 (s.cellBits c))) x.g)) ∧
    (∀ ch fe pe g, fn = 7 → s.deHigh c = false → s.vioOk (cellBank c) = true → exec (.uartRxCharacter c ch fe pe g) s =
      .next (s.capture c 0 (BitVec.ofNat 72 (ch % 2 ^ min 9 (s.cellBits c) + fe.toNat * 512
        + (pe && decide (s.regField (Reg.cell c 6) 4 2 ≠ 0)).toNat * 1024)) g)) ∧
    (live → s.pairShadow = false → s.pairLead = false → k.switchAt = none → k.captures.length < 8 → ∀ ty v g,
      ((s.capture c ty v g).cell c).captures = k.captures ++ [⟨ty, v, gridTime g⟩]) ∧
    (∀ t e rest, k.cont = some t → k.captures = e :: rest → (s.captureTokens c t e).length = 2 ∧
      ((s.captureTokens c t e).any (fun p => s.mustWait (nodeBank (cellBank c)) (c % 32) p) = true →
        exec (.captureInject c) s = .next s) ∧
      ((s.captureTokens c t e).any (fun p => s.mustWait (nodeBank (cellBank c)) (c % 32) p) = false →
        ∃ v, exec (.captureInject c) s = .next v ∧ (v.cell c).captures = rest ∧
          (v.cell c).cont = (if s.regBit (Reg.cell c 0) 12 then some t else none))) ∧
    (∀ (tag v : Triple), s.cellState c = 1 → k.commits.length < 8 →
      let now := s.time.toNat
      portCtime tag = (now + 2 ^ 33) % 2 ^ 36 → (∀ e ∈ k.commits, e.g ≠ gridOf (BitVec.ofNat 72 (now + 2 ^ 33))) → now < 2 ^ 71 →
      (((s.commitEntry c tag v).cell c).commits = insertCommit ⟨gridOf (BitVec.ofNat 72 (now + 2 ^ 33)), v⟩ k.commits))

/-- The port window and the banks (R439, R446, R453, R456, R458, R459): RESUME returns a SAFE cell to RUN, FLUSH empties its
captures, POP takes the head capture, RECOVER ends SAFE and FAULTED; CALGO calibrates; VIO's loss and return; a cell whose
function changed runs with its next configuration.
Model's readings, no rules of the spec: free skews of a calibration (log 41). -/
def Obligations.PortWindowAndBanks : Prop :=
  ∀ (s : State) (q : Req) (b c : Nat) (v : Word), unitPresent s.member .banks b = true → unitPresent s.member .cells c = true →
    let k := s.cell c
    (Claims.reaches s q → c < 1024 →
      let a := 16 * c + 1
      let u := Claims.arrived s q (.wrw a [0x800000])
      let w := Claims.arrived s q (.wrw a [0x400000])
      let p := Claims.arrived s q (.rdw (16 * c + 4) 1)
      (u.cellMay c q.tenant = true → u.cellState c = 3 → exec (.cellResume q c) s = .next ((u.cellRuns c).answer q 0) ∧
        (u.cellRuns c).cellState c = 1) ∧
      (u.cellMay c q.tenant = true → u.cellState c = 4 → exec (.cellResume q c) s = .next (u.refuse q (.wrw a [0x800000]) 2)) ∧
      (w.cellMay c q.tenant = true → exec (.cellFlush q c) s = .next ((w.dropCaptures c).answer q 0) ∧
        ((w.dropCaptures c).cell c).captures = []) ∧
      (p.cellMay c q.tenant = true → k.captures = [] → exec (.cellPop q c) s = .next (p.answerData q [0])) ∧
      (∀ e rest, p.cellMay c q.tenant = true → k.captures = e :: rest → ∃ t, exec (.cellPop q c) s = .next t ∧
        (t.cell c).captures = rest ∧ t.poppedOf c q.master = e ∧
        .rdata (rspOf q 0) [BitVec.ofNat 24 (0x800000 + e.ty % 8 * 0x100000)] ∈ t.flight)) ∧
    (let ws := s.written q.master (Reg.cell c 0) 32 v
     let u := Claims.arrived s q (.regwr (Reg.cell c 0 + 32 - 1) v)
     let w := u.putWords (Reg.cell c 0) ws
     Claims.reaches s q → u.mayWarden q (Reg.cell c 0 + 32 - 1) = true → (wrote ws 8).bit 10 = true →
      w.cellState c = 3 ∨ w.cellState c = 4 →
      exec (.cellRecover q c v) s = .next (((w.cellRuns c).setWbuf q.master (Reg.cell c 0) []).answer q 0)) ∧
    (let u := Claims.arrived s q (.regwr (Reg.bank b 0) v)
     Claims.reaches s q → u.mayWarden q (Reg.bank b 0) = true → v.bit 21 = true →
      exec (.calgo q b v) s = .next ((u.calStart b).answer q 0) ∧
        Map.get (fun _ => true) (u.calStart b).ports.caling b = true) ∧
    (Map.get (fun _ => true) s.ports.caling b = true → ∃ t, exec (.calibrationDone b) s = .next t ∧
      Map.get (fun _ => true) t.ports.caling b = false ∧ t.free = s.free + 32 ∧ t.memory = s.memory) ∧
    (s.vioOk b = true → exec (.vioLoss b) s = .next ((((s.setRegField (Reg.bank b 0) 22 1 0).bump (Reg.bank b 1)).log 0x41
      (nodeBank b) 0 (BitVec.ofNat 24 b) none).bankLosesVio b)) ∧
    (s.vioOk b = false → ∃ t, exec (.vioReturn b) s = .next t ∧ t.vioOk b = true ∧ t.flight = s.flight ∧
      (∀ j, 32 * b ≤ j → j < 32 * b + 32 → (t.cell j).lastEdge = none ∧ (t.cell j).lastTrans = none ∧
        (t.cell j).captures = (s.cell j).captures)) ∧
    (s.vioOk b = false → exec (.vioLoss b) s = .next s) ∧
    (s.cellState c = 5 → ∃ t, exec (.reprogrammingEnd c) s = .next t ∧ t.cellState c = 1 ∧ (t.cell c).commits = [] ∧
      (t.cell c).out = 0 ∧ (t.cell c).safeOut = true ∧ (t.cell c).captures = k.captures ∧
      ∀ n, n < 6 → t.reg (Reg.cell c n) = s.reg (Reg.cell c (16 + n)))

/-! ### Device time -/

/-- Device time (R402, R404 to R407, R412, R413, R419): TICK advances TIME and ELAPSED by NOM + FADJ in units of 2⁻⁶⁴ s
after the steps asked; samples, a timed-out source and a spent holdover limit move the discipline; the seconds keeper
counts alone while the core is off.
Model's readings, no rules of the spec: roundings, and steps at the next TICK (log 43). -/
def Obligations.DeviceTime : Prop :=
  ∀ (s : State) (q : Req) (v : Word) (i : Nat),
    let step := (18446744074 + (s.reg 0x00400B).toInt).toNat
    let count := fun (t : Triple) (e : BitVec 32) => t.toNat * 2 ^ 32 + e.toNat
    let src := 0x004020 + 4 * i
    (s.power.core = true → s.keeper.steps = [] → ∃ t, exec .tick s = .next t ∧
      (count s.clock.time s.clock.timeExt + step < 2 ^ 104 →
        count t.clock.time t.clock.timeExt = count s.clock.time s.clock.timeExt + step) ∧
      (count s.clock.elapsed s.clock.elapsedExt + step < 2 ^ 104 →
        count t.clock.elapsed t.clock.elapsedExt = count s.clock.elapsed s.clock.elapsedExt + step) ∧
      t.flight = s.flight ∧ t.memory = s.memory ∧ t.ports = s.ports ∧ t.hub = s.hub) ∧
    (∀ a : Int, s.power.core = true → s.keeper.steps = [a] → 0 ≤ s.clock.time.toNat + a → s.clock.time.toNat + a + 8 < 2 ^ 72 →
      ∃ t, exec .tick s = .next t ∧ t.keeper.steps = [] ∧ t.keeper.stepAt = some s.elapsed ∧
        ((s.clock.time.toNat : Int) + a ≤ t.clock.time.toNat ∧ (t.clock.time.toNat : Int) ≤ s.clock.time.toNat + a + 7) ∧
        .evlog ⟨0x4A, nodeTime, 0, 0, BitVec.ofInt 72 (s.clock.time.toNat + a), some (BitVec.ofInt 72 a)⟩ ∈ t.flight) ∧
    (s.power.core = true → s.regBit 0x004030 23 = false → ∃ θ : Int, exec .ppsEdge s = .next (s.sample 2 θ) ∧
      (s.reg (0x004020 + 8 + 2) = 0 → 0 ≤ θ → θ * 2 ^ 32 ≤ (s.clock.time.toNat % 2 ^ 32 : Nat) * 1000000000)) ∧
    (s.power.core = true → s.regBit 0x004030 23 = true → ∃ θ : Int, exec .ppsEdge s = .next ((s.setRegField 0x004030 23 1 0).sample 2 θ)) ∧
    (Claims.reaches s q → (Claims.arrived s q (.regwr 0x004023 v)).mayWarden q 0x004023 = true →
      exec (.ptpOffset q v) s = .next (((Claims.arrived s q (.regwr 0x004023 v)).sample 0 v.toInt).answer q 0)) ∧
    (Claims.reaches s q → (Claims.arrived s q (.regwr 0x00400A v)).mayWarden q 0x00400A = true →
      let u := Claims.arrived s q (.regwr 0x00400A v)
      (u.stepEn = true → ∃ (t : State) (a : Triple), exec (.timeStep q v) s = .next t ∧ a.word 2 = v ∧
        t.keeper.steps = s.keeper.steps ++ [a.toInt] ∧ t.clock = s.clock) ∧
      (u.stepEn = false → ∃ t, exec (.timeStep q v) s = .next t ∧ t.keeper = s.keeper ∧ t.clock = s.clock)) ∧
    (i < 3 → s.regBit 0x004001 i = true → s.srcLast i + msTicks (s.reg (src + 1)).toNat < s.elapsed →
      ∃ t, exec (.sourceTimeout i) s = .next t ∧ t.regBit 0x004001 i = false ∧ t.clock = s.clock) ∧
    (s.tkState = 3 → s.reg 0x004011 < s.reg 0x004012 → ∃ t, exec .holdLimitExceeded s = .next t ∧ t.tkState = 0 ∧
      .evlog ⟨0x48, nodeTime, 0, 0, s.time, none⟩ ∈ t.flight) ∧
    (s.power.core = false → s.regBit 0x004040 23 = true → ∃ t, exec .secondsKeeperSecond s = .next t ∧
      t.secs = (s.secs + 1) % 2 ^ 40 ∧ t.clock = s.clock ∧ t.flight = s.flight) ∧
    (s.power.core = false → exec .tick s = .next s) ∧ (s.power.core = true → exec .secondsKeeperSecond s = .next s)

/-! ### The Trellis -/

/-- Damage, holds and timeouts (R345, R346, R350, R354, R358, R359): a resend is counted, a fourth failure poisons a data unit; HOLD
restarts a requester's timer once; a timed-out request ends with STATUS 7 and record 0x17; isolation answers what is parked.
Model's readings, no rules of the spec: outcomes of a hop as operands (log 12). -/
def Obligations.TrellisTrouble : Prop :=
  ∀ (s : State) (cl port idx unit node rid : Nat) (p : Rsp) (q : Req) (v : Word),
    (∀ k dest h units, unitPresent s.member .clusters cl = true → s.flight[idx]? = some k → s.wire k = some (dest, h, units) →
      unit ≤ units →
      exec (.hopResend cl port 1 idx unit) s = .next ((s.bump (Reg.cluster cl 1)).clusterSees cl port h true false) ∧
      exec (.hopResend cl port 2 idx unit) s = .next (s.bump (Reg.cluster cl 1)) ∧
      exec (.hopResend cl port 3 idx unit) s = .next (s.bump (Reg.cluster cl 1)) ∧
      (0 < unit → ∀ k', k.poisoned unit = some k' → ∃ t, exec (.hopResend cl port 4 idx unit) s = .next t ∧
        t.flight[idx]? = some k' ∧ t.free = s.free + 1 ∧ t.reg (Reg.cluster cl 2) = satInc (s.reg (Reg.cluster cl 2)))) ∧
    (∀ o, nodePresent s.member node = true → s.outstOf node rid = some o → o.who = .dropped → o.op.wantsData = false →
      (s.elapsed < o.since + usTicks (o.limit + o.held.getD 0) → exec (.requestTimeout node rid) s = .next s) ∧
      (o.since + usTicks (o.limit + o.held.getD 0) ≤ s.elapsed →
        exec (.requestTimeout node rid) s = .next (((s.dropOutst node rid).bumpCluster node 5).log 0x17 node o.q.master o.addr
          (some (s.reqHeader o.q o.op))))) ∧
    (∀ o, nodePresent s.member p.node = true → s.nodeState p.node ≠ 1 → s.nodeState p.node ≠ 3 → s.outstOf p.node p.rid = some o →
      let u := (s.take (.hold p)).passes p.src p.node (s.rspHeader p 0x32) false
      (o.held.isSome = true → exec (.holdRsp p) s = .next u) ∧
      (o.held = none → ∃ t, exec (.holdRsp p) s = .next t ∧ t.flight = u.flight ∧ t.regs = u.regs ∧
        ∃ o', t.outstOf p.node p.rid = some o' ∧ o'.since = s.elapsed ∧ o'.limit = o.limit ∧ o'.held.isSome = true ∧ o'.who = o.who ∧ o'.op = o.op)) ∧
    (nodePresent s.member p.node = true → s.nodeState p.node ≠ 1 → s.nodeState p.node ≠ 3 → s.outstOf p.node p.rid = none →
      exec (.holdRsp p) s = .next (((s.take (.hold p)).passes p.src p.node (s.rspHeader p 0x32) false).bumpCluster p.node 6)) ∧
    (let a := Reg.node node
     let u := Claims.arrived s q (.regwr a v)
     Claims.reaches s q → u.mayWarden q a = true → node < 1024 → nodePresent s.member node = true →
      (v.bit 21 = true → u.nodeState node ≠ 3 → ∃ t, exec (.nodeIso q node v) s = .next t ∧ t.nodeState node = 3 ∧
        t.net.parked = u.net.parked.filter (fun k => decide (k.q.dest ≠ node))) ∧
      (v.bit 21 = false → u.nodeState node ≠ 3 → exec (.nodeIso q node v) s = .next (u.answer q 0)) ∧
      (v.bit 21 = false → u.nodeState node = 3 → node ∉ u.power.beenOff →
        exec (.nodeIso q node v) s = .next ((u.log 0x33 node 0 (BitVec.ofNat 24 node) none).answer q 0)))

/-- Responses (R341, R351, R356): a response frees its request; a strand's load writes its registers, a store's error waits for
the next boundary; one that nothing awaits is absorbed and counted. -/
def Obligations.ResponsesReachTheirStrand : Prop :=
  ∀ (s : State) (p : Rsp) (ws : List Word), nodePresent s.member p.node = true → s.nodeState p.node ≠ 1 → s.nodeState p.node ≠ 3 →
    p.poison = 0 → p.dup = false →
    let came := fun (k : Packet) (cmd : Nat) => (s.take k).passes p.src p.node (s.rspHeader p cmd) false
    (s.outstOf p.node p.rid = none →
      exec (.rsp p) s = .next ((came (.rsp p) 0x28).bumpCluster p.node 6) ∧
      exec (.rdata p ws) s = .next ((came (.rdata p ws) 0x29).bumpCluster p.node 6) ∧
      exec (.rrsp p ws) s = .next ((came (.rrsp p ws) 0x3E).bumpCluster p.node 6)) ∧
    (∀ o c, s.outstOf p.node p.rid = some o → o.who = .strand c → o.q.rid = p.rid → s.pairLead = false →
      let x := s.ctx c
      let rest := fun (t : State) => t.net.outst = s.net.outst.filter (fun o => !decide (o.q.node = p.node ∧ o.q.rid = p.rid))
      (∀ w ds, x.waits.find? (fun w => decide (w.rid = p.rid)) = some w → w.kind = .load ds → w.micro = false → p.status < 2 →
        (∃ t, exec (.rdata p ws) s = .next t ∧ rest t ∧ (t.ctx c).waits = x.waits.erase w ∧
          (t.ctx c).ring = (x.applyAll ((ds.zip ws).map (fun e => .ring e.1 e.2))).ring ∧ (t.ctx c).lateErr = x.lateErr) ∧
        (∃ t, exec (.rrsp p ws) s = .next t ∧ rest t ∧ (t.ctx c).waits = x.waits.erase w ∧
          (t.ctx c).ring = (x.applyAll ((ds.zip ws).map (fun e => .ring e.1 e.2))).ring)) ∧
      (∀ w, x.waits.find? (fun w => decide (w.rid = p.rid)) = some w → w.kind = .store → x.lateErr = none →
        (p.status < 2 → ∃ t, exec (.rsp p) s = .next t ∧ rest t ∧ (t.ctx c).waits = x.waits.erase w ∧ (t.ctx c).ring = x.ring ∧
          (t.ctx c).lateErr = none) ∧
        (2 ≤ p.status → ∃ t, exec (.rsp p) s = .next t ∧ rest t ∧ (t.ctx c).waits = x.waits.erase w ∧ (t.ctx c).ring = x.ring ∧
          (t.ctx c).lateErr = some (p.status, o.addr))) ∧
      (∀ w d, x.waits.find? (fun w => decide (w.rid = p.rid)) = some w → w.kind = .qget d → w.micro = false → p.status < 2 →
        ∃ t, exec (.rdata p ws) s = .next t ∧ Map.get (fun _ => 0) (t.ctx c).ring d = ws.headD 0 ∧
          Fl.t (t.ctx c).fl = decide ((ws[1]?).getD 0 ≠ 0)))

/-! ### Coherent state memory -/

/-- Requests at the home of a line (R314, R315, Table 10-3): from UNCACHED and SHARED lines RD, RDX, RDU and WRU answer at once or
ask the sharers, from an EXCLUSIVE line they ask its owner; a BUSY line queues them; a notice gives the line back and is
acknowledged.
Model's readings, no rules of the spec: races of the caches (log 71). -/
def Obligations.HomeRequests : Prop :=
  ∀ (s : State) (q : Req) (w : Nat) (v : Word), Claims.reaches s q →
    let l := w / 8
    let m := s.member
    q.dest = nodeSlice (s.homeOf l) → 8 * l < s.stateSize →
    let e := s.dirOf l
    let line := s.stLine l
    let became := fun (i : Instr) (st : DState) (p : Packet) => ∃ t, exec i s = .next t ∧ t.dirOf l = { e with st := st, busy := none } ∧
      p ∈ t.flight ∧ (∀ k, t.stWord k = s.stWord k) ∧ (∀ k, k ≠ l → t.dirOf k = s.dirOf k)
    let asks := fun (i : Instr) (op msg : ReqOp) (ps : List Nat) => ∃ t, exec i s = .next t ∧
      t.dirOf l = { e with busy := some ⟨q, op, ps, false, none⟩ } ∧
      (∀ p ∈ ps, ∃ rid, .req ⟨p, q.dest, 0, rid, 0, 0, 0⟩ msg ∈ t.flight) ∧ (∀ k, t.stWord k = s.stWord k)
    (∀ op i, (op = .rd l ∧ i = .rdLine q l .sound) ∨ (op = .rdx l ∧ i = .rdxLine q l .sound) ∨ (op = .rdu w ∧ i = .rduLine q w .sound)
        ∨ (op = .wru w v ∧ i = .wruLine q w v) → e.busy.isSome = true →
      ∃ t, exec i s = .next t ∧ t.dirOf l = { e with queue := e.queue ++ [(q, op)] }) ∧
    (e.busy = none →
      (e.st = .uncached → became (.rdLine q l .sound) (.exclusive q.node) (.fill .exclusive (rspOf q 0) line) ∧
        became (.rdxLine q l .sound) (.exclusive q.node) (.fill .modified (rspOf q 0) line) ∧
        ((s.stWord w).bad = false → became (.rduLine q w .sound) .uncached (.rdata (rspOf q 0) [(s.stWord w).v])) ∧
        (∃ t, exec (.wruLine q w v) s = .next t ∧ t.stWord w = ⟨v, false⟩ ∧ (∀ k, k ≠ w → t.stWord k = s.stWord k) ∧
          .rsp (rspOf q 0) ∈ t.flight)) ∧
      (∀ mask, e.st = .shared mask →
        became (.rdLine q l .sound) (.shared (mask ||| shareBit m q.node)) (.fill .shared (rspOf q 0) line) ∧
        ((s.stWord w).bad = false → became (.rduLine q w .sound) (.shared mask) (.rdata (rspOf q 0) [(s.stWord w).v])) ∧
        (let ps := (sharers m mask).filter (fun p => decide (p ≠ q.node))
         ps ≠ [] → asks (.rdxLine q l .sound) (.rdx l) (.inv l) ps)) ∧
      (∀ o, e.st = .exclusive o → asks (.rdLine q l .sound) (.rd l) (.fwdS l) [o] ∧
        asks (.rdxLine q l .sound) (.rdx l) (.fwdX l) [o] ∧ asks (.rduLine q w .sound) (.rdu w) (.fwdS l) [o] ∧
        asks (.wruLine q w v) (.wru w v) (.fwdX l) [o]) ∧
      (e.st = .exclusive q.node → became (.evcLine q l) .uncached (.wbAck (rspOf q 0) l) ∧
        ∀ ws : List SWord, ws.length = 8 → ∃ t, exec (.wbLine q l ws) s = .next t ∧ (t.dirOf l).st = .uncached ∧
          .wbAck (rspOf q 0) l ∈ t.flight ∧ t.stLine l = ws))

/-- Forwards, invalidations and answers (R311, R316, R317, Table 10-4): an owner answers a forward with the line and keeps it SHARED
or gives it up; an INV drops a SHARED line; the owner's data, GONE and the last ACK end the home's request; a fill enters its
set and ends the miss; WB_ACK frees the victim entry.
Model's readings, no rules of the spec: races of the caches (log 71, 72). -/
def Obligations.CacheMessages : Prop :=
  ∀ (s : State) (q : Req) (l : Nat) (p : Rsp) (ws : List SWord),
    let k := s.cache q.dest
    (nodePresent s.member q.dest = true → q.poison = 0 → s.nodeState q.dest = 0 ∨ s.nodeState q.dest = 2 →
      (∀ e, k.find l = some e → e.st ≠ .sh →
        (∃ t, exec (.fwdS q l .sound) s = .next t ∧ (t.cache q.dest).find l = some { e with st := .sh } ∧
          .fdata (rspOf q 0) l e.ws (decide (e.st = .mo)) ∈ t.flight) ∧
        (∃ t, exec (.fwdX q l .sound) s = .next t ∧ (t.cache q.dest).find l = none ∧
          .fdata (rspOf q 0) l e.ws (decide (e.st = .mo)) ∈ t.flight)) ∧
      (k.find l = none → k.victim l = true → ∃ t, exec (.fwdS q l .sound) s = .next t ∧ t.cache q.dest = k ∧
        .gone (rspOf q 0) l ∈ t.flight) ∧
      (∀ e, k.find l = some e → e.st = .sh → ∃ t, exec (.invLine q l) s = .next t ∧ (t.cache q.dest).find l = none ∧
        .ack (rspOf q 0) l ∈ t.flight)) ∧
    (nodePresent s.member p.node = true → s.nodeState p.node ≠ 1 → s.nodeState p.node ≠ 3 → p.dup = false → p.poison = 0 → ∀ o,
      s.outstOf p.node p.rid = some o →
      (o.who = .home l → ∀ a, (s.dirOf l).busy = some a → (s.dirOf l).queue = [] → a.notice = none →
        (a.awaits = [p.src] → a.op = .rd l → ws.length = 8 → ∃ t, exec (.fdata p l ws true) s = .next t ∧
          (t.dirOf l).busy = none ∧ (t.dirOf l).st = .shared (shareBit s.member p.src ||| shareBit s.member a.q.node) ∧
          t.stLine l = ws ∧ .fill .shared (rspOf a.q 0) ws ∈ t.flight) ∧
        (a.awaits = [p.src] → a.op = .rdx l → ∃ t, exec (.ackLine p l) s = .next t ∧ (t.dirOf l).busy = none ∧
          (t.dirOf l).st = .exclusive a.q.node ∧ .fill .modified (rspOf a.q 0) (s.stLine l) ∈ t.flight) ∧
        (∀ r, a.awaits = [p.src, r] → r ≠ p.src → ∃ t, exec (.ackLine p l) s = .next t ∧
          (t.dirOf l).busy = some { a with awaits := [r] }) ∧
        (p.src ∈ a.awaits → ∃ t, exec (.goneLine p l) s = .next t ∧ (t.dirOf l).busy = some { a with gone := true })) ∧
      (∀ c n, o.who = .fill c n → (s.cache c).miss n = some ⟨n, false, true, false, [], none⟩ → ((s.cache c).set (n % 256)).length < 4 →
        (s.cache c).buffer = [] → (s.cache c).flushing = false → ws.length = 8 →
        (∃ t, exec (.dataS p ws) s = .next t ∧ (t.cache c).find n = some ⟨n, .sh, ws⟩ ∧ (t.cache c).miss n = none) ∧
        (∃ t, exec (.dataE p ws) s = .next t ∧ (t.cache c).find n = some ⟨n, .ex, ws⟩ ∧ (t.cache c).miss n = none)) ∧
      (∀ c n, o.who = .fill c n → (s.cache c).miss n = some ⟨n, true, true, false, [], none⟩ → ((s.cache c).set (n % 256)).length < 4 →
        (s.cache c).buffer = [] → (s.cache c).flushing = false → ws.length = 8 →
        ∃ t, exec (.dataM p ws) s = .next t ∧ (t.cache c).find n = some ⟨n, .mo, ws⟩ ∧ (t.cache c).miss n = none) ∧
      (∀ c n, o.who = .evict c n → (s.cache c).misses = [] → (s.cache c).flushing = false →
        ∃ t, exec (.wbAck p n) s = .next t ∧ (t.cache c).victim n = false ∧ (t.cache c).sets = (s.cache c).sets))

/-! ### Memories and device registers -/

/-- Requests at a memory (R287, R288, R294, R297, R343, R344, R486, R489): reads answer the words, writes store them through their
view and answer, a Rolvia write is posted, a code word is stored; a run that leaves its memory gets STATUS 2.
Model's readings, no rules of the spec: memories that nothing has written read as zero (log 8). -/
def Obligations.MemoryRequests : Prop :=
  ∀ (s : State) (q : Req) (a : Nat) (ws : List Word) (v : Word), Claims.reaches s q → 0 < ws.length → ws.length ≤ 3 →
    s.pairShadow = false →
    let n := ws.length
    let data := fun (t : State) (st : Nat) (vs : List Word) => .rdata (rspOf q st) vs ∈ t.flight
    (q.dest < 0x100 → a + n ≤ 65536 →
      ((∀ j, j < n → s.spadBad q.dest (a + j) = false) →
        (∃ t, exec (.rdw q a n .sound 0 false) s = .next t ∧ data t 0 (s.spadLoad q.dest a n) ∧ t.memory = s.memory) ∧
        (∃ t, exec (.rrd q a n .sound 0 false) s = .next t ∧ .rrsp (rspOf q 0) (s.spadLoad q.dest a n) ∈ t.flight ∧
          t.memory = s.memory)) ∧
      (let wrote := fun (t : State) (view : Nat) =>
         (∀ j, j < n → t.spadRead q.dest (a + j) = viewWrite view (s.spadRead q.dest (a + j)) (ws[j]?.getD 0)) ∧
         (∀ p k, k < 65536 → ¬ (p = q.dest ∧ a ≤ k ∧ k < a + n) → t.spadRead p k = s.spadRead p k) ∧
         t.memory.ddr = s.memory.ddr ∧ t.memory.legacy = s.memory.legacy
       let done := fun (t : State) => .rsp (rspOf q 0) ∈ t.flight
       (∃ t, exec (.wrw q a ws 0 false) s = .next t ∧ wrote t 0 ∧ done t) ∧ (∃ t, exec (.setw q a ws) s = .next t ∧ wrote t 1 ∧ done t) ∧
       (∃ t, exec (.clrw q a ws) s = .next t ∧ wrote t 2 ∧ done t) ∧ (∃ t, exec (.rwr q a ws 0 false) s = .next t ∧ wrote t 0))) ∧
    (q.dest < 0x100 → 65536 < a + n → ∃ t, exec (.wrw q a ws 0 false) s = .next t ∧ t.memory = s.memory ∧
      .rsp (rspOf q 2) ∈ t.flight) ∧
    (q.dest = nodeDdr 0 → (∀ j, j < n → s.ddrPresent (a + j) = true) →
      (∃ t, exec (.rdw q a n .sound 0 false) s = .next t ∧ data t 0 ((List.range n).map (fun j => s.ddrRead (a + j)))) ∧
      (∃ t, exec (.wrw q a ws 0 false) s = .next t ∧ (∀ j, j < n → t.ddrRead (a + j) = ws[j]?.getD 0) ∧
        (∀ k, ¬ (a ≤ k ∧ k < a + n) → t.ddrRead k = s.ddrRead k) ∧ t.memory.spad = s.memory.spad)) ∧
    (q.dest = nodeLegacy → a + n ≤ 32768 →
      (∃ t, exec (.rdw q a n .sound 0 false) s = .next t ∧ data t 0 ((List.range n).map (fun j => s.legRead (a + j)))) ∧
      (∃ t, exec (.wrw q a ws 0 false) s = .next t ∧ (∀ j, j < n → t.legRead (a + j) = ws[j]?.getD 0 &&& 0x00FFFF) ∧
        (∀ k, ¬ (a ≤ k ∧ k < a + n) → t.legRead k = s.legRead k))) ∧
    (q.dest < 0x100 → a < 16384 → ∃ t, exec (.cwr q a v) s = .next t ∧ t.codeRead q.dest a = v ∧
      (∀ k, k < 16384 → k ≠ a → t.codeRead q.dest k = s.codeRead q.dest k) ∧ .rsp (rspOf q 0) ∈ t.flight)

/-- Registers and the scratchpad's tester (R15, R16, R278, R289, R325): a register read or write outside its domain answers STATUS 2
with record 0x10 and changes nothing; a granted read answers the word, a write of a plain word sets its fields; the tester
walks a row's steps; a flush starts.
Model's readings, no rules of the spec: words without a map, and whole writes (log 30, 31). -/
def Obligations.RegisterRequests : Prop :=
  ∀ (s : State) (q : Req) (a p : Nat) (v : Word), Claims.reaches s q →
    let r := Claims.arrived s q (.regrd a)
    let w := Claims.arrived s q (.regwr a v)
    (r.regMay q a false = false → exec (.registerRead q a) s = .next ((r.log 0x10 q.dest q.master (BitVec.ofNat 24 a) none).answer q 2)) ∧
    (w.regMay q a true = false → s.writeAction q a v = none →
      exec (.registerWrite q a v) s = .next ((w.log 0x10 q.dest q.master (BitVec.ofNat 24 a) none).answer q 2)) ∧
    (r.regMay q a false = true → a < 0x1000000 → r.codeWord a = none → findReg s.member a = none →
      exec (.registerRead q a) s = .next (r.answerData q [0])) ∧
    (∀ b k, r.regMay q a false = true → a < 0x1000000 → r.codeWord a = none → findReg s.member a = some (b, k) → b.wide k a = none →
      exec (.registerRead q a) s = .next (r.answerData q [r.readWord a])) ∧
    (∀ b k, w.regMay q a true = true → a < 0x1000000 → w.codeWord a = none → findReg s.member a = some (b, k) → b.wide k a = none →
      s.writeAction q a v = none → b.base ≠ 0x018000 → exec (.registerWrite q a v) s =
        .next ((w.writeWord b k a v false (writerOf q)).answer q 0)) ∧
    (∀ i, w.regMay q a true = true → a < 0x1000000 → w.codeWord a = some (p, i) → s.writeAction q a v = none →
      exec (.registerWrite q a v) s = .next ((w.codeStore p i v).answer q 0)) ∧
    (∀ ok, unitPresent s.member .pavs p = true → s.regBit (pavBase p + 0x200) 23 = true → s.domainOn p = true →
      let t := s.tester p
      (t.op ≠ 5 → ¬ ((t.op = 2 ∨ t.op = 4) ∧ ok = false) → exec (.testerOperation p ok false) s =
        .next (s.setTester p { t with op := t.op + 1 })) ∧
      (t.op = 5 → t.row < 8199 → exec (.testerOperation p ok false) s = .next (s.setTester p ⟨t.row + 1, 0⟩)) ∧
      (t.op = 2 → t.row < 8192 → exec (.testerOperation p false false) s =
        .next (((s.bump (Reg.spadStat p 3)).remapRow p t.row).setTester p { t with op := 5 }))) ∧
    (let x := Claims.arrived s q (.regwr (pavBase p + 0x300) v)
     unitPresent s.member .pavs p = true → x.mayWarden q (pavBase p + 0x300) = true → v.bit 23 = true →
      exec (.stateFlush q p v) s = .next ((x.flushStart p).answer q 0))

/-! ### Queues and lockets -/

/-- Queues (R371 to R385): a put opens or extends a packet, a commit makes it readable, a rewind drops it, a get takes the head
word, a drop takes the head packet; status words; a device record is one packet; a queue in MODE 0 or the wrong side answers
STATUS 2.
Model's readings, no rules of the spec: a posted commit is the owner's (log 70). -/
def Obligations.QueueCommands : Prop :=
  ∀ (s : State) (q : Req) (n : Nat) (v : Word), Claims.reaches s q → q.dest = nodeQueues → q.master ≠ 0 →
    let k := s.queue n
    let m := q.master
    let mode := s.qMode n
    let put := s.onPut n m = true
    let get := s.onGet n m = true
    let answers := fun (t : State) (ws : List Word) => .rdata (rspOf q 0) ws ∈ t.flight
    let done := fun (t : State) => .rsp (rspOf q 0) ∈ t.flight
    (mode = 0 ∨ s.onPut n m = false → exec (.queuePut q n v) s = .next ((Claims.arrived s q (.qput n v)).answer q 2) ∧
      exec (.queueRewind q n) s = .next ((Claims.arrived s q (.qrwd n)).answer q 2)) ∧
    (mode = 1 → put → k.opened = false ∨ k.putOwner = m → k.openW.length < 4032 → 1 ≤ s.qFw n → k.openW ≠ [] ∨ 1 ≤ k.fb →
      ∃ t, exec (.queuePut q n v) s = .next t ∧ t.queue n = { k with opened := true, putOwner := m, openW := k.openW ++ [v] } ∧
        answers t [1] ∧ ∀ j, j ≠ n → t.queue j = s.queue j) ∧
    (mode ≠ 0 → put → k.opened = true → k.putOwner ≠ m → ∃ t, exec (.queuePut q n v) s = .next t ∧ t.queue n = k ∧ answers t [0]) ∧
    (mode ≠ 0 → put → k.opened = true → k.putOwner = m → k.lost = false → s.duplex = false →
      (Master.kind m ≠ 1 → ∃ t, exec (.queueCommit q n) s = .next t ∧ done t ∧
        t.queue n = { k.close with packets := k.packets ++ [⟨k.openW, false⟩] }) ∧
      (∃ t, exec (.queueRewind q n) s = .next t ∧ done t ∧ t.queue n = k.close)) ∧
    (k.opened = true → k.putOwner = m → k.lost = false → s.duplex = false → Master.kind m = 1 →
      s.nodeState nodeQueues = 0 → ∃ t, exec (.queueCommit q n) s = .next t ∧
        t.queue n = { k.close with packets := k.packets ++ [⟨k.openW, false⟩] }) ∧
    (mode ≠ 0 → get → k.getOwner = 0 ∨ k.getOwner = m →
      (∀ ps x y ws g, k.packets = ⟨x :: y :: ws, g⟩ :: ps → ∃ t, exec (.queueGet q n .sound) s = .next t ∧ answers t [x, 1] ∧
        t.queue n = { k with packets := ⟨y :: ws, g⟩ :: ps, getOwner := m }) ∧
      (∀ ps x g, k.packets = ⟨[x], g⟩ :: ps → ∃ t, exec (.queueGet q n .sound) s = .next t ∧ answers t [x, 1] ∧
        t.queue n = { k with packets := ps, getOwner := 0 }) ∧
      (k.packets = [] → ∃ t, exec (.queueGet q n .sound) s = .next t ∧ t.queue n = k)) ∧
    (mode ≠ 0 → get → ∀ x ps, k.packets = x :: ps → k.getOwner = m → ∃ t, exec (.queueDrop q n) s = .next t ∧ done t ∧
      t.queue n = { k with packets := ps, getOwner := 0 }) ∧
    (mode ≠ 0 → get → exec (.queueStatus q n) s =
      .next ((Claims.arrived s q (.qstat n)).answerData q [(Claims.arrived s q (.qstat n)).qConsumer n m])) ∧
    (mode ≠ 0 → put → s.onGet n m = false → exec (.queueStatus q n) s =
      .next ((Claims.arrived s q (.qstat n)).answerData q [(Claims.arrived s q (.qstat n)).qProducer n m])) ∧
    (mode ≠ 0 → put ∨ get → exec (.pstatus q n) s =
      .next ((Claims.arrived s q (.qpstat n)).answerData q [(Claims.arrived s q (.qpstat n)).qProducer n m])) ∧
    (∀ node ws, s.qPkind n = 3 → mode = 1 → k.opened = false → ws.length ≤ s.qFw n → 1 ≤ k.fb → ws.length ≤ 4032 → s.duplex = false →
      0x200 ≤ node → ∃ t, exec (.queueRecord n node ws) s = .next t ∧ t.queue n = { k with packets := k.packets ++ [⟨ws, false⟩] })

/-- Lockets (R390 to R394, R401): TRY and WAIT acquire a FREE locket without waiters, WAIT parks behind an owner, a timeout ends
the wait, PEEK reads the owner, the owner's release or a forced one passes it to the oldest waiter or frees it, a recovery
frees an orphan; a master without the right gets STATUS 2.
Model's readings, no rules of the spec: who leaves first (log 69). -/
def Obligations.LocketCommands : Prop :=
  ∀ (s : State) (q : Req) (l : Nat) (v : Word), Claims.reaches s q → q.dest = nodeLockets →
    unitPresent s.member .lockets (l / 64) = true → s.pairShadow = false →
    let k := s.locket l
    let m := q.master
    let may := fun (t : State) => t.lkMay l 22 m = true
    let a := fun (op : ReqOp) => Claims.arrived s q op
    let taken := fun (t : State) => t.locket l = { k with st := 1, owner := m, hcount := k.hcount + 1 } ∧
      .rdata (rspOf q 0) [lkWord true false false false false (k.hcount + 1)] ∈ t.flight
    ((a (.lkTry l)).lkMay l 22 m = false → exec (.lockTry q l) s = .next ((a (.lkTry l)).answer q 2)) ∧
    (may (a (.lkTry l)) → k.st = 0 → k.waiters = [] → s.lkFull m = false → Master.kind m ≠ 1 →
      ∃ t, exec (.lockTry q l) s = .next t ∧ taken t) ∧
    (may (a (.lkTry l)) → k.st = 1 → k.owner = m → exec (.lockTry q l) s =
      .next ((a (.lkTry l)).answerData q [lkWord false true false false false k.hcount])) ∧
    (may (a (.lkWait l)) → k.st = 0 → k.waiters = [] → s.lkFull m = false → Master.kind m ≠ 1 →
      ∃ t, exec (.lockWait q l) s = .next t ∧ taken t) ∧
    (may (a (.lkWait l)) → k.st = 1 → k.owner ≠ m → (a (.lkWait l)).lkWait ≠ 0 → s.lkWaiters (l / 64) < 16 → Master.kind m ≠ 1 →
      exec (.lockWait q l) s = .next ((a (.lkWait l)).setLocket l { k with waiters := k.waiters ++ [⟨q, s.elapsed + (a (.lkWait l)).lkWait⟩] })) ∧
    (∀ w, k.waiters.find? (fun w => decide (w.q.master = v)) = some w → w.due ≤ s.elapsed →
      ∃ t, exec (.waitTimeout l v) s = .next t ∧ t.locket l = { k with waiters := k.waiters.erase w } ∧
        .rdata (rspOf w.q 0) [lkWord false false (decide (k.st = 2)) false true k.hcount] ∈ t.flight) ∧
    (may (a (.lkPeek l)) → exec (.lockPeek q l) s = .next ((a (.lkPeek l)).answerData q [k.owner])) ∧
    (may (a (.lkRel l)) → k.st = 1 → k.owner = m →
      (k.waiters = [] → ∃ t, exec (.locketRelease q l) s = .next t ∧ t.locket l = { k with st := 0, owner := 0 } ∧
        .rsp (rspOf q 0) ∈ t.flight) ∧
      (∀ w ws, k.waiters = w :: ws → ∃ t, exec (.locketRelease q l) s = .next t ∧
        t.locket l = { k with waiters := ws, owner := w.q.master, hcount := k.hcount + 1 } ∧
        .rdata (rspOf w.q 0) [lkWord true false false false false (k.hcount + 1)] ∈ t.flight)) ∧
    (may (a (.lkRel l)) → k.st = 1 → k.owner ≠ m →
      ∃ t, exec (.locketRelease q l) s = .next t ∧ t.locket l = k ∧ .rsp (rspOf q 2) ∈ t.flight) ∧
    ((a (.lkRec l)).lkMay l 21 m = true → k.waiters = [] → (k.st = 2 → ∃ t, exec (.locketRecovery q l) s = .next t ∧
        t.locket l = { k with st := 0, owner := 0 } ∧ .rsp (rspOf q 0) ∈ t.flight) ∧
      (k.st ≠ 2 → exec (.locketRecovery q l) s = .next ((a (.lkRec l)).answer q 2))) ∧
    ((a (.regwr (0x029001 + 2 * l) v)).mayWarden q (0x029001 + 2 * l) = true → v.bit 21 = true → k.st ≠ 0 → k.waiters = [] →
      ∃ t, exec (.lockForce q l v) s = .next t ∧ t.locket l = { k with st := 0, owner := 0 })

/-! ### Finsuri links -/

/-- Frames and states of a link (R466, R468, R470, R471, R473, R499): a bad CRC counts and asks a resend, an unexpected SEQ asks one, an
expected one moves on; a timeout and a NAK replay the window; lost lock takes the link DOWN with an empty window; it retrains
after 10 ms and comes UP with the peer's number; SYNC, DELREQ and TIMES pass the stamps and deliver θ to source 1.
Model's readings, no rules of the spec: one packet in a frame, and the exchange's replies (log 59, 61). -/
def Obligations.LinkFrames : Prop :=
  ∀ (s : State) (q : Req) (l peer : Nat) (f : LinkFrame) (xno : BitVec 16) (t1 t4 : Triple) (v : Word),
    unitPresent s.member .links l = true →
    let k := s.link l
    let up := s.linkState l = 2
    let runs := fun (i : Instr) (k' : Link) => ∃ t, exec i s = .next t ∧ t.link l = k'
    let inTime := s.regField (Reg.fslLink l 5) 0 16 = 0 ∨ s.elapsed ≤ k.since + s.ttiTicks l
    (¬ up → exec (.linkFrameReceive l f) s = .next s) ∧
    (up → f.crcOk = false → exec (.linkFrameReceive l f) s = .next ((s.bump (Reg.fslLink l 1)).setLink l { k with nakOut := true })) ∧
    (up → f.crcOk = true → f.nak = false → k.window = [] → k.txq = [] →
      (f.seq % 2048 ≠ k.rxSeq → runs (.linkFrameReceive l f) { k with nakOut := true }) ∧
      (f.seq % 2048 = k.rxSeq → f.pkts = [] →
        runs (.linkFrameReceive l f) { k with rxSeq := (k.rxSeq + 1) % 2048, nakOut := false }) ∧
      (∀ h n fl i, f.seq % 2048 = k.rxSeq → f.pkts = [.sev h n fl] → s.pairLead = false → h.ddev = s.deviceNo →
        s.srcEntry h.sdev h.tenant = some i → s.held (nodeLink l) 0 = [] → ∃ t, exec (.linkFrameReceive l f) s = .next t ∧
          .sev n fl (.master (s.regField (0x0C2000 + 2 * i) 0 9) 0 (nodeLink l)) ∈ t.flight) ∧
      (s.ttx l = false → runs (.syncFrame l f xno)
        { k with exchange := some xno, sender := false, stampA := s.time, stampB := s.time, since := s.elapsed, ctl := some (.delreq xno) }) ∧
      (s.ttx l = true → runs (.syncFrame l f xno) { k with exchange := none }) ∧
      (k.exchange = some xno → k.sender = true → inTime → runs (.delreq l f xno)
        { k with exchange := none, stampB := s.time, ctl := some (.times xno k.stampA s.time) }) ∧
      (k.exchange = some xno → k.sender = false → inTime → s.pairShadow = false →
        ∃ (u : State), u.link l = { k with exchange := none } ∧ u.clock = s.clock ∧ exec (.timesFrame l f xno t1 t4) s =
          .next (u.sample 1 (Int.tdiv ((((k.stampA.toNat : Int) - t1.toNat) - ((t4.toNat : Int) - k.stampB.toNat)) * 1000000000)
            8589934592)))) ∧
    (∀ w ws, k.window = w :: ws → up → w.since + usTicks (max 1 (s.regField 0x0C0001 16 8)) ≤ s.elapsed → k.replays < 16 →
      runs (.replayTimeout l) { k with replays := k.replays + 1, window := k.window.map (fun e => { e with since := s.elapsed }) }) ∧
    (k.window = [] → exec (.replayTimeout l) s = .next s) ∧
    (up → s.member ≠ .z256d → ∃ t, exec (.laneLockLoss l) s = .next t ∧ t.linkState l = 3 ∧ (t.link l).window = [] ∧
      (t.link l).txq = [] ∧ (t.link l).downAt = s.elapsed) ∧
    (¬ up → exec (.laneLockLoss l) s = .next s) ∧
    (s.linkState l = 3 → s.regBit (Reg.fslLink l 0) 21 = true → k.downAt + msTicks 10 ≤ s.elapsed →
      ∃ t, exec (.linkRetrain l) s = .next t ∧ t.linkState l = 1 ∧ t.link l = k) ∧
    (s.linkState l = 1 → s.pairShadow = false → s.member ≠ .z256d →
      (peer % 65536 ≠ s.deviceNo → ∃ t, exec (.linkUp l peer) s = .next t ∧ t.linkState l = 2 ∧ t.linkPeer l = peer % 65536 ∧
        (t.link l).txSeq = 0 ∧ (t.link l).rxSeq = 0 ∧ (t.link l).window = [] ∧ (t.link l).hadPeer = some (peer % 65536)) ∧
      (peer % 65536 = s.deviceNo → exec (.linkUp l peer) s = .next (s.log 0x53 (nodeLink l) 0 (BitVec.ofNat 24 l) none))) ∧
    (let a := Claims.arrived s q (.regwr (Reg.fslLink l 0) v)
     Claims.reaches s q → a.mayWarden q (Reg.fslLink l 0) = true →
      ∃ t, exec (.linkEnable q l v) s = .next t ∧ .rsp (rspOf q 0) ∈ t.flight ∧ t.ttx l = v.bit 20 ∧
        (v.bit 21 = true → s.regBit (Reg.fslLink l 0) 21 = false → t.linkState l = 1 ∧ t.regBit (Reg.fslLink l 0) 21 = true) ∧
        (v.bit 21 = false → s.regBit (Reg.fslLink l 0) 21 = true → s.member ≠ .z256d → t.linkState l = 0)) ∧
    (up → s.ttx l = true → s.regField (Reg.fslLink l 5) 0 16 ≠ 0 → k.nextAt ≤ s.elapsed →
      runs (.timeExchangeStart l) { k with
        exchange := some (k.xno + 1)
        sender := true
        stampA := s.time
        since := s.elapsed
        xno := k.xno + 1
        nextAt := s.elapsed + s.ttiTicks l
        ctl := some (.sync (k.xno + 1)) })

/-! ### The duplex pair -/

/-- Messages of a running pair (R592, R594): the shadow applies an input and acknowledges it, the lead applies it then; the shadow keeps
an early intent, agrees to an equal one and marks a different one; the lead releases an agreed effect and reports it; the
shadow then drops its copy.
Model's readings, no rules of the spec: the order of effects (log 56). -/
def Obligations.PairMessages : Prop :=
  ∀ (s : State) (l n : Nat) (f : LinkFrame) (x : ExtInput) (k : PairKey) (crc : BitVec 32), s.duplex = true → l = 14 ∨ l = 15 →
    s.linkState l = 2 → f.crcOk = true → f.nak = false → (s.link l).window = [] → (s.link l).txq = [] →
    let one := fun (e : HeldEffect) => if e.key = k then { e with agreed := true } else e
    let differs := fun (e : HeldEffect) => if e.key = k then { e with differs := true } else e
    (∃ t, exec (.pairHeartbeat l f) s = .next t ∧ t.pair = s.pair ∧ t.link l = s.link l) ∧
    (s.pairRole = 1 →
      (∃ (u : State), u.pair = s.pair ∧ u.regs = s.regs ∧ exec (.pairInput l f n x) s =
        .next ((u.applyInput x).sendCtl l (.acknowledge n))) ∧
      (s.pair.effects.find? (fun e => decide (e.key = k)) = none → ∃ t, exec (.pairIntent l f k crc) s = .next t ∧
        t.pair.intents = s.pair.intents ++ [(k, crc)] ∧ t.pair.effects = s.pair.effects) ∧
      (∀ e, s.pair.effects.find? (fun e => decide (e.key = k)) = some e →
        (e.crc = crc → ∃ t, exec (.pairIntent l f k crc) s = .next t ∧ t.pair.effects = s.pair.effects.map one ∧
          (t.link l).ctl = some (.agreement k)) ∧
        (e.crc ≠ crc → ∃ t, exec (.pairIntent l f k crc) s = .next t ∧ t.pair.effects = s.pair.effects.map differs ∧
          (t.link l).ctl = (s.link l).ctl) ∧
        (∀ j p rest, e.body = .queue j → (s.queue j).held = p :: rest → ∃ t, exec (.pairDone l f k) s = .next t ∧
          t.pair.effects = s.pair.effects.filter (fun e => decide (e.key ≠ k)) ∧
          (t.queue j).packets = (s.queue j).packets ++ [p] ∧ (t.queue j).held = rest))) ∧
    (s.pairRole = 0 →
      (∀ i y, s.pair.inputs.find? (fun e => decide (e.1 = n)) = some (i, y) → ∃ (u : State),
        u.pair = { s.pair with inputs := s.pair.inputs.filter (fun e => decide (e.1 ≠ n)) } ∧
        exec (.pairAcknowledgement l f n) s = .next (u.applyInput y)) ∧
      (∀ e, s.pair.effects = [e] → e.key = k → ∃ t, exec (.pairAgreement l f k) s = .next t ∧ t.pair.effects = [] ∧
        (t.link (if s.linkState 14 = 2 then 14 else 15)).ctl = some (.finished k) ∧
        (∀ p bytes tag, e.body = .eth p bytes tag → Map.get (fun _ => []) t.ethSent p = bytes) ∧
        (∀ j p rest, e.body = .queue j → (s.queue j).held = p :: rest →
          (t.queue j).packets = (s.queue j).packets ++ [p] ∧ (t.queue j).held = rest)))

/-- Disagreements of a pair (R593, R594, R598): a die whose own detector wrote a record within DISWIN, where the other did not, faults
and fences itself; where only the other did, the pair goes on; else the pair is DISAGREED.
Model's readings, no rules of the spec: what the other die reported is an operand (log 54, 55). -/
def Obligations.PairDisagreements : Prop :=
  ∀ (s : State) (c : Nat) (k : PairKey) (other : Bool), s.duplex = true → unitPresent s.member .cells c = true →
    let own := ∃ t0, s.pair.detected = some t0 ∧ s.elapsed ≤ t0 + usTicks (s.pairUs 3 0 24 100)
    let ends := fun (i : Instr) => ∃ t, exec i s = .next t ∧
      (own → other = false → t.pair.fenced = true ∧ t.pairState = 4 ∧ t.pairRole = 3) ∧
      (¬ own → other = true → t.pair.fenced = false ∧ t.pairState = 0 ∧ t.pairRole = s.pairRole) ∧
      ((own ↔ other = true) → t.pair.fenced = false ∧ t.pairState = 2 ∧ t.pair.disagreedAt = some s.elapsed)
    ends (.padMismatch c other) ∧
    (s.pairRole = 0 ∨ (∃ e ∈ s.pair.captures, e.cell = c ∧ e.differs = true) → ends (.captureDisagreement c other)) ∧
    (s.pairRole = 0 → (∃ e ∈ s.pair.effects, e.key = k ∧ e.agreed = false ∧ e.since + usTicks (s.pairUs 2 0 12 100) ≤ s.elapsed) →
      ends (.effectDisagreement k other)) ∧
    (s.pairRole = 1 → (∃ e ∈ s.pair.effects, e.key = k ∧ e.differs = true) → ends (.effectDisagreement k other))

/-- The start and the end of a pair (R589, R595, R596, R609): equal digests start the tenants, different ones leave DIGEST; SIMPLEX
written here leaves this die alone, written on the other die fences this one; TAKEOVER makes the shadow the lead, which asks
its waiting legacy accesses again; a lead that sees FENCE_N low goes on alone.
Model's readings, no rules of the spec: SIMPLEX on either die, and when tenants start (log 57, 97). -/
def Obligations.PairStartsAndEnds : Prop :=
  ∀ (s : State) (q : Req) (v : Word) (digest : List (BitVec 8)) (fell : Triple), s.member = .z256d →
    let alone := fun (t : State) => t.pairState = 1 ∧ t.pairRole = 2 ∧ t.pair.otherLow = true ∧ t.pair.fenced = false
    let m := s.slotImage (s.regField 0x003000 20 1)
    (s.fil.digestDue = false → exec (.digestExchange digest) s = .next s) ∧
    (s.fil.digestDue = true → m.digest 0 m.length = digest → ∃ (u : State), u.fil.digestDue = false ∧
      u.pairRole = (if s.die % 2 = (if s.regBit 0x000040 18 then 1 else 0) then 0 else 1) ∧
      exec (.digestExchange digest) s = .next u.autostart) ∧
    (s.fil.digestDue = true → m.digest 0 m.length ≠ digest → ∃ t, exec (.digestExchange digest) s = .next t ∧
      t.pairState = 3 ∧ t.fil.digestDue = false ∧ t.hub = s.hub) ∧
    (s.duplex = true → ∃ t, exec (.pairSimplex none v) s = .next t ∧ t.pair.fenced = true ∧ t.pairState = 4 ∧ t.pairRole = 3) ∧
    (s.duplex = true → s.pairRole = 0 → s.pair.inputs = [] → s.pair.effects = [] →
      (∃ t, exec .leadSeesFenceNLow s = .next t ∧ alone t) ∧
      (v.bit 16 = true → Claims.reaches s q →
        (Claims.arrived s q (.regwr (Reg.depPair 0) v)).mayWarden q (Reg.depPair 0) = true →
        ∃ t, exec (.pairSimplex (some q) v) s = .next t ∧ alone t ∧ .rsp (rspOf q 0) ∈ t.flight)) ∧
    (s.duplex = true → s.pairRole = 0 → ∀ n x, s.pair.inputs = [(n, x)] → s.pair.effects = [] → ∃ (u : State), alone u ∧
      u.pair.inputs = [] ∧ exec .leadSeesFenceNLow s = .next (u.applyInput x)) ∧
    (s.duplex = true → s.pairRole = 1 → ∃ t, exec (.takeover fell) s = .next t ∧ alone t ∧ t.pair.legWaits = [] ∧
      ∀ e ∈ s.pair.legWaits, .req e.2.1 e.2.2 ∈ t.flight) ∧
    (s.pairRole ≠ 1 → exec (.takeover fell) s = .next s) ∧ (s.pairRole ≠ 0 → exec .leadSeesFenceNLow s = .next s)

/-! ### Inputs from outside -/

/-- Host functions and the windows of remote sources (R354, R355, R477 to R481, R588): BAR accesses become register requests or reach
the function page; a mailbox command submits its operation once, and another sets OVR; notices leave in order; SEVFLAGS send
only granted flags; a function-level reset zeroes the page but for its notices; a request under management is recorded and
passed on, dropped, answered again, or given STATUS 6.
Model's readings, no rules of the spec: BARs that a function lacks, and the window's records (log 63, 65). -/
def Obligations.HostFunctions : Prop :=
  ∀ (s : State) (f bar a tag : Nat) (v : Word) (g : Ingress) (h : LinkHdr), f < 64 →
    let k := s.hostFn f
    let mail := fun (i : Instr) (cmd : Nat) =>
      (k.busy = true → exec i s = .next (s.setHostFn f { k with ovr := true })) ∧
      (k.busy = false → ∃ t, exec i s = .next t ∧
        t.hostFn f = { k with busy := true, done := false, dup := false, status := 0, rrid := k.rid, rdata := [0, 0, 0], owed := 0 } ∧
        .ingress ⟨none, nodePcie f, f, k.rid, cmd, k.addr, if cmd = 1 then [] else k.data.take (max 1 k.width), max 1 k.width⟩ ∈ t.flight)
    (s.fnThere f = false → exec (.pcieBarRead f bar a tag) s = .next s ∧ exec (.functionLevelReset f) s = .next s) ∧
    (s.fnThere f = true → s.pair.fenced = true → bar = 0 → 0x1000 ≤ a → ∃ t, exec (.pcieBarRead f bar a tag) s = .next t ∧
      t.hostFn f = { k with cpl := some ⟨tag, true, 0⟩ }) ∧
    (s.fnThere f = true → s.pair.fenced = false → s.member ≠ .z256d →
      (f = 0 → a < 16777216 →
        (∃ t q, exec (.pcieBarRead 0 0 a tag) s = .next t ∧ .req q (.regrd a) ∈ t.flight ∧ q.dest = s.servingNode a ∧
          q.node = nodePcie 0 ∧ q.tenant = 0 ∧ q.master = masterHost 0 0) ∧
        (∃ t q, exec (.pcieBarWrite 0 0 a v true) s = .next t ∧ .req q (.regwr a v) ∈ t.flight ∧ q.dest = s.servingNode a ∧
          q.node = nodePcie 0 ∧ q.tenant = 0 ∧ q.master = masterHost 0 0)) ∧
      (∃ t, exec (.pcieBarRead f 4 1 tag) s = .next t ∧ t.hostFn f = { k with cpl := some ⟨tag, false, k.addr⟩ }) ∧
      (∃ t, exec (.pcieBarRead f 1 a tag) s = .next t ∧ t.hostFn f = { k with cpl := some ⟨tag, true, 0⟩ }) ∧
      (∃ t, exec (.pcieBarWrite f 4 1 v true) s = .next t ∧ t.hostFn f = { k with addr := v }) ∧
      exec (.pcieBarWrite f bar a v false) s =
        .next ((s.bump 0x0D4040).log 0x54 (nodePcie f) (s.fnMaster f) (BitVec.ofNat 24 a) none) ∧
      mail (.mailboxRead f) 1 ∧ mail (.mailboxWrite f) 2 ∧ mail (.mailboxSetWrite f) 3 ∧ mail (.mailboxClearWrite f) 4 ∧
      (∀ n rest, k.notices = n :: rest → ∃ t, exec (.noticeRead f) s = .next t ∧ t.hostFn f =
        { k with notices := rest ++ k.waiting.take 1, waiting := k.waiting.drop 1, cpl := some ⟨0, false, BitVec.ofNat 24 (0x800000 + n % 1024)⟩ }) ∧
      (k.notices = [] → ∃ t, exec (.noticeRead f) s = .next t ∧ t.hostFn f = { k with cpl := some ⟨0, false, 0⟩ }) ∧
      (s.bindFlags 3 f k.sevTask 1024 &&& v ≠ 0 → ∃ t, exec (.sevflags f v) s = .next t ∧
        t.flight = s.flight ++ [.sev k.sevTask (s.bindFlags 3 f k.sevTask 1024 &&& v) (.bind 3 f)]) ∧
      (s.bindFlags 3 f k.sevTask 1024 &&& v = 0 → exec (.sevflags f v) s = .next s) ∧
      (∃ t, exec (.functionLevelReset f) s = .next t ∧ t.window (windowKey false f) = Window.new ∧
        t.hostFn f = { HostFn.zero with notices := k.notices, waiting := k.waiting, cpl := k.cpl })) ∧
    (g.link = some h →
      let key := windowKey true g.src
      let w := s.window key
      let m := s.take (.ingress g)
      let r := g.rid % 16384
      let again := m.bumpCluster g.node 7
      (w.newest = none ∨ (∃ n, w.newest = some n ∧ 1 ≤ (r + 16384 - n) % 16384 ∧ (r + 16384 - n) % 16384 ≤ 8191) →
        w.recs.length < 256 → ∃ t, exec (.ingressRequest g) s = .next t ∧ t.window key = ⟨some r, w.recs ++ [(r, none)]⟩ ∧
          ∃ q op, .req q op ∈ t.flight ∧ q.dest = m.servingNode g.addr.toNat ∧ q.tenant = 0 ∧
            op = (if g.cmd = 1 then .regrd g.addr.toNat else .regwr g.addr.toNat (g.data.headD 0))) ∧
      (∀ n, w.newest = some n → n < 16384 → ¬ (1 ≤ (r + 16384 - n) % 16384 ∧ (r + 16384 - n) % 16384 ≤ 8191) →
        ((n + 16384 - r) % 16384 ≤ 255 → ∀ st, w.recs.find? (fun e => decide (e.1 = r)) = some (r, st) →
          (st = none → exec (.ingressRequest g) s = .next again) ∧
          (∀ b, st = some b → exec (.ingressRequest g) s = .next (again.linkReply g.node (.rsp (again.replyHdr h) b true)))) ∧
        (255 < (n + 16384 - r) % 16384 → exec (.ingressRequest g) s =
          .next (again.linkReply g.node (.rsp (again.replyHdr h) 6 false)))))

/-- Ethernet ports, the DDR patrol and the legacy port (R396, R483, R484, R486, R489, R490, R493): a good frame for the port becomes a
record, a bad one counts; a frame of the transmit queue leaves; the patrol moves on; legacy reads and writes reach RAM, 0x7FFF
clears INTPEND, 0x7FFE goes to the mailbox queue, the eight lockets act as TRY and release; RST_N low stops the port.
Model's readings, no rules of the spec: frame sizes, patrol and legacy cycles that are not served (log 66, 67, 68). -/
def Obligations.OutsidePorts : Prop :=
  ∀ (s : State) (q : Req) (e d : Nat) (fr : EthFrame) (a v : BitVec 16) (w : Word) (k : BitVec 3) (late : Bool),
    s.pairLead = false → s.pairShadow = false → unitPresent s.member .eths e = true → unitPresent s.member .ddrs d = true →
    let n := s.regField (Reg.eth e 0) 0 10
    let l := s.legLock k
    let m := s.legMaster
    let quiet := exec (.legacyRead a false late) s = .next s ∧ exec (.legacyWrite a v false late) s = .next s ∧
      exec (.legacyMailboxWrite v false late) s = .next s ∧ exec (.legacyIntRead false late) s = .next s ∧
      exec (.legacyLocketTry k) s = .next s ∧ exec (.legacyLocketRelease k) s = .next s
    (s.regBit (Reg.eth e 0) 23 = false → exec (.ethFrameReceive e fr) s = .next s ∧ exec (.ethFrameTransmit e .sound) s = .next s) ∧
    (s.regBit (Reg.eth e 0) 23 = true →
      (fr.fcsOk = false → exec (.ethFrameReceive e fr) s = .next (s.bump (Reg.eth e 6))) ∧
      (fr.fcsOk = true → 60 ≤ fr.bytes.length → fr.bytes.length ≤ 9216 → s.ethAccepts e (destMac fr.bytes) = true →
        let t : Triple := fr.stamp - BitVec.ofNat 72 (latTicks (s.regField (Reg.eth e 4) 12 12))
        exec (.ethFrameReceive e fr) s = .next (s.send (.queueRec (s.regField (Reg.eth e 0) 10 10) (nodeEth e)
          ([BitVec.ofNat 24 fr.bytes.length, t.word 0, t.word 1, t.word 2] ++ byteWords fr.bytes)))) ∧
      (∀ p rest, s.qMode n ≠ 0 → s.qCkind n = 3 → (s.queue n).packets = p :: rest → p.gap = false →
        let len := (p.words.headD 0).field 0 14
        let bytes := (wordBytes (p.words.drop 1)).take len
        bytes.length = len → 60 ≤ len → len ≤ 9216 → s.duplex = false → ∃ t, exec (.ethFrameTransmit e .sound) s = .next t ∧
          (t.queue n).packets = rest ∧ Map.get (fun _ => []) t.ethSent e = bytes)) ∧
    (s.regBit (Reg.ddr d 0) 23 = true → s.regField (Reg.ddr d 3) 8 16 ≠ 0 → ∃ t, exec (.patrolScrub d .sound) s = .next t ∧
      t.scrubAt d = (if s.scrubAt d + 1 ≥ s.regField (Reg.ddr d 0) 0 8 * 33554432 / 16 then 0 else s.scrubAt d + 1) ∧
      t.memory.ddr = s.memory.ddr) ∧
    (s.legServes = false → quiet) ∧
    (s.legServes = true →
      (a.toNat < 0x7FFF → ∃ t, exec (.legacyRead a false late) s = .next t ∧ t.leg = ⟨(s.legRead a.toNat).truncate 16, false⟩ ∧
        t.memory = s.memory) ∧
      (∃ t, exec (.legacyIntRead false late) s = .next t ∧ t.leg = ⟨(s.legRead 0x7FFF).truncate 16, false⟩ ∧ t.legInt = false) ∧
      (a.toNat < 0x7FFE → ∃ t, exec (.legacyWrite a v false late) s = .next t ∧ t.legRead a.toNat = v.zeroExtend 24 ∧
        ∀ j, j ≠ a.toNat → t.legRead j = s.legRead j) ∧
      (let j := s.regField 0x0DC000 10 10
       ∃ t, exec (.legacyMailboxWrite v false late) s = .next t ∧ t.legRead 0x7FFE = v.zeroExtend 24 ∧
        (s.qMode j = 1 → s.onPut j m = true → s.queue j = Queue.empty → s.duplex = false → 1 ≤ s.qFw j →
          (t.queue j).packets = [⟨[v.zeroExtend 24], false⟩])) ∧
      ((s.locket l).st = 0 → (s.locket l).waiters = [] → ∃ t, exec (.legacyLocketTry k) s = .next t ∧
        (t.locket l).st = 1 ∧ (t.locket l).owner = m ∧ t.leg.d.getLsbD 15 = true) ∧
      ((s.locket l).st = 1 → (s.locket l).owner = m → (s.locket l).waiters = [] → ∃ t, exec (.legacyLocketRelease k) s = .next t ∧
        (t.locket l).st = 0 ∧ (t.locket l).owner = 0)) ∧
    (∃ t, exec (.legRstN true) s = .next t ∧ t.leg = ⟨0, false⟩ ∧ t.legServes = false ∧ t.legInt = false) ∧
    (∃ t, exec (.legRstN false) s = .next t ∧ t.regBit (Reg.legStat 0) 22 = false ∧ t.leg = s.leg) ∧
    (Claims.reaches s q → (Claims.arrived s q (.regwr 0x0DC000 w)).mayWarden q 0x0DC000 = true →
      ∃ t, exec (.legacyEnable q w) s = .next t ∧ t.legEnabled = w.bit 23 ∧ .rsp (rspOf q 0) ∈ t.flight)

/-! ### Debug port, event log, die faults -/

/-- JTAG (R495, R551, R556, R628): with VAON each instruction selects its register and its effect on the pins; DBGACC, under the
permit or in RECOVERY, sends the access of host function 0x3F; DBGCTX, under the permit, halts, steps and resumes a context
and turns BRK on and off; without the permit both act as BYPASS; without VAON the port takes nothing.
Model's readings, no rules of the spec: the boundary's pins, and where a context halts (log 89). -/
def Obligations.DebugPort : Prop :=
  ∀ (s : State) (c : CtxId) (n a : Nat) (b : Bool) (v : Word), ctxPresent s.member c = true →
    let x := s.ctx c
    let loads := fun (ir : JtagInstr) (dr : BitVec 32) => (.next { s with jtag := { s.jtag with ir := ir, dr := dr } } : Out)
    let permit := s.regBit 0x003000 17 = true
    let sends := fun (i : Instr) (op : ReqOp) => ∃ t p, exec i s = .next t ∧ .req p op ∈ t.flight ∧ p.dest = s.servingNode a ∧
      p.node = nodePcie 0x3F ∧ p.tenant = 0 ∧ p.master = masterHost 0 0x3F ∧ t.jtag.status = none
    (s.power.vaon = true →
      exec .jtagBypass s = loads .bypass 0 ∧ exec .jtagIdcode s = loads .idcode (idcode s.member) ∧
      (∃ t, exec (.jtagSamplePreload [(n, b)]) s = .next t ∧ t.jtag.boundary = s.ports.pins ∧
        Map.get (fun _ => false) t.jtag.latch n = b ∧ t.jtagDrives n = none) ∧
      (∃ t, exec (.jtagExtest [(n, b)]) s = .next t ∧ t.jtag.boundary = s.ports.pins ∧ t.jtagDrives n = some (some b)) ∧
      (∃ t, exec .jtagClamp s = .next t ∧ t.jtagDrives n = some (some (Map.get (fun _ => false) s.jtag.latch n)) ∧ t.jtag.dr = 0) ∧
      (∃ t, exec .jtagHighz s = .next t ∧ t.jtagDrives n = some none ∧ t.jtag.dr = 0) ∧
      (s.power.core = true → permit ∨ s.regField 0x003000 21 3 = 3 → sends (.dbgacc a none) (.regrd a) ∧
        sends (.dbgacc a (some v)) (.regwr a v)) ∧
      (¬ permit → s.regField 0x003000 21 3 ≠ 3 → exec (.dbgacc a none) s = loads .bypass 0) ∧
      (¬ permit → exec (.dbgctxHalt c) s = loads .bypass 0 ∧ exec (.dbgctxStep c) s = loads .bypass 0 ∧
        exec (.dbgctxResume c) s = loads .bypass 0 ∧ exec .dbgctxBrkEnable s = loads .bypass 0 ∧
        exec .dbgctxBrkDisable s = loads .bypass 0) ∧
      (s.power.core = true → permit →
        (x.micro = none → x.state ∈ [CtxState.issuing, .ready, .longwait, .suspended] → ∃ t, exec (.dbgctxHalt c) s = .next t ∧
          (t.ctx c).state = .halted ∧ (t.ctx c).ip = x.ip) ∧
        (x.state = .halted →
          (∃ t, exec (.dbgctxStep c) s = .next t ∧ (t.ctx c).stepping = true ∧ (t.ctx c).state ∈ [CtxState.ready, .issuing]) ∧
          (∃ t, exec (.dbgctxResume c) s = .next t ∧ (t.ctx c).stepping = false ∧ (t.ctx c).state ∈ [CtxState.ready, .issuing])) ∧
        (∃ t, exec .dbgctxBrkEnable s = .next t ∧ t.jtag.brk = true ∧ t.strands = s.strands) ∧
        (∃ t, exec .dbgctxBrkDisable s = .next t ∧ t.jtag.brk = false ∧ t.strands = s.strands))) ∧
    (s.power.vaon = false → exec .jtagBypass s = .next s ∧ exec .jtagIdcode s = .next s ∧ exec (.jtagSamplePreload [(n, b)]) s = .next s ∧
      exec (.jtagExtest [(n, b)]) s = .next s ∧ exec .jtagClamp s = .next s ∧ exec .jtagHighz s = .next s)

/-- The event log and die faults (R588, R600 to R607): a record joins the ring, with its continuation, and one of severity 3 sets the
FAULT latch; NEXT drops the oldest record; a 1 to FAULT clears the latch and DEP.FIRST; KEY 0xD1E and the loss of REFCLK
fence the die.
Model's readings, no rules of the spec: NEXT and FAULT_CLEAR (log 52, 53). -/
def Obligations.EventLogAndDieFaults : Prop :=
  ∀ (s : State) (r : LogRec) (q : Req) (v w : Word),
    (s.evlog.length ≤ 1022 → ∃ t, exec (.evlog r) s = .next t ∧
      (∃ es : List LogEntry, t.evlog = s.evlog ++ es ∧ es.length = (if r.cont = none then 1 else 2) ∧
        (∀ e, es.head? = some e → e.cont = false ∧ e.words.length = 6 ∧ (e.words[0]?.getD 0).field 16 8 = r.code % 256 ∧
          (e.words[0]?.getD 0).field 14 2 = logSev r.code ∧ (e.words[0]?.getD 0).field 0 10 = r.node % 1024 ∧
          e.words[1]? = some r.master ∧ e.words[2]? = some r.detail ∧ e.words[3]? = some (r.time.word 0))) ∧
      (logSev r.code = 3 → t.regBit 0x000002 8 = true) ∧ t.memory = s.memory ∧ t.strands = s.strands) ∧
    (Claims.reaches s q → s.wbuf q.master 0x000010 = [(0, w)] → w.bit 23 = true →
      (Claims.arrived s q (.regwr 0x000011 v)).mayWarden q 0x000011 = true →
      ∃ t, exec (.logNext q v) s = .next t ∧ t.evlog = s.evlog.tail ∧ t.reg 0x000011 = v ∧ .rsp (rspOf q 0) ∈ t.flight) ∧
    (Claims.reaches s q → (Claims.arrived s q (.regwr 0x000003 v)).mayWarden q 0x000003 = true →
      (s.wbuf q.master 0x000002 = [(0, w)] → w.bit 8 = true → v.field 12 12 ≠ 0xD1E → ∃ t, exec (.faultClear q v) s = .next t ∧
        t.regBit 0x000002 8 = false ∧ (∀ k, k < 6 → t.reg (0x00001A + k) = 0) ∧ t.pair.fenced = s.pair.fenced ∧
        .rsp (rspOf q 0) ∈ t.flight) ∧
      (v.field 12 12 = 0xD1E → ∃ t, exec (.dieFault q v) s = .next t ∧ t.pair.fenced = true ∧ .rsp (rspOf q 0) ∈ t.flight)) ∧
    (s.power.core = true → ∃ t, exec .refclkLoss s = .next t ∧ t.pair.fenced = true) ∧
    (s.power.core = false → exec .refclkLoss s = .next s)

/-! ### Power, rails, standby and resets -/

/-- Domains and fences (R359, R511 to R519, R584 to R587): an idle domain or a REQ starts an entry to the allowed state, one without
its preconditions is refused and counted, the end of the drain gives HOLD and then the asked state, a wake ends ON and sends
the parked requests; a fence takes a pavilion out of service, or faults a die that cannot spare it.
Model's readings, no rules of the spec: the two commands that end an entry, and the fence (log 46, 48, 50). -/
def Obligations.PowerDomainsAndFences : Prop :=
  ∀ (s : State) (q : Req) (d p : Nat) (v : Word) (bad : List Nat), domainPresent s.member d = true →
    unitPresent s.member .pavs p = true →
    let aims := fun (t : State) (k : Nat) => t.powerOf d = 3 ∧ Map.get (fun _ => 0) t.power.target d = k
    let w := (Claims.arrived s q (.regwr (Reg.pwrDom d) v)).writeDom d v
    let granted := Claims.reaches s q ∧ (Claims.arrived s q (.regwr (Reg.pwrDom d) v)).mayWarden q (Reg.pwrDom d) = true
    let asks := fun (i : Instr) (k : Nat) => v.field 16 2 = k → granted → s.powerOf d = 0 → s.pavOut d = false →
      (w.mayLeave d k = true → ∃ t, exec i s = .next t ∧ aims t k ∧ .rsp (rspOf q 0) ∈ t.flight) ∧
      (w.mayLeave d k = false → exec i s = .next ((w.bump (Reg.pwrStat 4)).answer q 0))
    let st := fun (t : State) => t.regField (Reg.depPav p) 22 2
    (∀ k, s.power.core = true → s.regBit 0x001000 23 = true → s.regField (Reg.pwrDom d) 0 12 ≠ 0 → s.powerOf d = 0 →
      ¬ (0x160 ≤ d ∧ d < 0x180) → s.deepest d = some k → ∃ t, exec (.domainIdleEntry d) s = .next t ∧ aims t k) ∧
    (s.regField (Reg.pwrDom d) 0 12 = 0 → exec (.domainIdleEntry d) s = .next s) ∧
    asks (.reqRet q d v) 1 ∧ asks (.reqOff q d v) 2 ∧
    (v.field 16 2 = 3 → granted → s.powerOf d = 1 ∨ s.powerOf d = 2 → domainOf d = d → s.pavOut d = false →
      ∃ t, exec (.reqWake q d v) s = .next t ∧ t.powerOf d = 4 ∧ .rsp (rspOf q 0) ∈ t.flight) ∧
    (s.powerOf d ≠ 3 → ∀ o, exec (.domainEntryComplete d o) s = .next s) ∧
    (s.powerOf d = 3 → s.pavOut d = false →
      (d < 0x100 → s.pavBusy d = true → ∀ o, ∃ t, exec (.domainEntryComplete d o) s = .next t ∧ t.powerOf d = 0 ∧
        (s.nodeState d ≠ 3 → t.nodeState d = 0)) ∧
      (¬ (d < 0x100 ∧ s.pavBusy d = true) → s.drained d = true →
        (∃ t, exec (.domainEntryComplete d false) s = .next t ∧ t.powerOf d = 3 ∧ (s.nodeState d ≠ 3 → t.nodeState d = 1)) ∧
        (∀ k, Map.get (fun _ => 0) s.power.target d = k → k = 1 ∨ (k = 2 ∧ d < 0x100) → s.regBit (Reg.pwrDom d) 15 = false →
          (∀ e ∈ s.net.parked, domainOf e.q.dest ≠ d) → ∃ t, exec (.domainEntryComplete d true) s = .next t ∧ t.powerOf d = k))) ∧
    (s.powerOf d = 4 → s.railsReady d = true → Map.get (fun _ => 0) s.power.later d = 0 → ∃ t, exec (.domainWakeComplete d) s = .next t ∧
      t.powerOf d = 0 ∧ (s.nodeState d ≠ 3 → t.nodeState d = 0) ∧
      ∀ e ∈ s.net.parked, e.q.dest = d → .req e.q e.op ∈ t.flight) ∧
    (st s = 0 → s.canSpare p = false → exec (.pavilionFence p .residue bad) s = .next (s.dieFault 6 nodeHub)) ∧
    (st s = 0 → s.canSpare p = true → s.powerOf p = 0 → (∀ k, k < 16 → (s.ctx ⟨p, k / 4, k % 4⟩).state = .free) → s.pq p = [] →
      s.homedAt p = [] → ∃ t, exec (.pavilionFence p .residue bad) s = .next t ∧ st t = 1 ∧ t.powerOf p = 3 ∧
        t.regField (Reg.depPav p) 8 8 = min 255 (s.regField (Reg.depPav p) 8 8 + 1) ∧
        .evlog ⟨0x70, p, 0, 1, s.time, none⟩ ∈ t.flight) ∧
    (Claims.reaches s q → (Claims.arrived s q (.regwr (Reg.depPav p) v)).mayWarden q (Reg.depPav p) = true → v.bit 20 = true →
      st s = 1 ∨ st s = 2 → ∃ t, exec (.pavRetire q p v bad) s = .next t ∧ st t = 3 ∧ .rsp (rspOf q 0) ∈ t.flight) ∧
    (∀ ok, (st s ≠ 2 → exec (.selfTestDone p ok) s = .next s) ∧
      (st s = 2 → ∃ t, exec (.selfTestDone p ok) s = .next t ∧
        (ok = true → s.regField (Reg.depPav p) 8 8 < s.regField 0x000002 16 4 → st t = 0) ∧
        (ok = false ∨ s.regField 0x000002 16 4 ≤ s.regField (Reg.depPav p) 8 8 → st t = 3)))

/-- Rails, governor, standby and resets (R494, R523 to R531, R552, R562, R570, R624): an attempt ends ON, in a PAUSE with its cause, or
at the timeout; a failure at run time starts over; the governor moves VSET within its range; standby stops the core and its
rails, and an armed source wakes it; a reset keeps AON, code and legacy RAM, and a loss of VAON keeps the fuses alone.
Model's readings, no rules of the spec: scratchpads and DDR that read zero after a reset, and which source is kept (log 8, 85, 86, 87). -/
def Obligations.RailsStandbyAndResets : Prop :=
  ∀ (s : State) (q : Req) (r : Nat) (v x : Word) (addr : BitVec 7) (data : BitVec 8), r < 16 →
    let tries := s.regField (Reg.rail r 3) 19 2
    let granted := fun (a : Nat) => Claims.reaches s q ∧ (Claims.arrived s q (.regwr a v)).mayWarden q a = true
    let fails := fun (i : Instr) (cause : Nat) => ∃ t, exec i s = .next t ∧ t.railState r = 3 ∧
      t.regField (Reg.rail r 3) 16 3 = cause ∧ (t.rail r).on = false
    let wakes := fun (i : Instr) (src code : Nat) =>
      (s.power.standby = 0 → ∀ j, j = .wakeN ∨ j = .secondsAlarm → i = j → exec i s = .next s) ∧
      (s.power.standby = 1 → s.power.latched = none → ∃ t, exec i s = .next t ∧ t.power.latched = some (src, code)) ∧
      (s.power.standby = 2 → s.power.stopped = false → ∃ t, exec i s = .next t ∧ t.power.standby = 0 ∧
        t.reg 0x002002 = BitVec.ofNat 24 (src * 0x200000 + code * 0x1000))
    let vset := fun (t : State) (n : Int) => (t.regField 0x001013 0 11 : Int) = max (s.regField 0x001010 12 11 : Int) (min n 900)
    let wiped := fun (t : State) => t.memory.spad = [] ∧ t.memory.ddr = [] ∧ t.strands.ctxs = [] ∧ t.hub.tasks = []
    let kept := fun (t : State) => wiped t ∧ t.strands.code = s.strands.code ∧ t.memory.legacy = s.memory.legacy ∧
      ∀ a, 0x002000 ≤ a → a < 0x003000 → t.reg a = s.reg a
    (s.railState r = 1 → tries < 3 → fails (.railPoll r true false false false 0) 1 ∧ fails (.railPoll r false true false false 0) 2 ∧
      fails (.railPoll r false false false false 6) 6 ∧ fails (.railTimeout r) 3) ∧
    (s.railState r = 1 → s.power.seq = none → ∃ t, exec (.railPoll r false false true true 0) s = .next t ∧ t.railState r = 2) ∧
    (s.railState r = 1 → exec (.railPoll r false false false false 0) s = .next s) ∧
    (s.railState r = 3 → tries < 3 → ∃ t, exec (.railPauseEnd r) s = .next t ∧ t.railState r = 1 ∧ (t.rail r).on = true ∧
      t.regField (Reg.rail r 3) 19 2 = tries + 1) ∧
    (s.railState r = 2 → s.spineRail r = false →
      (s.regField (Reg.rail r 1) 8 4 ≠ 15 → fails (.pgoodFall r) 4) ∧ fails (.pmbAlert [(r, true, false)]) 1 ∧
      fails (.pmbAlert [(r, false, true)]) 2) ∧
    (s.railState r = 4 → granted (Reg.rail r 3) → v.bit 15 = true → s.wbuf q.master (Reg.rail r 0) = [] →
      ∃ t, exec (.railClr q r v) s = .next t ∧ t.railState r = 1 ∧ t.regField (Reg.rail r 3) 19 2 = 1 ∧ .rsp (rspOf q 0) ∈ t.flight) ∧
    (s.regBit 0x001010 23 = false → exec .govern s = .next s) ∧
    (s.regBit 0x001010 23 = true → (∀ t, t < 512 → s.reg (Reg.tslack t) = x) → ∃ t, exec .govern s = .next t ∧
      (∀ k, k < 512 → t.reg (Reg.tslack k) = 0x7FFFFF) ∧
      (let old := s.regField 0x001013 0 11
       let th := (s.reg 0x001011).toInt
       (th < x.toInt → vset t ((old : Int) - s.regField 0x001012 8 8)) ∧ (x.toInt < th → vset t ((old : Int) + s.regField 0x001012 16 8)) ∧
       (x.toInt = th → vset t old))) ∧
    (granted 0x001013 → ∃ t, exec (.vsetMv q v) s = .next t ∧ vset t (v.field 0 11) ∧ .rsp (rspOf q 0) ∈ t.flight) ∧
    (granted 0x002001 → v.field 12 12 = 0xA5C → ∃ t, exec (.standbyEntry q v) s = .next t ∧ t.power.standby = 1 ∧
      t.power.core = false ∧ wiped t) ∧
    (s.power.standby = 1 → s.power.latched = none → ∃ t, exec .standbyComplete s = .next t ∧ t.power.standby = 2 ∧
      ∀ k, k < 16 → (t.rail k).on = false) ∧
    (s.regBit 0x002000 15 = true → wakes .wakeN 2 0) ∧
    (s.regBit 0x002000 14 = true → s.regBit 0x004040 23 = true →
      s.secs = s.regField 0x002006 0 16 * 16777216 + (s.reg 0x002007).toNat → wakes .secondsAlarm 3 0) ∧
    (s.regBit 0x002000 23 = true → s.regField 0x002000 16 7 = addr.toNat → wakes (.i2cWake addr data) 1 data.toNat ∧
      (s.power.standby = 0 → ∃ t, exec (.i2cWake addr data) s = .next t ∧ t.regField 0x002002 12 8 = data.toNat) ∧
      exec (.i2cStatusRead addr) s = .next { s with i2cOut := some (BitVec.ofNat 8 (s.regField 0x002000 0 8)) }) ∧
    (s.regField 0x002000 16 7 ≠ addr.toNat → exec (.i2cWake addr data) s = .next s ∧ exec (.i2cStatusRead addr) s = .next s) ∧
    (∃ t, exec .vaonApplied s = .next t ∧ t.power.vaon = true ∧ t.power.core = false ∧ t.railState 0 = 1 ∧ wiped t ∧
      t.reg 0x003080 = s.reg 0x003080) ∧
    (∃ t, exec .vaonLoss s = .next t ∧ t.power.vaon = false ∧ t.power.core = false ∧ wiped t ∧ t.reg 0x003080 = s.reg 0x003080) ∧
    (s.power.core = true → ∃ t, exec .rstN s = .next t ∧ kept t) ∧ (s.power.core = false → exec .rstN s = .next s) ∧
    (granted 0x003002 → v.field 12 12 = 0x5E7 → ∃ t, exec (.wardenReset q v) s = .next t ∧ kept t ∧ t.pair.fenced = s.pair.fenced) ∧
    (∀ e, s.fil.trialEnd = some e → (e ≤ s.elapsed → ∃ t, exec .trialExpiry s = .next t ∧ kept t) ∧
      (s.elapsed < e → exec .trialExpiry s = .next s))

/-! ### Boot, update, flash, fuses, tenants -/

/-- Boot, record commands, flash and fuses (R551, R556 to R562, R571, R572, R576): CHOOSE takes RECOVERY, slot 0, or the CONFIRMED slot;
a failed load falls back; a passed one runs; a record command that Table 17-10 allows starts a record write, another is
refused; a flash operation starts within its limits and ends with its RESULT; fuses burn, revoke and only rise.
Model's readings, no rules of the spec: the order of boot records and refusals (log 77, 83, 84). -/
def Obligations.BootFlashAndFuses : Prop :=
  ∀ (s : State) (q : Req) (v : Word) (slot n : Nat) (e : LoadErr),
    let phase := fun (t : State) => t.regField 0x003000 21 3
    let granted := fun (a : Nat) => Claims.reaches s q ∧ (Claims.arrived s q (.regwr a v)).mayWarden q a = true
    let upd := fun (t : State) (j : UpdJob) => t.fil.upd = some j ∧ t.updBusy = true ∧ .rsp (rspOf q 0) ∈ t.flight
    let open_ := s.power.core = true ∧ s.power.seq = none
    (open_ → s.fil.boot = none → phase s = 0 →
      (∃ t, exec (.bootChoose true) s = .next t ∧ phase t = 3 ∧ t.fil.boot = none) ∧
      (s.newestRecord = none → ∃ t, exec (.bootChoose false) s = .next t ∧ phase t = 1 ∧ t.fil.boot = some ⟨0, false, false, true, false⟩) ∧
      (∀ r f, s.newestRecord = some r → s.flashRecord = some f → recNewer r f = false → recState r 0 ≠ 3 → recState r 1 ≠ 3 →
        recState r 0 ≠ 4 → recState r 1 ≠ 4 → ∃ t, exec (.bootChoose false) s = .next t ∧ phase t = 1 ∧
          t.fil.boot = some ⟨if recState r 0 = 5 then 0 else 1, false, false, false, false⟩)) ∧
    (phase s ≠ 0 → exec (.bootChoose true) s = .next s ∧ exec (.bootChoose false) s = .next s) ∧
    (s.fil.boot = none → exec (.imageLoad false false [] []) s = .next s) ∧
    (∀ j, s.fil.boot = some j → open_ → s.fil.upd = none →
      (j.passed = false → exec (.imageLoad true false [] []) s = .next (s.bootFails j ⟨10, 0, 0⟩)) ∧
      (j.passed = false → s.firstPass (s.slotImage j.slot) = some e → exec (.imageLoad false false [] []) s = .next (s.bootFails j e)) ∧
      (j.passed = true → ∃ t, exec (.imageLoad false false [] []) s = .next t ∧ phase t = 2 ∧ t.fil.boot = none ∧
        (t.fil.trialEnd.isSome = j.trial))) ∧
    (granted 0x003021 → s.wbuf q.master 0x003020 = [] → s.updBusy = false → v.bit 7 = false → v.field 20 1 = slot → ∀ r,
      s.newestRecord = some r →
      let after := fun (cmd : Nat) => recCommand r cmd slot (v.field 8 8) (s.reg 0x003020) (s.regBit 0x003000 16)
      let refused := fun (i : Instr) (cmd : Nat) => v.field 21 3 = cmd → after cmd = none → ∃ t, exec i s = .next t ∧
        upd t ⟨1, none, false, none⟩ ∧ t.fil.flash = s.fil.flash
      let starts := fun (i : Instr) (cmd : Nat) => v.field 21 3 = cmd → ∀ r1, after cmd = some r1 → ∃ t, exec i s = .next t ∧
        upd t ⟨0, some (s.writeCopy, recCopy r1), decide (cmd = 6), none⟩ ∧ t.fil.flash = (s.eraseSector s.writeCopy).fil.flash
      refused (.updBegin q v) 1 ∧ refused (.updVerify q v) 2 ∧ refused (.updArm q v) 3 ∧ refused (.updDisarm q v) 4 ∧
      refused (.updConfirm q v) 5 ∧ refused (.updReject q v) 6 ∧ refused (.updErase q v) 7 ∧
      starts (.updBegin q v) 1 ∧ starts (.updArm q v) 3 ∧ starts (.updDisarm q v) 4 ∧ starts (.updReject q v) 6 ∧
      starts (.updErase q v) 7 ∧
      (v.field 21 3 = 5 → ∀ r1, after 5 = some r1 → ∃ t, exec (.updConfirm q v) s = .next t ∧ t.fil.trialEnd = none ∧
        upd t ⟨0, some (s.writeCopy, recCopy r1), false, if (s.slotImage slot).svnBurn then some (s.slotImage slot).svn else none⟩) ∧
      (v.field 21 3 = 2 → ∀ r1, after 2 = some r1 → s.firstPass (s.slotImage slot) = none → ∃ t, exec (.updVerify q v) s = .next t ∧
        upd t ⟨0, some (s.writeCopy, recCopy (r1.set (4 + slot) (BitVec.ofNat 24 (s.slotImage slot).svn))), false, none⟩)) ∧
    (granted 0x003021 → s.wbuf q.master 0x003020 = [] → s.updBusy = false → v.bit 7 = true → v.field 21 3 = 0 →
      ∃ t, exec (.clrc q v) s = .next t ∧ ∀ k, k < 32 → t.reg (0x002080 + k) = 0) ∧
    (s.fil.upd = none → exec (.recordCommandEnd true) s = .next s) ∧
    (∀ j, s.fil.upd = some j → s.updBusy = true → j.reset = false → j.svn = none → j.result < 8 →
      (∃ t, exec (.recordCommandEnd true) s = .next t ∧ t.updBusy = false ∧ t.regField 0x003021 16 3 = j.result ∧ t.fil.upd = none ∧
        ∀ k c, j.write = some (k, c) → c.length = 32 → t.flashCopy k = c) ∧
      (∀ k c, j.write = some (k, c) → ∃ t, exec (.recordCommandEnd false) s = .next t ∧ t.updBusy = false ∧
        t.regField 0x003021 16 3 = 3 ∧ t.fil.upd = none)) ∧
    (∀ a d k : Word, granted 0x003027 → s.wbuf q.master 0x003024 = [(0, a), (1, d), (2, k)] → v.bit 18 = false → s.fil.flashOp = none →
      let addr := 16 * a.toNat
      let len := 3 * k.toNat
      let runs := fun (i : Instr) (op : Nat) => v.field 22 2 = op → (addr + len ≤ s.fil.flashSize → op = 3 ∨ s.flashMay addr len = true →
          ∃ t, exec i s = .next t ∧ t.fil.flashOp = some ⟨op, addr, k.toNat, some (16 * d.toNat)⟩ ∧ t.regBit 0x003027 21 = true) ∧
        (s.fil.flashSize < addr + len → ∃ t, exec i s = .next t ∧ t.fil.flashOp = none ∧ t.regField 0x003027 19 2 = 1)
      runs (.flashErase q v) 1 ∧ runs (.flashProgram q v) 2 ∧ runs (.flashRead q v) 3) ∧
    (s.fil.flashOp = none → exec (.flashOpDone true) s = .next s) ∧
    (∀ j, s.fil.flashOp = some j →
      (∃ t, exec (.flashOpDone false) s = .next t ∧ t.fil.flashOp = none ∧ t.regBit 0x003027 21 = false ∧ t.regField 0x003027 19 2 = 2) ∧
      (j.op = 3 → j.words = 1 → j.ddr = none → ∃ t, exec (.flashOpDone true) s = .next t ∧ t.reg 0x003100 = s.flashWord j.addr ∧
        t.regBit 0x003027 21 = false ∧ t.fil.flash = s.fil.flash) ∧
      (j.op = 1 → j.addr % 65536 = 0 → j.words = 1 → ∃ t, exec (.flashOpDone true) s = .next t ∧
        (∀ b, b / 65536 = j.addr / 65536 → t.flashAt b = 0xFF) ∧ (∀ b, b / 65536 ≠ j.addr / 65536 → t.flashAt b = s.flashAt b))) ∧
    (granted 0x0030C1 → v.field 12 12 = 0xF05 →
      (v.field 10 2 = 1 → ∃ t, exec (.fuseBurn q v) s = .next t ∧ t.regBit 0x003080 (20 + v.field 8 2) = true) ∧
      (v.field 10 2 = 2 → ∃ t, exec (.fuseRevoke q v) s = .next t ∧
        (s.liveKeys ≠ [v.field 8 2] → t.regBit 0x003080 (16 + v.field 8 2) = true) ∧
        (s.liveKeys = [v.field 8 2] → t.reg 0x003080 = s.reg 0x003080)) ∧
      (v.field 10 2 = 3 → ∃ t, exec (.fuseRaiseSvn q v) s = .next t ∧
        t.regField 0x003080 0 8 = max (s.regField 0x003080 0 8) (v.field 0 8)))

/-- Tenants and their exchange (R557, R564 to R568, R579): START makes a STOPPED tenant RUNNING, STOP stops it; GO starts loading and
marks a RUNNING tenant EXCHANGING, ABORT ends it; a bad image is rejected, a good one waits for T_switch; the switch leads to
the drain, and its end ends the exchange.
Model's readings, no rules of the spec: when records are placed, and refused writes (log 81, 82). -/
def Obligations.TenantsAndExchange : Prop :=
  ∀ (s : State) (q : Req) (n : Nat) (v w : Word) (x : Exchange), n < 512 →
    let granted := fun (a : Nat) => Claims.reaches s q ∧ (Claims.arrived s q (.regwr a v)).mayWarden q a = true
    let first := s.wbuf q.master (Reg.filTen n 0) = [(0, w)]
    let image := s.ddrImage (4096 * (s.reg 0x003040).toNat)
    (granted (Reg.filTen n 1) → first → w.bit 18 = true → w.bit 17 = false → s.tenState n = 1 → n ∈ s.fil.started →
      ∃ t, exec (.tenantStart q n v) s = .next t ∧ t.tenState n = 2 ∧ .rsp (rspOf q 0) ∈ t.flight) ∧
    (granted (Reg.filTen n 1) → first → w.bit 18 = true → w.bit 17 = false → s.tenState n = 1 → n ∉ s.fil.started →
      s.tenantCells n = [] → s.imageTasks n = [] → s.initOf n = [] →
      ∃ t, exec (.tenantStart q n v) s = .next t ∧ t.tenState n = 2 ∧ n ∈ t.fil.started) ∧
    (granted (Reg.filTen n 1) → first → w.bit 18 = false → w.bit 17 = true → s.tenState n = 2 →
      ∃ t, exec (.tenantStop (some q) n v) s = .next t ∧ t.tenState n = 1 ∧ .rsp (rspOf q 0) ∈ t.flight) ∧
    (s.tenState n = 2 → ∃ t, exec (.tenantStop none n v) s = .next t ∧ t.tenState n = 1) ∧
    (granted 0x003046 → s.wbuf q.master 0x003040 = [] → v.bit 23 = true → v.field 0 9 = n →
      (s.xState = 0 ∨ s.xState = 4 ∨ s.xState = 5 → ∃ t, exec (.exchangeGo q v) s = .next t ∧ t.xState = 1 ∧
        (∃ y, t.fil.exchange = some y ∧ y.tenant = n ∧ y.tsw = Triple.ofWords (s.reg 0x003041) (s.reg 0x003042) (s.reg 0x003043)) ∧
        (s.tenState n = 2 → t.tenState n = 3)) ∧
      (s.xState = 1 ∨ s.xState = 2 ∨ s.xState = 3 → ∃ t, exec (.exchangeGo q v) s = .next t ∧ t.xState = s.xState ∧
        t.fil.exchange = s.fil.exchange)) ∧
    (s.fil.exchange = none → exec .exchangeLoaded s = .next s ∧ exec .tSwitch s = .next s ∧ exec .drainEnd s = .next s) ∧
    (s.fil.exchange = some x → x.tenant < 512 →
      (granted 0x003046 → s.wbuf q.master 0x003040 = [] → v.bit 23 = false → v.bit 22 = true → s.xState = 1 ∨ s.xState = 2 →
        ∃ t, exec (.exchangeAbort q v) s = .next t ∧ t.xState = 5 ∧ t.fil.exchange = none ∧
          (x.running = true → t.tenState x.tenant = 2)) ∧
      (s.xState = 1 →
        (∀ e, s.checkImage image (some x.tenant) = some e → ∃ t, exec .exchangeLoaded s = .next t ∧ t.xState = 5 ∧
          t.fil.exchange = none ∧ (x.running = true → t.tenState x.tenant = 2)) ∧
        (let r := s.placeAll { x with old := s.oldRegs x.tenant } image
         s.checkImage image (some x.tenant) = none → s.exchangeOk r.1 image x.tenant = true →
          s.time.toNat + usTicks 100 ≤ x.tsw.toNat → ∃ t, exec .exchangeLoaded s = .next t ∧ t.xState = 2 ∧
            t.fil.exchange = some r.2)) ∧
      (s.xState = 2 → (x.tsw ≤ s.time → ∃ t, exec .tSwitch s = .next t ∧ t.xState = 3) ∧
        (¬ x.tsw ≤ s.time → exec .tSwitch s = .next s)) ∧
      (s.xState = 3 → x.tsw.toNat + usTicks x.drain ≤ s.time.toNat ∨ s.oldContexts x.tenant = [] →
        ∃ t, exec .drainEnd s = .next t ∧ t.xState = 4 ∧ t.fil.exchange = none))

/-! ### The block as a whole -/

/-- A step takes the command at the front of the queue: it is what the command does to the state with the queue's rest; without
a command the block idles (the model's own choice).
Model's readings, no rules of the spec: the idle step (log 1). -/
def Obligations.StepRunsTheFrontCommand : Prop :=
  (∀ (c : Instr) (s : State), step { s with pending := c :: s.pending } = exec c s) ∧
    (∀ s : State, s.pending = [] → step s = .next s)

/-- The state after reset meets the invariant; nothing is in flight, queued or logged, every context and task is FREE, and no
frame is allocated.
Model's readings, no rules of the spec: fields for which the spec gives no reset value read zero (log 7, 8). -/
def Obligations.ResetMeetsTheInvariant : Prop :=
  State.reset.wf ∧ State.reset.pending = [] ∧ State.reset.flight = [] ∧ State.reset.evlog = [] ∧
    (∀ c : CtxId, (State.reset.ctx c).state = .free) ∧ (∀ n, (State.reset.task n).st = .free) ∧
    (∀ f, (State.reset.frame f).alloc = false) ∧ (∀ n, (State.reset.queue n).packets = []) ∧
    (∀ l, (State.reset.locket l).st = 0 ∧ (State.reset.locket l).owner = 0) ∧ (∀ l, State.reset.dirOf l = DirEntry.idle)

/-- What every step keeps: the memories in their canonical form, with legacy words of 16 bits; the member and the number of the
die; and the commands that wait behind the one taken, in their order. -/
def Obligations.StepKeepsTheInvariant : Prop :=
  ∀ s t : State, s.wf → step s = .next t →
    t.wf ∧ t.member = s.member ∧ t.die = s.die ∧ t.pending = s.pending.tail
end

