-- ==== Sys2Proof/Laws/Map.lean ====
section
/-! SUPPORT. Lemmas about the canonical lists that hold memories and tables: reading after writing, and that every
operation keeps the canonical form. -/

namespace Sys2Proof

variable {α : Type}

theorem Map.get_erase (d : Nat → α) (m : Map α) (k j : Nat) :
    Map.get d (Map.erase m k) j = if j = k then d j else Map.get d m j := by
  induction m with
  | nil => simp [Map.erase, Map.get]
  | cons e m ih =>
    obtain ⟨i, v⟩ := e
    by_cases h : k = i
    · subst h
      simp only [Map.erase, if_true, ih, Map.get]
      by_cases hj : j = k <;> simp [hj]
    · simp only [Map.erase, if_neg h, Map.get, ih]
      by_cases hi : j = i
      · subst hi
        simp [Ne.symm h]
      · simp [hi]

theorem Map.above_erase {n : Nat} {m : Map α} {k : Nat} (h : Map.above n m = true) : Map.above n (Map.erase m k) = true := by
  induction m with
  | nil => rfl
  | cons e m ih =>
    obtain ⟨i, v⟩ := e
    simp only [Map.above, Bool.and_eq_true] at h
    unfold Map.erase
    split
    · exact ih h.2
    · simp only [Map.above, Bool.and_eq_true]
      exact ⟨h.1, ih h.2⟩

theorem Map.above_put {n k : Nat} {v : α} {m : Map α} (hk : n < k) (h : Map.above n m = true) :
    Map.above n (Map.put k v m) = true := by
  induction m with
  | nil => simp [Map.put, Map.above, hk]
  | cons e m ih =>
    obtain ⟨i, w⟩ := e
    simp only [Map.above, Bool.and_eq_true] at h
    unfold Map.put
    split
    · simp [Map.above, hk, h.1, h.2] <;> simpa using h.1
    · simp only [Map.above, Bool.and_eq_true]
      exact ⟨h.1, ih h.2⟩

theorem Map.above_filter {n : Nat} {m : Map α} (p : Nat × α → Bool) (h : Map.above n m = true) :
    Map.above n (m.filter p) = true := by
  induction m with
  | nil => rfl
  | cons e m ih =>
    obtain ⟨i, w⟩ := e
    simp only [Map.above, Bool.and_eq_true] at h
    rw [List.filter_cons]
    split
    · simp only [Map.above, Bool.and_eq_true]
      exact ⟨h.1, ih h.2⟩
    · exact ih h.2

theorem Map.above_mono {n k : Nat} {m : Map α} (hk : n < k) (h : Map.above k m = true) : Map.above n m = true := by
  induction m with
  | nil => rfl
  | cons e m ih =>
    obtain ⟨i, w⟩ := e
    simp only [Map.above, Bool.and_eq_true, decide_eq_true_eq] at h ⊢
    exact ⟨by omega, ih h.2⟩

theorem Map.get_above (d : Nat → α) {m : Map α} {k j : Nat} (h : Map.above k m = true) (hj : j ≤ k) :
    Map.get d m j = d j := by
  induction m with
  | nil => rfl
  | cons e m ih =>
    obtain ⟨i, w⟩ := e
    simp only [Map.above, Bool.and_eq_true, decide_eq_true_eq] at h
    simp only [Map.get, if_neg (show ¬ j = i by omega)]
    exact ih h.2

/-- Key `k` is not in the list. -/
def Map.free (k : Nat) : Map α → Prop
  | [] => True
  | (j, _) :: m => j ≠ k ∧ Map.free k m

theorem Map.free_erase (m : Map α) (k : Nat) : Map.free k (Map.erase m k) := by
  induction m with
  | nil => trivial
  | cons e m ih =>
    obtain ⟨i, v⟩ := e
    unfold Map.erase
    split
    · exact ih
    · exact ⟨fun e => by omega, ih⟩

theorem Map.get_put (d : Nat → α) {m : Map α} {k j : Nat} {v : α} (hf : Map.free k m) :
    Map.get d (Map.put k v m) j = if j = k then v else Map.get d m j := by
  induction m with
  | nil => simp [Map.put, Map.get]
  | cons e m ih =>
    obtain ⟨i, w⟩ := e
    unfold Map.put
    split
    · simp only [Map.get]
    · simp only [Map.get, ih hf.2]
      have := hf.1
      by_cases hj : j = k
      · subst hj; simp [Ne.symm this]
      · simp [hj]

variable [DecidableEq α] {d : Nat → α}

theorem Map.wf_erase {m : Map α} {k : Nat} (h : Map.wf d m = true) : Map.wf d (Map.erase m k) = true := by
  induction m with
  | nil => rfl
  | cons e m ih =>
    obtain ⟨i, v⟩ := e
    simp only [Map.wf, Bool.and_eq_true] at h
    unfold Map.erase
    split
    · exact ih h.2
    · simp only [Map.wf, Bool.and_eq_true]
      exact ⟨⟨Map.above_erase h.1.1, h.1.2⟩, ih h.2⟩

theorem Map.wf_filter {m : Map α} (p : Nat × α → Bool) (h : Map.wf d m = true) : Map.wf d (m.filter p) = true := by
  induction m with
  | nil => rfl
  | cons e m ih =>
    obtain ⟨i, v⟩ := e
    simp only [Map.wf, Bool.and_eq_true] at h
    rw [List.filter_cons]
    split
    · simp only [Map.wf, Bool.and_eq_true]
      exact ⟨⟨Map.above_filter p h.1.1, h.1.2⟩, ih h.2⟩
    · exact ih h.2

theorem Map.wf_put {m : Map α} {k : Nat} {v : α} (hv : v ≠ d k) (hf : Map.free k m) (h : Map.wf d m = true) :
    Map.wf d (Map.put k v m) = true := by
  induction m with
  | nil => simp [Map.put, Map.wf, Map.above, hv]
  | cons e m ih =>
    obtain ⟨i, w⟩ := e
    simp only [Map.wf, Bool.and_eq_true] at h
    unfold Map.put
    split
    · rename_i hk
      simp only [Map.wf, Map.above, Bool.and_eq_true, decide_eq_true_eq]
      exact ⟨⟨⟨hk, Map.above_mono hk h.1.1⟩, hv⟩, ⟨h.1.1, by simpa using h.1.2⟩, h.2⟩
    · rename_i hk
      simp only [Map.wf, Bool.and_eq_true]
      have := hf.1
      exact ⟨⟨Map.above_put (by omega) h.1.1, h.1.2⟩, ih hf.2 h.2⟩

/-- Writing keeps the canonical form. -/
theorem Map.wf_set {m : Map α} {k : Nat} {v : α} (h : Map.wf d m = true) : Map.wf d (Map.set d m k v) = true := by
  unfold Map.set
  split
  · exact Map.wf_erase h
  · rename_i hv
    exact Map.wf_put hv (Map.free_erase m k) (Map.wf_erase h)

/-- What a key reads as after a write: the word written at its own key, and every other key as before. -/
theorem Map.get_set {m : Map α} {k j : Nat} {v : α} :
    Map.get d (Map.set d m k v) j = if j = k then v else Map.get d m j := by
  unfold Map.set
  split
  · rename_i hv
    rw [Map.get_erase]
    by_cases hj : j = k
    · subst hj; simp [hv]
    · simp [hj]
  · rw [Map.get_put d (Map.free_erase m k), Map.get_erase]
    by_cases hj : j = k <;> simp [hj]

@[simp] theorem Map.get_set_self {m : Map α} {k : Nat} {v : α} : Map.get d (Map.set d m k v) k = v := by
  rw [Map.get_set, if_pos rfl]

theorem Map.get_set_other {m : Map α} {k j : Nat} {v : α} (hj : j ≠ k) :
    Map.get d (Map.set d m k v) j = Map.get d m j := by
  rw [Map.get_set, if_neg hj]

omit [DecidableEq α] in
theorem Map.erase_erase (m : Map α) (k : Nat) : Map.erase (Map.erase m k) k = Map.erase m k := by
  induction m with
  | nil => rfl
  | cons e m ih =>
    obtain ⟨i, w⟩ := e
    by_cases h : k = i
    · simp only [Map.erase, if_pos h, ih]
    · simp only [Map.erase, if_neg h, ih]

omit [DecidableEq α] in
theorem Map.erase_put {m : Map α} {k : Nat} {v : α} (hf : Map.free k m) : Map.erase (Map.put k v m) k = Map.erase m k := by
  induction m with
  | nil => simp [Map.put, Map.erase]
  | cons e m ih =>
    obtain ⟨i, w⟩ := e
    have hi : ¬ k = i := fun h => hf.1 h.symm
    unfold Map.put
    split
    · simp only [Map.erase, if_neg hi, if_true]
    · simp only [Map.erase, if_neg hi, ih hf.2]

/-- The later of two writes of one key stands. -/
@[simp] theorem Map.set_set {m : Map α} {k : Nat} {v w : α} : Map.set d (Map.set d m k v) k w = Map.set d m k w := by
  have h : Map.erase (Map.set d m k v) k = Map.erase m k := by
    unfold Map.set
    split
    · exact Map.erase_erase m k
    · rw [Map.erase_put (Map.free_erase m k), Map.erase_erase]
  unfold Map.set at h ⊢
  simp only [h]

end Sys2Proof
end

