-- ==== Sys2Proof/Laws/Memory.lean ====
section
/-! SUPPORT. Writing a word of a memory keeps its canonical form (Memory.wf). -/

namespace Sys2Proof

theorem Map.all_set {α : Type} [DecidableEq α] {d : Nat → α} {m : Map α} {k : Nat} {v : α} {p : α → Bool}
    (h : m.all (fun e => p e.2) = true) (hv : p v = true) : (Map.set d m k v).all (fun e => p e.2) = true := by
  have he : (Map.erase m k).all (fun e => p e.2) = true := by
    clear hv
    induction m with
    | nil => rfl
    | cons e m ih =>
      simp only [List.all_cons, Bool.and_eq_true] at h
      unfold Map.erase
      split
      · exact ih h.2
      · simp only [List.all_cons, Bool.and_eq_true]; exact ⟨h.1, ih h.2⟩
  unfold Map.set
  split
  · exact he
  · clear h
    generalize Map.erase m k = n at he
    induction n with
    | nil => simpa [Map.put] using hv
    | cons e n ih =>
      simp only [List.all_cons, Bool.and_eq_true] at he
      unfold Map.put
      split <;> simp only [List.all_cons, Bool.and_eq_true]
      · exact ⟨hv, he⟩
      · exact ⟨he.1, ih he.2⟩

end Sys2Proof

namespace Sys2Proof.Machine

theorem memory_wf_iff {m : Memory} : m.wf = true ↔
    Map.wf (fun _ => 0) m.spad = true ∧ Map.wf (fun _ => false) m.written = true ∧ Map.wf (fun _ => 0) m.rowCorr = true ∧
    Map.wf (fun _ => false) m.poisoned = true ∧ Map.wf (fun _ => (⟨0, 0⟩ : Tester)) m.tester = true ∧
    Map.wf (fun _ => 0) m.ddr = true ∧ Map.wf (fun _ => 0) m.scrub = true ∧ Map.wf (fun _ => 0) m.legacy = true ∧
    m.legacy.all (fun e => decide (e.2.toNat < 65536)) = true := by
  simp only [Memory.wf, Bool.and_eq_true, and_assoc]

theorem memory_wf_spad {m : Memory} {k : Nat} {v : Word} (h : m.wf = true) :
    Memory.wf { m with spad := Map.set (fun _ => 0) m.spad k v } = true := by
  rw [memory_wf_iff] at h ⊢; exact ⟨Map.wf_set h.1, h.2⟩

theorem memory_wf_written {m : Memory} {k : Nat} {v : Bool} (h : m.wf = true) :
    Memory.wf { m with written := Map.set (fun _ => false) m.written k v } = true := by
  rw [memory_wf_iff] at h ⊢; exact ⟨h.1, Map.wf_set h.2.1, h.2.2⟩

theorem memory_wf_rowCorr {m : Memory} {k : Nat} {v : Nat} (h : m.wf = true) :
    Memory.wf { m with rowCorr := Map.set (fun _ => 0) m.rowCorr k v } = true := by
  rw [memory_wf_iff] at h ⊢; exact ⟨h.1, h.2.1, Map.wf_set h.2.2.1, h.2.2.2⟩

theorem memory_wf_poisoned {m : Memory} {k : Nat} {v : Bool} (h : m.wf = true) :
    Memory.wf { m with poisoned := Map.set (fun _ => false) m.poisoned k v } = true := by
  rw [memory_wf_iff] at h ⊢; exact ⟨h.1, h.2.1, h.2.2.1, Map.wf_set h.2.2.2.1, h.2.2.2.2⟩

theorem memory_wf_tester {m : Memory} {k : Nat} {v : Tester} (h : m.wf = true) :
    Memory.wf { m with tester := Map.set (fun _ => (⟨0, 0⟩ : Tester)) m.tester k v } = true := by
  rw [memory_wf_iff] at h ⊢; exact ⟨h.1, h.2.1, h.2.2.1, h.2.2.2.1, Map.wf_set h.2.2.2.2.1, h.2.2.2.2.2⟩

theorem memory_wf_ddr {m : Memory} {k : Nat} {v : Word} (h : m.wf = true) :
    Memory.wf { m with ddr := Map.set (fun _ => 0) m.ddr k v } = true := by
  rw [memory_wf_iff] at h ⊢; exact ⟨h.1, h.2.1, h.2.2.1, h.2.2.2.1, h.2.2.2.2.1, Map.wf_set h.2.2.2.2.2.1, h.2.2.2.2.2.2⟩

theorem memory_wf_scrub {m : Memory} {k : Nat} {v : Nat} (h : m.wf = true) :
    Memory.wf { m with scrub := Map.set (fun _ => 0) m.scrub k v } = true := by
  rw [memory_wf_iff] at h ⊢
  exact ⟨h.1, h.2.1, h.2.2.1, h.2.2.2.1, h.2.2.2.2.1, h.2.2.2.2.2.1, Map.wf_set h.2.2.2.2.2.2.1, h.2.2.2.2.2.2.2⟩

theorem memory_wf_legacy {m : Memory} {k : Nat} {v : Word} (h : m.wf = true) (hv : v.toNat < 65536) :
    Memory.wf { m with legacy := Map.set (fun _ => 0) m.legacy k v } = true := by
  rw [memory_wf_iff] at h ⊢
  obtain ⟨h1, h2, h3, h4, h5, h6, h7, h8, h9⟩ := h
  exact ⟨h1, h2, h3, h4, h5, h6, h7, Map.wf_set h8, Map.all_set (d := fun _ => (0 : Word)) (p := fun (v : Word) => decide (v.toNat < 65536)) h9 (by simpa using hv)⟩

theorem legacyWord_lt (v : Word) : (v &&& 0x00FFFF).toNat < 65536 := by
  rw [BitVec.toNat_and]
  exact Nat.lt_of_le_of_lt Nat.and_le_right (by decide)

end Sys2Proof.Machine
end

