-- ==== Sys2Proof/Laws/Keep.lean ====
section
/-! SUPPORT. What every step keeps, as a relation between the state that a command found and one on its way, and the
steps that such a proof takes. -/

namespace Sys2Proof.Machine

/-- `s` is the die that `o` is, with the same commands waiting, and its memories are canonical. -/
structure Keep (o s : State) : Prop where
  pending : s.pending = o.pending
  member : s.member = o.member
  die : s.die = o.die
  mem : s.memory.wf = true

structure KeepO (o : State) (x : Option State) : Prop where
  of : ∀ t, x = some t → Keep o t
structure KeepX (o : State) (x : Out) : Prop where
  of : ∀ t, x = .next t → Keep o t
structure KeepOX (o : State) (x : Option Out) : Prop where
  of : ∀ y, x = some y → KeepX o y
structure KeepOP2 {α : Type} (o : State) (x : Option (α × State)) : Prop where
  of : ∀ a t, x = some (a, t) → Keep o t
structure KeepOP1 {α : Type} (o : State) (x : Option (State × α)) : Prop where
  of : ∀ t a, x = some (t, a) → Keep o t

section
variable {o s t : State}
theorem keep_ite {c : Prop} [Decidable c] (h1 : Keep o s) (h2 : Keep o t) : Keep o (if c then s else t) := by split <;> assumption
theorem keep_same (h : Keep o s) {a b c d e f g i j k l m n p q r u v w x y z a1} :
    Keep o ⟨s.pending, s.member, s.die, a, b, c, d, e, f, g, i, j, s.memory, k, l, m, n, p, q, r, u, v, w, x, y, z, a1⟩ := ⟨h.1, h.2, h.3, h.4⟩
theorem keep_foldl {α : Type} {f : State → α → State} {l : List α} (h : Keep o s) (hf : ∀ s a, Keep o s → Keep o (f s a)) :
    Keep o (l.foldl f s) := by
  induction l generalizing s with
  | nil => exact h
  | cons a l ih => exact ih (hf s a h)
theorem keep_ite1 {α : Type} {c : Prop} [Decidable c] {x y : State × α} (h1 : Keep o x.1) (h2 : Keep o y.1) : Keep o (if c then x else y).1 := by split <;> assumption
theorem keep_ite2 {α : Type} {c : Prop} [Decidable c] {x y : α × State} (h1 : Keep o x.2) (h2 : Keep o y.2) : Keep o (if c then x else y).2 := by split <;> assumption
theorem keep_foldl1 {α β : Type} {f : State × β → α → State × β} {l : List α} {x : State × β} (h : Keep o x.1)
    (hf : ∀ x a, Keep o x.1 → Keep o (f x a).1) : Keep o (l.foldl f x).1 := by
  induction l generalizing x with
  | nil => exact h
  | cons a l ih => exact ih (hf x a h)
theorem keepO_none : KeepO o none := ⟨fun _ e => by cases e⟩
theorem keepO_some (h : Keep o s) : KeepO o (some s) := ⟨fun _ e => by cases e; exact h⟩
theorem keepO_ite {c : Prop} [Decidable c] {a b : Option State} (h1 : KeepO o a) (h2 : KeepO o b) : KeepO o (if c then a else b) := by split <;> assumption
theorem keepX_next (h : Keep o s) : KeepX o (.next s) := ⟨fun _ e => by cases e; exact h⟩
theorem keepX_fault {f : Fault} : KeepX o (.fault f) := ⟨fun _ e => by cases e⟩
theorem keepX_ite {c : Prop} [Decidable c] {a b : Out} (h1 : KeepX o a) (h2 : KeepX o b) : KeepX o (if c then a else b) := by split <;> assumption
theorem keepOX_none : KeepOX o none := ⟨fun _ e => by cases e⟩
theorem keepOX_some {x : Out} (h : KeepX o x) : KeepOX o (some x) := ⟨fun _ e => by cases e; exact h⟩
theorem keepOX_ite {c : Prop} [Decidable c] {a b : Option Out} (h1 : KeepOX o a) (h2 : KeepOX o b) : KeepOX o (if c then a else b) := by split <;> assumption
theorem keepOP2_none {α : Type} : KeepOP2 (α := α) o none := ⟨fun _ _ e => by cases e⟩
theorem keepOP2_some {α : Type} {a : α} (h : Keep o s) : KeepOP2 o (some (a, s)) := ⟨fun _ _ e => by cases e; exact h⟩
theorem keepOP1_none {α : Type} : KeepOP1 (α := α) o none := ⟨fun _ _ e => by cases e⟩
theorem keepOP1_some {α : Type} {a : α} (h : Keep o s) : KeepOP1 o (some (s, a)) := ⟨fun _ _ e => by cases e; exact h⟩
theorem keep_ofO {x : Option State} (h : KeepO o x) (e : x = some t) : Keep o t := h.of t e
theorem keep_ofX {x : Out} (h : KeepX o x) (e : x = .next t) : Keep o t := h.of t e
theorem keep_ofOX {x : Option Out} {y : Out} (h : KeepOX o x) (e : x = some y) : KeepX o y := h.of y e
theorem keep_ofOP2 {α : Type} {a : α} {x : Option (α × State)} (h : KeepOP2 o x) (e : x = some (a, t)) : Keep o t := h.of a t e
theorem keep_ofOP1 {α : Type} {a : α} {x : Option (State × α)} (h : KeepOP1 o x) (e : x = some (t, a)) : Keep o t := h.of t a e
theorem keepO_getD (h : Keep o s) {x : Option State} (hx : KeepO o x) : Keep o (x.getD s) := by
  cases x with
  | none => exact h
  | some t => exact hx.of t rfl
theorem keep_snd {α : Type} {a : α} {x : α × State} (h : Keep o x.2) (e : x = (a, t)) : Keep o t := by rw [e] at h; exact h
theorem keep_fst {α : Type} {a : α} {x : State × α} (h : Keep o x.1) (e : x = (t, a)) : Keep o t := by rw [e] at h; exact h
end

/-- What an answer of an instruction holds. -/
inductive KeepA (o : State) : Act → Prop
  | raise (k : Cause) : KeepA o (.raise k)
  | stall (b : Bool) : KeepA o (.stall b)
  | bus {t : State} {n : Nat} {a : Word} (h : Keep o t) : KeepA o (.bus t n a)
  | done {t : State} (h : Keep o t) : KeepA o (.done t)
  | goto {t : State} {a : Nat} (h : Keep o t) : KeepA o (.goto t a)
  | leave {t : State} (h : Keep o t) : KeepA o (.leave t)
section
variable {o t : State}
theorem keepA_raise {k : Cause} : KeepA o (.raise k) := .raise k
theorem keepA_stall {b : Bool} : KeepA o (.stall b) := .stall b
theorem keepA_bus {n : Nat} {a : Word} (h : Keep o t) : KeepA o (.bus t n a) := .bus h
theorem keepA_done (h : Keep o t) : KeepA o (.done t) := .done h
theorem keepA_goto {a : Nat} (h : Keep o t) : KeepA o (.goto t a) := .goto h
theorem keepA_leave (h : Keep o t) : KeepA o (.leave t) := .leave h
theorem keep_ofBus {x : Act} {n : Nat} {a : Word} (h : KeepA o x) (e : x = .bus t n a) : Keep o t := by subst e; cases h; assumption
theorem keep_ofDone {x : Act} (h : KeepA o x) (e : x = .done t) : Keep o t := by subst e; cases h; assumption
theorem keep_ofGoto {x : Act} {a : Nat} (h : KeepA o x) (e : x = .goto t a) : Keep o t := by subst e; cases h; assumption
theorem keep_ofLeave {x : Act} (h : KeepA o x) (e : x = .leave t) : Keep o t := by subst e; cases h; assumption
theorem keepA_ite {c : Prop} [Decidable c] {a b : Act} (h1 : KeepA o a) (h2 : KeepA o b) : KeepA o (if c then a else b) := by split <;> assumption
end
section
variable {o s t : State}
theorem keep_mem {m : Memory} (h : Keep o s) (hm : m.wf = true) : Keep o { s with memory := m } := ⟨h.1, h.2, h.3, hm⟩

end
end Sys2Proof.Machine
end

