-- ==== Sys2Proof/Laws/KeepShared.lean ====
section
/-! SUPPORT. One lemma per meaning and operation of the shared operations: it keeps the waiting commands, the member, the die
and the canonical form of the memories. -/

namespace Sys2Proof.Machine

/-! ### Regs -/

theorem State.setReg_keeps {o : State} : ∀ x0 x1 x2, Keep o x0 → Keep o (State.setReg x0 x1 x2) := by
  intro x0 x1 x2 h0
  unfold State.setReg
  with_reducible repeat' (first | (apply keep_same <;> first | assumption))

theorem State.setRegField_keeps {o : State} : ∀ x0 x1 x2 x3 x4, Keep o x0 → Keep o (State.setRegField x0 x1 x2 x3 x4) := by
  intro x0 x1 x2 x3 x4 h0
  unfold State.setRegField
  with_reducible repeat' (first | assumption | apply State.setReg_keeps)

theorem State.bump_keeps {o : State} : ∀ x0 x1, Keep o x0 → Keep o (State.bump x0 x1) := by
  intro x0 x1 h0
  unfold State.bump
  with_reducible repeat' (first | assumption | apply State.setReg_keeps)

theorem State.bumpBy_keeps {o : State} : ∀ x0 x1 x2, Keep o x0 → Keep o (State.bumpBy x0 x1 x2) := by
  intro x0 x1 x2 h0
  unfold State.bumpBy
  with_reducible repeat' (first | assumption | apply State.setReg_keeps)

/-! ### Ops -/

theorem onUnit_keeps {o : State} : ∀ x0 x1 x2 x3, Keep o x0 → Keep o x3 → KeepX o (onUnit x0 x1 x2 x3) := by
  intro x0 x1 x2 x3 h0 h1
  unfold onUnit
  with_reducible repeat' (first | assumption | apply keepX_next | exact keepX_fault | apply keepX_ite)

theorem onCtx_keeps {o : State} : ∀ x0 x1 x2, Keep o x0 → Keep o x2 → KeepX o (onCtx x0 x1 x2) := by
  intro x0 x1 x2 h0 h1
  unfold onCtx
  with_reducible repeat' (first | assumption | apply keepX_next | exact keepX_fault | apply keepX_ite)

theorem State.send_keeps {o : State} : ∀ x0 x1, Keep o x0 → Keep o (State.send x0 x1) := by
  intro x0 x1 h0
  unfold State.send
  with_reducible repeat' (first | (apply keep_same <;> first | assumption))

theorem State.sendAll_keeps {o : State} : ∀ x0 x1, Keep o x0 → Keep o (State.sendAll x0 x1) := by
  intro x0 x1 h0
  unfold State.sendAll
  with_reducible repeat' (first | (apply keep_same <;> first | assumption))

theorem State.take_keeps {o : State} : ∀ x0 x1, Keep o x0 → Keep o (State.take x0 x1) := by
  intro x0 x1 h0
  unfold State.take
  with_reducible repeat' (first | (apply keep_same <;> first | assumption))

theorem State.draw_keeps {o : State} : ∀ x0, Keep o x0 → Keep o (State.draw x0).2 := by
  intro x0 h0
  unfold State.draw
  with_reducible repeat' (first | (apply keep_same <;> first | assumption))

theorem State.log_keeps {o : State} : ∀ x0 x1 x2 x3 x4 x5, Keep o x0 → Keep o (State.log x0 x1 x2 x3 x4 x5) := by
  intro x0 x1 x2 x3 x4 x5 h0
  unfold State.log
  with_reducible repeat' (first | assumption | apply State.send_keeps)

theorem State.setCtx_keeps {o : State} : ∀ x0 x1 x2, Keep o x0 → Keep o (State.setCtx x0 x1 x2) := by
  intro x0 x1 x2 h0
  unfold State.setCtx
  with_reducible repeat' (first | (apply keep_same <;> first | assumption))

theorem State.setSlot_keeps {o : State} : ∀ x0 x1 x2, Keep o x0 → Keep o (State.setSlot x0 x1 x2) := by
  intro x0 x1 x2 h0
  unfold State.setSlot
  with_reducible repeat' (first | (apply keep_same <;> first | assumption))

theorem State.setFrame_keeps {o : State} : ∀ x0 x1 x2, Keep o x0 → Keep o (State.setFrame x0 x1 x2) := by
  intro x0 x1 x2 h0
  unfold State.setFrame
  with_reducible repeat' (first | (apply keep_same <;> first | assumption))

theorem State.setGroup_keeps {o : State} : ∀ x0 x1 x2, Keep o x0 → Keep o (State.setGroup x0 x1 x2) := by
  intro x0 x1 x2 h0
  unfold State.setGroup
  with_reducible repeat' (first | (apply keep_same <;> first | assumption))

theorem State.setPool_keeps {o : State} : ∀ x0 x1 x2, Keep o x0 → Keep o (State.setPool x0 x1 x2) := by
  intro x0 x1 x2 h0
  unfold State.setPool
  with_reducible repeat' (first | (apply keep_same <;> first | assumption))

theorem State.setFiredQ_keeps {o : State} : ∀ x0 x1 x2, Keep o x0 → Keep o (State.setFiredQ x0 x1 x2) := by
  intro x0 x1 x2 h0
  unfold State.setFiredQ
  with_reducible repeat' (first | (apply keep_same <;> first | assumption))

theorem State.setNotices_keeps {o : State} : ∀ x0 x1 x2, Keep o x0 → Keep o (State.setNotices x0 x1 x2) := by
  intro x0 x1 x2 h0
  unfold State.setNotices
  with_reducible repeat' (first | (apply keep_same <;> first | assumption))

theorem State.setHome_keeps {o : State} : ∀ x0 x1 x2, Keep o x0 → Keep o (State.setHome x0 x1 x2) := by
  intro x0 x1 x2 h0
  unfold State.setHome
  with_reducible repeat' (first | (apply keep_same <;> first | assumption))

theorem State.setRl_keeps {o : State} : ∀ x0 x1 x2 x3, Keep o x0 → Keep o (State.setRl x0 x1 x2 x3) := by
  intro x0 x1 x2 x3 h0
  unfold State.setRl
  with_reducible repeat' (first | (apply keep_same <;> first | assumption))

theorem State.setDeficit_keeps {o : State} : ∀ x0 x1 x2 x3, Keep o x0 → Keep o (State.setDeficit x0 x1 x2 x3) := by
  intro x0 x1 x2 x3 h0
  unfold State.setDeficit
  with_reducible repeat' (first | (apply keep_same <;> first | assumption))

theorem State.setTurn_keeps {o : State} : ∀ x0 x1 x2, Keep o x0 → Keep o (State.setTurn x0 x1 x2) := by
  intro x0 x1 x2 h0
  unfold State.setTurn
  with_reducible repeat' (first | (apply keep_same <;> first | assumption))

theorem State.setCreditUsed_keeps {o : State} : ∀ x0 x1 x2, Keep o x0 → Keep o (State.setCreditUsed x0 x1 x2) := by
  intro x0 x1 x2 h0
  unfold State.setCreditUsed
  with_reducible repeat' (first | (apply keep_same <;> first | assumption))

theorem State.setPq_keeps {o : State} : ∀ x0 x1 x2, Keep o x0 → Keep o (State.setPq x0 x1 x2) := by
  intro x0 x1 x2 h0
  unfold State.setPq
  with_reducible repeat' (first | (apply keep_same <;> first | assumption))

theorem State.setTask_keeps {o : State} : ∀ x0 x1 x2, Keep o x0 → Keep o (State.setTask x0 x1 x2) := by
  intro x0 x1 x2 h0
  unfold State.setTask
  with_reducible repeat' (first | (apply keep_same <;> first | assumption))

theorem State.setFlow_keeps {o : State} : ∀ x0 x1 x2, Keep o x0 → Keep o (State.setFlow x0 x1 x2) := by
  intro x0 x1 x2 h0
  unfold State.setFlow
  with_reducible repeat' (first | (apply keep_same <;> first | assumption))

theorem State.activity_keeps {o : State} : ∀ x0 x1, Keep o x0 → Keep o (State.activity x0 x1) := by
  intro x0 x1 h0
  unfold State.activity
  with_reducible repeat' (first | assumption | apply keep_ite | (apply keep_same <;> first | assumption))

theorem State.sevFlag_keeps {o : State} : ∀ x0 x1 x2, Keep o x0 → Keep o (State.sevFlag x0 x1 x2) := by
  intro x0 x1 x2 h0
  unfold State.sevFlag
  with_reducible repeat' (first | assumption | apply keep_ite | apply State.send_keeps)

theorem State.tenantFault_keeps {o : State} : ∀ x0 x1 x2 x3 x4 x5 x6, Keep o x0 → Keep o (State.tenantFault x0 x1 x2 x3 x4 x5 x6) := by
  intro x0 x1 x2 x3 x4 x5 x6 h0
  unfold State.tenantFault
  with_reducible repeat' (first
    | assumption | apply keep_ite | apply State.log_keeps | apply State.bump_keeps | apply State.sevFlag_keeps
    | apply State.send_keeps)

/-! ### PowerOps -/

theorem State.setPower_keeps {o : State} : ∀ x0 x1 x2, Keep o x0 → Keep o (State.setPower x0 x1 x2) := by
  intro x0 x1 x2 h0
  unfold State.setPower
  with_reducible repeat' (first | assumption | apply State.setRegField_keeps)

theorem State.setNodes_keeps {o : State} : ∀ x0 x1 x2, Keep o x0 → Keep o (State.setNodes x0 x1 x2) := by
  intro x0 x1 x2 h0
  unfold State.setNodes
  with_reducible repeat' (first
    | assumption | intro _ | apply keep_ite | apply keep_foldl | apply State.setRegField_keeps)

theorem State.releaseParked_keeps {o : State} : ∀ x0 x1, Keep o x0 → Keep o (State.releaseParked x0 x1) := by
  intro x0 x1 h0
  unfold State.releaseParked
  with_reducible repeat' (first | (apply keep_same <;> first | assumption))

theorem State.openNodes_keeps {o : State} : ∀ x0 x1, Keep o x0 → Keep o (State.openNodes x0 x1) := by
  intro x0 x1 h0
  unfold State.openNodes
  with_reducible repeat' (first
    | assumption | intro _ | apply keep_foldl | apply State.releaseParked_keeps | apply State.setNodes_keeps)

theorem State.setRail_keeps {o : State} : ∀ x0 x1 x2, Keep o x0 → Keep o (State.setRail x0 x1 x2) := by
  intro x0 x1 x2 h0
  unfold State.setRail
  with_reducible repeat' (first | (apply keep_same <;> first | assumption))

theorem State.setRailState_keeps {o : State} : ∀ x0 x1 x2, Keep o x0 → Keep o (State.setRailState x0 x1 x2) := by
  intro x0 x1 x2 h0
  unfold State.setRailState
  with_reducible repeat' (first | assumption | apply State.setRegField_keeps)

theorem State.railAttempt_keeps {o : State} : ∀ x0 x1 x2, Keep o x0 → Keep o (State.railAttempt x0 x1 x2) := by
  intro x0 x1 x2 h0
  unfold State.railAttempt
  with_reducible repeat' (first
    | assumption | apply State.setRailState_keeps | apply State.setRail_keeps | apply State.setRegField_keeps)

theorem State.wakeRails_keeps {o : State} : ∀ x0 x1, Keep o x0 → Keep o (State.wakeRails x0 x1) := by
  intro x0 x1 h0
  unfold State.wakeRails
  with_reducible repeat' (first
    | assumption | intro _ | apply keep_ite | apply keep_foldl | apply State.railAttempt_keeps)

theorem State.startWake_keeps {o : State} : ∀ x0 x1, Keep o x0 → Keep o (State.startWake x0 x1) := by
  intro x0 x1 h0
  unfold State.startWake
  with_reducible repeat' (first | assumption | apply State.wakeRails_keeps | apply State.setPower_keeps)

theorem State.askWake_keeps {o : State} : ∀ x0 x1, Keep o x0 → Keep o (State.askWake x0 x1) := by
  intro x0 x1 h0
  unfold State.askWake
  with_reducible repeat' (first
    | assumption | apply keep_ite | apply State.startWake_keeps | apply State.setRegField_keeps
    | apply State.openNodes_keeps | apply State.bump_keeps | apply State.setPower_keeps | split)

/-! ### StoreOps -/

theorem State.putSlot_keeps {o : State} : ∀ x0 x1 x2 x3 x4 x5, Keep o x0 → Keep o (State.putSlot x0 x1 x2 x3 x4 x5) := by
  intro x0 x1 x2 x3 x4 x5 h0
  unfold State.putSlot
  with_reducible repeat' (first | assumption | apply State.setSlot_keeps)

theorem State.putCpl_keeps {o : State} : ∀ x0 x1 x2 x3, Keep o x0 → Keep o (State.putCpl x0 x1 x2 x3) := by
  intro x0 x1 x2 x3 h0
  unfold State.putCpl
  with_reducible repeat' (first | assumption | apply State.setSlot_keeps)

theorem State.clearCpl_keeps {o : State} : ∀ x0 x1 x2, Keep o x0 → Keep o (State.clearCpl x0 x1 x2) := by
  intro x0 x1 x2 h0
  unfold State.clearCpl
  with_reducible repeat' (first | assumption | apply State.setSlot_keeps)

theorem State.setLwinOut_keeps {o : State} : ∀ x0 x1 x2, Keep o x0 → Keep o (State.setLwinOut x0 x1 x2) := by
  intro x0 x1 x2 h0
  unfold State.setLwinOut
  with_reducible repeat' (first | assumption | apply State.setRegField_keeps)

theorem State.setLwinWaiters_keeps {o : State} : ∀ x0 x1 x2, Keep o x0 → Keep o (State.setLwinWaiters x0 x1 x2) := by
  intro x0 x1 x2 h0
  unfold State.setLwinWaiters
  with_reducible repeat' (first | assumption | apply State.setRegField_keeps)

theorem State.useSlots_keeps {o : State} : ∀ x0 x1 x2, Keep o x0 → Keep o (State.useSlots x0 x1 x2) := by
  intro x0 x1 x2 h0
  unfold State.useSlots
  with_reducible repeat' (first | assumption | apply keep_ite | apply State.setRegField_keeps)

theorem State.dropSlots_keeps {o : State} : ∀ x0 x1 x2, Keep o x0 → Keep o (State.dropSlots x0 x1 x2) := by
  intro x0 x1 x2 h0
  unfold State.dropSlots
  with_reducible repeat' (first | assumption | apply State.setRegField_keeps)

theorem State.clearIndl1_keeps {o : State} : ∀ x0 x1 x2, Keep o x1 → Keep o (State.clearIndl1 x0 x1 x2) := by
  intro x0 x1 x2 h0
  unfold State.clearIndl1
  with_reducible repeat' (first | assumption | apply keep_ite | apply State.setRegField_keeps)

theorem State.clearIndl_keeps {o : State} : ∀ x0 x1, Keep o x0 → Keep o (State.clearIndl x0 x1) := by
  intro x0 x1 h0
  unfold State.clearIndl
  with_reducible repeat' (first | assumption | intro _ | apply keep_foldl | apply State.clearIndl1_keeps)

theorem State.endEpisode_keeps {o : State} : ∀ x0 x1, Keep o x0 → Keep o (State.endEpisode x0 x1) := by
  intro x0 x1 h0
  unfold State.endEpisode
  with_reducible repeat' (first | assumption | apply keep_ite | apply State.clearIndl_keeps)

theorem State.logDiscard_keeps {o : State} : ∀ x0 x1 x2 x3, Keep o x0 → Keep o (State.logDiscard x0 x1 x2 x3) := by
  intro x0 x1 x2 x3 h0
  unfold State.logDiscard
  with_reducible repeat' (first | assumption | apply State.log_keeps)

theorem State.discardToken_keeps {o : State} : ∀ x0 x1 x2 x3, Keep o x0 → Keep o (State.discardToken x0 x1 x2 x3) := by
  intro x0 x1 x2 x3 h0
  unfold State.discardToken
  with_reducible repeat' (first | assumption | apply keep_ite | apply State.bump_keeps | apply State.logDiscard_keeps)

theorem State.fire_keeps {o : State} : ∀ x0 x1 x2 x3 x4 x5 x6, Keep o x0 → Keep o (State.fire x0 x1 x2 x3 x4 x5 x6) := by
  intro x0 x1 x2 x3 x4 x5 x6 h0
  unfold State.fire
  with_reducible repeat' (first
    | assumption | apply keep_ite | apply State.setGroup_keeps | apply State.setNotices_keeps
    | apply State.setFiredQ_keeps | apply State.endEpisode_keeps | apply State.activity_keeps)

theorem State.landReply_keeps {o : State} : ∀ x0 x1, Keep o x0 → Keep o (State.landReply x0 x1) := by
  intro x0 x1 h0
  unfold State.landReply
  with_reducible repeat' (first | assumption | apply keep_ite | apply State.send_keeps)

theorem State.matchToken_keeps {o : State} : ∀ x0 x1, Keep o x0 → Keep o (State.matchToken x0 x1) := by
  intro x0 x1 h0
  unfold State.matchToken
  with_reducible repeat' (first
    | assumption | apply keep_ite | apply State.landReply_keeps | apply State.logDiscard_keeps
    | apply State.bump_keeps | apply State.putSlot_keeps | apply State.putCpl_keeps | apply State.setGroup_keeps
    | apply State.fire_keeps | apply State.clearCpl_keeps | dsimp only | split)

theorem State.acceptToken_keeps {o : State} : ∀ x0 x1, Keep o x0 → Keep o (State.acceptToken x0 x1) := by
  intro x0 x1 h0
  unfold State.acceptToken
  with_reducible repeat' (first
    | assumption | apply State.landReply_keeps | apply State.discardToken_keeps | apply State.matchToken_keeps
    | split)

theorem State.clearOperands_keeps {o : State} : ∀ x0 x1 x2 x3 x4, Keep o x0 → Keep o (State.clearOperands x0 x1 x2 x3 x4) := by
  intro x0 x1 x2 x3 x4
  fun_induction State.clearOperands
  all_goals with_reducible repeat' (first
    | assumption | intro _ | apply State.setSlot_keeps | apply State.clearCpl_keeps | apply_assumption)

theorem State.traceSend_keeps {o : State} : ∀ x0 x1 x2 x3, Keep o x0 → Keep o (State.traceSend x0 x1 x2 x3) := by
  intro x0 x1 x2 x3 h0
  unfold State.traceSend
  with_reducible repeat' (first | assumption | apply State.send_keeps)

theorem State.traceEvent_keeps {o : State} : ∀ x0 x1 x2 x3 x4 x5 x6 x7 x8, Keep o x0 → Keep o (State.traceEvent x0 x1 x2 x3 x4 x5 x6 x7 x8) := by
  intro x0 x1 x2 x3 x4 x5 x6 x7 x8 h0
  unfold State.traceEvent
  with_reducible repeat' (first | assumption | apply keep_ite | apply State.draw_keeps | apply State.traceSend_keeps)

theorem State.flowRecall_keeps {o : State} : ∀ x0 x1, Keep o x0 → Keep o (State.flowRecall x0 x1) := by
  intro x0 x1 h0
  unfold State.flowRecall
  with_reducible repeat' (first
    | assumption | apply State.traceEvent_keeps | apply State.bump_keeps | apply State.activity_keeps
    | (apply keep_same <;> first | apply State.setFlow_keeps) | dsimp only | split)

theorem State.recallFree_keeps {o : State} : ∀ x0 x1, Keep o x0 → Keep o (State.recallFree x0 x1) := by
  intro x0 x1 h0
  unfold State.recallFree
  with_reducible repeat' (first | assumption | apply keep_ite | apply State.flowRecall_keeps)

theorem State.unlistFrame_keeps {o : State} : ∀ x0 x1 x2, Keep o x0 → Keep o (State.unlistFrame x0 x1 x2) := by
  intro x0 x1 x2 h0
  unfold State.unlistFrame
  with_reducible repeat' (first | intro _ | apply keep_foldl | apply State.recallFree_keeps | apply State.bumpBy_keeps | (apply keep_same <;> first | assumption))

theorem State.cancelHeld_keeps {o : State} : ∀ x0 x1 x2, Keep o x0 → Keep o (State.cancelHeld x0 x1 x2) := by
  intro x0 x1 x2 h0
  unfold State.cancelHeld
  with_reducible repeat' (first | assumption | apply State.bumpBy_keeps | apply State.setFiredQ_keeps)

theorem State.joinFree_keeps {o : State} : ∀ x0 x1, Keep o x0 → Keep o (State.joinFree x0 x1) := by
  intro x0 x1 h0
  unfold State.joinFree
  with_reducible repeat' (first
    | assumption | apply keep_ite | apply State.setPool_keeps
    | (apply keep_same <;> first | apply State.setPool_keeps))

theorem State.windowRelease_keeps {o : State} : ∀ x0 x1 x2 x3, Keep o x0 → Keep o (State.windowRelease x0 x1 x2 x3) := by
  intro x0 x1 x2 x3 h0
  unfold State.windowRelease
  with_reducible repeat' (first
    | assumption | apply keep_ite | apply State.setLwinOut_keeps
    | (apply keep_same <;> first | apply State.setLwinOut_keeps))

theorem State.startQuar_keeps {o : State} : ∀ x0 x1, Keep o x0 → Keep o (State.startQuar x0 x1) := by
  intro x0 x1 h0
  unfold State.startQuar
  with_reducible repeat' (first | (apply keep_same <;> first | assumption))

theorem State.releaseFrame_keeps {o : State} : ∀ x0 x1, Keep o x0 → Keep o (State.releaseFrame x0 x1) := by
  intro x0 x1 h0
  unfold State.releaseFrame
  with_reducible repeat' (first
    | assumption | apply keep_ite | apply State.unlistFrame_keeps | apply State.setFrame_keeps
    | apply State.cancelHeld_keeps | apply State.startQuar_keeps | apply State.joinFree_keeps
    | apply State.windowRelease_keeps | apply State.dropSlots_keeps)

theorem State.slotRelease_keeps {o : State} : ∀ x0 x1, Keep o x0 → Keep o (State.slotRelease x0 x1) := by
  intro x0 x1 h0
  unfold State.slotRelease
  with_reducible repeat' (first
    | assumption | apply keep_ite | apply State.clearOperands_keeps | apply State.setGroup_keeps
    | apply State.releaseFrame_keeps)

theorem State.freeFrame_keeps {o : State} : ∀ x0 x1, Keep o x0 → Keep o (State.freeFrame x0 x1) := by
  intro x0 x1 h0
  unfold State.freeFrame
  with_reducible repeat' (first
    | assumption | apply keep_ite | apply State.bump_keeps | apply State.log_keeps | apply State.releaseFrame_keeps)

theorem State.clearSlots_keeps {o : State} : ∀ x0 x1 x2, Keep o x0 → Keep o (State.clearSlots x0 x1 x2) := by
  intro x0 x1 x2
  fun_induction State.clearSlots
  all_goals with_reducible repeat' (first | assumption | intro _ | apply State.setSlot_keeps | apply_assumption)

theorem State.writeGroups_keeps {o : State} : ∀ x0 x1 x2 x3 x4 x5, Keep o x0 → Keep o (State.writeGroups x0 x1 x2 x3 x4 x5) := by
  intro x0 x1 x2 x3 x4 x5
  fun_induction State.writeGroups
  all_goals with_reducible repeat' (first | assumption | intro _ | apply State.setGroup_keeps | apply_assumption)

theorem State.allocFrom_keeps {o : State} : ∀ x0 x1 x2 x3 x4, Keep o x0 → KeepOP2 o (State.allocFrom x0 x1 x2 x3 x4) := by
  intro x0 x1 x2 x3 x4 h0
  unfold State.allocFrom
  with_reducible repeat' (first
    | assumption | exact keepOP2_none | apply keepOP2_some | apply State.setPool_keeps | apply State.setFrame_keeps
    | apply State.clearSlots_keeps | apply State.writeGroups_keeps | apply State.useSlots_keeps | dsimp only | split)

theorem State.allocWalk_keeps {o : State} : ∀ s ow bk t ig sc n, Keep o s → KeepOP2 o (State.allocWalk s ow bk t ig sc n).1 := by
  intro s ow bk t ig sc n h
  induction n generalizing sc with
  | zero => exact keepOP2_none
  | succ n ih =>
    unfold State.allocWalk
    dsimp only
    split
    · split
      · exact State.allocFrom_keeps _ _ _ _ _ h
      · exact ih _
    · split <;> exact ih _

theorem State.allocRun_keeps {o : State} : ∀ x0 x1 x2 x3 x4, Keep o x0 → Keep o (State.allocRun x0 x1 x2 x3 x4).2 := by
  intro s ow bk te t h
  unfold State.allocRun
  have hw := fun (s : State) (hs : Keep o s) sc => State.allocWalk_keeps s ow bk t false sc (sliceCount s.member) hs
  have ha := fun (s : State) (l : List Nat) (hs : Keep o s) => keep_foldl (l := l) hs (fun s n hs => State.askWake_keeps s n hs)
  dsimp only
  split
  · exact h
  · have h1 : ∀ c : Prop, ∀ _ : Decidable c, Keep o (if c then s.setLwinOut t.win (s.lwinOut t.win + 1)
        else s.setHome te ((s.home te + 1) % 4)) := fun c _ =>
      keep_ite (State.setLwinOut_keeps _ _ _ h) (State.setHome_keeps _ _ _ h)
    split
    · rename_i hd s2 e
      exact ha _ _ (keep_ofOP2 (State.allocWalk_keeps _ _ _ _ _ _ _ (h1 _ _)) e)
    · exact ha _ _ (keep_ite (State.setLwinOut_keeps _ _ _ (h1 _ _)) (h1 _ _))


theorem State.markPools_keeps {o : State} : ∀ x0 x1 x2 x3, Keep o x0 → Keep o (State.markPools x0 x1 x2 x3) := by
  intro x0 x1 x2 x3 h0
  unfold State.markPools
  with_reducible repeat' (first | (apply keep_same <;> first | assumption))

theorem State.syncWaiters_keeps {o : State} : ∀ x0 x1 x2 x3, Keep o x0 → Keep o (State.syncWaiters x0 x1 x2 x3) := by
  intro x0 x1 x2 x3 h0
  unfold State.syncWaiters
  with_reducible repeat' (first
    | assumption | apply keep_ite | apply State.markPools_keeps | apply State.setLwinWaiters_keeps)

theorem State.parkAlloc_keeps {o : State} : ∀ x0 x1, Keep o x0 → Keep o (State.parkAlloc x0 x1) := by
  intro x0 x1 h0
  unfold State.parkAlloc
  with_reducible repeat' (first
    | apply State.setRegField_keeps | apply State.syncWaiters_keeps | (apply keep_same <;> first | assumption))

theorem State.unparkAlloc_keeps {o : State} : ∀ x0 x1, Keep o x0 → Keep o (State.unparkAlloc x0 x1) := by
  intro x0 x1 h0
  unfold State.unparkAlloc
  with_reducible repeat' (first
    | apply State.setRegField_keeps | apply State.syncWaiters_keeps | (apply keep_same <;> first | assumption))

theorem State.rerunAlloc_keeps {o : State} : ∀ x0 x1 x2 x3, Keep o x0 → Keep o (State.rerunAlloc x0 x1 x2 x3).2 := by
  intro s a t sc h
  unfold State.rerunAlloc
  dsimp only
  split
  · exact h
  · have h1 : ∀ c : Prop, ∀ _ : Decidable c, Keep o (if c then s.setLwinOut a.win (s.lwinOut a.win + 1) else s) := fun c _ =>
      keep_ite (State.setLwinOut_keeps _ _ _ h) h
    split
    · rename_i hd s2 e
      exact keep_ofOP2 (State.allocWalk_keeps _ _ _ _ _ _ _ (h1 _ _)) e
    · exact h

/-! ### LinkOps -/

theorem State.bumpCluster_keeps {o : State} : ∀ x0 x1 x2, Keep o x0 → Keep o (State.bumpCluster x0 x1 x2) := by
  intro x0 x1 x2 h0
  unfold State.bumpCluster
  with_reducible repeat' (first | assumption | apply State.bump_keeps)

theorem State.setLink_keeps {o : State} : ∀ x0 x1 x2, Keep o x0 → Keep o (State.setLink x0 x1 x2) := by
  intro x0 x1 x2 h0
  unfold State.setLink
  with_reducible repeat' (first | (apply keep_same <;> first | assumption))

theorem State.setPairState_keeps {o : State} : ∀ x0 x1, Keep o x0 → Keep o (State.setPairState x0 x1) := by
  intro x0 x1 h0
  unfold State.setPairState
  with_reducible repeat' (first | assumption | apply State.setRegField_keeps)

theorem State.setPairRole_keeps {o : State} : ∀ x0 x1, Keep o x0 → Keep o (State.setPairRole x0 x1) := by
  intro x0 x1 h0
  unfold State.setPairRole
  with_reducible repeat' (first | assumption | apply State.setRegField_keeps)

theorem State.sendCtl_keeps {o : State} : ∀ x0 x1 x2, Keep o x0 → Keep o (State.sendCtl x0 x1 x2) := by
  intro x0 x1 x2 h0
  unfold State.sendCtl
  with_reducible repeat' (first | assumption | apply State.setLink_keeps)

theorem State.sendPair_keeps {o : State} : ∀ x0 x1, Keep o x0 → Keep o (State.sendPair x0 x1) := by
  intro x0 x1 h0
  unfold State.sendPair
  with_reducible repeat' (first | assumption | apply State.sendCtl_keeps)

theorem State.holdEffect_keeps {o : State} : ∀ x0 x1 x2 x3, Keep o x0 → Keep o (State.holdEffect x0 x1 x2 x3) := by
  intro x0 x1 x2 x3 h0
  unfold State.holdEffect
  with_reducible repeat' (first
    | apply keep_ite | apply State.sendPair_keeps | (apply keep_same <;> first | assumption) | dsimp only | split)

theorem State.pairCount_keeps {o : State} : ∀ x0 x1 x2, Keep o x0 → Keep o (State.pairCount x0 x1 x2).2 := by
  intro x0 x1 x2 h0
  unfold State.pairCount
  with_reducible repeat' (first | (apply keep_same <;> first | assumption))

theorem State.forwardInput_keeps {o : State} : ∀ x0 x1 x2, Keep o x0 → Keep o (State.forwardInput x0 x1 x2) := by
  intro x0 x1 x2 h0
  unfold State.forwardInput
  with_reducible repeat' (first | apply State.sendPair_keeps | (apply keep_same <;> first | assumption))

theorem State.linkSend_keeps {o : State} : ∀ x0 x1 x2, Keep o x0 → Keep o (State.linkSend x0 x1 x2) := by
  intro x0 x1 x2 h0
  unfold State.linkSend
  with_reducible repeat' (first | assumption | apply keep_ite | apply State.setLink_keeps)

theorem State.streamFor_keeps {o : State} : ∀ x0 x1 x2, Keep o x0 → KeepO o (State.streamFor x0 x1 x2) := by
  intro x0 x1 x2 h0
  unfold State.streamFor
  with_reducible repeat' (first
    | assumption | exact keepO_none | apply keepO_some | apply keepO_ite | (apply keep_same <;> first | assumption))

theorem State.noRoute_keeps {o : State} : ∀ x0 x1 x2, Keep o x0 → Keep o (State.noRoute x0 x1 x2) := by
  intro x0 x1 x2 h0
  unfold State.noRoute
  with_reducible repeat' (first | assumption | apply State.log_keeps | apply State.bump_keeps)

theorem State.linkReply_keeps {o : State} : ∀ x0 x1 x2, Keep o x0 → Keep o (State.linkReply x0 x1 x2) := by
  intro x0 x1 x2 h0
  unfold State.linkReply
  with_reducible repeat' (first
    | assumption | apply keep_ite | apply State.holdEffect_keeps | apply State.linkSend_keeps
    | apply State.noRoute_keeps | split)

theorem State.resolveHeld_keeps {o : State} : ∀ x0, Keep o x0 → Keep o (State.resolveHeld x0) := by
  intro x0 h0
  unfold State.resolveHeld
  with_reducible repeat' (first
    | assumption | intro _ | apply keep_ite | apply keep_foldl | apply State.linkSend_keeps
    | (apply keep_same <;> first | assumption) | dsimp only | split)

theorem State.egressRsp_keeps {o : State} : ∀ x0 x1 x2 x3, Keep o x0 → Keep o (State.egressRsp x0 x1 x2 x3) := by
  intro x0 x1 x2 x3 h0
  unfold State.egressRsp
  with_reducible repeat' (first | assumption | apply keep_ite | apply State.linkReply_keeps)

theorem State.egressNow_keeps {o : State} : ∀ x0 x1 x2, Keep o x0 → Keep o (State.egressNow x0 x1 x2) := by
  intro x0 x1 x2 h0
  unfold State.egressNow
  with_reducible repeat' (first
    | assumption | apply State.egressRsp_keeps | apply State.noRoute_keeps | apply State.linkSend_keeps | split)

theorem State.streamPsn_keeps {o : State} : ∀ x0 x1 x2 x3, Keep o x0 → Keep o (State.streamPsn x0 x1 x2 x3).2 := by
  intro x0 x1 x2 x3 h0
  unfold State.streamPsn
  with_reducible repeat' (first | assumption | (apply keep_same <;> first | assumption) | dsimp only | split)

theorem State.egress_keeps {o : State} : ∀ x0 x1 x2, Keep o x0 → Keep o (State.egress x0 x1 x2) := by
  intro x0 x1 x2 h0
  unfold State.egress
  with_reducible repeat' (first
    | assumption | apply keep_ite | apply State.egressNow_keeps | apply State.streamFor_keeps
    | apply State.egressRsp_keeps | apply State.log_keeps | apply State.bump_keeps | apply State.streamPsn_keeps
    | apply State.holdEffect_keeps | dsimp only | split | refine keep_ofO ?_ (by assumption))

theorem State.inject_keeps {o : State} : ∀ x0 x1 x2, Keep o x0 → Keep o (State.inject x0 x1 x2) := by
  intro x0 x1 x2 h0
  unfold State.inject
  with_reducible repeat' (first
    | assumption | apply keep_ite | apply State.send_keeps | apply State.egress_keeps | apply State.log_keeps
    | apply State.bumpCluster_keeps | split)

/-! ### HubOps -/

theorem State.trace_keeps {o : State} : ∀ x0 x1 x2 x3 x4 x5 x6 x7 x8 x9 x10 x11 x12, Keep o x0 → Keep o (State.trace x0 x1 x2 x3 x4 x5 x6 x7 x8 x9 x10 x11 x12) := by
  intro x0 x1 x2 x3 x4 x5 x6 x7 x8 x9 x10 x11 x12 h0
  unfold State.trace
  with_reducible repeat' (first | assumption | apply keep_ite | apply State.traceSend_keeps)

theorem State.flowStart_keeps {o : State} : ∀ x0 x1 x2 x3, Keep o x0 → Keep o (State.flowStart x0 x1 x2 x3) := by
  intro x0 x1 x2 x3 h0
  unfold State.flowStart
  with_reducible repeat' (first | assumption | apply keep_ite | apply State.setFlow_keeps)

theorem State.flowNext_keeps {o : State} : ∀ x0 x1 x2, Keep o x0 → Keep o (State.flowNext x0 x1 x2) := by
  intro x0 x1 x2 h0
  unfold State.flowNext
  with_reducible repeat' (first
    | assumption | apply keep_ite | apply State.flowRecall_keeps | apply State.setFlow_keeps)

theorem State.taskChanged_keeps {o : State} : ∀ x0 x1, Keep o x0 → Keep o (State.taskChanged x0 x1) := by
  intro x0 x1 h0
  unfold State.taskChanged
  with_reducible repeat' (first
    | assumption | apply keep_ite | apply State.activity_keeps | apply State.endEpisode_keeps)

theorem State.taskReady_keeps {o : State} : ∀ x0 x1, Keep o x0 → Keep o (State.taskReady x0 x1) := by
  intro x0 x1 h0
  unfold State.taskReady
  with_reducible repeat' (first
    | assumption | apply State.setTask_keeps | apply State.taskChanged_keeps | apply State.setRl_keeps)

theorem State.wakeOnFlags_keeps {o : State} : ∀ x0 x1, Keep o x0 → Keep o (State.wakeOnFlags x0 x1) := by
  intro x0 x1 h0
  unfold State.wakeOnFlags
  with_reducible repeat' (first
    | assumption | apply keep_ite | apply State.taskReady_keeps | apply State.setTask_keeps)

theorem State.orFlags_keeps {o : State} : ∀ x0 x1 x2, Keep o x0 → Keep o (State.orFlags x0 x1 x2) := by
  intro x0 x1 x2 h0
  unfold State.orFlags
  with_reducible repeat' (first
    | assumption | apply keep_ite | apply State.bump_keeps | apply State.wakeOnFlags_keeps
    | apply State.setTask_keeps)

theorem State.fireBinds_keeps {o : State} : ∀ x0 x1 x2 x3, Keep o x0 → Keep o (State.fireBinds x0 x1 x2 x3) := by
  intro x0 x1 x2 x3 h0
  unfold State.fireBinds
  with_reducible repeat' (first | assumption | intro _ | apply keep_ite | apply keep_foldl | apply State.send_keeps)

theorem State.sevArrive_keeps {o : State} : ∀ x0 x1 x2 x3, Keep o x0 → Keep o (State.sevArrive x0 x1 x2 x3) := by
  intro x0 x1 x2 x3 h0
  unfold State.sevArrive
  with_reducible repeat' (first
    | assumption | apply keep_ite | apply State.orFlags_keeps | apply State.log_keeps | apply State.bump_keeps
    | dsimp only | split)

theorem State.returnCredit_keeps {o : State} : ∀ x0 x1, Keep o x0 → Keep o (State.returnCredit x0 x1) := by
  intro x0 x1 h0
  unfold State.returnCredit
  with_reducible repeat' (first | assumption | apply State.setCreditUsed_keeps | split)

theorem State.bindEntry_keeps {o : State} : ∀ x0 x1 x2 x3, Keep o x0 → KeepOP2 o (State.bindEntry x0 x1 x2 x3) := by
  intro x0 x1 x2 x3 h0
  unfold State.bindEntry
  with_reducible repeat' (first
    | assumption | apply keep_ite | exact keepOP2_none | apply keepOP2_some | apply State.setCtx_keeps
    | apply State.taskChanged_keeps | apply State.setTask_keeps | apply State.activity_keeps
    | apply State.flowStart_keeps | dsimp only | split)

theorem State.queueEntry_keeps {o : State} : ∀ x0 x1 x2, Keep o x0 → Keep o (State.queueEntry x0 x1 x2) := by
  intro x0 x1 x2 h0
  unfold State.queueEntry
  with_reducible repeat' (first
    | assumption | apply keep_ite | apply State.setPq_keeps | apply State.taskChanged_keeps
    | apply State.setTask_keeps | apply State.activity_keeps | apply State.flowStart_keeps)

theorem State.placeBind_keeps {o : State} : ∀ x0 x1 x2 x3 x4 x5, Keep o x0 → KeepO o (State.placeBind x0 x1 x2 x3 x4 x5) := by
  intro x0 x1 x2 x3 x4 x5 h0
  unfold State.placeBind
  with_reducible repeat' (first
    | assumption | apply keep_ite | exact keepO_none | apply keepO_some | apply State.bindEntry_keeps
    | apply State.bump_keeps | apply State.returnCredit_keeps | apply State.trace_keeps | dsimp only | split
    | refine keep_ofOP2 ?_ (by assumption))

theorem State.placeQueue_keeps {o : State} : ∀ x0 x1 x2 x3 x4, Keep o x0 → Keep o (State.placeQueue x0 x1 x2 x3 x4) := by
  intro x0 x1 x2 x3 x4 h0
  unfold State.placeQueue
  with_reducible repeat' (first
    | assumption | apply State.returnCredit_keeps | apply State.queueEntry_keeps | apply State.bump_keeps
    | apply State.trace_keeps)

theorem State.place_keeps {o : State} : ∀ x0 x1 x2 x3, Keep o x0 → KeepO o (State.place x0 x1 x2 x3) := by
  intro x0 x1 x2 x3 h0
  unfold State.place
  with_reducible repeat' (first
    | assumption | exact keepO_none | apply keepO_some | apply keepO_ite | apply State.placeBind_keeps
    | apply State.placeQueue_keeps | split)

theorem State.placeFirst_keeps {o : State} : ∀ x0 x1 x2 x3 x4 x5 x6, Keep o x0 → KeepO o (State.placeFirst x0 x1 x2 x3 x4 x5 x6) := by
  intro x0 x1 x2 x3 x4 x5 x6
  fun_induction State.placeFirst
  all_goals with_reducible repeat' (first
    | assumption | intro _ | exact keepO_none | apply keepO_some | apply State.place_keeps | apply State.setRl_keeps
    | refine keep_ofO ?_ (by assumption))

theorem State.visits_keeps {o : State} : ∀ x0 x1 x2, Keep o x0 → Keep o (State.visits x0 x1 x2) := by
  intro s r n
  induction n generalizing s with
  | zero => exact id
  | succ n ih =>
    intro h
    unfold State.visits
    have hp : ∀ g, KeepO o (if g ≠ 0 ∧ (s.rl r g).isEmpty = false ∧ s.deficit r g ≥ 1 then
        s.placeFirst r g (s.rl r g) [] 0 4 else none) := fun g =>
      keepO_ite (State.placeFirst_keeps _ _ _ _ _ _ _ h) keepO_none
    dsimp only
    split
    · rename_i s1 e
      have h1 := keep_ofO (hp _) e
      exact keep_ite (State.setDeficit_keeps _ _ _ _ (State.setDeficit_keeps _ _ _ _ h1)) (State.setDeficit_keeps _ _ _ _ h1)
    · split
      · exact h
      · exact ih _ (State.setDeficit_keeps _ _ _ _ (State.setTurn_keeps _ _ _ h))


theorem State.select_keeps {o : State} : ∀ x0 x1, Keep o x0 → Keep o (State.select x0 x1) := by
  intro s r h
  unfold State.select
  split
  · rename_i s1 e
    exact keep_ofO (State.placeFirst_keeps _ _ _ _ _ _ _ h) e
  · exact State.visits_keeps _ _ _ h


theorem State.charge_keeps {o : State} : ∀ x0 x1 x2 x3, Keep o x0 → Keep o (State.charge x0 x1 x2 x3) := by
  intro x0 x1 x2 x3 h0
  unfold State.charge
  with_reducible repeat' (first | assumption | apply State.setDeficit_keeps)

theorem State.setPace_keeps {o : State} : ∀ x0 x1 x2, Keep o x0 → Keep o (State.setPace x0 x1 x2) := by
  intro x0 x1 x2 h0
  unfold State.setPace
  with_reducible repeat' (first | (apply keep_same <;> first | assumption))

theorem State.setHeld_keeps {o : State} : ∀ x0 x1 x2 x3, Keep o x0 → Keep o (State.setHeld x0 x1 x2 x3) := by
  intro x0 x1 x2 x3 h0
  unfold State.setHeld
  with_reducible repeat' (first | (apply keep_same <;> first | assumption))

theorem State.sendNow_keeps {o : State} : ∀ x0 x1 x2 x3, Keep o x0 → Keep o (State.sendNow x0 x1 x2 x3) := by
  intro x0 x1 x2 x3 h0
  unfold State.sendNow
  with_reducible repeat' (first
    | assumption | apply keep_ite | apply State.send_keeps | apply State.setPace_keeps | apply State.inject_keeps
    | dsimp only | split)

theorem State.drainHeld_keeps {o : State} : ∀ x0 x1 x2 x3 x4, Keep o x0 → Keep o (State.drainHeld x0 x1 x2 x3 x4) := by
  intro x0 x1 x2 x3 x4
  fun_induction State.drainHeld
  all_goals with_reducible repeat' (first
    | assumption | intro _ | apply State.setHeld_keeps | apply State.sendNow_keeps | apply_assumption)

theorem State.release_keeps {o : State} : ∀ x0 x1 x2 x3, Keep o x0 → Keep o (State.release x0 x1 x2 x3) := by
  intro x0 x1 x2 x3 h0
  unfold State.release
  with_reducible repeat' (first | assumption | apply State.drainHeld_keeps)

theorem State.paceDone_keeps {o : State} : ∀ x0 x1 x2 x3, Keep o x0 → Keep o (State.paceDone x0 x1 x2 x3) := by
  intro x0 x1 x2 x3 h0
  unfold State.paceDone
  with_reducible repeat' (first | assumption | apply State.setPace_keeps | apply State.release_keeps)

/-! ### NetOps -/

theorem State.filterSees_keeps {o : State} : ∀ x0 x1 x2 x3 x4 x5 x6, Keep o x0 → Keep o (State.filterSees x0 x1 x2 x3 x4 x5 x6) := by
  intro x0 x1 x2 x3 x4 x5 x6 h0
  unfold State.filterSees
  with_reducible repeat' (first | assumption | apply keep_ite | apply State.bump_keeps | apply State.send_keeps)

theorem State.clusterSees_keeps {o : State} : ∀ x0 x1 x2 x3 x4 x5, Keep o x0 → Keep o (State.clusterSees x0 x1 x2 x3 x4 x5) := by
  intro x0 x1 x2 x3 x4 x5 h0
  unfold State.clusterSees
  with_reducible repeat' (first | assumption | apply State.filterSees_keeps)

theorem State.passes_keeps {o : State} : ∀ x0 x1 x2 x3 x4, Keep o x0 → Keep o (State.passes x0 x1 x2 x3 x4) := by
  intro x0 x1 x2 x3 x4 h0
  unfold State.passes
  with_reducible repeat' (first | assumption | intro _ | apply keep_foldl | apply State.clusterSees_keeps)

theorem State.badHeader_keeps {o : State} : ∀ x0 x1 x2 x3 x4, Keep o x0 → Keep o (State.badHeader x0 x1 x2 x3 x4) := by
  intro x0 x1 x2 x3 x4 h0
  unfold State.badHeader
  with_reducible repeat' (first
    | assumption | apply State.draw_keeps | apply State.log_keeps | apply State.bump_keeps)

theorem State.badVc_keeps {o : State} : ∀ x0 x1 x2 x3, Keep o x0 → Keep o (State.badVc x0 x1 x2 x3) := by
  intro x0 x1 x2 x3 h0
  unfold State.badVc
  with_reducible repeat' (first | assumption | apply State.badHeader_keeps)

theorem State.await_keeps {o : State} : ∀ x0 x1 x2 x3 x4 x5 x6 x7 x8, Keep o x0 → Keep o (State.await x0 x1 x2 x3 x4 x5 x6 x7 x8).2 := by
  intro x0 x1 x2 x3 x4 x5 x6 x7 x8 h0
  unfold State.await
  with_reducible repeat' (first | (apply keep_same <;> first | assumption))

theorem State.request_keeps {o : State} : ∀ x0 x1 x2 x3 x4 x5 x6 x7 x8, Keep o x0 → Keep o (State.request x0 x1 x2 x3 x4 x5 x6 x7 x8).2 := by
  intro x0 x1 x2 x3 x4 x5 x6 x7 x8 h0
  unfold State.request
  with_reducible repeat' (first | assumption | apply State.await_keeps | apply State.send_keeps)

theorem State.post_keeps {o : State} : ∀ x0 x1 x2 x3 x4 x5 x6, Keep o x0 → Keep o (State.post x0 x1 x2 x3 x4 x5 x6) := by
  intro x0 x1 x2 x3 x4 x5 x6 h0
  unfold State.post
  with_reducible repeat' (first | assumption | apply State.send_keeps)

theorem State.dropOutst_keeps {o : State} : ∀ x0 x1 x2, Keep o x0 → Keep o (State.dropOutst x0 x1 x2) := by
  intro x0 x1 x2 h0
  unfold State.dropOutst
  with_reducible repeat' (first | (apply keep_same <;> first | assumption))

theorem State.answer_keeps {o : State} : ∀ x0 x1 x2, Keep o x0 → Keep o (State.answer x0 x1 x2) := by
  intro x0 x1 x2 h0
  unfold State.answer
  with_reducible repeat' (first | assumption | apply State.send_keeps)

theorem State.answerData_keeps {o : State} : ∀ x0 x1 x2, Keep o x0 → Keep o (State.answerData x0 x1 x2) := by
  intro x0 x1 x2 h0
  unfold State.answerData
  with_reducible repeat' (first | assumption | apply State.send_keeps)

theorem State.refuse_keeps {o : State} : ∀ x0 x1 x2 x3, Keep o x0 → Keep o (State.refuse x0 x1 x2 x3) := by
  intro x0 x1 x2 x3 h0
  unfold State.refuse
  with_reducible repeat' (first
    | assumption | apply keep_ite | apply State.log_keeps | apply State.bumpCluster_keeps | apply State.send_keeps
    | apply State.answer_keeps | split)

theorem State.park_keeps {o : State} : ∀ x0 x1 x2, Keep o x0 → Keep o (State.park x0 x1 x2) := by
  intro x0 x1 x2 h0
  unfold State.park
  with_reducible repeat' (first
    | apply keep_ite | apply State.bumpCluster_keeps | apply State.send_keeps | apply State.askWake_keeps
    | (apply keep_same <;> first | assumption))

theorem State.failParked_keeps {o : State} : ∀ x0 x1, Keep o x0 → Keep o (State.failParked x0 x1) := by
  intro x0 x1 h0
  unfold State.failParked
  with_reducible repeat' (first
    | assumption | intro _ | apply keep_foldl | apply State.refuse_keeps | (apply keep_same <;> first | assumption))

theorem State.refuseVc4_keeps {o : State} : ∀ x0 x1 x2, Keep o x0 → Keep o (State.refuseVc4 x0 x1 x2) := by
  intro x0 x1 x2 h0
  unfold State.refuseVc4
  with_reducible repeat' (first
    | assumption | apply keep_ite | apply State.bumpCluster_keeps | apply State.bump_keeps | apply State.refuse_keeps)

theorem State.arriveReq_keeps {o : State} : ∀ x0 x1 x2 x3 x4, Keep o x0 → (∀ y0, Keep o y0 → KeepX o (x4 y0)) → KeepX o (State.arriveReq x0 x1 x2 x3 x4) := by
  intro x0 x1 x2 x3 x4 h0 h1
  unfold State.arriveReq
  with_reducible repeat' (first
    | assumption | apply keepX_next | exact keepX_fault | apply keepX_ite | apply State.passes_keeps
    | apply State.take_keeps | apply State.refuse_keeps | apply State.refuseVc4_keeps | apply State.bumpCluster_keeps
    | apply State.park_keeps | apply_assumption)

theorem State.arrivePosted_keeps {o : State} : ∀ x0 x1 x2 x3 x4 x5 x6, Keep o x0 → (∀ y0, Keep o y0 → KeepX o (x6 y0)) → KeepX o (State.arrivePosted x0 x1 x2 x3 x4 x5 x6) := by
  intro x0 x1 x2 x3 x4 x5 x6 h0 h1
  unfold State.arrivePosted
  with_reducible repeat' (first
    | assumption | apply keepX_next | apply keepX_ite | apply State.passes_keeps | apply State.take_keeps
    | apply State.bumpCluster_keeps | apply_assumption)

theorem State.arriveRsp_keeps {o : State} : ∀ x0 x1 x2 x3 x4, Keep o x0 → (∀ y0 y1 y2, Keep o y2 → KeepX o (x4 y0 y1 y2)) → KeepX o (State.arriveRsp x0 x1 x2 x3 x4) := by
  intro x0 x1 x2 x3 x4 h0 h1
  unfold State.arriveRsp
  with_reducible repeat' (first
    | assumption | apply keep_ite | apply keepX_next | apply keepX_ite | apply State.passes_keeps
    | apply State.take_keeps | apply State.bumpCluster_keeps | apply State.log_keeps | apply State.dropOutst_keeps
    | apply_assumption | dsimp only | split)

theorem State.setWbuf_keeps {o : State} : ∀ x0 x1 x2 x3, Keep o x0 → Keep o (State.setWbuf x0 x1 x2 x3) := by
  intro x0 x1 x2 x3 h0
  unfold State.setWbuf
  with_reducible repeat' (first | (apply keep_same <;> first | assumption))

theorem State.refuseDomain_keeps {o : State} : ∀ x0 x1 x2 x3, Keep o x0 → Keep o (State.refuseDomain x0 x1 x2 x3) := by
  intro x0 x1 x2 x3 h0
  unfold State.refuseDomain
  with_reducible repeat' (first | assumption | apply State.refuse_keeps | apply State.log_keeps)

theorem State.wardenWrite_keeps {o : State} : ∀ x0 x1 x2 x3 x4 x5, Keep o x0 → (∀ y0, Keep o y0 → Keep o (x5 y0)) → KeepX o (State.wardenWrite x0 x1 x2 x3 x4 x5) := by
  intro x0 x1 x2 x3 x4 x5 h0 h1
  unfold State.wardenWrite
  with_reducible repeat' (first
    | assumption | intro _ | apply keepX_next | apply keepX_ite | apply State.arriveReq_keeps
    | apply State.answer_keeps | apply State.refuseDomain_keeps | apply_assumption)

theorem State.wardenLast_keeps {o : State} : ∀ x0 x1 x2 x3 x4 x5, Keep o x0 → (∀ y0, Keep o y0 → Keep o (x5 y0)) → KeepX o (State.wardenLast x0 x1 x2 x3 x4 x5) := by
  intro x0 x1 x2 x3 x4 x5 h0 h1
  unfold State.wardenLast
  with_reducible repeat' (first
    | assumption | intro _ | apply keep_ite | apply keepX_next | apply keepX_ite | apply State.arriveReq_keeps
    | apply State.refuseDomain_keeps | apply_assumption)

theorem State.openWrite_keeps {o : State} : ∀ x0 x1 x2 x3 x4 x5, Keep o x0 → (∀ y0, Keep o y0 → Keep o (x5 y0)) → KeepX o (State.openWrite x0 x1 x2 x3 x4 x5) := by
  intro x0 x1 x2 x3 x4 x5 h0 h1
  unfold State.openWrite
  with_reducible repeat' (first
    | assumption | intro _ | apply keepX_next | apply keepX_ite | apply State.arriveReq_keeps
    | apply State.answer_keeps | apply State.refuseDomain_keeps | apply_assumption)

theorem State.openWhole_keeps {o : State} : ∀ x0 x1 x2 x3 x4 x5 x6, Keep o x0 → (∀ y0 y1, Keep o y0 → Keep o (x6 y0 y1)) → KeepX o (State.openWhole x0 x1 x2 x3 x4 x5 x6) := by
  intro x0 x1 x2 x3 x4 x5 x6 h0 h1
  unfold State.openWhole
  with_reducible repeat' (first
    | assumption | intro _ | apply State.openWrite_keeps | apply State.setWbuf_keeps | apply_assumption)

theorem State.wardenWhole_keeps {o : State} : ∀ x0 x1 x2 x3 x4 x5 x6, Keep o x0 → (∀ y0 y1, Keep o y0 → Keep o (x6 y0 y1)) → KeepX o (State.wardenWhole x0 x1 x2 x3 x4 x5 x6) := by
  intro x0 x1 x2 x3 x4 x5 x6 h0 h1
  unfold State.wardenWhole
  with_reducible repeat' (first
    | assumption | intro _ | apply State.wardenWrite_keeps | apply State.setWbuf_keeps | apply_assumption)

/-! ### MemOps -/

theorem State.setWritten_keeps {o : State} : ∀ x0 x1 x2 x3, Keep o x0 → Keep o (State.setWritten x0 x1 x2 x3) := by
  intro x0 x1 x2 x3 h
  exact keep_mem h (memory_wf_written h.mem)


theorem State.setSpadRaw_keeps {o : State} : ∀ x0 x1 x2 x3, Keep o x0 → Keep o (State.setSpadRaw x0 x1 x2 x3) := by
  intro x0 x1 x2 x3 h
  exact keep_mem h (memory_wf_spad h.mem)


theorem State.setSpadBad_keeps {o : State} : ∀ x0 x1 x2 x3, Keep o x0 → Keep o (State.setSpadBad x0 x1 x2 x3) := by
  intro x0 x1 x2 x3 h
  exact keep_mem h (memory_wf_poisoned h.mem)


theorem State.zeroRow_keeps {o : State} : ∀ x0 x1 x2 x3, Keep o x0 → Keep o (State.zeroRow x0 x1 x2 x3) := by
  intro x0 x1 x2 x3
  fun_induction State.zeroRow
  all_goals with_reducible repeat' (first | assumption | intro _ | apply State.setSpadRaw_keeps | apply_assumption)

theorem State.spadWrite_keeps {o : State} : ∀ x0 x1 x2 x3, Keep o x0 → Keep o (State.spadWrite x0 x1 x2 x3) := by
  intro x0 x1 x2 x3 h0
  unfold State.spadWrite
  with_reducible repeat' (first
    | assumption | apply keep_ite | apply State.setWritten_keeps | apply State.zeroRow_keeps
    | apply State.setSpadBad_keeps | apply State.setSpadRaw_keeps)

theorem State.spadStore_keeps {o : State} : ∀ x0 x1 x2 x3 x4, Keep o x0 → Keep o (State.spadStore x0 x1 x2 x3 x4) := by
  intro x0 x1 x2 x3 x4
  fun_induction State.spadStore
  all_goals with_reducible repeat' (first | assumption | intro _ | apply State.spadWrite_keeps | apply_assumption)

theorem State.remapRow_keeps {o : State} : ∀ x0 x1 x2, Keep o x0 → Keep o (State.remapRow x0 x1 x2) := by
  intro x0 x1 x2 h0
  unfold State.remapRow
  with_reducible repeat' (first
    | assumption | apply State.log_keeps | apply State.setReg_keeps | apply State.bump_keeps | split)

theorem State.spadCheck_keeps {o : State} : ∀ x0 x1 x2 x3, Keep o x0 → Keep o (State.spadCheck x0 x1 x2 x3).1 := by
  intro s p a e h
  unfold State.spadCheck
  cases e with
  | sound => exact h
  | single =>
    have h2 := State.bump_keeps s (Reg.spadStat p 0) h
    have h3 := fun (k n : Nat) => keep_mem h2 (memory_wf_rowCorr (k := k) (v := n) h2.mem)
    with_reducible repeat' (first | assumption | apply keep_ite | apply State.remapRow_keeps | apply h3 | dsimp only)
  | double => exact State.remapRow_keeps _ _ _ (State.setSpadBad_keeps _ _ _ _ (State.log_keeps _ _ _ _ _ _ (State.bump_keeps _ _ h)))


theorem State.clearBlock_keeps {o : State} : ∀ x0 x1, Keep o x0 → Keep o (State.clearBlock x0 x1) := by
  intro x0 x1 h0
  unfold State.clearBlock
  with_reducible repeat' (first | assumption | intro _ | apply keep_foldl | apply State.setWritten_keeps)

theorem State.spadZero_keeps {o : State} : ∀ x0 x1 x2 x3, Keep o x0 → Keep o (State.spadZero x0 x1 x2 x3) := by
  intro x0 x1 x2 x3
  fun_induction State.spadZero
  all_goals with_reducible repeat' (first | assumption | intro _ | apply State.spadWrite_keeps | apply_assumption)

theorem State.ddrWrite_keeps {o : State} : ∀ x0 x1 x2, Keep o x0 → Keep o (State.ddrWrite x0 x1 x2) := by
  intro x0 x1 x2 h
  exact keep_mem h (memory_wf_ddr h.mem)


theorem State.ddrCheck_keeps {o : State} : ∀ x0 x1 x2, Keep o x0 → Keep o (State.ddrCheck x0 x1 x2).1 := by
  intro x0 x1 x2 h0
  unfold State.ddrCheck
  with_reducible repeat' (first | assumption | apply State.bump_keeps | split)

theorem State.legWrite_keeps {o : State} : ∀ x0 x1 x2, Keep o x0 → Keep o (State.legWrite x0 x1 x2) := by
  intro s w v h
  exact keep_mem h (memory_wf_legacy h.mem (legacyWord_lt v))


theorem State.legStoreAll_keeps {o : State} : ∀ x0 x1 x2, Keep o x0 → Keep o (State.legStoreAll x0 x1 x2) := by
  intro x0 x1 x2
  fun_induction State.legStoreAll
  all_goals with_reducible repeat' (first | assumption | intro _ | apply State.legWrite_keeps | apply_assumption)

theorem State.codeWrite_keeps {o : State} : ∀ x0 x1 x2 x3, Keep o x0 → Keep o (State.codeWrite x0 x1 x2 x3) := by
  intro x0 x1 x2 x3 h0
  unfold State.codeWrite
  with_reducible repeat' (first | (apply keep_same <;> first | assumption))

theorem State.recWrite_keeps {o : State} : ∀ x0 x1 x2 x3, Keep o x0 → Keep o (State.recWrite x0 x1 x2 x3) := by
  intro x0 x1 x2 x3 h0
  unfold State.recWrite
  with_reducible repeat' (first
    | assumption | apply keep_ite | apply State.ddrWrite_keeps | apply State.spadWrite_keeps)

theorem State.recStore_keeps {o : State} : ∀ x0 x1 x2 x3, Keep o x0 → Keep o (State.recStore x0 x1 x2 x3) := by
  intro x0 x1 x2 x3
  fun_induction State.recStore
  all_goals with_reducible repeat' (first | assumption | intro _ | apply State.recWrite_keeps | apply_assumption)

theorem State.recClear_keeps {o : State} : ∀ x0 x1, Keep o x0 → Keep o (State.recClear x0 x1) := by
  intro x0 x1 h0
  unfold State.recClear
  with_reducible repeat' (first | assumption | intro _ | apply keep_foldl | apply State.recWrite_keeps)

/-! ### Sched -/

theorem State.issueTo_keeps {o : State} : ∀ x0 x1 x2 x3, Keep o x0 → Keep o (State.issueTo x0 x1 x2 x3) := by
  intro x0 x1 x2 x3 h0
  unfold State.issueTo
  with_reducible repeat' (first | assumption | (apply keep_same <;> first | apply State.setCtx_keeps))

theorem State.switchAway_keeps {o : State} : ∀ x0 x1 x2, Keep o x0 → KeepO o (State.switchAway x0 x1 x2) := by
  intro x0 x1 x2 h0
  unfold State.switchAway
  with_reducible repeat' (first
    | assumption | exact keepO_none | apply keepO_some | apply keep_ite | apply State.bump_keeps
    | apply State.issueTo_keeps | split)

theorem State.schedule_keeps {o : State} : ∀ x0 x1 x2, Keep o x0 → Keep o (State.schedule x0 x1 x2) := by
  intro x0 x1 x2 h0
  unfold State.schedule
  with_reducible repeat' (first
    | assumption | apply keep_ite | apply keepO_getD | apply State.issueTo_keeps | apply State.switchAway_keeps
    | dsimp only | split)

theorem State.leaveIssue_keeps {o : State} : ∀ x0 x1 x2, Keep o x0 → Keep o (State.leaveIssue x0 x1 x2) := by
  intro x0 x1 x2 h0
  unfold State.leaveIssue
  with_reducible repeat' (first
    | assumption | apply keep_ite | apply keepO_getD | apply State.switchAway_keeps | apply State.schedule_keeps
    | apply State.setCtx_keeps | dsimp only)

theorem State.longStall_keeps {o : State} : ∀ x0 x1, Keep o x0 → Keep o (State.longStall x0 x1) := by
  intro x0 x1 h0
  unfold State.longStall
  with_reducible repeat' (first | assumption | apply State.leaveIssue_keeps)

theorem State.wakeCtx_keeps {o : State} : ∀ x0 x1, Keep o x0 → Keep o (State.wakeCtx x0 x1) := by
  intro x0 x1 h0
  unfold State.wakeCtx
  with_reducible repeat' (first | assumption | apply keep_ite | apply State.schedule_keeps | apply State.setCtx_keeps)

theorem State.raiseAlert_keeps {o : State} : ∀ x0 x1 x2 x3, Keep o x0 → Keep o (State.raiseAlert x0 x1 x2 x3) := by
  intro x0 x1 x2 x3 h0
  unfold State.raiseAlert
  with_reducible repeat' (first
    | assumption | apply keep_ite | apply State.bump_keeps | apply State.setCtx_keeps | apply State.wakeCtx_keeps)

/-! ### CohOps -/

theorem State.setCache_keeps {o : State} : ∀ x0 x1 x2, Keep o x0 → Keep o (State.setCache x0 x1 x2) := by
  intro x0 x1 x2 h0
  unfold State.setCache
  with_reducible repeat' (first | (apply keep_same <;> first | assumption))

theorem State.setDir_keeps {o : State} : ∀ x0 x1 x2, Keep o x0 → Keep o (State.setDir x0 x1 x2) := by
  intro x0 x1 x2 h0
  unfold State.setDir
  with_reducible repeat' (first | (apply keep_same <;> first | assumption))

theorem State.setStWord_keeps {o : State} : ∀ x0 x1 x2, Keep o x0 → Keep o (State.setStWord x0 x1 x2) := by
  intro x0 x1 x2 h0
  unfold State.setStWord
  with_reducible repeat' (first | (apply keep_same <;> first | assumption))

theorem State.setStLine_keeps {o : State} : ∀ x0 x1 x2, Keep o x0 → Keep o (State.setStLine x0 x1 x2) := by
  intro x0 x1 x2
  fun_induction State.setStLine
  all_goals with_reducible repeat' (first | assumption | intro _ | apply State.setStWord_keeps | apply_assumption)

theorem State.sendEvict_keeps {o : State} : ∀ x0 x1 x2 x3 x4, Keep o x0 → Keep o (State.sendEvict x0 x1 x2 x3 x4) := by
  intro x0 x1 x2 x3 x4 h0
  unfold State.sendEvict
  with_reducible repeat' (first | assumption | apply State.bump_keeps | apply State.request_keeps)

theorem State.evictLine_keeps {o : State} : ∀ x0 x1 x2, Keep o x0 → Keep o (State.evictLine x0 x1 x2) := by
  intro x0 x1 x2 h0
  unfold State.evictLine
  with_reducible repeat' (first | assumption | apply State.sendEvict_keeps | apply State.setCache_keeps)

theorem State.sendMiss_keeps {o : State} : ∀ x0 x1 x2, Keep o x0 → Keep o (State.sendMiss x0 x1 x2) := by
  intro x0 x1 x2 h0
  unfold State.sendMiss
  with_reducible repeat' (first
    | assumption | apply keep_ite | apply State.setCache_keeps | apply State.bump_keeps | apply State.request_keeps
    | dsimp only | split)

theorem State.startMiss_keeps {o : State} : ∀ x0 x1 x2 x3, Keep o x0 → Keep o (State.startMiss x0 x1 x2 x3) := by
  intro x0 x1 x2 x3 h0
  unfold State.startMiss
  with_reducible repeat' (first
    | assumption | apply State.sendMiss_keeps | apply State.setCache_keeps | dsimp only | split)

theorem State.serveLoads_keeps {o : State} : ∀ x0 x1 x2 x3 x4, Keep o x0 → Keep o (State.serveLoads x0 x1 x2 x3 x4) := by
  intro x0 x1 x2 x3 x4 h0
  unfold State.serveLoads
  with_reducible repeat' (first | assumption | apply keep_ite | apply State.wakeCtx_keeps | apply State.setCtx_keeps)

theorem State.serveAll_keeps {o : State} : ∀ x0 x1 x2 x3, Keep o x0 → Keep o (State.serveAll x0 x1 x2 x3) := by
  intro x0 x1 x2 x3 h0
  unfold State.serveAll
  with_reducible repeat' (first | assumption | intro _ | apply keep_foldl | apply State.serveLoads_keeps)

theorem State.wakeStores_keeps {o : State} : ∀ x0 x1, Keep o x0 → Keep o (State.wakeStores x0 x1) := by
  intro x0 x1 h0
  unfold State.wakeStores
  with_reducible repeat' (first
    | assumption | intro _ | apply keep_ite | apply keep_foldl | apply State.wakeCtx_keeps)

theorem State.makeRoom_keeps {o : State} : ∀ x0 x1 x2, Keep o x0 → KeepO o (State.makeRoom x0 x1 x2) := by
  intro x0 x1 x2 h0
  unfold State.makeRoom
  with_reducible repeat' (first
    | assumption | exact keepO_none | apply keepO_some | apply keepO_ite | apply State.setCache_keeps
    | apply State.evictLine_keeps | split)

theorem State.answerFwd_keeps {o : State} : ∀ x0 x1 x2 x3 x4, Keep o x0 → Keep o (State.answerFwd x0 x1 x2 x3 x4) := by
  intro x0 x1 x2 x3 x4 h0
  unfold State.answerFwd
  with_reducible repeat' (first
    | assumption | apply State.setCache_keeps | apply State.bump_keeps | apply State.send_keeps)

theorem State.answerHeld_keeps {o : State} : ∀ x0 x1 x2 x3, Keep o x0 → Keep o (State.answerHeld x0 x1 x2 x3) := by
  intro x0 x1 x2 x3 h0
  unfold State.answerHeld
  with_reducible repeat' (first | assumption | intro _ | apply keep_foldl | apply State.answerFwd_keeps | split)

theorem State.applyStores_keeps {o : State} : ∀ x0 x1 x2, Keep o x0 → Keep o (State.applyStores x0 x1 x2) := by
  intro x0 x1 x2 h0
  unfold State.applyStores
  with_reducible repeat' (first
    | assumption | apply keep_ite | apply State.wakeStores_keeps | apply State.setCache_keeps | dsimp only | split)

theorem State.placeFill_keeps {o : State} : ∀ x0 x1 x2 x3 x4, Keep o x0 → Keep o (State.placeFill x0 x1 x2 x3 x4) := by
  intro x0 x1 x2 x3 x4 h0
  unfold State.placeFill
  with_reducible repeat' (first
    | assumption | apply keep_ite | apply State.serveAll_keeps | apply State.setCache_keeps
    | apply State.startMiss_keeps | apply State.makeRoom_keeps | apply State.applyStores_keeps
    | apply State.answerHeld_keeps | dsimp only | split | refine keep_ofO ?_ (by assumption))

theorem State.fillArrives_keeps {o : State} : ∀ x0 x1 x2 x3 x4 x5, Keep o x0 → Keep o (State.fillArrives x0 x1 x2 x3 x4 x5) := by
  intro x0 x1 x2 x3 x4 x5 h0
  unfold State.fillArrives
  with_reducible repeat' (first
    | assumption | apply keep_ite | apply State.placeFill_keeps | apply State.sendEvict_keeps
    | apply State.setCache_keeps | dsimp only | split)

theorem State.evictSome_keeps {o : State} : ∀ x0 x1 x2, Keep o x0 → Keep o (State.evictSome x0 x1 x2) := by
  intro x0 x1 x2
  fun_induction State.evictSome
  all_goals with_reducible repeat' (first | assumption | intro _ | apply State.evictLine_keeps | apply_assumption)

theorem State.flushStep_keeps {o : State} : ∀ x0 x1, Keep o x0 → Keep o (State.flushStep x0 x1) := by
  intro x0 x1 h0
  unfold State.flushStep
  with_reducible repeat' (first
    | assumption | apply keep_ite | apply State.evictSome_keeps | apply State.setCache_keeps)

theorem State.flushStart_keeps {o : State} : ∀ x0 x1, Keep o x0 → Keep o (State.flushStart x0 x1) := by
  intro x0 x1 h0
  unfold State.flushStart
  with_reducible repeat' (first | assumption | apply State.flushStep_keeps | apply State.setCache_keeps)

theorem State.retryMisses_keeps {o : State} : ∀ x0 x1 x2, Keep o x0 → Keep o (State.retryMisses x0 x1 x2) := by
  intro s p l
  induction l generalizing s with
  | nil => exact id
  | cons m ms ih =>
    intro h
    refine ih _ ?_
    cases m.data with
    | none => exact State.sendMiss_keeps _ _ _ h
    | some e => exact State.placeFill_keeps _ _ _ _ _ h


theorem State.victimFreed_keeps {o : State} : ∀ x0 x1 x2, Keep o x0 → Keep o (State.victimFreed x0 x1 x2) := by
  intro x0 x1 x2 h0
  unfold State.victimFreed
  with_reducible repeat' (first
    | assumption | apply State.setCache_keeps | apply State.flushStep_keeps | apply State.retryMisses_keeps)

theorem State.protoError_keeps {o : State} : ∀ x0 x1 x2 x3, Keep o x0 → Keep o (State.protoError x0 x1 x2 x3) := by
  intro x0 x1 x2 x3 h0
  unfold State.protoError
  with_reducible repeat' (first | assumption | apply State.log_keeps | apply State.bump_keeps)

theorem State.forwardAt_keeps {o : State} : ∀ x0 x1 x2 x3 x4, Keep o x0 → Keep o (State.forwardAt x0 x1 x2 x3 x4) := by
  intro x0 x1 x2 x3 x4 h0
  unfold State.forwardAt
  with_reducible repeat' (first
    | assumption | apply keep_ite | apply State.bump_keeps | apply State.send_keeps | apply State.protoError_keeps
    | apply State.answerFwd_keeps | apply State.setCache_keeps | dsimp only | split)

theorem State.invAt_keeps {o : State} : ∀ x0 x1 x2 x3, Keep o x0 → Keep o (State.invAt x0 x1 x2 x3) := by
  intro x0 x1 x2 x3 h0
  unfold State.invAt
  with_reducible repeat' (first
    | assumption | apply keep_ite | apply State.bump_keeps | apply State.send_keeps | apply State.setCache_keeps
    | apply State.protoError_keeps | dsimp only | split)

theorem State.poisonLine_keeps {o : State} : ∀ x0 x1, Keep o x0 → Keep o (State.poisonLine x0 x1) := by
  intro x0 x1 h0
  unfold State.poisonLine
  with_reducible repeat' (first
    | assumption | apply State.log_keeps | apply State.bump_keeps | apply State.setStLine_keeps)

theorem State.answerWord_keeps {o : State} : ∀ x0 x1 x2, Keep o x0 → Keep o (State.answerWord x0 x1 x2) := by
  intro x0 x1 x2 h0
  unfold State.answerWord
  with_reducible repeat' (first
    | assumption | apply keep_ite | apply State.answer_keeps | apply State.answerData_keeps)

theorem State.homeAsk_keeps {o : State} : ∀ x0 x1 x2 x3 x4 x5 x6, Keep o x0 → Keep o (State.homeAsk x0 x1 x2 x3 x4 x5 x6) := by
  intro x0 x1 x2 x3 x4 x5 x6 h0
  unfold State.homeAsk
  with_reducible repeat' (first
    | assumption | intro _ | apply keep_foldl | apply State.bump_keeps | apply State.request_keeps
    | apply State.setDir_keeps)

theorem State.homeFinish_keeps {o : State} : ∀ x0 x1 x2 x3 x4, Keep o x0 → Keep o (State.homeFinish x0 x1 x2 x3 x4) := by
  intro x0 x1 x2 x3 x4 h0
  unfold State.homeFinish
  with_reducible repeat' (first
    | assumption | apply State.send_keeps | apply State.setDir_keeps | apply State.answerWord_keeps
    | apply State.answer_keeps | apply State.setStWord_keeps | dsimp only | split)

theorem State.homeServe_keeps {o : State} : ∀ x0 x1 x2 x3, Keep o x0 → Keep o (State.homeServe x0 x1 x2 x3) := by
  intro x0 x1 x2 x3 h0
  unfold State.homeServe
  with_reducible repeat' (first
    | assumption | apply keep_ite | apply State.bump_keeps | apply State.homeFinish_keeps | apply State.send_keeps
    | apply State.setDir_keeps | apply State.homeAsk_keeps | apply State.answerWord_keeps | dsimp only | split)

theorem State.homeNext_keeps {o : State} : ∀ x0 x1 x2, Keep o x0 → Keep o (State.homeNext x0 x1 x2) := by
  intro x0 x1 x2
  fun_induction State.homeNext
  all_goals with_reducible repeat' (first
    | assumption | intro _ | apply State.homeServe_keeps | apply State.setDir_keeps | apply_assumption)

theorem State.homeRequest_keeps {o : State} : ∀ x0 x1 x2 x3, Keep o x0 → Keep o (State.homeRequest x0 x1 x2 x3) := by
  intro x0 x1 x2 x3 h0
  unfold State.homeRequest
  with_reducible repeat' (first
    | assumption | apply keep_ite | apply State.setDir_keeps | apply State.homeServe_keeps)

theorem State.homeEnd_keeps {o : State} : ∀ x0 x1 x2 x3, Keep o x0 → Keep o (State.homeEnd x0 x1 x2 x3) := by
  intro x0 x1 x2 x3 h0
  unfold State.homeEnd
  with_reducible repeat' (first
    | assumption | apply State.homeFinish_keeps | apply State.bump_keeps | apply State.send_keeps
    | apply State.homeNext_keeps | split)

theorem State.homeData_keeps {o : State} : ∀ x0 x1 x2 x3 x4 x5, Keep o x0 → Keep o (State.homeData x0 x1 x2 x3 x4 x5) := by
  intro x0 x1 x2 x3 x4 x5 h0
  unfold State.homeData
  with_reducible repeat' (first
    | assumption | apply keep_ite | apply State.setStLine_keeps | apply State.homeEnd_keeps | dsimp only | split)

theorem State.homeGone_keeps {o : State} : ∀ x0 x1 x2, Keep o x0 → Keep o (State.homeGone x0 x1 x2) := by
  intro x0 x1 x2 h0
  unfold State.homeGone
  with_reducible repeat' (first
    | assumption | apply keep_ite | apply State.homeEnd_keeps | apply State.setDir_keeps | dsimp only | split)

theorem State.homeAck_keeps {o : State} : ∀ x0 x1 x2, Keep o x0 → Keep o (State.homeAck x0 x1 x2) := by
  intro x0 x1 x2 h0
  unfold State.homeAck
  with_reducible repeat' (first
    | assumption | apply keep_ite | apply State.homeEnd_keeps | apply State.setDir_keeps | dsimp only | split)

theorem State.homeLost_keeps {o : State} : ∀ x0 x1 x2, Keep o x0 → Keep o (State.homeLost x0 x1 x2) := by
  intro x0 x1 x2 h0
  unfold State.homeLost
  with_reducible repeat' (first
    | assumption | apply keep_ite | apply State.homeEnd_keeps | apply State.bump_keeps | apply State.poisonLine_keeps
    | split)

theorem State.homeSilent_keeps {o : State} : ∀ x0 x1 x2, Keep o x0 → Keep o (State.homeSilent x0 x1 x2) := by
  intro x0 x1 x2 h0
  unfold State.homeSilent
  with_reducible repeat' (first | assumption | apply State.homeAck_keeps | apply State.bump_keeps)

theorem State.homeNotice_keeps {o : State} : ∀ x0 x1 x2 x3, Keep o x0 → Keep o (State.homeNotice x0 x1 x2 x3) := by
  intro x0 x1 x2 x3 h0
  unfold State.homeNotice
  with_reducible repeat' (first
    | assumption | apply keep_ite | apply State.setStLine_keeps | apply State.homeEnd_keeps
    | apply State.setDir_keeps | apply State.send_keeps | dsimp only | split)

theorem State.homeCheck_keeps {o : State} : ∀ x0 x1 x2, Keep o x0 → Keep o (State.homeCheck x0 x1 x2) := by
  intro x0 x1 x2 h0
  unfold State.homeCheck
  with_reducible repeat' (first
    | assumption | apply State.log_keeps | apply State.bump_keeps | apply State.setStWord_keeps | dsimp only | split)

theorem State.cacheCheck_keeps {o : State} : ∀ x0 x1 x2 x3 x4, Keep o x0 → Keep o (State.cacheCheck x0 x1 x2 x3 x4).1 := by
  intro x0 x1 x2 x3 x4 h0
  unfold State.cacheCheck
  with_reducible repeat' (first
    | assumption | apply keep_ite1 | apply State.bump_keeps | apply State.log_keeps | apply State.setCache_keeps
    | apply State.sendEvict_keeps | dsimp only | split)

theorem State.touch_keeps {o : State} : ∀ x0 x1 x2, Keep o x0 → Keep o (State.touch x0 x1 x2) := by
  intro x0 x1 x2 h0
  unfold State.touch
  with_reducible repeat' (first | assumption | apply State.bump_keeps | apply State.setCache_keeps | split)

theorem State.storeWord_keeps {o : State} : ∀ x0 x1 x2 x3, Keep o x0 → Keep o (State.storeWord x0 x1 x2 x3) := by
  intro x0 x1 x2 x3 h0
  unfold State.storeWord
  with_reducible repeat' (first
    | assumption | apply keep_ite | apply State.bump_keeps | apply State.setCache_keeps | apply State.startMiss_keeps
    | dsimp only | split)

theorem State.passFence_keeps {o : State} : ∀ x0 x1, Keep o x0 → Keep o (State.passFence x0 x1) := by
  intro x0 x1 h0
  unfold State.passFence
  with_reducible repeat' (first | assumption | apply keep_ite | apply State.setCtx_keeps)

theorem State.storeState_keeps {o : State} : ∀ x0 x1 x2, Keep o x0 → Keep o (State.storeState x0 x1 x2) := by
  intro x0 x1 x2 h0
  have h1 := State.passFence_keeps x0 x1 h0
  unfold State.storeState
  with_reducible repeat' (first
    | assumption | intro _ | apply keep_ite | apply keep_foldl | apply State.storeWord_keeps | apply State.bump_keeps)

theorem State.storesLost_keeps {o : State} : ∀ x0 x1 x2 x3, Keep o x0 → Keep o (State.storesLost x0 x1 x2 x3) := by
  intro x0 x1 x2 x3 h0
  unfold State.storesLost
  with_reducible repeat' (first
    | assumption | intro _ | apply keep_ite | apply keep_foldl | apply State.setCache_keeps | apply State.log_keeps
    | apply State.wakeCtx_keeps | apply State.setCtx_keeps)

/-! ### QueueOps -/

theorem State.setQueue_keeps {o : State} : ∀ x0 x1 x2, Keep o x0 → Keep o (State.setQueue x0 x1 x2) := by
  intro x0 x1 x2 h0
  unfold State.setQueue
  with_reducible repeat' (first | (apply keep_same <;> first | assumption))

theorem State.setLocket_keeps {o : State} : ∀ x0 x1 x2, Keep o x0 → Keep o (State.setLocket x0 x1 x2) := by
  intro x0 x1 x2 h0
  unfold State.setLocket
  with_reducible repeat' (first | (apply keep_same <;> first | assumption))

theorem State.setHostFn_keeps {o : State} : ∀ x0 x1 x2, Keep o x0 → Keep o (State.setHostFn x0 x1 x2) := by
  intro x0 x1 x2 h0
  unfold State.setHostFn
  with_reducible repeat' (first | (apply keep_same <;> first | assumption))

theorem State.hostNotice_keeps {o : State} : ∀ x0 x1 x2, Keep o x0 → Keep o (State.hostNotice x0 x1 x2) := by
  intro x0 x1 x2 h0
  unfold State.hostNotice
  with_reducible repeat' (first | assumption | apply State.setHostFn_keeps)

theorem State.notice_keeps {o : State} : ∀ x0 x1, Keep o x0 → Keep o (State.notice x0 x1) := by
  intro x0 x1 h0
  unfold State.notice
  with_reducible repeat' (first
    | assumption | apply keep_ite | apply State.fireBinds_keeps | apply State.hostNotice_keeps)

theorem State.readable_keeps {o : State} : ∀ x0 x1 x2, Keep o x0 → Keep o (State.readable x0 x1 x2) := by
  intro x0 x1 x2 h0
  unfold State.readable
  with_reducible repeat' (first | assumption | apply State.notice_keeps | apply State.setQueue_keeps)

theorem State.commitPacket_keeps {o : State} : ∀ x0 x1 x2, Keep o x0 → Keep o (State.commitPacket x0 x1 x2) := by
  intro x0 x1 x2 h0
  unfold State.commitPacket
  with_reducible repeat' (first
    | assumption | apply keep_ite | apply State.pairCount_keeps | apply State.setQueue_keeps
    | apply State.holdEffect_keeps | apply State.readable_keeps)

theorem State.gapMark_keeps {o : State} : ∀ x0 x1, Keep o x0 → Keep o (State.gapMark x0 x1) := by
  intro x0 x1 h0
  unfold State.gapMark
  with_reducible repeat' (first
    | assumption | apply keep_ite | apply State.bump_keeps | apply State.setQueue_keeps
    | apply State.commitPacket_keeps | split)

theorem State.qPut_keeps {o : State} : ∀ x0 x1 x2 x3, Keep o x0 → Keep o (State.qPut x0 x1 x2 x3).1 := by
  intro x0 x1 x2 x3 h0
  unfold State.qPut
  with_reducible repeat' (first | assumption | apply keep_ite1 | apply State.setQueue_keeps | apply State.bump_keeps)

theorem State.qCommit_keeps {o : State} : ∀ x0 x1 x2, Keep o x0 → Keep o (State.qCommit x0 x1 x2) := by
  intro x0 x1 x2 h0
  unfold State.qCommit
  with_reducible repeat' (first
    | assumption | apply keep_ite | apply State.gapMark_keeps | apply State.setQueue_keeps
    | apply State.commitPacket_keeps | apply State.bump_keeps)

theorem State.qRewind_keeps {o : State} : ∀ x0 x1 x2, Keep o x0 → Keep o (State.qRewind x0 x1 x2) := by
  intro x0 x1 x2 h0
  unfold State.qRewind
  with_reducible repeat' (first | assumption | apply keep_ite | apply State.bump_keeps | apply State.setQueue_keeps)

theorem State.qGet_keeps {o : State} : ∀ x0 x1 x2, Keep o x0 → Keep o (State.qGet x0 x1 x2).1 := by
  intro x0 x1 x2 h0
  unfold State.qGet
  with_reducible repeat' (first | assumption | apply keep_ite1 | apply State.setQueue_keeps)

theorem State.qDrop_keeps {o : State} : ∀ x0 x1 x2, Keep o x0 → Keep o (State.qDrop x0 x1 x2) := by
  intro x0 x1 x2 h0
  unfold State.qDrop
  with_reducible repeat' (first
    | assumption | apply keep_ite | apply State.bumpBy_keeps | apply State.setQueue_keeps | dsimp only | split)

theorem State.qLeave1_keeps {o : State} : ∀ x0 x1 x2 x3, Keep o x2 → Keep o (State.qLeave1 x0 x1 x2 x3) := by
  intro x0 x1 x2 x3 h0
  unfold State.qLeave1
  with_reducible repeat' (first | assumption | apply keep_ite | apply State.qRewind_keeps | apply State.qDrop_keeps)

theorem State.qLeave_keeps {o : State} : ∀ x0 x1 x2, Keep o x0 → Keep o (State.qLeave x0 x1 x2) := by
  intro x0 x1 x2 h0
  unfold State.qLeave
  with_reducible repeat' (first | assumption | intro _ | apply keep_foldl | apply State.qLeave1_keeps)

theorem State.recordLost_keeps {o : State} : ∀ x0 x1 x2, Keep o x0 → Keep o (State.recordLost x0 x1 x2) := by
  intro x0 x1 x2 h0
  unfold State.recordLost
  with_reducible repeat' (first | assumption | apply keep_ite | apply State.bump_keeps)

theorem State.qRecord_keeps {o : State} : ∀ x0 x1 x2 x3, Keep o x0 → Keep o (State.qRecord x0 x1 x2 x3) := by
  intro x0 x1 x2 x3 h0
  unfold State.qRecord
  with_reducible repeat' (first
    | assumption | apply keep_ite | apply State.recordLost_keeps | apply State.commitPacket_keeps
    | apply State.bump_keeps | apply State.gapMark_keeps)

theorem State.lkNote_keeps {o : State} : ∀ x0 x1 x2 x3, Keep o x0 → Keep o (State.lkNote x0 x1 x2 x3) := by
  intro x0 x1 x2 x3 h0
  unfold State.lkNote
  with_reducible repeat' (first | assumption | apply keep_ite | apply State.setCtx_keeps)

theorem State.lkGive_keeps {o : State} : ∀ x0 x1 x2, Keep o x0 → Keep o (State.lkGive x0 x1 x2) := by
  intro x0 x1 x2 h0
  unfold State.lkGive
  with_reducible repeat' (first | assumption | apply State.lkNote_keeps | apply State.setLocket_keeps)

theorem State.lkTry_keeps {o : State} : ∀ x0 x1 x2, Keep o x0 → Keep o (State.lkTry x0 x1 x2).1 := by
  intro x0 x1 x2 h0
  unfold State.lkTry
  with_reducible repeat' (first | assumption | apply keep_ite1 | apply State.lkGive_keeps)

theorem State.lkFree_keeps {o : State} : ∀ x0 x1, Keep o x0 → Keep o (State.lkFree x0 x1) := by
  intro x0 x1 h0
  unfold State.lkFree
  with_reducible repeat' (first
    | assumption | apply State.lkNote_keeps | apply State.setLocket_keeps | apply State.lkGive_keeps
    | apply State.answerData_keeps | dsimp only | split)

theorem State.lkOrphan_keeps {o : State} : ∀ x0 x1, Keep o x0 → Keep o (State.lkOrphan x0 x1) := by
  intro x0 x1 h0
  unfold State.lkOrphan
  with_reducible repeat' (first
    | assumption | apply keep_ite | apply State.log_keeps | apply State.bump_keeps | apply State.setLocket_keeps
    | apply State.lkNote_keeps | apply State.lkFree_keeps)

theorem State.lkForeign_keeps {o : State} : ∀ x0 x1 x2, Keep o x0 → Keep o (State.lkForeign x0 x1 x2) := by
  intro x0 x1 x2 h0
  unfold State.lkForeign
  with_reducible repeat' (first | assumption | apply State.log_keeps | apply State.bump_keeps)

theorem State.lkWithdraw_keeps {o : State} : ∀ x0 x1 x2, Keep o x0 → Keep o (State.lkWithdraw x0 x1 x2) := by
  intro x0 x1 x2 h0
  unfold State.lkWithdraw
  with_reducible repeat' (first | assumption | apply State.setLocket_keeps)

theorem State.lkLeave_keeps {o : State} : ∀ x0 x1, Keep o x0 → Keep o (State.lkLeave x0 x1) := by
  intro x0 x1 h0
  unfold State.lkLeave
  with_reducible repeat' (first
    | assumption | intro _ | apply keep_foldl | apply State.lkWithdraw_keeps | apply State.lkOrphan_keeps)

theorem State.legCount_keeps {o : State} : ∀ x0 x1, Keep o x0 → Keep o (State.legCount x0 x1).2 := by
  intro x0 x1 h0
  unfold State.legCount
  with_reducible repeat' (first | (apply keep_same <;> first | assumption))

theorem State.legApply_keeps {o : State} : ∀ x0 x1 x2 x3 x4, Keep o x0 → Keep o (State.legApply x0 x1 x2 x3 x4) := by
  intro x0 x1 x2 x3 x4 h0
  unfold State.legApply
  with_reducible repeat' (first
    | assumption | apply keep_ite | apply State.legStoreAll_keeps | apply State.lkGive_keeps
    | apply State.lkFree_keeps | apply State.answer_keeps | apply State.send_keeps | split)

theorem State.shadowLegacy_keeps {o : State} : ∀ x0 x1 x2, Keep o x0 → Keep o (State.shadowLegacy x0 x1 x2) := by
  intro x0 x1 x2 h0
  unfold State.shadowLegacy
  with_reducible repeat' (first
    | assumption | apply State.legApply_keeps | (apply keep_same <;> first | apply State.legCount_keeps) | dsimp only
    | split)

theorem State.legResult_keeps {o : State} : ∀ x0 x1 x2 x3 x4, Keep o x0 → Keep o (State.legResult x0 x1 x2 x3 x4) := by
  intro x0 x1 x2 x3 x4 h0
  unfold State.legResult
  with_reducible repeat' (first
    | apply State.legApply_keeps | (apply keep_same <;> first | assumption) | dsimp only | split)

theorem State.masterLeaves_keeps {o : State} : ∀ x0 x1 x2, Keep o x0 → Keep o (State.masterLeaves x0 x1 x2) := by
  intro x0 x1 x2 h0
  unfold State.masterLeaves
  with_reducible repeat' (first | assumption | apply State.lkLeave_keeps | apply State.qLeave_keeps)

end Sys2Proof.Machine
end

