-- ==== Sys2Proof/Laws/KeepStrand.lean ====
section
/-! SUPPORT. One lemma per meaning and operation of strand instructions and pipeline events: it keeps the waiting commands, the member, the die
and the canonical form of the memories. -/

namespace Sys2Proof.Machine

/-! ### StrandOps -/

theorem State.takeDevSync_keeps {o : State} : ∀ x0 x1, Keep o x0 → Keep o (State.takeDevSync x0 x1) := by
  intro x0 x1 h0
  unfold State.takeDevSync
  with_reducible repeat' (first | assumption | (apply keep_same <;> first | assumption) | dsimp only | split)

theorem State.syncCtx_keeps {o : State} : ∀ x0 x1, Keep o x0 → Keep o (State.syncCtx x0 x1) := by
  intro x0 x1 h0
  unfold State.syncCtx
  with_reducible repeat' (first
    | assumption | intro _ | apply keep_foldl | apply State.takeDevSync_keeps | apply State.setCtx_keeps)

theorem State.drainCode_keeps {o : State} : ∀ x0 x1, Keep o x0 → Keep o (State.drainCode x0 x1) := by
  intro x0 x1 h0
  unfold State.drainCode
  with_reducible repeat' (first
    | assumption | intro _ | apply keep_ite | apply keep_foldl | apply State.setCtx_keeps
    | apply State.codeWrite_keeps | apply State.request_keeps)

theorem State.releaseStaged_keeps {o : State} : ∀ x0 x1, Keep o x0 → Keep o (State.releaseStaged x0 x1) := by
  intro x0 x1 h0
  unfold State.releaseStaged
  with_reducible repeat' (first
    | assumption | apply keep_ite | apply State.release_keeps | apply State.setCtx_keeps | apply State.activity_keeps)

theorem State.loseAlerts_keeps {o : State} : ∀ x0 x1, Keep o x0 → Keep o (State.loseAlerts x0 x1) := by
  intro x0 x1 h0
  unfold State.loseAlerts
  with_reducible repeat' (first | assumption | apply State.bumpBy_keeps)

theorem State.freeCtxNow_keeps {o : State} : ∀ x0 x1, Keep o x0 → Keep o (State.freeCtxNow x0 x1) := by
  intro x0 x1 h0
  unfold State.freeCtxNow
  with_reducible repeat' (first | assumption | apply State.leaveIssue_keeps)

theorem State.taskFree_keeps {o : State} : ∀ x0 x1, Keep o x0 → Keep o (State.taskFree x0 x1) := by
  intro x0 x1 h0
  unfold State.taskFree
  with_reducible repeat' (first
    | apply State.taskChanged_keeps | apply State.setTask_keeps | (apply keep_same <;> first | assumption))

theorem State.unspawn_keeps {o : State} : ∀ x0 x1, Keep o x0 → Keep o (State.unspawn x0 x1) := by
  intro x0 x1
  fun_induction State.unspawn
  all_goals with_reducible repeat' (first | assumption | intro _ | apply State.taskFree_keeps | apply_assumption)

theorem State.orphanAccesses_keeps {o : State} : ∀ x0 x1, Keep o x0 → Keep o (State.orphanAccesses x0 x1) := by
  intro x0 x1 h0
  unfold State.orphanAccesses
  with_reducible repeat' (first | apply State.setCache_keeps | (apply keep_same <;> first | assumption))

theorem State.replay_keeps {o : State} : ∀ x0 x1 x2, Keep o x0 → Keep o (State.replay x0 x1 x2) := by
  intro x0 x1 x2 h0
  unfold State.replay
  with_reducible repeat' (first
    | assumption | apply State.activity_keeps | apply State.log_keeps | apply State.bump_keeps
    | apply State.setRl_keeps)

theorem State.cutActivation_keeps {o : State} : ∀ x0 x1 x2 x3, Keep o x0 → Keep o (State.cutActivation x0 x1 x2 x3) := by
  intro x0 x1 x2 x3 h0
  unfold State.cutActivation
  with_reducible repeat' (first
    | assumption | apply keep_ite | apply State.flowNext_keeps | apply State.tenantFault_keeps
    | apply State.log_keeps | apply State.bump_keeps | apply State.replay_keeps | dsimp only | split)

theorem State.dropGrant_keeps {o : State} : ∀ x0 x1 x2 x3, Keep o x0 → Keep o (State.dropGrant x0 x1 x2 x3) := by
  intro x0 x1 x2 x3 h0
  unfold State.dropGrant
  with_reducible repeat' (first
    | assumption | apply keep_ite | apply State.send_keeps | apply State.unparkAlloc_keeps | dsimp only | split)

theorem State.cutTask_keeps {o : State} : ∀ x0 x1 x2 x3, Keep o x0 → Keep o (State.cutTask x0 x1 x2 x3) := by
  intro x0 x1 x2 x3 h0
  unfold State.cutTask
  with_reducible repeat' (first
    | assumption | apply State.tenantFault_keeps | apply State.taskFree_keeps | apply State.dropGrant_keeps | dsimp only
    | split)

theorem State.cutShort_keeps {o : State} : ∀ x0 x1 x2, Keep o x0 → Keep o (State.cutShort x0 x1 x2) := by
  intro x0 x1 x2 h0
  unfold State.cutShort
  with_reducible repeat' (first
    | assumption | apply keep_ite | apply State.loseAlerts_keeps | apply State.orphanAccesses_keeps
    | apply State.drainCode_keeps | apply State.sendAll_keeps | apply State.unspawn_keeps
    | apply State.masterLeaves_keeps | apply State.cutTask_keeps | apply State.cutActivation_keeps
    | apply State.freeCtxNow_keeps)

theorem State.instrFault_keeps {o : State} : ∀ x0 x1 x2, Keep o x0 → Keep o (State.instrFault x0 x1 x2) := by
  intro x0 x1 x2 h0
  unfold State.instrFault
  with_reducible repeat' (first | assumption | apply State.cutShort_keeps)

theorem State.busFault_keeps {o : State} : ∀ x0 x1 x2 x3, Keep o x0 → Keep o (State.busFault x0 x1 x2 x3) := by
  intro x0 x1 x2 x3 h0
  unfold State.busFault
  with_reducible repeat' (first | assumption | apply keep_ite | apply State.log_keeps | apply State.instrFault_keeps)

theorem State.countIssue_keeps {o : State} : ∀ x0 x1, Keep o x0 → Keep o (State.countIssue x0 x1) := by
  intro x0 x1 h0
  unfold State.countIssue
  with_reducible repeat' (first | assumption | apply State.bump_keeps)

theorem State.stallCtx_keeps {o : State} : ∀ x0 x1 x2, Keep o x0 → Keep o (State.stallCtx x0 x1 x2) := by
  intro x0 x1 x2 h0
  unfold State.stallCtx
  with_reducible repeat' (first | assumption | apply keep_ite | apply State.bump_keeps | apply State.longStall_keeps)

theorem State.stepEnds_keeps {o : State} : ∀ x0 x1, Keep o x0 → Keep o (State.stepEnds x0 x1) := by
  intro x0 x1 h0
  unfold State.stepEnds
  with_reducible repeat' (first | assumption | apply keep_ite | apply State.schedule_keeps | apply State.setCtx_keeps)

theorem State.finish_keeps {o : State} : ∀ x0 x1 x2, Keep o x0 → KeepA o (x2) → Keep o (State.finish x0 x1 x2) := by
  intro s c a h ha
  cases ha <;> unfold State.finish <;> dsimp only <;>
    with_reducible repeat' (first
      | assumption | apply State.instrFault_keeps | apply State.busFault_keeps | apply State.stallCtx_keeps
      | apply State.stepEnds_keeps | apply State.countIssue_keeps | apply State.setCtx_keeps)


theorem runStrand_keeps {o : State} : ∀ x0 x1 x2, Keep o x0 → (∀ y0 y1, Keep o y0 → KeepA o (x2 y0 y1)) → KeepX o (runStrand x0 x1 x2) := by
  intro x0 x1 x2 h0 h1
  unfold runStrand
  with_reducible repeat' (first
    | assumption | apply keepX_next | exact keepX_fault | apply keepX_ite | apply State.stallCtx_keeps
    | apply State.busFault_keeps | apply State.setCtx_keeps | apply State.instrFault_keeps | apply State.finish_keeps
    | apply_assumption | split)

theorem State.landRegs_keeps {o : State} : ∀ x0 x1 x2, Keep o x0 → Keep o (State.landRegs x0 x1 x2) := by
  intro x0 x1 x2 h0
  unfold State.landRegs
  with_reducible repeat' (first
    | assumption | intro _ | apply keep_ite | apply keep_foldl | apply State.setCtx_keeps | apply State.setTask_keeps
    | dsimp only | split)

theorem bodyAct_keeps {o : State} : ∀ x0 x1 x2, Keep o x0 → KeepA o (bodyAct x0 x1 x2) := by
  intro x0 x1 x2 h0
  unfold bodyAct
  with_reducible repeat' (first
    | assumption | apply keepA_done | apply keepA_goto | exact keepA_raise | exact keepA_stall | apply keepA_ite
    | apply State.landRegs_keeps | apply State.setCtx_keeps | dsimp only | split)

theorem runBody_keeps {o : State} : ∀ x0 x1 x2, Keep o x0 → KeepX o (runBody x0 x1 x2) := by
  intro x0 x1 x2 h0
  unfold runBody
  with_reducible repeat' (first | assumption | intro _ | apply runStrand_keeps | apply bodyAct_keeps)

theorem State.strandRequest_keeps {o : State} : ∀ x0 x1 x2 x3 x4 x5, Keep o x0 → Keep o (State.strandRequest x0 x1 x2 x3 x4 x5) := by
  intro x0 x1 x2 x3 x4 x5 h0
  unfold State.strandRequest
  with_reducible repeat' (first | assumption | apply State.request_keeps | apply State.setCtx_keeps)

/-! ### Access -/

theorem State.stageWrite_keeps {o : State} : ∀ x0 x1 x2, Keep o x0 → Keep o (State.stageWrite x0 x1 x2) := by
  intro x0 x1 x2 h0
  unfold State.stageWrite
  with_reducible repeat' (first | assumption | apply State.setCtx_keeps | dsimp only | split)

theorem mGate_keeps {o : State} : ∀ x0 x1 x2 x3 x4 x5 x6 x7, KeepA o (x7) → KeepA o (@mGate x0 x1 x2 x3 x4 x5 x6 x7) := by
  intro x0 x1 x2 x3 x4 x5 x6 x7 h0
  unfold mGate
  with_reducible repeat' (first | assumption | exact keepA_raise | exact keepA_stall | apply keepA_ite)

theorem State.noteRead_keeps {o : State} : ∀ x0 x1, Keep o x0 → Keep o (State.noteRead x0 x1) := by
  intro x0 x1 h0
  unfold State.noteRead
  with_reducible repeat' (first | assumption | apply State.setCtx_keeps)

theorem State.sendLoads_keeps {o : State} : ∀ x0 x1 x2, Keep o x0 → Keep o (State.sendLoads x0 x1 x2) := by
  intro x0 x1 x2
  fun_induction State.sendLoads
  all_goals with_reducible repeat' (first
    | assumption | intro _ | apply keep_ite | apply State.strandRequest_keeps | apply State.noteRead_keeps
    | apply_assumption)

theorem State.waitLines_keeps {o : State} : ∀ x0 x1 x2, Keep o x0 → Keep o (State.waitLines x0 x1 x2) := by
  intro x0 x1 x2
  fun_induction State.waitLines
  all_goals with_reducible repeat' (first
    | assumption | intro _ | apply State.setCtx_keeps | apply State.startMiss_keeps | apply_assumption)

theorem loadOwn_keeps {o : State} : ∀ x0 x1 x2 x3 x4 x5 x6, Keep o x0 → KeepA o (loadOwn x0 x1 x2 x3 x4 x5 x6) := by
  intro x0 x1 x2 x3 x4 x5 x6 h0
  unfold loadOwn
  with_reducible repeat' (first
    | assumption | apply keepA_done | apply keepA_bus | apply keepA_ite | apply State.spadCheck_keeps
    | apply State.landRegs_keeps)

theorem loadState_keeps {o : State} : ∀ x0 x1 x2 x3 x4 x5 x6, Keep o x0 → KeepA o (loadState x0 x1 x2 x3 x4 x5 x6) := by
  intro x0 x1 x2 x3 x4 x5 x6 h0
  unfold loadState
  with_reducible repeat' (first
    | assumption | intro _ | apply keep_ite | apply keep_foldl | apply keepA_done | apply keepA_bus
    | exact keepA_stall | apply keepA_ite | apply State.cacheCheck_keeps | apply State.touch_keeps
    | apply State.bump_keeps | apply State.waitLines_keeps | apply State.landRegs_keeps)

theorem loadFar_keeps {o : State} : ∀ x0 x1 x2 x3 x4 x5, Keep o x0 → KeepA o (loadFar x0 x1 x2 x3 x4 x5) := by
  intro x0 x1 x2 x3 x4 x5 h0
  unfold loadFar
  with_reducible repeat' (first
    | assumption | apply keepA_done | exact keepA_stall | apply keepA_ite | apply State.sendLoads_keeps
    | apply State.landRegs_keeps)

theorem loadAct_keeps {o : State} : ∀ x0 x1 x2 x3 x4 x5 x6 x7 x8, Keep o x8 → KeepA o (@loadAct x0 x1 x2 x3 x4 x5 x6 x7 x8) := by
  intro x0 x1 x2 x3 x4 x5 x6 x7 x8 h0
  unfold loadAct
  with_reducible repeat' (first
    | assumption | exact keepA_raise | apply keepA_ite | apply mGate_keeps | apply loadOwn_keeps
    | apply loadState_keeps | apply loadFar_keeps | dsimp only | split)

theorem State.stageStore_keeps {o : State} : ∀ x0 x1 x2 x3, Keep o x0 → Keep o (State.stageStore x0 x1 x2 x3) := by
  intro x0 x1 x2 x3
  fun_induction State.stageStore
  all_goals with_reducible repeat' (first | assumption | intro _ | apply State.stageWrite_keeps | apply_assumption)

theorem State.bufferCode_keeps {o : State} : ∀ x0 x1 x2 x3 x4, Keep o x0 → Keep o (State.bufferCode x0 x1 x2 x3 x4) := by
  intro x0 x1 x2 x3 x4 h0
  unfold State.bufferCode
  with_reducible repeat' (first
    | assumption | apply keep_ite | apply State.drainCode_keeps | apply State.setCtx_keeps)

theorem State.sendStore_keeps {o : State} : ∀ x0 x1 x2 x3, Keep o x0 → Keep o (State.sendStore x0 x1 x2 x3) := by
  intro x0 x1 x2 x3 h0
  unfold State.sendStore
  with_reducible repeat' (first
    | assumption | apply keep_ite | apply State.bufferCode_keeps | apply State.post_keeps
    | apply State.strandRequest_keeps | apply State.noteRead_keeps | dsimp only | split)

theorem State.sendStores_keeps {o : State} : ∀ x0 x1 x2, Keep o x0 → Keep o (State.sendStores x0 x1 x2) := by
  intro x0 x1 x2
  fun_induction State.sendStores
  all_goals with_reducible repeat' (first | assumption | intro _ | apply State.sendStore_keeps | apply_assumption)

theorem State.storeTargets_keeps {o : State} : ∀ x0 x1 x2, Keep o x0 → Keep o (State.storeTargets x0 x1 x2) := by
  intro x0 x1 x2 h0
  unfold State.storeTargets
  with_reducible repeat' (first
    | assumption | intro _ | apply keep_foldl | apply State.spadStore_keeps | apply State.storeState_keeps
    | apply State.sendStores_keeps | split)

theorem storeAct_keeps {o : State} : ∀ x0 x1 x2 x3 x4 x5 x6 x7, Keep o x7 → KeepA o (@storeAct x0 x1 x2 x3 x4 x5 x6 x7) := by
  intro x0 x1 x2 x3 x4 x5 x6 x7 h0
  unfold storeAct
  with_reducible repeat' (first
    | assumption | apply keepA_done | exact keepA_raise | exact keepA_stall | apply keepA_ite | apply mGate_keeps
    | apply State.stageStore_keeps | apply State.landRegs_keeps | apply State.storeTargets_keeps | dsimp only | split)

theorem State.storeLate_keeps {o : State} : ∀ x0 x1 x2 x3, Keep o x0 → Keep o (State.storeLate x0 x1 x2 x3) := by
  intro x0 x1 x2 x3 h0
  unfold State.storeLate
  with_reducible repeat' (first | assumption | apply State.storeTargets_keeps | split)

theorem ldsAct_keeps {o : State} : ∀ x0 x1 x2 x3 x4 x5, Keep o x5 → KeepA o (@ldsAct x0 x1 x2 x3 x4 x5) := by
  intro x0 x1 x2 x3 x4 x5 h0
  unfold ldsAct
  with_reducible repeat' (first
    | assumption | apply keepA_done | exact keepA_raise | exact keepA_stall | apply keepA_ite
    | apply State.landRegs_keeps)

theorem State.slotStore_keeps {o : State} : ∀ x0 x1 x2 x3, Keep o x0 → Keep o (State.slotStore x0 x1 x2 x3) := by
  intro x0 x1 x2 x3 h0
  unfold State.slotStore
  with_reducible repeat' (first
    | assumption | apply keep_ite | apply State.putSlot_keeps | apply State.clearCpl_keeps)

theorem stsAct_keeps {o : State} : ∀ x0 x1 x2 x3 x4 x5, Keep o x5 → KeepA o (@stsAct x0 x1 x2 x3 x4 x5) := by
  intro x0 x1 x2 x3 x4 x5 h0
  unfold stsAct
  with_reducible repeat' (first
    | assumption | apply keep_ite | apply keepA_done | exact keepA_raise | exact keepA_stall | apply keepA_ite
    | apply State.bump_keeps | apply State.stageWrite_keeps | apply State.slotStore_keeps | split)

theorem execLd_keeps {o : State} : ∀ x0 x1 x2 x3 x4 x5 x6, Keep o x6 → KeepX o (execLd x0 x1 x2 x3 x4 x5 x6) := by
  intro x0 x1 x2 x3 x4 x5 x6 h0
  unfold execLd
  with_reducible repeat' (first | assumption | intro _ | apply runStrand_keeps | apply loadAct_keeps)

theorem execLdp_keeps {o : State} : ∀ x0 x1 x2 x3 x4 x5 x6, Keep o x6 → KeepX o (execLdp x0 x1 x2 x3 x4 x5 x6) := by
  intro x0 x1 x2 x3 x4 x5 x6 h0
  unfold execLdp
  with_reducible repeat' (first | assumption | intro _ | apply runStrand_keeps | apply loadAct_keeps)

theorem execLdt_keeps {o : State} : ∀ x0 x1 x2 x3 x4 x5 x6, Keep o x6 → KeepX o (execLdt x0 x1 x2 x3 x4 x5 x6) := by
  intro x0 x1 x2 x3 x4 x5 x6 h0
  unfold execLdt
  with_reducible repeat' (first | assumption | intro _ | apply runStrand_keeps | apply loadAct_keeps)

theorem execSt_keeps {o : State} : ∀ x0 x1 x2 x3 x4 x5, Keep o x5 → KeepX o (execSt x0 x1 x2 x3 x4 x5) := by
  intro x0 x1 x2 x3 x4 x5 h0
  unfold execSt
  with_reducible repeat' (first | assumption | intro _ | apply runStrand_keeps | apply storeAct_keeps)

theorem execStp_keeps {o : State} : ∀ x0 x1 x2 x3 x4 x5, Keep o x5 → KeepX o (execStp x0 x1 x2 x3 x4 x5) := by
  intro x0 x1 x2 x3 x4 x5 h0
  unfold execStp
  with_reducible repeat' (first | assumption | intro _ | apply runStrand_keeps | apply storeAct_keeps)

theorem execStt_keeps {o : State} : ∀ x0 x1 x2 x3 x4 x5, Keep o x5 → KeepX o (execStt x0 x1 x2 x3 x4 x5) := by
  intro x0 x1 x2 x3 x4 x5 h0
  unfold execStt
  with_reducible repeat' (first | assumption | intro _ | apply runStrand_keeps | apply storeAct_keeps)

theorem execLds_keeps {o : State} : ∀ x0 x1 x2 x3 x4, Keep o x4 → KeepX o (execLds x0 x1 x2 x3 x4) := by
  intro x0 x1 x2 x3 x4 h0
  unfold execLds
  with_reducible repeat' (first | assumption | intro _ | apply runStrand_keeps | apply ldsAct_keeps)

theorem execSts_keeps {o : State} : ∀ x0 x1 x2 x3 x4, Keep o x4 → KeepX o (execSts x0 x1 x2 x3 x4) := by
  intro x0 x1 x2 x3 x4 h0
  unfold execSts
  with_reducible repeat' (first | assumption | intro _ | apply runStrand_keeps | apply stsAct_keeps)

/-! ### Flow -/

theorem State.spillStore_keeps {o : State} : ∀ x0 x1 x2 x3, Keep o x0 → Keep o (State.spillStore x0 x1 x2 x3) := by
  intro x0 x1 x2 x3 h0
  unfold State.spillStore
  with_reducible repeat' (first
    | assumption | apply keep_ite | apply State.recStore_keeps | apply State.spadStore_keeps)

theorem State.slideUp_keeps {o : State} : ∀ x0 x1, Keep o x0 → Keep o (State.slideUp x0 x1) := by
  intro x0 x1 h0
  unfold State.slideUp
  with_reducible repeat' (first
    | assumption | apply keep_ite | apply State.spillStore_keeps | apply State.setCtx_keeps | apply State.bump_keeps)

theorem State.slideDown_keeps {o : State} : ∀ x0 x1, Keep o x0 → Keep o (State.slideDown x0 x1) := by
  intro x0 x1 h0
  unfold State.slideDown
  with_reducible repeat' (first | assumption | apply keep_ite | apply State.setCtx_keeps | apply State.bump_keeps)

theorem Context.owed_keeps {o : State} : ∀ x0 x1 x2, KeepA o (x2) → KeepA o (Context.owed x0 x1 x2) := by
  intro x0 x1 x2 h0
  unfold Context.owed
  with_reducible repeat' (first | assumption | exact keepA_stall | apply keepA_ite)

theorem callAct_keeps {o : State} : ∀ x0 x1 x2, Keep o x2 → KeepA o (callAct x0 x1 x2) := by
  intro x0 x1 x2 h0
  unfold callAct
  with_reducible repeat' (first
    | assumption | apply keepA_goto | exact keepA_raise | apply keepA_ite | apply Context.owed_keeps
    | apply State.setCtx_keeps | apply State.slideUp_keeps)

theorem loopAct_keeps {o : State} : ∀ x0 x1 x2 x3, Keep o x3 → KeepA o (loopAct x0 x1 x2 x3) := by
  intro x0 x1 x2 x3 h0
  unfold loopAct
  with_reducible repeat' (first
    | assumption | apply keepA_done | apply keepA_goto | exact keepA_raise | apply keepA_ite
    | apply State.setCtx_keeps)

theorem State.enterAlert_keeps {o : State} : ∀ x0 x1 x2 x3, Keep o x0 → Keep o (State.enterAlert x0 x1 x2 x3) := by
  intro x0 x1 x2 x3 h0
  unfold State.enterAlert
  with_reducible repeat' (first
    | assumption | apply State.bump_keeps | apply State.slideUp_keeps | apply State.setCtx_keeps)

theorem execAlertEntry_keeps {o : State} : ∀ x0 x1, Keep o x1 → KeepX o (execAlertEntry x0 x1) := by
  intro x0 x1 h0
  unfold execAlertEntry
  with_reducible repeat' (first
    | assumption | apply keepX_next | exact keepX_fault | apply keepX_ite | apply State.busFault_keeps
    | apply State.setCtx_keeps | apply State.instrFault_keeps | apply State.enterAlert_keeps | dsimp only | split)

theorem aretAct_keeps {o : State} : ∀ x0 x1, Keep o x1 → KeepA o (aretAct x0 x1) := by
  intro x0 x1 h0
  unfold aretAct
  with_reducible repeat' (first
    | assumption | apply keepA_goto | exact keepA_raise | apply keepA_ite | apply Context.owed_keeps
    | apply State.bump_keeps | apply State.setCtx_keeps | apply State.slideDown_keeps | dsimp only | split)

theorem execCall_keeps {o : State} : ∀ x0 x1 x2, Keep o x2 → KeepX o (execCall x0 x1 x2) := by
  intro x0 x1 x2 h0
  unfold execCall
  with_reducible repeat' (first | assumption | intro _ | apply runStrand_keeps | apply callAct_keeps)

theorem execCallr_keeps {o : State} : ∀ x0 x1 x2 x3 x4, Keep o x4 → KeepX o (execCallr x0 x1 x2 x3 x4) := by
  intro x0 x1 x2 x3 x4 h0
  unfold execCallr
  with_reducible repeat' (first
    | assumption | intro _ | exact keepA_raise | apply keepA_ite | apply runStrand_keeps | apply Context.owed_keeps
    | apply callAct_keeps)

theorem execRet_keeps {o : State} : ∀ x0 x1 x2 x3 x4, Keep o x4 → KeepX o (execRet x0 x1 x2 x3 x4) := by
  intro x0 x1 x2 x3 x4 h0
  unfold execRet
  with_reducible repeat' (first
    | assumption | intro _ | apply keepA_goto | exact keepA_raise | apply keepA_ite | apply runStrand_keeps
    | apply Context.owed_keeps | apply State.slideDown_keeps | apply State.setCtx_keeps)

theorem execLoop_keeps {o : State} : ∀ x0 x1 x2 x3, Keep o x3 → KeepX o (execLoop x0 x1 x2 x3) := by
  intro x0 x1 x2 x3 h0
  unfold execLoop
  with_reducible repeat' (first
    | assumption | intro _ | exact keepA_raise | apply keepA_ite | apply runStrand_keeps | apply Context.owed_keeps
    | apply loopAct_keeps)

theorem execLoopi_keeps {o : State} : ∀ x0 x1 x2 x3, Keep o x3 → KeepX o (execLoopi x0 x1 x2 x3) := by
  intro x0 x1 x2 x3 h0
  unfold execLoopi
  with_reducible repeat' (first
    | assumption | intro _ | exact keepA_raise | apply keepA_ite | apply runStrand_keeps | apply loopAct_keeps)

theorem execLpop_keeps {o : State} : ∀ x0 x1 x2 x3 x4, Keep o x4 → KeepX o (execLpop x0 x1 x2 x3 x4) := by
  intro x0 x1 x2 x3 x4 h0
  unfold execLpop
  with_reducible repeat' (first
    | assumption | intro _ | apply keepA_done | exact keepA_raise | apply keepA_ite | apply runStrand_keeps
    | apply State.setCtx_keeps)

theorem execAret_keeps {o : State} : ∀ x0 x1 x2 x3 x4, Keep o x4 → KeepX o (execAret x0 x1 x2 x3 x4) := by
  intro x0 x1 x2 x3 x4 h0
  unfold execAret
  with_reducible repeat' (first
    | assumption | intro _ | exact keepA_raise | apply keepA_ite | apply runStrand_keeps | apply aretAct_keeps)

/-! ### System -/

theorem State.holdSync_keeps {o : State} : ∀ x0 x1, Keep o x0 → KeepA o (State.holdSync x0 x1) := by
  intro x0 x1 h0
  unfold State.holdSync
  with_reducible repeat' (first
    | assumption | apply keepA_leave | apply State.stallCtx_keeps | apply State.setCtx_keeps)

theorem syncAct_keeps {o : State} : ∀ x0 x1, Keep o x1 → KeepA o (syncAct x0 x1) := by
  intro x0 x1 h0
  unfold syncAct
  with_reducible repeat' (first
    | assumption | apply keepA_done | exact keepA_stall | apply keepA_ite | apply State.holdSync_keeps
    | apply State.syncCtx_keeps)

theorem syncIAct_keeps {o : State} : ∀ x0 x1, Keep o x1 → KeepA o (syncIAct x0 x1) := by
  intro x0 x1 h0
  unfold syncIAct
  with_reducible repeat' (first
    | assumption | apply keepA_done | apply keepA_leave | exact keepA_stall | apply keepA_ite
    | apply State.drainCode_keeps | apply State.stallCtx_keeps)

theorem releaseGate_keeps {o : State} : ∀ x0 x1 x2, Keep o x1 → KeepA o (x2) → KeepA o (releaseGate x0 x1 x2) := by
  intro x0 x1 x2 h0 h1
  unfold releaseGate
  with_reducible repeat' (first | assumption | exact keepA_stall | apply keepA_ite | apply State.holdSync_keeps)

theorem State.releasePoint_keeps {o : State} : ∀ x0 x1 x2, Keep o x0 → Keep o (State.releasePoint x0 x1 x2) := by
  intro x0 x1 x2 h0
  unfold State.releasePoint
  with_reducible repeat' (first
    | assumption | apply State.releaseStaged_keeps | apply State.drainCode_keeps | apply State.syncCtx_keeps
    | apply State.charge_keeps | apply State.setCtx_keeps)

theorem State.toSaving_keeps {o : State} : ∀ x0 x1, Keep o x0 → Keep o (State.toSaving x0 x1) := by
  intro x0 x1 h0
  unfold State.toSaving
  with_reducible repeat' (first
    | assumption | apply State.orphanAccesses_keeps | apply State.masterLeaves_keeps | apply State.loseAlerts_keeps
    | apply State.leaveIssue_keeps | dsimp only)

theorem State.waitAway_keeps {o : State} : ∀ x0 x1, Keep o x0 → Keep o (State.waitAway x0 x1) := by
  intro x0 x1 h0
  unfold State.waitAway
  with_reducible repeat' (first
    | assumption | apply State.toSaving_keeps | apply State.countIssue_keeps | apply State.setCtx_keeps)

theorem endAct_keeps {o : State} : ∀ x0 x1 x2, Keep o x2 → KeepA o (endAct x0 x1 x2) := by
  intro x0 x1 x2 h0
  unfold endAct
  with_reducible repeat' (first
    | assumption | apply keep_ite | apply keepA_leave | apply releaseGate_keeps | apply State.loseAlerts_keeps
    | apply State.charge_keeps | apply State.activity_keeps | apply State.releaseStaged_keeps
    | apply State.drainCode_keeps | apply State.masterLeaves_keeps | apply State.taskFree_keeps
    | apply State.flowNext_keeps | apply State.send_keeps | apply State.freeCtxNow_keeps
    | apply State.countIssue_keeps | apply State.orphanAccesses_keeps)

theorem fenceAct_keeps {o : State} : ∀ x0 x1, Keep o x1 → KeepA o (fenceAct x0 x1) := by
  intro x0 x1 h0
  unfold fenceAct
  with_reducible repeat' (first | assumption | apply keepA_done | exact keepA_stall | apply keepA_ite)

theorem fenceWritesAct_keeps {o : State} : ∀ x0 x1, Keep o x1 → KeepA o (fenceWritesAct x0 x1) := by
  intro x0 x1 h0
  unfold fenceWritesAct
  with_reducible repeat' (first | assumption | apply keep_ite | apply keepA_done | apply State.setCtx_keeps)

theorem execNop_keeps {o : State} : ∀ x0 x1 x2 x3 x4, Keep o x4 → KeepX o (execNop x0 x1 x2 x3 x4) := by
  intro x0 x1 x2 x3 x4 h0
  unfold execNop
  with_reducible repeat' (first
    | assumption | intro _ | apply keepA_done | exact keepA_raise | apply keepA_ite | apply runStrand_keeps)

theorem execSync_keeps {o : State} : ∀ x0 x1 x2 x3 x4, Keep o x4 → KeepX o (execSync x0 x1 x2 x3 x4) := by
  intro x0 x1 x2 x3 x4 h0
  unfold execSync
  with_reducible repeat' (first
    | assumption | intro _ | exact keepA_raise | apply keepA_ite | apply runStrand_keeps | apply syncAct_keeps)

theorem execSyncI_keeps {o : State} : ∀ x0 x1 x2 x3 x4, Keep o x4 → KeepX o (execSyncI x0 x1 x2 x3 x4) := by
  intro x0 x1 x2 x3 x4 h0
  unfold execSyncI
  with_reducible repeat' (first
    | assumption | intro _ | exact keepA_raise | apply keepA_ite | apply runStrand_keeps | apply syncIAct_keeps)

theorem execEndStrand_keeps {o : State} : ∀ x0 x1 x2 x3 x4 x5, Keep o x5 → KeepX o (execEndStrand x0 x1 x2 x3 x4 x5) := by
  intro x0 x1 x2 x3 x4 x5 h0
  unfold execEndStrand
  with_reducible repeat' (first
    | assumption | intro _ | exact keepA_raise | apply keepA_ite | apply runStrand_keeps | apply endAct_keeps)

theorem execFence_keeps {o : State} : ∀ x0 x1 x2 x3 x4, Keep o x4 → KeepX o (execFence x0 x1 x2 x3 x4) := by
  intro x0 x1 x2 x3 x4 h0
  unfold execFence
  with_reducible repeat' (first
    | assumption | intro _ | exact keepA_raise | apply keepA_ite | apply runStrand_keeps | apply fenceWritesAct_keeps
    | apply fenceAct_keeps)

theorem execFenceWrites_keeps {o : State} : ∀ x0 x1 x2 x3, Keep o x3 → KeepX o (execFenceWrites x0 x1 x2 x3) := by
  intro x0 x1 x2 x3 h0
  unfold execFenceWrites
  with_reducible repeat' (first
    | assumption | intro _ | exact keepA_raise | apply keepA_ite | apply runStrand_keeps | apply fenceWritesAct_keeps)

theorem execBrk_keeps {o : State} : ∀ x0 x1 x2 x3 x4, Keep o x4 → KeepX o (execBrk x0 x1 x2 x3 x4) := by
  intro x0 x1 x2 x3 x4 h0
  unfold execBrk
  with_reducible repeat' (first
    | assumption | intro _ | apply keepA_leave | exact keepA_raise | apply keepA_ite | apply runStrand_keeps
    | apply State.schedule_keeps | apply State.countIssue_keeps | apply State.setCtx_keeps)

theorem execMcommit_keeps {o : State} : ∀ x0 x1 x2 x3 x4, Keep o x4 → KeepX o (execMcommit x0 x1 x2 x3 x4) := by
  intro x0 x1 x2 x3 x4 h0
  unfold execMcommit
  with_reducible repeat' (first | assumption | intro _ | exact keepA_raise | apply keepA_ite | apply runStrand_keeps)

/-! ### Tokens -/

theorem stageAct_keeps {o : State} : ∀ x0 x1 x2, Keep o x2 → KeepA o (stageAct x0 x1 x2) := by
  intro x0 x1 x2 h0
  unfold stageAct
  with_reducible repeat' (first
    | assumption | apply keepA_done | exact keepA_raise | apply keepA_ite | apply State.setCtx_keeps)

theorem sendAct_keeps {o : State} : ∀ x0 x1 x2 x3 x4 x5 x6, Keep o x6 → KeepA o (sendAct x0 x1 x2 x3 x4 x5 x6) := by
  intro x0 x1 x2 x3 x4 x5 x6 h0
  unfold sendAct
  with_reducible repeat' (first
    | assumption | exact keepA_raise | apply keepA_ite | apply Context.owed_keeps | apply stageAct_keeps)

theorem sendxAct_keeps {o : State} : ∀ x0 x1 x2 x3 x4 x5 x6, Keep o x6 → KeepA o (sendxAct x0 x1 x2 x3 x4 x5 x6) := by
  intro x0 x1 x2 x3 x4 x5 x6 h0
  unfold sendxAct
  with_reducible repeat' (first
    | assumption | exact keepA_raise | apply keepA_ite | apply Context.owed_keeps | apply stageAct_keeps)

theorem execSend_keeps {o : State} : ∀ x0 x1 x2 x3 x4 x5, Keep o x5 → KeepX o (execSend x0 x1 x2 x3 x4 x5) := by
  intro x0 x1 x2 x3 x4 x5 h0
  unfold execSend
  with_reducible repeat' (first | assumption | intro _ | apply runStrand_keeps | apply sendAct_keeps)

theorem execSendC_keeps {o : State} : ∀ x0 x1 x2 x3 x4 x5, Keep o x5 → KeepX o (execSendC x0 x1 x2 x3 x4 x5) := by
  intro x0 x1 x2 x3 x4 x5 h0
  unfold execSendC
  with_reducible repeat' (first | assumption | intro _ | apply runStrand_keeps | apply sendAct_keeps)

theorem execSendc_keeps {o : State} : ∀ x0 x1 x2 x3 x4, Keep o x4 → KeepX o (execSendc x0 x1 x2 x3 x4) := by
  intro x0 x1 x2 x3 x4 h0
  unfold execSendc
  with_reducible repeat' (first | assumption | intro _ | apply runStrand_keeps | apply sendxAct_keeps)

theorem execSendcC_keeps {o : State} : ∀ x0 x1 x2 x3 x4, Keep o x4 → KeepX o (execSendcC x0 x1 x2 x3 x4) := by
  intro x0 x1 x2 x3 x4 h0
  unfold execSendcC
  with_reducible repeat' (first | assumption | intro _ | apply runStrand_keeps | apply sendxAct_keeps)

theorem execSendp_keeps {o : State} : ∀ x0 x1 x2 x3 x4, Keep o x4 → KeepX o (execSendp x0 x1 x2 x3 x4) := by
  intro x0 x1 x2 x3 x4 h0
  unfold execSendp
  with_reducible repeat' (first | assumption | intro _ | apply runStrand_keeps | apply sendxAct_keeps)

theorem execSendpC_keeps {o : State} : ∀ x0 x1 x2 x3 x4, Keep o x4 → KeepX o (execSendpC x0 x1 x2 x3 x4) := by
  intro x0 x1 x2 x3 x4 h0
  unfold execSendpC
  with_reducible repeat' (first | assumption | intro _ | apply runStrand_keeps | apply sendxAct_keeps)

theorem execFreeF_keeps {o : State} : ∀ x0 x1 x2 x3 x4, Keep o x4 → KeepX o (execFreeF x0 x1 x2 x3 x4) := by
  intro x0 x1 x2 x3 x4 h0
  unfold execFreeF
  with_reducible repeat' (first
    | assumption | intro _ | exact keepA_raise | apply keepA_ite | apply runStrand_keeps | apply Context.owed_keeps
    | apply stageAct_keeps)

/-! ### Tasks -/

theorem State.allocSend_keeps {o : State} : ∀ x0 x1 x2 x3 x4, Keep o x0 → Keep o (State.allocSend x0 x1 x2 x3 x4) := by
  intro x0 x1 x2 x3 x4 h0
  unfold State.allocSend
  with_reducible repeat' (first
    | assumption | apply State.await_keeps | apply State.send_keeps | apply State.setCtx_keeps)

theorem allocAct_keeps {o : State} : ∀ x0 x1 x2 x3 x4, Keep o x4 → KeepA o (allocAct x0 x1 x2 x3 x4) := by
  intro x0 x1 x2 x3 x4 h0
  unfold allocAct
  with_reducible repeat' (first
    | assumption | apply keepA_done | exact keepA_raise | apply keepA_ite | apply Context.owed_keeps
    | apply State.allocSend_keeps | split)

theorem allocwAct_keeps {o : State} : ∀ x0 x1 x2 x3 x4 x5, Keep o x5 → KeepA o (allocwAct x0 x1 x2 x3 x4 x5) := by
  intro x0 x1 x2 x3 x4 x5 h0
  unfold allocwAct
  with_reducible repeat' (first
    | assumption | apply keepA_done | exact keepA_raise | apply keepA_ite | apply releaseGate_keeps
    | apply State.allocSend_keeps | apply State.releasePoint_keeps | split)

theorem spawnAct_keeps {o : State} : ∀ x0 x1 x2 x3 x4, Keep o x4 → KeepA o (spawnAct x0 x1 x2 x3 x4) := by
  intro x0 x1 x2 x3 x4 h0
  unfold spawnAct
  with_reducible repeat' (first
    | assumption | apply keepA_done | exact keepA_raise | apply keepA_ite | apply Context.owed_keeps
    | apply State.await_keeps | apply State.send_keeps | apply State.setCtx_keeps)

theorem wfeAct_keeps {o : State} : ∀ x0 x1 x2 x3 x4 x5, Keep o x5 → KeepA o (wfeAct x0 x1 x2 x3 x4 x5) := by
  intro x0 x1 x2 x3 x4 x5 h0
  unfold wfeAct
  with_reducible repeat' (first
    | assumption | apply keepA_done | apply keepA_leave | exact keepA_raise | apply keepA_ite
    | apply releaseGate_keeps | apply State.releasePoint_keeps | apply State.landRegs_keeps
    | apply State.setTask_keeps | apply State.waitAway_keeps | apply State.taskChanged_keeps)

theorem waittAct_keeps {o : State} : ∀ x0 x1 x2 x3 x4 x5, Keep o x5 → KeepA o (waittAct x0 x1 x2 x3 x4 x5) := by
  intro x0 x1 x2 x3 x4 x5 h0
  unfold waittAct
  with_reducible repeat' (first
    | assumption | apply keepA_done | apply keepA_leave | exact keepA_raise | apply keepA_ite
    | apply releaseGate_keeps | apply State.releasePoint_keeps | apply State.waitAway_keeps
    | apply State.taskChanged_keeps | apply State.setTask_keeps)

theorem execAlloc_keeps {o : State} : ∀ x0 x1 x2 x3 x4, Keep o x4 → KeepX o (execAlloc x0 x1 x2 x3 x4) := by
  intro x0 x1 x2 x3 x4 h0
  unfold execAlloc
  with_reducible repeat' (first | assumption | intro _ | apply runStrand_keeps | apply allocAct_keeps)

theorem execAllocw_keeps {o : State} : ∀ x0 x1 x2 x3 x4 x5, Keep o x5 → KeepX o (execAllocw x0 x1 x2 x3 x4 x5) := by
  intro x0 x1 x2 x3 x4 x5 h0
  unfold execAllocw
  with_reducible repeat' (first | assumption | intro _ | apply runStrand_keeps | apply allocwAct_keeps)

theorem execSpawn_keeps {o : State} : ∀ x0 x1 x2 x3 x4, Keep o x4 → KeepX o (execSpawn x0 x1 x2 x3 x4) := by
  intro x0 x1 x2 x3 x4 h0
  unfold execSpawn
  with_reducible repeat' (first | assumption | intro _ | apply runStrand_keeps | apply spawnAct_keeps)

theorem execSev_keeps {o : State} : ∀ x0 x1 x2 x3 x4, Keep o x4 → KeepX o (execSev x0 x1 x2 x3 x4) := by
  intro x0 x1 x2 x3 x4 h0
  unfold execSev
  with_reducible repeat' (first
    | assumption | intro _ | exact keepA_raise | apply keepA_ite | apply runStrand_keeps | apply Context.owed_keeps
    | apply stageAct_keeps)

theorem execWfe_keeps {o : State} : ∀ x0 x1 x2 x3 x4 x5, Keep o x5 → KeepX o (execWfe x0 x1 x2 x3 x4 x5) := by
  intro x0 x1 x2 x3 x4 x5 h0
  unfold execWfe
  with_reducible repeat' (first | assumption | intro _ | apply runStrand_keeps | apply wfeAct_keeps)

theorem execWaitt_keeps {o : State} : ∀ x0 x1 x2 x3 x4 x5, Keep o x5 → KeepX o (execWaitt x0 x1 x2 x3 x4 x5) := by
  intro x0 x1 x2 x3 x4 x5 h0
  unfold execWaitt
  with_reducible repeat' (first | assumption | intro _ | apply runStrand_keeps | apply waittAct_keeps)

theorem execGett_keeps {o : State} : ∀ x0 x1 x2 x3 x4, Keep o x4 → KeepX o (execGett x0 x1 x2 x3 x4) := by
  intro x0 x1 x2 x3 x4 h0
  unfold execGett
  with_reducible repeat' (first
    | assumption | intro _ | apply keepA_done | exact keepA_raise | apply keepA_ite | apply runStrand_keeps
    | apply Context.owed_keeps | apply State.landRegs_keeps)

/-! ### QueueInstr -/

theorem queAct_keeps {o : State} : ∀ x0 x1 x2 x3 x4 x5 x6, Keep o x4 → (∀ y0, KeepA o (x6 y0)) → KeepA o (queAct x0 x1 x2 x3 x4 x5 x6) := by
  intro x0 x1 x2 x3 x4 x5 x6 h0 h1
  unfold queAct
  with_reducible repeat' (first | exact keepA_raise | apply keepA_ite | apply Context.owed_keeps | apply_assumption)

theorem queSend_keeps {o : State} : ∀ x0 x1 x2 x3 x4 x5, Keep o x1 → KeepA o (queSend x0 x1 x2 x3 x4 x5) := by
  intro x0 x1 x2 x3 x4 x5 h0
  unfold queSend
  with_reducible repeat' (first | assumption | apply keepA_done | apply State.strandRequest_keeps)

theorem execQput_keeps {o : State} : ∀ x0 x1 x2 x3 x4, Keep o x4 → KeepX o (execQput x0 x1 x2 x3 x4) := by
  intro x0 x1 x2 x3 x4 h0
  unfold execQput
  with_reducible repeat' (first
    | assumption | intro _ | apply runStrand_keeps | apply queAct_keeps | apply queSend_keeps)

theorem execQget_keeps {o : State} : ∀ x0 x1 x2 x3 x4, Keep o x4 → KeepX o (execQget x0 x1 x2 x3 x4) := by
  intro x0 x1 x2 x3 x4 h0
  unfold execQget
  with_reducible repeat' (first
    | assumption | intro _ | apply runStrand_keeps | apply queAct_keeps | apply queSend_keeps
    | apply State.noteRead_keeps)

theorem execQcmt_keeps {o : State} : ∀ x0 x1 x2 x3 x4, Keep o x4 → KeepX o (execQcmt x0 x1 x2 x3 x4) := by
  intro x0 x1 x2 x3 x4 h0
  unfold execQcmt
  with_reducible repeat' (first
    | assumption | intro _ | apply keepA_bus | apply keepA_ite | apply runStrand_keeps | apply queAct_keeps
    | apply stageAct_keeps)

theorem execQrwd_keeps {o : State} : ∀ x0 x1 x2 x3 x4, Keep o x4 → KeepX o (execQrwd x0 x1 x2 x3 x4) := by
  intro x0 x1 x2 x3 x4 h0
  unfold execQrwd
  with_reducible repeat' (first
    | assumption | intro _ | apply runStrand_keeps | apply queAct_keeps | apply queSend_keeps)

theorem execQdrop_keeps {o : State} : ∀ x0 x1 x2 x3 x4, Keep o x4 → KeepX o (execQdrop x0 x1 x2 x3 x4) := by
  intro x0 x1 x2 x3 x4 h0
  unfold execQdrop
  with_reducible repeat' (first
    | assumption | intro _ | apply runStrand_keeps | apply queAct_keeps | apply queSend_keeps
    | apply State.noteRead_keeps)

theorem execQstat_keeps {o : State} : ∀ x0 x1 x2 x3 x4, Keep o x4 → KeepX o (execQstat x0 x1 x2 x3 x4) := by
  intro x0 x1 x2 x3 x4 h0
  unfold execQstat
  with_reducible repeat' (first
    | assumption | intro _ | apply runStrand_keeps | apply queAct_keeps | apply queSend_keeps)

/-! ### Micro -/

theorem State.landFlags_keeps {o : State} : ∀ x0 x1 x2 x3, Keep o x0 → Keep o (State.landFlags x0 x1 x2 x3) := by
  intro x0 x1 x2 x3 h0
  unfold State.landFlags
  with_reducible repeat' (first
    | assumption | apply keep_ite | apply State.setCtx_keeps | apply State.raiseAlert_keeps)

theorem State.commitWrite_keeps {o : State} : ∀ x0 x1 x2, Keep o x0 → Keep o (State.commitWrite x0 x1 x2) := by
  intro x0 x1 x2 h0
  unfold State.commitWrite
  with_reducible repeat' (first
    | assumption | apply keep_ite | apply State.setCtx_keeps | apply State.setTask_keeps
    | apply State.storeLate_keeps | apply State.bump_keeps | apply State.slotStore_keeps
    | apply State.landFlags_keeps | dsimp only | split)

theorem State.commitMicro_keeps {o : State} : ∀ x0 x1, Keep o x0 → Keep o (State.commitMicro x0 x1) := by
  intro x0 x1 h0
  unfold State.commitMicro
  with_reducible repeat' (first
    | assumption | intro _ | apply keep_foldl | apply State.commitWrite_keeps | apply State.setCtx_keeps | dsimp only
    | split)

theorem microBranch_keeps {o : State} : ∀ x0 x1 x2, Keep o x2 → KeepA o (microBranch x0 x1 x2) := by
  intro x0 x1 x2 h0
  unfold microBranch
  with_reducible repeat' (first | assumption | apply keepA_goto | exact keepA_raise | apply keepA_ite)

theorem microCommit_keeps {o : State} : ∀ x0 x1 x2, Keep o x2 → KeepA o (microCommit x0 x1 x2) := by
  intro x0 x1 x2 h0
  unfold microCommit
  with_reducible repeat' (first
    | assumption | apply keepA_done | exact keepA_raise | exact keepA_stall | apply keepA_ite
    | apply State.commitMicro_keeps)

theorem microSys_keeps {o : State} : ∀ x0 x1 x2 x3 x4 x5, Keep o x5 → KeepA o (microSys x0 x1 x2 x3 x4 x5) := by
  intro x0 x1 x2 x3 x4 x5 h0
  unfold microSys
  with_reducible repeat' (first
    | assumption | apply keepA_done | exact keepA_raise | apply keepA_ite | apply fenceWritesAct_keeps
    | apply fenceAct_keeps | apply microCommit_keeps | split)

theorem microAct_keeps {o : State} : ∀ x0 x1 x2 x3 x4 x5 x6, Keep o x6 → KeepA o (microAct x0 x1 x2 x3 x4 x5 x6) := by
  intro x0 x1 x2 x3 x4 x5 x6 h0
  unfold microAct
  with_reducible repeat' (first
    | assumption | apply keepA_done | exact keepA_stall | apply keepA_ite | apply microSys_keeps
    | apply loadAct_keeps | apply storeAct_keeps | apply ldsAct_keeps | apply stsAct_keeps | apply microBranch_keeps
    | apply bodyAct_keeps | dsimp only | split)

theorem microIssue_keeps {o : State} : ∀ x0 x1 x2, Keep o x2 → KeepA o (microIssue x0 x1 x2) := by
  intro c m s h
  unfold microIssue
  extract_lets w sel fmt f op sys isF dOwn aOwn bOwn
  clear_value dOwn aOwn bOwn
  rcases dOwn with k | d
  · rcases aOwn with _ | a <;> rcases bOwn with _ | b <;> exact keepA_raise
  · rcases aOwn with k | a
    · rcases bOwn with _ | b <;> exact keepA_raise
    · rcases bOwn with k | b
      · exact keepA_raise
      · exact microAct_keeps _ _ _ _ _ _ _ h


theorem State.microRetire_keeps {o : State} : ∀ x0 x1 x2 x3, Keep o x0 → Keep o (State.microRetire x0 x1 x2 x3) := by
  intro x0 x1 x2 x3 h0
  unfold State.microRetire
  with_reducible repeat' (first
    | assumption | apply State.countIssue_keeps | apply State.setCtx_keeps | dsimp only | split)

theorem State.microEnd_keeps {o : State} : ∀ x0 x1, Keep o x0 → Keep o (State.microEnd x0 x1) := by
  intro x0 x1 h0
  unfold State.microEnd
  with_reducible repeat' (first
    | assumption | apply keep_ite | apply State.commitMicro_keeps | apply State.setCtx_keeps)

theorem State.microRun_keeps {o : State} : ∀ x0 x1 x2, Keep o x0 → Keep o (State.microRun x0 x1 x2) := by
  intro s c n
  induction n generalizing s with
  | zero => exact id
  | succ n ih =>
    intro h
    unfold State.microRun
    split
    · exact h
    · rename_i m hm
      dsimp only
      split
      · exact keep_ite (State.stallCtx_keeps _ _ _ h) (State.microEnd_keeps _ _ h)
      · have ha := microIssue_keeps c m s h
        split
        · exact State.instrFault_keeps _ _ _ (State.countIssue_keeps _ _ h)
        · rename_i e; exact State.busFault_keeps _ _ _ _ (State.countIssue_keeps _ _ (keep_ofBus ha e))
        · exact State.stallCtx_keeps _ _ _ h
        · rename_i e; exact keep_ofLeave ha e
        · rename_i e
          exact keep_ite (State.instrFault_keeps _ _ _ (State.countIssue_keeps _ _ h)) (ih _ (State.microRetire_keeps _ _ _ _ (keep_ofDone ha e)))
        · rename_i e
          exact ih _ (State.microRetire_keeps _ _ _ _ (keep_ofGoto ha e))


theorem customStart_keeps {o : State} : ∀ x0 x1 x2 x3, Keep o x3 → KeepA o (customStart x0 x1 x2 x3) := by
  intro sub ops c s h
  unfold customStart
  dsimp only
  split
  · exact keepA_raise
  · split
    · exact keepA_raise
    · split
      · exact keepA_stall
      · exact keepA_leave (State.microRun_keeps _ _ _ (State.countIssue_keeps _ _ (State.setCtx_keeps _ _ _ h)))


theorem execCustomInstruction_keeps {o : State} : ∀ x0 x1 x2 x3, Keep o x3 → KeepX o (execCustomInstruction x0 x1 x2 x3) := by
  intro c sub ops s h
  unfold execCustomInstruction
  dsimp only
  split
  · exact keepX_fault
  · split
    · exact runStrand_keeps _ _ _ h (fun _ _ h => customStart_keeps _ _ _ _ h)
    · split
      · exact keepX_next h
      · split
        · exact keepX_next (State.busFault_keeps _ _ _ _ (State.setCtx_keeps _ _ _ h))
        · exact keepX_next (State.stepEnds_keeps _ _ (State.microRun_keeps _ _ _ h))

/-! ### Pipeline -/

theorem State.firstIssue_keeps {o : State} : ∀ x0 x1 x2, Keep o x0 → Keep o (State.firstIssue x0 x1 x2) := by
  intro x0 x1 x2 h0
  unfold State.firstIssue
  with_reducible repeat' (first | assumption | apply State.setCtx_keeps)

theorem State.operandFault_keeps {o : State} : ∀ x0 x1 x2 x3, Keep o x0 → Keep o (State.operandFault x0 x1 x2 x3) := by
  intro x0 x1 x2 x3 h0
  unfold State.operandFault
  with_reducible repeat' (first | assumption | apply State.cutShort_keeps | apply State.log_keeps)

theorem State.dropPreload_keeps {o : State} : ∀ x0 x1, Keep o x0 → Keep o (State.dropPreload x0 x1) := by
  intro x0 x1 h0
  unfold State.dropPreload
  with_reducible repeat' (first
    | assumption | apply State.freeCtxNow_keeps | apply State.flowNext_keeps | apply State.bump_keeps)

theorem State.preloadEnds_keeps {o : State} : ∀ x0 x1 x2 x3 x4, Keep o x0 → Keep o (State.preloadEnds x0 x1 x2 x3 x4) := by
  intro x0 x1 x2 x3 x4 h0
  unfold State.preloadEnds
  with_reducible repeat' (first
    | assumption | apply keep_ite | apply State.dropPreload_keeps | apply State.bump_keeps
    | apply State.operandFault_keeps | apply State.schedule_keeps | apply State.firstIssue_keeps
    | apply State.clearBlock_keeps | dsimp only | split)

theorem State.spillResident_keeps {o : State} : ∀ x0 x1 x2 x3, Keep o x0 → Keep o (State.spillResident x0 x1 x2 x3) := by
  intro x0 x1 x2 x3
  fun_induction State.spillResident
  all_goals with_reducible repeat' (first
    | assumption | intro _ | apply State.bump_keeps | apply State.spillStore_keeps | apply_assumption)

theorem State.saveEnds_keeps {o : State} : ∀ x0 x1, Keep o x0 → Keep o (State.saveEnds x0 x1) := by
  intro x0 x1 h0
  unfold State.saveEnds
  with_reducible repeat' (first
    | assumption | apply State.spillResident_keeps | apply State.recStore_keeps | apply State.freeCtxNow_keeps
    | apply State.setTask_keeps)

theorem State.landResult_keeps {o : State} : ∀ x0 x1 x2, Keep o x0 → Keep o (State.landResult x0 x1 x2) := by
  intro x0 x1 x2 h0
  unfold State.landResult
  with_reducible repeat' (first | assumption | apply keep_ite | apply State.setCtx_keeps | dsimp only | split)

theorem State.restoreEnds_keeps {o : State} : ∀ x0 x1, Keep o x0 → Keep o (State.restoreEnds x0 x1) := by
  intro x0 x1 h0
  unfold State.restoreEnds
  with_reducible repeat' (first
    | assumption | apply keep_ite | apply State.landResult_keeps | apply State.setCtx_keeps
    | apply State.schedule_keeps | apply State.setTask_keeps | apply State.firstIssue_keeps)

theorem execLongOpComplete_keeps {o : State} : ∀ x0 x1 x2, Keep o x2 → KeepX o (execLongOpComplete x0 x1 x2) := by
  intro x0 x1 x2 h0
  unfold execLongOpComplete
  with_reducible repeat' (first
    | assumption | apply keepX_next | exact keepX_fault | apply keepX_ite | apply State.setCtx_keeps
    | apply State.stageWrite_keeps | apply State.landFlags_keeps | dsimp only | split)

theorem execTimeSliceExpiry_keeps {o : State} : ∀ x0 x1, Keep o x1 → KeepX o (execTimeSliceExpiry x0 x1) := by
  intro x0 x1 h0
  unfold execTimeSliceExpiry
  with_reducible repeat' (first
    | assumption | apply keepX_next | exact keepX_fault | apply keepX_ite | apply State.switchAway_keeps
    | apply State.setCtx_keeps | split | refine keep_ofO ?_ (by assumption))

theorem execPreloadComplete_keeps {o : State} : ∀ x0 x1 x2 x3 x4, Keep o x4 → KeepX o (execPreloadComplete x0 x1 x2 x3 x4) := by
  intro x0 x1 x2 x3 x4 h0
  unfold execPreloadComplete
  with_reducible repeat' (first
    | assumption | apply keepX_next | exact keepX_fault | apply keepX_ite | apply State.preloadEnds_keeps)

theorem execPreemption_keeps {o : State} : ∀ x0 x1, Keep o x1 → KeepX o (execPreemption x0 x1) := by
  intro x0 x1 h0
  unfold execPreemption
  with_reducible repeat' (first
    | assumption | apply keepX_next | exact keepX_fault | apply keepX_ite | apply State.switchAway_keeps
    | apply State.setCtx_keeps | apply State.traceEvent_keeps | apply State.bump_keeps | dsimp only | split
    | refine keep_ofO ?_ (by assumption))

theorem execTaskSaveComplete_keeps {o : State} : ∀ x0 x1, Keep o x1 → KeepX o (execTaskSaveComplete x0 x1) := by
  intro x0 x1 h0
  unfold execTaskSaveComplete
  with_reducible repeat' (first
    | assumption | apply keepX_next | exact keepX_fault | apply keepX_ite | apply State.saveEnds_keeps)

theorem execTaskRestoreComplete_keeps {o : State} : ∀ x0 x1, Keep o x1 → KeepX o (execTaskRestoreComplete x0 x1) := by
  intro x0 x1 h0
  unfold execTaskRestoreComplete
  with_reducible repeat' (first
    | assumption | apply keepX_next | exact keepX_fault | apply keepX_ite | apply State.restoreEnds_keeps)

theorem execBudgetAlert_keeps {o : State} : ∀ x0 x1, Keep o x1 → KeepX o (execBudgetAlert x0 x1) := by
  intro x0 x1 h0
  unfold execBudgetAlert
  with_reducible repeat' (first
    | assumption | apply keepX_next | exact keepX_fault | apply keepX_ite | apply State.raiseAlert_keeps
    | apply State.setCtx_keeps)

theorem execAlertRequest_keeps {o : State} : ∀ x0 x1 x2 x3, Keep o x3 → KeepX o (execAlertRequest x0 x1 x2 x3) := by
  intro x0 x1 x2 x3 h0
  unfold execAlertRequest
  with_reducible repeat' (first
    | assumption | intro _ | exact keepX_fault | apply keepX_ite | apply State.wardenWrite_keeps
    | apply State.raiseAlert_keeps)

end Sys2Proof.Machine
end

