-- ==== Sys2Proof/Laws/KeepStore.lean ====
section
/-! SUPPORT. One lemma per meaning and operation of the store, the hub, time, ports, reports, responses and memories: it keeps the waiting commands, the member, the die
and the canonical form of the memories. -/

namespace Sys2Proof.Machine

/-! ### Store -/

theorem execFtok_keeps {o : State} : ∀ x0 x1, Keep o x1 → KeepX o (execFtok x0 x1) := by
  intro x0 x1 h0
  unfold execFtok
  with_reducible repeat' (first
    | assumption | intro _ | apply keepX_next | apply keepX_ite | apply State.badVc_keeps | apply State.take_keeps
    | apply State.inject_keeps | apply State.arrivePosted_keeps | apply State.acceptToken_keeps)

theorem execSlotRelease_keeps {o : State} : ∀ x0 x1, Keep o x1 → KeepX o (execSlotRelease x0 x1) := by
  intro x0 x1 h0
  unfold execSlotRelease
  with_reducible repeat' (first
    | assumption | apply keepX_next | apply State.slotRelease_keeps | apply State.take_keeps)

theorem execFreePacket_keeps {o : State} : ∀ x0 x1, Keep o x1 → KeepX o (execFreePacket x0 x1) := by
  intro x0 x1 h0
  unfold execFreePacket
  with_reducible repeat' (first
    | assumption | intro _ | apply keepX_next | apply keepX_ite | apply State.inject_keeps | apply State.take_keeps
    | apply State.arrivePosted_keeps | apply State.freeFrame_keeps)

theorem State.parkRequest_keeps {o : State} : ∀ x0 x1 x2, Keep o x0 → Keep o (State.parkRequest x0 x1 x2) := by
  intro x0 x1 x2 h0
  unfold State.parkRequest
  with_reducible repeat' (first
    | assumption | apply keep_ite | apply State.dropOutst_keeps | apply State.parkAlloc_keeps
    | apply State.taskChanged_keeps | apply State.setTask_keeps | apply State.toSaving_keeps)

theorem execAllocRequest_keeps {o : State} : ∀ x0 x1, Keep o x1 → KeepX o (execAllocRequest x0 x1) := by
  intro x0 x1 h0
  unfold execAllocRequest
  with_reducible repeat' (first
    | assumption | apply keepX_next | exact keepX_fault | apply keepX_ite | apply State.take_keeps
    | apply State.send_keeps | apply State.passes_keeps | apply State.allocRun_keeps | apply State.parkRequest_keeps
    | dsimp only | split)

theorem State.landAlloc_keeps {o : State} : ∀ x0 x1 x2 x3 x4, Keep o x0 → Keep o (State.landAlloc x0 x1 x2 x3 x4) := by
  intro x0 x1 x2 x3 x4 h0
  unfold State.landAlloc
  with_reducible repeat' (first | assumption | apply State.wakeCtx_keeps | apply State.setCtx_keeps)

theorem execAllocReply_keeps {o : State} : ∀ x0 x1 x2 x3 x4, Keep o x4 → KeepX o (execAllocReply x0 x1 x2 x3 x4) := by
  intro x0 x1 x2 x3 x4 h0
  unfold execAllocReply
  with_reducible repeat' (first
    | assumption | apply keep_ite | apply keepX_next | exact keepX_fault | apply keepX_ite | apply State.take_keeps
    | apply State.setCtx_keeps | apply State.dropOutst_keeps | apply State.landAlloc_keeps
    | apply State.bumpCluster_keeps | apply State.send_keeps | dsimp only | split)

theorem execAllocwRerun_keeps {o : State} : ∀ x0, Keep o x0 → KeepX o (execAllocwRerun x0) := by
  intro x0 h0
  unfold execAllocwRerun
  with_reducible repeat' (first
    | assumption | apply keepX_next | apply State.rerunAlloc_keeps | apply State.unparkAlloc_keeps
    | apply State.taskReady_keeps | apply State.setTask_keeps | (apply keep_same <;> first | assumption) | dsimp only
    | split | refine keep_snd ?_ (by assumption))

theorem execGenQuarantineEnd_keeps {o : State} : ∀ x0 x1, Keep o x1 → KeepX o (execGenQuarantineEnd x0 x1) := by
  intro x0 x1 h0
  unfold execGenQuarantineEnd
  with_reducible repeat' (first
    | assumption | apply keepX_next | apply keepX_ite | apply State.joinFree_keeps
    | (apply keep_same <;> first | apply State.setFrame_keeps))

/-! ### Hub -/

theorem State.unflow_keeps {o : State} : ∀ x0 x1 x2, Keep o x0 → Keep o (State.unflow x0 x1 x2) := by
  intro x0 x1 x2 h0
  unfold State.unflow
  with_reducible repeat' (first | assumption | apply State.setFiredQ_keeps)

theorem State.acceptNotice_keeps {o : State} : ∀ x0 x1 x2, Keep o x0 → Keep o (State.acceptNotice x0 x1 x2) := by
  intro x0 x1 x2 h0
  unfold State.acceptNotice
  with_reducible repeat' (first
    | assumption | apply keep_ite | apply State.unflow_keeps | apply State.bump_keeps | apply State.tenantFault_keeps
    | apply State.setFlow_keeps)

theorem execFireNotice_keeps {o : State} : ∀ x0 x1, Keep o x1 → KeepX o (execFireNotice x0 x1) := by
  intro x0 x1 h0
  unfold execFireNotice
  with_reducible repeat' (first
    | assumption | apply keep_ite | apply keepX_next | exact keepX_fault | apply keepX_ite
    | apply State.acceptNotice_keeps | apply State.setNotices_keeps | apply State.send_keeps | dsimp only | split)

theorem State.handTo_keeps {o : State} : ∀ x0 x1 x2 x3, Keep o x0 → Keep o (State.handTo x0 x1 x2 x3) := by
  intro x0 x1 x2 x3 h0
  unfold State.handTo
  with_reducible repeat' (first
    | assumption | apply keep_ite | apply State.traceEvent_keeps | apply State.bump_keeps | apply State.setFlow_keeps
    | apply State.setCreditUsed_keeps | apply State.setRl_keeps)

theorem execHandOver_keeps {o : State} : ∀ x0 x1, Keep o x1 → KeepX o (execHandOver x0 x1) := by
  intro x0 x1 h0
  unfold execHandOver
  with_reducible repeat' (first
    | assumption | apply keepX_next | exact keepX_fault | apply keepX_ite | apply State.setGroup_keeps
    | apply State.setFiredQ_keeps | apply State.handTo_keeps | apply State.activity_keeps | dsimp only | split)

theorem execDispatchDecision_keeps {o : State} : ∀ x0 x1, Keep o x1 → KeepX o (execDispatchDecision x0 x1) := by
  intro x0 x1 h0
  unfold execDispatchDecision
  with_reducible repeat' (first | assumption | apply onUnit_keeps | apply State.select_keeps)

theorem execPavilionQueueBind_keeps {o : State} : ∀ x0 x1, Keep o x1 → KeepX o (execPavilionQueueBind x0 x1) := by
  intro x0 x1 h0
  unfold execPavilionQueueBind
  with_reducible repeat' (first
    | assumption | apply keepX_next | exact keepX_fault | apply keepX_ite | apply State.bindEntry_keeps
    | apply State.setPq_keeps | split | refine keep_ofOP2 ?_ (by assumption))

theorem execRecallAnswer_keeps {o : State} : ∀ x0 x1, Keep o x1 → KeepX o (execRecallAnswer x0 x1) := by
  intro x0 x1 h0
  unfold execRecallAnswer
  with_reducible repeat' (first
    | assumption | apply keepX_next | apply keepX_ite | apply State.flowNext_keeps | apply State.bump_keeps
    | apply State.setRl_keeps | (apply keep_same <;> first | assumption) | dsimp only | split)

theorem execLand_keeps {o : State} : ∀ x0 x1 x2 x3 x4, Keep o x4 → KeepX o (execLand x0 x1 x2 x3 x4) := by
  intro x0 x1 x2 x3 x4 h0
  unfold execLand
  with_reducible repeat' (first
    | assumption | apply keepX_next | exact keepX_fault | apply keepX_ite | apply State.passes_keeps
    | apply State.take_keeps | apply State.bumpCluster_keeps | apply State.paceDone_keeps)

theorem execPaceTimeout_keeps {o : State} : ∀ x0 x1 x2 x3, Keep o x3 → KeepX o (execPaceTimeout x0 x1 x2 x3) := by
  intro x0 x1 x2 x3 h0
  unfold execPaceTimeout
  with_reducible repeat' (first
    | assumption | apply keepX_next | exact keepX_fault | apply keepX_ite | apply State.paceDone_keeps
    | apply State.log_keeps | apply State.bump_keeps)

theorem execWakeRequest_keeps {o : State} : ∀ x0 x1 x2, Keep o x2 → KeepX o (execWakeRequest x0 x1 x2) := by
  intro x0 x1 x2 h0
  unfold execWakeRequest
  with_reducible repeat' (first
    | assumption | apply keepX_next | exact keepX_fault | apply keepX_ite | apply State.askWake_keeps
    | apply State.traceEvent_keeps | apply State.bump_keeps | split)

theorem State.sevPasses_keeps {o : State} : ∀ x0 x1, Keep o x0 → Keep o (State.sevPasses x0 x1) := by
  intro x0 x1 h0
  unfold State.sevPasses
  with_reducible repeat' (first | assumption | apply State.passes_keeps | split)

theorem execSevArrival_keeps {o : State} : ∀ x0 x1 x2 x3, Keep o x3 → KeepX o (execSevArrival x0 x1 x2 x3) := by
  intro x0 x1 x2 x3 h0
  unfold execSevArrival
  with_reducible repeat' (first
    | assumption | apply keepX_next | apply State.sevArrive_keeps | apply State.sevPasses_keeps
    | apply State.take_keeps)

theorem execSpres_keeps {o : State} : ∀ x0 x1, Keep o x1 → KeepX o (execSpres x0 x1) := by
  intro x0 x1 h0
  unfold execSpres
  with_reducible repeat' (first
    | assumption | apply keepX_next | exact keepX_fault | apply keepX_ite | apply State.passes_keeps
    | apply State.take_keeps | apply State.send_keeps | apply State.taskChanged_keeps | apply State.setTask_keeps
    | dsimp only | split)

theorem execSpawnRelease_keeps {o : State} : ∀ x0 x1 x2 x3 x4 x5 x6, Keep o x6 → KeepX o (execSpawnRelease x0 x1 x2 x3 x4 x5 x6) := by
  intro x0 x1 x2 x3 x4 x5 x6 h0
  unfold execSpawnRelease
  with_reducible repeat' (first
    | assumption | apply keepX_next | apply keepX_ite | apply State.passes_keeps | apply State.take_keeps
    | apply State.recClear_keeps | apply State.taskReady_keeps | apply State.setTask_keeps)

theorem execWaittTargetReached_keeps {o : State} : ∀ x0 x1, Keep o x1 → KeepX o (execWaittTargetReached x0 x1) := by
  intro x0 x1 h0
  unfold execWaittTargetReached
  with_reducible repeat' (first
    | assumption | apply keepX_next | apply keepX_ite | apply State.taskReady_keeps | apply State.setTask_keeps)

theorem State.unlistTask_keeps {o : State} : ∀ x0 x1, Keep o x0 → Keep o (State.unlistTask x0 x1) := by
  intro x0 x1 h0
  unfold State.unlistTask
  with_reducible repeat' (first | (apply keep_same <;> first | assumption))

theorem State.killTask_keeps {o : State} : ∀ x0 x1, Keep o x0 → Keep o (State.killTask x0 x1) := by
  intro x0 x1 h0
  unfold State.killTask
  with_reducible repeat' (first
    | assumption | apply keep_ite | apply State.unlistTask_keeps | apply State.dropGrant_keeps
    | apply State.schedule_keeps | apply State.setCtx_keeps | apply State.taskFree_keeps
    | apply State.tenantFault_keeps | apply State.cutShort_keeps | dsimp only | split)

theorem State.taskWrite_keeps {o : State} : ∀ x0 x1 x2, Keep o x0 → Keep o (State.taskWrite x0 x1 x2) := by
  intro x0 x1 x2 h0
  unfold State.taskWrite
  with_reducible repeat' (first
    | assumption | apply keep_ite | apply State.sevArrive_keeps | apply State.activity_keeps
    | apply State.killTask_keeps)

theorem execTaskKill_keeps {o : State} : ∀ x0 x1 x2 x3, Keep o x3 → KeepX o (execTaskKill x0 x1 x2 x3) := by
  intro x0 x1 x2 x3 h0
  unfold execTaskKill
  with_reducible repeat' (first | assumption | intro _ | apply State.wardenWhole_keeps | apply State.taskWrite_keeps)

theorem execEvfWrite_keeps {o : State} : ∀ x0 x1 x2 x3, Keep o x3 → KeepX o (execEvfWrite x0 x1 x2 x3) := by
  intro x0 x1 x2 x3 h0
  unfold execEvfWrite
  with_reducible repeat' (first | assumption | intro _ | apply State.wardenWhole_keeps | apply State.taskWrite_keeps)

theorem execFlowhang_keeps {o : State} : ∀ x0 x1, Keep o x1 → KeepX o (execFlowhang x0 x1) := by
  intro x0 x1 h0
  unfold execFlowhang
  with_reducible repeat' (first
    | assumption | apply keepX_next | apply keepX_ite | apply keep_ite | apply State.setFlow_keeps | apply State.bump_keeps
    | apply State.log_keeps | apply State.sevFlag_keeps)

/-! ### Time -/

theorem State.setRuns_keeps {o : State} : ∀ x0 x1 x2, Keep o x0 → Keep o (State.setRuns x0 x1 x2) := by
  intro x0 x1 x2 h0
  unfold State.setRuns
  with_reducible repeat' (first | (apply keep_same <;> first | assumption))

theorem State.setLast_keeps {o : State} : ∀ x0 x1 x2, Keep o x0 → Keep o (State.setLast x0 x1 x2) := by
  intro x0 x1 x2 h0
  unfold State.setLast
  with_reducible repeat' (first | (apply keep_same <;> first | assumption))

theorem State.tkEnter_keeps {o : State} : ∀ x0 x1, Keep o x0 → Keep o (State.tkEnter x0 x1) := by
  intro x0 x1 h0
  unfold State.tkEnter
  with_reducible repeat' (first
    | assumption | apply State.setReg_keeps | apply State.log_keeps | apply State.setRegField_keeps
    | (apply keep_same <;> first | apply State.setReg_keeps | apply State.bump_keeps) | dsimp only | split)

theorem State.reselect_keeps {o : State} : ∀ x0, Keep o x0 → Keep o (State.reselect x0) := by
  intro x0 h0
  unfold State.reselect
  with_reducible repeat' (first
    | assumption | apply keep_ite | apply State.log_keeps | apply State.bump_keeps | apply State.setRegField_keeps
    | apply State.tkEnter_keeps)

theorem State.setSrcValid_keeps {o : State} : ∀ x0 x1 x2, Keep o x0 → Keep o (State.setSrcValid x0 x1 x2) := by
  intro x0 x1 x2 h0
  unfold State.setSrcValid
  with_reducible repeat' (first | assumption | apply State.reselect_keeps | apply State.setRegField_keeps)

theorem State.askStep_keeps {o : State} : ∀ x0 x1, Keep o x0 → Keep o (State.askStep x0 x1) := by
  intro x0 x1 h0
  unfold State.askStep
  with_reducible repeat' (first | (apply keep_same <;> first | assumption))

theorem State.lockCount_keeps {o : State} : ∀ x0 x1, Keep o x0 → Keep o (State.lockCount x0 x1) := by
  intro x0 x1 h0
  unfold State.lockCount
  with_reducible repeat' (first
    | apply keep_ite | apply State.setRegField_keeps | apply State.tkEnter_keeps
    | (apply keep_same <;> first | assumption))

theorem State.servo_keeps {o : State} : ∀ x0 x1, Keep o x0 → Keep o (State.servo x0 x1) := by
  intro x0 x1 h0
  unfold State.servo
  with_reducible repeat' (first
    | assumption | apply keep_ite | apply State.askStep_keeps | apply State.lockCount_keeps
    | apply State.setReg_keeps | (apply keep_same <;> first | assumption))

theorem State.srcCheck_keeps {o : State} : ∀ x0 x1, Keep o x0 → Keep o (State.srcCheck x0 x1) := by
  intro x0 x1 h0
  unfold State.srcCheck
  with_reducible repeat' (first | assumption | apply keep_ite | apply State.setSrcValid_keeps)

theorem State.sample_keeps {o : State} : ∀ x0 x1 x2, Keep o x0 → Keep o (State.sample x0 x1 x2) := by
  intro x0 x1 x2 h0
  unfold State.sample
  with_reducible repeat' (first
    | assumption | apply keep_ite | apply State.setRegField_keeps | apply State.setReg_keeps | apply State.bump_keeps
    | apply State.setRuns_keeps | apply State.srcCheck_keeps | apply State.setLast_keeps | apply State.servo_keeps)

theorem State.refuseStep_keeps {o : State} : ∀ x0 x1, Keep o x0 → Keep o (State.refuseStep x0 x1) := by
  intro x0 x1 h0
  unfold State.refuseStep
  with_reducible repeat' (first | assumption | apply State.log_keeps | apply State.bump_keeps)

theorem State.applyStep_keeps {o : State} : ∀ x0 x1, Keep o x0 → Keep o (State.applyStep x0 x1) := by
  intro x0 x1 h0
  unfold State.applyStep
  with_reducible repeat' (first
    | assumption | apply keep_ite | apply State.refuseStep_keeps | apply State.log_keeps | apply State.bump_keeps
    | apply State.setReg_keeps | (apply keep_same <;> first | assumption) | dsimp only)

theorem State.holdTick_keeps {o : State} : ∀ x0, Keep o x0 → Keep o (State.holdTick x0) := by
  intro x0 h0
  unfold State.holdTick
  with_reducible repeat' (first
    | assumption | apply keep_ite | (apply keep_same <;> first | apply State.bumpBy_keeps))

theorem State.setSecs_keeps {o : State} : ∀ x0 x1, Keep o x0 → Keep o (State.setSecs x0 x1) := by
  intro x0 x1 h0
  unfold State.setSecs
  with_reducible repeat' (first | assumption | apply State.setReg_keeps | apply State.setRegField_keeps)

theorem State.seckFollow_keeps {o : State} : ∀ x0 x1, Keep o x0 → Keep o (State.seckFollow x0 x1) := by
  intro x0 x1 h0
  unfold State.seckFollow
  with_reducible repeat' (first
    | assumption | apply keep_ite | apply State.setRegField_keeps | apply State.setSecs_keeps)

theorem execTick_keeps {o : State} : ∀ x0, Keep o x0 → KeepX o (execTick x0) := by
  intro x0 h0
  unfold execTick
  with_reducible repeat' (first
    | assumption | intro _ | apply keepX_next | apply keepX_ite | apply State.applyStep_keeps
    | apply State.seckFollow_keeps | apply State.holdTick_keeps
    | (apply keep_same <;> first | assumption | apply keep_foldl))

theorem execSecondsKeeperSecond_keeps {o : State} : ∀ x0, Keep o x0 → KeepX o (execSecondsKeeperSecond x0) := by
  intro x0 h0
  unfold execSecondsKeeperSecond
  with_reducible repeat' (first | assumption | apply keepX_next | apply keepX_ite | apply State.setSecs_keeps)

theorem execPpsEdge_keeps {o : State} : ∀ x0, Keep o x0 → KeepX o (execPpsEdge x0) := by
  intro x0 h0
  unfold execPpsEdge
  with_reducible repeat' (first
    | assumption | apply keep_ite | apply keepX_ite | apply keepX_next | apply State.sample_keeps | apply State.setRegField_keeps)

theorem execPtpOffset_keeps {o : State} : ∀ x0 x1 x2, Keep o x2 → KeepX o (execPtpOffset x0 x1 x2) := by
  intro x0 x1 x2 h0
  unfold execPtpOffset
  with_reducible repeat' (first | assumption | intro _ | apply State.wardenWrite_keeps | apply State.sample_keeps)

theorem execSourceTimeout_keeps {o : State} : ∀ x0 x1, Keep o x1 → KeepX o (execSourceTimeout x0 x1) := by
  intro x0 x1 h0
  unfold execSourceTimeout
  with_reducible repeat' (first
    | assumption | apply keepX_next | apply keepX_ite | apply State.setSrcValid_keeps | apply State.setRuns_keeps)

theorem execHoldLimitExceeded_keeps {o : State} : ∀ x0, Keep o x0 → KeepX o (execHoldLimitExceeded x0) := by
  intro x0 h0
  unfold execHoldLimitExceeded
  with_reducible repeat' (first | assumption | apply keepX_next | apply keepX_ite | apply State.tkEnter_keeps)

theorem execTimeStep_keeps {o : State} : ∀ x0 x1 x2, Keep o x2 → KeepX o (execTimeStep x0 x1 x2) := by
  intro x0 x1 x2 h0
  unfold execTimeStep
  with_reducible repeat' (first
    | assumption | intro _ | apply keep_ite | apply State.wardenWhole_keeps | apply State.askStep_keeps
    | apply State.refuseStep_keeps)

/-! ### PortOps -/

theorem State.setCell_keeps {o : State} : ∀ x0 x1 x2, Keep o x0 → Keep o (State.setCell x0 x1 x2) := by
  intro x0 x1 x2 h0
  unfold State.setCell
  with_reducible repeat' (first | (apply keep_same <;> first | assumption))

theorem State.setPin_keeps {o : State} : ∀ x0 x1 x2, Keep o x0 → Keep o (State.setPin x0 x1 x2) := by
  intro x0 x1 x2 h0
  unfold State.setPin
  with_reducible repeat' (first | (apply keep_same <;> first | assumption))

theorem State.setInbox_keeps {o : State} : ∀ x0 x1 x2, Keep o x0 → Keep o (State.setInbox x0 x1 x2) := by
  intro x0 x1 x2 h0
  unfold State.setInbox
  with_reducible repeat' (first | (apply keep_same <;> first | assumption))

theorem State.setCellState_keeps {o : State} : ∀ x0 x1 x2, Keep o x0 → Keep o (State.setCellState x0 x1 x2) := by
  intro x0 x1 x2 h0
  unfold State.setCellState
  with_reducible repeat' (first | assumption | apply State.setRegField_keeps)

theorem State.dropCommits_keeps {o : State} : ∀ x0 x1, Keep o x0 → Keep o (State.dropCommits x0 x1) := by
  intro x0 x1 h0
  unfold State.dropCommits
  with_reducible repeat' (first | assumption | apply State.bumpBy_keeps | apply State.setCell_keeps)

theorem State.cellStops_keeps {o : State} : ∀ x0 x1 x2, Keep o x0 → Keep o (State.cellStops x0 x1 x2) := by
  intro x0 x1 x2 h0
  unfold State.cellStops
  with_reducible repeat' (first
    | assumption | apply keep_ite | apply State.setCellState_keeps | apply State.dropCommits_keeps
    | apply State.fireBinds_keeps)

theorem State.logCell_keeps {o : State} : ∀ x0 x1 x2, Keep o x0 → Keep o (State.logCell x0 x1 x2) := by
  intro x0 x1 x2 h0
  unfold State.logCell
  with_reducible repeat' (first | assumption | apply State.log_keeps)

theorem State.lateEvent_keeps {o : State} : ∀ x0 x1 x2, Keep o x0 → Keep o (State.lateEvent x0 x1 x2) := by
  intro x0 x1 x2 h0
  unfold State.lateEvent
  with_reducible repeat' (first
    | assumption | apply keep_ite | apply State.logCell_keeps | apply State.cellStops_keeps
    | apply State.setCellState_keeps | apply State.tenantFault_keeps | split)

theorem State.cellRuns_keeps {o : State} : ∀ x0 x1, Keep o x0 → Keep o (State.cellRuns x0 x1) := by
  intro x0 x1 h0
  unfold State.cellRuns
  with_reducible repeat' (first | assumption | apply State.setCellState_keeps | apply State.setCell_keeps)

theorem State.cellFresh_keeps {o : State} : ∀ x0 x1, Keep o x0 → Keep o (State.cellFresh x0 x1) := by
  intro x0 x1 h0
  unfold State.cellFresh
  with_reducible repeat' (first | assumption | apply State.setCell_keeps)

theorem State.handover_keeps {o : State} : ∀ x0 x1 x2, Keep o x0 → Keep o (State.handover x0 x1 x2) := by
  intro x0 x1 x2 h0
  unfold State.handover
  with_reducible repeat' (first | assumption | apply State.send_keeps)

theorem State.captureIn_keeps {o : State} : ∀ x0 x1 x2 x3 x4, Keep o x0 → Keep o (State.captureIn x0 x1 x2 x3 x4) := by
  intro x0 x1 x2 x3 x4 h0
  unfold State.captureIn
  with_reducible repeat' (first
    | assumption | apply keep_ite | apply State.handover_keeps | apply State.setRegField_keeps
    | apply State.bump_keeps | apply State.setCell_keeps | apply State.fireBinds_keeps | dsimp only | split)

theorem State.pairCapture_keeps {o : State} : ∀ x0 x1 x2 x3 x4, Keep o x0 → Keep o (State.pairCapture x0 x1 x2 x3 x4) := by
  intro x0 x1 x2 x3 x4 h0
  unfold State.pairCapture
  with_reducible repeat' (first | apply keep_ite | (apply keep_same <;> first | assumption) | dsimp only | split)

theorem State.capture_keeps {o : State} : ∀ x0 x1 x2 x3 x4, Keep o x0 → Keep o (State.capture x0 x1 x2 x3 x4) := by
  intro x0 x1 x2 x3 x4 h0
  unfold State.capture
  with_reducible repeat' (first
    | assumption | apply keep_ite | apply State.pairCapture_keeps | apply State.captureIn_keeps
    | apply State.forwardInput_keeps)

theorem State.dropCaptures_keeps {o : State} : ∀ x0 x1, Keep o x0 → Keep o (State.dropCaptures x0 x1) := by
  intro x0 x1 h0
  unfold State.dropCaptures
  with_reducible repeat' (first | assumption | apply State.bumpBy_keeps | apply State.setCell_keeps)

theorem State.disarm_keeps {o : State} : ∀ x0 x1, Keep o x0 → Keep o (State.disarm x0 x1) := by
  intro x0 x1 h0
  unfold State.disarm
  with_reducible repeat' (first
    | assumption | apply keep_ite | apply State.activity_keeps | apply State.setCell_keeps)

theorem State.lowerTo_keeps {o : State} : ∀ x0 x1 x2, Keep o x0 → Keep o (State.lowerTo x0 x1 x2) := by
  intro x0 x1 x2 h0
  unfold State.lowerTo
  with_reducible repeat' (first | assumption | apply keep_ite | apply State.setReg_keeps)

theorem State.commitEntry_keeps {o : State} : ∀ x0 x1 x2 x3, Keep o x0 → Keep o (State.commitEntry x0 x1 x2 x3) := by
  intro x0 x1 x2 x3 h0
  unfold State.commitEntry
  with_reducible repeat' (first
    | assumption | apply keep_ite | apply State.lowerTo_keeps | apply State.bump_keeps | apply State.lateEvent_keeps
    | apply State.setCell_keeps)

theorem State.funcErr_keeps {o : State} : ∀ x0 x1, Keep o x0 → Keep o (State.funcErr x0 x1) := by
  intro x0 x1 h0
  unfold State.funcErr
  with_reducible repeat' (first | assumption | apply State.bump_keeps)

theorem State.startBurst_keeps {o : State} : ∀ x0 x1 x2 x3, Keep o x0 → Keep o (State.startBurst x0 x1 x2 x3) := by
  intro x0 x1 x2 x3 h0
  unfold State.startBurst
  with_reducible repeat' (first | assumption | apply keep_ite | apply State.funcErr_keeps | apply State.setCell_keeps)

theorem State.startFrame_keeps {o : State} : ∀ x0 x1 x2 x3 x4, Keep o x0 → Keep o (State.startFrame x0 x1 x2 x3 x4) := by
  intro x0 x1 x2 x3 x4 h0
  unfold State.startFrame
  with_reducible repeat' (first | assumption | apply keep_ite | apply State.funcErr_keeps | apply State.setCell_keeps)

theorem State.startSsi_keeps {o : State} : ∀ x0 x1 x2, Keep o x0 → Keep o (State.startSsi x0 x1 x2) := by
  intro x0 x1 x2 h0
  unfold State.startSsi
  with_reducible repeat' (first | assumption | apply keep_ite | apply State.funcErr_keeps | apply State.setCell_keeps)

theorem State.actCommit_keeps {o : State} : ∀ x0 x1 x2, Keep o x0 → Keep o (State.actCommit x0 x1 x2) := by
  intro x0 x1 x2 h0
  unfold State.actCommit
  with_reducible repeat' (first
    | assumption | apply keep_ite | apply State.setCellState_keeps | apply State.setCell_keeps
    | apply State.capture_keeps | apply State.startBurst_keeps | apply State.startSsi_keeps
    | apply State.startFrame_keeps | dsimp only | split)

theorem State.bankLosesVio_keeps {o : State} : ∀ x0 x1, Keep o x0 → Keep o (State.bankLosesVio x0 x1) := by
  intro x0 x1 h0
  unfold State.bankLosesVio
  with_reducible repeat' (first
    | assumption | intro _ | apply keep_ite | apply keep_foldl | apply State.cellStops_keeps)

theorem State.bankOff_keeps {o : State} : ∀ x0 x1, Keep o x0 → Keep o (State.bankOff x0 x1) := by
  intro x0 x1 h0
  unfold State.bankOff
  with_reducible repeat' (first
    | assumption | intro _ | apply keep_foldl | apply State.setInbox_keeps | apply State.disarm_keeps
    | apply State.dropCaptures_keeps | apply State.dropCommits_keeps)

theorem State.calStart_keeps {o : State} : ∀ x0 x1, Keep o x0 → Keep o (State.calStart x0 x1) := by
  intro x0 x1 h0
  unfold State.calStart
  with_reducible repeat' (first | assumption | (apply keep_same <;> first | apply State.bump_keeps))

theorem State.bankOn_keeps {o : State} : ∀ x0 x1, Keep o x0 → Keep o (State.bankOn x0 x1) := by
  intro x0 x1 h0
  unfold State.bankOn
  with_reducible repeat' (first
    | assumption | intro _ | apply keep_ite | apply keep_foldl | apply State.calStart_keeps
    | apply State.cellStops_keeps | apply State.cellFresh_keeps | apply State.setRegField_keeps)

theorem State.popCapture_keeps {o : State} : ∀ x0 x1 x2, Keep o x0 → Keep o (State.popCapture x0 x1 x2).1 := by
  intro x0 x1 x2 h0
  unfold State.popCapture
  with_reducible repeat' (first | assumption | apply State.setCell_keeps | dsimp only | split)

theorem State.portRead_keeps {o : State} : ∀ x0 x1 x2 x3, Keep o x0 → KeepOP1 o (State.portRead x0 x1 x2 x3) := by
  intro s w t m h
  refine ⟨fun t v e => ?_⟩
  simp only [State.portRead] at e
  split at e
  · cases e
  · split at e <;> first | exact keep_fst (State.popCapture_keeps s _ m h) (Option.some.inj e) | (cases e; exact h) | cases e


theorem State.portWrite_keeps {o : State} : ∀ x0 x1 x2 x3, Keep o x0 → KeepO o (State.portWrite x0 x1 x2 x3) := by
  intro x0 x1 x2 x3 h0
  unfold State.portWrite
  with_reducible repeat' (first
    | assumption | apply keep_ite | exact keepO_none | apply keepO_some | apply keepO_ite
    | apply State.cellRuns_keeps | apply State.dropCaptures_keeps | apply State.setReg_keeps | dsimp only | split)

theorem State.loadNext_keeps {o : State} : ∀ x0 x1, Keep o x0 → Keep o (State.loadNext x0 x1) := by
  intro x0 x1 h0
  unfold State.loadNext
  with_reducible repeat' (first
    | assumption | intro _ | apply keep_foldl | apply State.setReg_keeps | apply State.setRegField_keeps)

theorem State.cellSwitch_keeps {o : State} : ∀ x0 x1 x2, Keep o x0 → Keep o (State.cellSwitch x0 x1 x2) := by
  intro x0 x1 x2 h0
  unfold State.cellSwitch
  with_reducible repeat' (first
    | assumption | intro _ | apply keep_ite | apply keep_foldl | apply State.handover_keeps
    | apply State.setCell_keeps | apply State.disarm_keeps | apply State.loadNext_keeps
    | apply State.setCellState_keeps | apply State.bumpBy_keeps)

/-! ### Report -/

theorem State.snapWrite_keeps {o : State} : ∀ x0 x1 x2 x3 x4, Keep o x0 → Keep o (State.snapWrite x0 x1 x2 x3 x4) := by
  intro x0 x1 x2 x3 x4 h0
  unfold State.snapWrite
  with_reducible repeat' (first | assumption | apply State.request_keeps)

theorem State.reportEnd_keeps {o : State} : ∀ x0 x1, Keep o x0 → Keep o (State.reportEnd x0 x1) := by
  intro x0 x1 h0
  unfold State.reportEnd
  with_reducible repeat' (first
    | assumption | intro _ | apply keep_foldl | apply State.sevFlag_keeps | apply State.log_keeps
    | apply State.bump_keeps | apply State.setRegField_keeps)

theorem State.closeReports_keeps {o : State} : ∀ x0, Keep o x0 → Keep o (State.closeReports x0) := by
  intro x0 h0
  unfold State.closeReports
  with_reducible repeat' (first
    | assumption | intro _ | apply keep_foldl | apply State.reportEnd_keeps
    | (apply keep_same <;> first | assumption))

theorem State.snapAck_keeps {o : State} : ∀ x0 x1 x2, Keep o x0 → Keep o (State.snapAck x0 x1 x2) := by
  intro x0 x1 x2 h0
  unfold State.snapAck
  with_reducible repeat' (first
    | assumption | apply keep_ite | apply State.snapWrite_keeps | apply State.closeReports_keeps
    | (apply keep_same <;> first | assumption) | dsimp only | split)

theorem State.snapStart_keeps {o : State} : ∀ x0 x1 x2, Keep o x0 → Keep o (State.snapStart x0 x1 x2).1 := by
  intro x0 x1 x2 h0
  unfold State.snapStart
  with_reducible repeat' (first
    | assumption | intro _ | apply keep_foldl | apply State.setReg_keeps | apply State.snapWrite_keeps)

theorem State.report_keeps {o : State} : ∀ x0 x1, Keep o x0 → Keep o (State.report x0 x1) := by
  intro s d h
  unfold State.report
  extract_lets ts r s1
  have h1 : Keep o r.1 := by
    refine keep_foldl1 h (fun x a hx => ?_)
    dsimp only
    with_reducible exact State.snapStart_keeps x.1 d a hx
  have h2 : Keep o s1 := keep_ite (State.bump_keeps _ _ h1) h1
  clear_value s1
  exact State.closeReports_keeps _ (keep_same h2)


theorem execDomainVisit_keeps {o : State} : ∀ x0 x1, Keep o x1 → KeepX o (execDomainVisit x0 x1) := by
  intro x0 x1 h0
  unfold execDomainVisit
  with_reducible repeat' (first
    | assumption | apply keepX_next | apply keepX_ite | apply State.report_keeps
    | (apply keep_same <;> first | assumption) | dsimp only)

/-! ### Respond -/

theorem State.lateBus_keeps {o : State} : ∀ x0 x1 x2 x3, Keep o x0 → Keep o (State.lateBus x0 x1 x2 x3) := by
  intro x0 x1 x2 x3 h0
  unfold State.lateBus
  with_reducible repeat' (first | assumption | apply State.wakeCtx_keeps | apply State.setCtx_keeps)

theorem State.spawnDone_keeps {o : State} : ∀ x0 x1 x2 x3 x4 x5 x6 x7, Keep o x0 → Keep o (State.spawnDone x0 x1 x2 x3 x4 x5 x6 x7) := by
  intro x0 x1 x2 x3 x4 x5 x6 x7 h0
  unfold State.spawnDone
  with_reducible repeat' (first
    | assumption | apply keep_ite | apply State.instrFault_keeps | apply State.taskFree_keeps
    | apply State.wakeCtx_keeps | apply State.setCtx_keeps)

theorem State.strandDone_keeps {o : State} : ∀ x0 x1 x2 x3 x4 x5, Keep o x0 → Keep o (State.strandDone x0 x1 x2 x3 x4 x5) := by
  intro x0 x1 x2 x3 x4 x5 h0
  unfold State.strandDone
  with_reducible repeat' (first
    | assumption | apply keep_ite | apply State.setCtx_keeps | apply State.lateBus_keeps
    | apply State.spawnDone_keeps | apply State.wakeCtx_keeps | dsimp only | split)

theorem State.loadsLost_keeps {o : State} : ∀ x0 x1 x2 x3, Keep o x0 → Keep o (State.loadsLost x0 x1 x2 x3) := by
  intro x0 x1 x2 x3 h0
  unfold State.loadsLost
  with_reducible repeat' (first
    | assumption | intro _ | apply keep_ite | apply keep_foldl | apply State.lateBus_keeps | apply State.setCtx_keeps)

theorem State.fillLost_keeps {o : State} : ∀ x0 x1 x2 x3, Keep o x0 → Keep o (State.fillLost x0 x1 x2 x3) := by
  intro x0 x1 x2 x3 h0
  unfold State.fillLost
  with_reducible repeat' (first
    | assumption | intro _ | apply keep_ite | apply keep_foldl | apply State.loadsLost_keeps
    | apply State.flushStep_keeps | apply State.storesLost_keeps | apply State.send_keeps
    | apply State.setCache_keeps | apply State.startMiss_keeps | dsimp only | split)

theorem State.barDone_keeps {o : State} : ∀ x0 x1 x2 x3 x4 x5 x6, Keep o x0 → Keep o (State.barDone x0 x1 x2 x3 x4 x5 x6) := by
  intro x0 x1 x2 x3 x4 x5 x6 h0
  unfold State.barDone
  with_reducible repeat' (first | assumption | apply keep_ite | apply State.log_keeps | apply State.setHostFn_keeps)

theorem State.setWindow_keeps {o : State} : ∀ x0 x1 x2, Keep o x0 → Keep o (State.setWindow x0 x1 x2) := by
  intro x0 x1 x2 h0
  unfold State.setWindow
  with_reducible repeat' (first | (apply keep_same <;> first | assumption))

theorem State.windowDone_keeps {o : State} : ∀ x0 x1 x2 x3, Keep o x0 → Keep o (State.windowDone x0 x1 x2 x3) := by
  intro x0 x1 x2 x3 h0
  unfold State.windowDone
  with_reducible repeat' (first | assumption | apply State.setWindow_keeps)

theorem State.statusOf_keeps {o : State} : ∀ x0 x1, Keep o x0 → Keep o (State.statusOf x0 x1).2 := by
  intro x0 x1 h0
  unfold State.statusOf
  with_reducible repeat' (first | assumption | apply keep_ite2 | apply State.draw_keeps)

theorem State.mailDone_keeps {o : State} : ∀ x0 x1 x2 x3 x4, Keep o x0 → Keep o (State.mailDone x0 x1 x2 x3 x4) := by
  intro x0 x1 x2 x3 x4 h0
  unfold State.mailDone
  with_reducible repeat' (first
    | assumption | apply keep_ite | apply State.statusOf_keeps | apply State.setHostFn_keeps
    | apply State.windowDone_keeps)

theorem State.ingressDone_keeps {o : State} : ∀ x0 x1 x2 x3 x4 x5, Keep o x0 → Keep o (State.ingressDone x0 x1 x2 x3 x4 x5) := by
  intro x0 x1 x2 x3 x4 x5 h0
  unfold State.ingressDone
  with_reducible repeat' (first
    | assumption | apply keep_ite | apply State.windowDone_keeps | apply State.linkReply_keeps)

theorem State.legTell_keeps {o : State} : ∀ x0 x1 x2 x3, Keep o x0 → Keep o (State.legTell x0 x1 x2 x3) := by
  intro x0 x1 x2 x3 h0
  unfold State.legTell
  with_reducible repeat' (first | assumption | apply State.legCount_keeps | apply State.forwardInput_keeps)

theorem State.completeAt_keeps {o : State} : ∀ x0 x1 x2 x3, Keep o x0 → Keep o (State.completeAt x0 x1 x2 x3) := by
  intro x0 x1 x2 x3 h0
  unfold State.completeAt
  with_reducible repeat' (first
    | assumption | apply keep_ite | apply State.strandDone_keeps | apply State.legTell_keeps
    | apply State.lateBus_keeps | apply State.wakeCtx_keeps | apply State.taskFree_keeps | apply State.fillLost_keeps
    | apply State.victimFreed_keeps | apply State.homeSilent_keeps | apply State.homeLost_keeps
    | apply State.snapAck_keeps | apply State.barDone_keeps | apply State.mailDone_keeps
    | apply State.ingressDone_keeps | (apply keep_same <;> first | assumption) | dsimp only | split)

theorem State.complete_keeps {o : State} : ∀ x0 x1 x2 x3, Keep o x0 → Keep o (State.complete x0 x1 x2 x3) := by
  intro x0 x1 x2 x3 h0
  unfold State.complete
  with_reducible repeat' (first
    | assumption | apply keep_ite | apply State.wakeStores_keeps | apply State.completeAt_keeps | dsimp only | split)

/-! ### Network -/

theorem State.logRoom_keeps {o : State} : ∀ x0 x1 x2, Keep o x0 → Keep o (State.logRoom x0 x1 x2) := by
  intro x0 x1 x2
  fun_induction State.logRoom
  all_goals with_reducible repeat' (first
    | assumption | intro _ | apply State.bumpBy_keeps | (apply keep_same <;> first | assumption) | apply_assumption)

theorem State.latchFault_keeps {o : State} : ∀ x0 x1 x2, Keep o x0 → Keep o (State.latchFault x0 x1 x2) := by
  intro x0 x1 x2 h0
  unfold State.latchFault
  with_reducible repeat' (first
    | assumption | intro _ | apply keep_ite | apply keep_foldl | apply State.setReg_keeps
    | apply State.setRegField_keeps)

theorem State.logNotify_keeps {o : State} : ∀ x0 x1, Keep o x0 → Keep o (State.logNotify x0 x1) := by
  intro x0 x1 h0
  unfold State.logNotify
  with_reducible repeat' (first | assumption | apply keep_ite | apply State.sevFlag_keeps)

theorem State.noteDetector_keeps {o : State} : ∀ x0 x1, Keep o x0 → Keep o (State.noteDetector x0 x1) := by
  intro x0 x1 h0
  unfold State.noteDetector
  with_reducible repeat' (first | assumption | apply keep_ite | (apply keep_same <;> first | assumption))

theorem State.logAdd_keeps {o : State} : ∀ x0 x1, Keep o x0 → Keep o (State.logAdd x0 x1) := by
  intro x0 x1 h0
  unfold State.logAdd
  with_reducible repeat' (first
    | assumption | apply State.noteDetector_keeps | apply State.logNotify_keeps | apply State.latchFault_keeps
    | (apply keep_same <;> first | apply State.logRoom_keeps))

theorem execEvlog_keeps {o : State} : ∀ x0 x1, Keep o x1 → KeepX o (execEvlog x0 x1) := by
  intro x0 x1 h0
  unfold execEvlog
  with_reducible repeat' (first
    | assumption | apply keepX_next | apply State.logAdd_keeps | apply State.passes_keeps | apply State.take_keeps)

theorem State.swapPacket_keeps {o : State} : ∀ x0 x1 x2, Keep o x0 → Keep o (State.swapPacket x0 x1 x2) := by
  intro x0 x1 x2 h0
  unfold State.swapPacket
  with_reducible repeat' (first | (apply keep_same <;> first | assumption))

theorem State.drawTriple_keeps {o : State} : ∀ x0, Keep o x0 → Keep o (State.drawTriple x0).2 := by
  intro x0 h0
  unfold State.drawTriple
  with_reducible repeat' (first | assumption | apply State.draw_keeps)

theorem State.unitPoisoned_keeps {o : State} : ∀ x0 x1 x2 x3 x4 x5 x6 x7, Keep o x0 → Keep o (State.unitPoisoned x0 x1 x2 x3 x4 x5 x6 x7) := by
  intro x0 x1 x2 x3 x4 x5 x6 x7 h0
  unfold State.unitPoisoned
  with_reducible repeat' (first
    | assumption | apply keep_ite | apply State.draw_keeps | apply State.log_keeps | apply State.bump_keeps
    | apply State.drawTriple_keeps | apply State.take_keeps | apply State.badHeader_keeps
    | apply State.swapPacket_keeps | apply State.bumpCluster_keeps | split)

theorem execHopResend_keeps {o : State} : ∀ x0 x1 x2 x3 x4 x5, Keep o x5 → KeepX o (execHopResend x0 x1 x2 x3 x4 x5) := by
  intro x0 x1 x2 x3 x4 x5 h0
  unfold execHopResend
  with_reducible repeat' (first
    | assumption | apply keep_ite | apply keepX_next | exact keepX_fault | apply keepX_ite
    | apply State.unitPoisoned_keeps | apply State.bump_keeps | apply State.clusterSees_keeps | dsimp only | split)

theorem execHoldRsp_keeps {o : State} : ∀ x0 x1, Keep o x1 → KeepX o (execHoldRsp x0 x1) := by
  intro x0 x1 h0
  unfold execHoldRsp
  with_reducible repeat' (first
    | assumption | apply keepX_next | exact keepX_fault | apply keepX_ite | apply State.passes_keeps
    | apply State.take_keeps | apply State.bumpCluster_keeps | (apply keep_same <;> first | apply State.passes_keeps)
    | dsimp only | split)

theorem execRequestTimeout_keeps {o : State} : ∀ x0 x1 x2, Keep o x2 → KeepX o (execRequestTimeout x0 x1 x2) := by
  intro x0 x1 x2 h0
  unfold execRequestTimeout
  with_reducible repeat' (first
    | assumption | apply keepX_next | exact keepX_fault | apply keepX_ite | apply State.complete_keeps
    | apply State.log_keeps | apply State.bumpCluster_keeps | apply State.dropOutst_keeps | split)

theorem execRsp_keeps {o : State} : ∀ x0 x1, Keep o x1 → KeepX o (execRsp x0 x1) := by
  intro x0 x1 h0
  unfold execRsp
  with_reducible repeat' (first
    | assumption | intro _ | apply keepX_next | exact keepX_fault | apply keepX_ite | apply State.arriveRsp_keeps
    | apply State.complete_keeps)

theorem execRdata_keeps {o : State} : ∀ x0 x1 x2, Keep o x2 → KeepX o (execRdata x0 x1 x2) := by
  intro x0 x1 x2 h0
  unfold execRdata
  with_reducible repeat' (first
    | assumption | intro _ | apply keepX_next | exact keepX_fault | apply keepX_ite | apply State.arriveRsp_keeps
    | apply State.complete_keeps)

theorem execRrsp_keeps {o : State} : ∀ x0 x1 x2, Keep o x2 → KeepX o (execRrsp x0 x1 x2) := by
  intro x0 x1 x2 h0
  unfold execRrsp
  with_reducible repeat' (first
    | assumption | intro _ | apply keepX_next | exact keepX_fault | apply keepX_ite | apply State.arriveRsp_keeps
    | apply State.complete_keeps)

theorem State.isolate_keeps {o : State} : ∀ x0 x1, Keep o x0 → Keep o (State.isolate x0 x1) := by
  intro x0 x1 h0
  unfold State.isolate
  with_reducible repeat' (first
    | assumption | intro _ | apply keep_foldl | apply State.refuse_keeps | apply State.bumpCluster_keeps
    | apply State.setRegField_keeps | (apply keep_same <;> first | assumption))

theorem State.unisolate_keeps {o : State} : ∀ x0 x1, Keep o x0 → Keep o (State.unisolate x0 x1) := by
  intro x0 x1 h0
  unfold State.unisolate
  with_reducible repeat' (first | assumption | apply State.setRegField_keeps)

theorem execNodeIso_keeps {o : State} : ∀ x0 x1 x2 x3, Keep o x3 → KeepX o (execNodeIso x0 x1 x2 x3) := by
  intro x0 x1 x2 x3 h0
  unfold execNodeIso
  with_reducible repeat' (first
    | assumption | intro _ | apply keep_ite | apply State.wardenWrite_keeps | apply State.setRegField_keeps
    | apply State.isolate_keeps | apply State.unisolate_keeps | apply State.log_keeps)

/-! ### DevMem -/

theorem State.countRemote_keeps {o : State} : ∀ x0 x1 x2 x3, Keep o x0 → Keep o (State.countRemote x0 x1 x2 x3) := by
  intro s p a n h
  exact State.bumpBy_keeps _ _ _ h

theorem State.readSpad_keeps {o : State} : ∀ x0 x1 x2 x3 x4, Keep o x0 → Keep o (State.readSpad x0 x1 x2 x3 x4).1 := by
  intro s p a n e h
  unfold State.readSpad
  split
  · exact h
  · have h1 := State.spadCheck_keeps (s.countRemote p a n) p a e (State.countRemote_keeps _ _ _ _ h)
    dsimp only
    split <;> exact h1


theorem State.readDdr_keeps {o : State} : ∀ x0 x1 x2 x3, Keep o x0 → Keep o (State.readDdr x0 x1 x2 x3).1 := by
  intro s d n e h
  unfold State.readDdr
  split
  · exact h
  · have h1 := State.ddrCheck_keeps s d e h
    dsimp only
    split <;> exact h1


theorem State.deviceBusy_keeps {o : State} : ∀ x0 x1 x2, Keep o x0 → Keep o (State.deviceBusy x0 x1 x2) := by
  intro x0 x1 x2 h0
  unfold State.deviceBusy
  with_reducible repeat' (first | assumption | apply State.log_keeps | apply State.bump_keeps)

theorem State.legWords_keeps {o : State} : ∀ x0 x1 x2 x3, Keep o x0 → Keep o (State.legWords x0 x1 x2 x3).1 := by
  intro x0 x1 x2 x3
  fun_induction State.legWords
  all_goals with_reducible repeat' (first | assumption | intro _ | apply State.draw_keeps | apply_assumption)

theorem State.readLegacy_keeps {o : State} : ∀ x0 x1 x2 x3 x4 x5, Keep o x0 → Keep o (State.readLegacy x0 x1 x2 x3 x4 x5).1 := by
  intro s q w n c l h
  unfold State.readLegacy
  split
  · exact h
  · have h1 := State.legWords_keeps s w c n h
    dsimp only
    split
    · exact State.deviceBusy_keeps _ _ _ h1
    · exact h1


theorem State.readAt_keeps {o : State} : ∀ x0 x1 x2 x3 x4 x5 x6, Keep o x0 → Keep o (State.readAt x0 x1 x2 x3 x4 x5 x6).1 := by
  intro x0 x1 x2 x3 x4 x5 x6 h0
  unfold State.readAt
  with_reducible repeat' (first
    | assumption | apply keep_ite1 | apply State.readSpad_keeps | apply State.readDdr_keeps
    | apply State.readLegacy_keeps | apply State.portRead_keeps | dsimp only | split
    | refine keep_ofOP1 ?_ (by assumption))

theorem execRdw_keeps {o : State} : ∀ x0 x1 x2 x3 x4 x5 x6, Keep o x6 → KeepX o (execRdw x0 x1 x2 x3 x4 x5 x6) := by
  intro x0 x1 x2 x3 x4 x5 x6 h0
  unfold execRdw
  with_reducible repeat' (first
    | assumption | intro _ | apply keep_ite | apply keepX_next | apply keepX_ite | apply State.arriveReq_keeps
    | apply State.shadowLegacy_keeps | apply State.readAt_keeps | apply State.send_keeps | apply State.refuse_keeps)

theorem execRrd_keeps {o : State} : ∀ x0 x1 x2 x3 x4 x5 x6, Keep o x6 → KeepX o (execRrd x0 x1 x2 x3 x4 x5 x6) := by
  intro x0 x1 x2 x3 x4 x5 x6 h0
  unfold execRrd
  with_reducible repeat' (first
    | assumption | intro _ | apply keepX_next | apply State.arriveReq_keeps | apply State.readAt_keeps
    | apply State.send_keeps)

theorem State.writeDdr_keeps {o : State} : ∀ x0 x1 x2, Keep o x0 → Keep o (State.writeDdr x0 x1 x2) := by
  intro x0 x1 x2
  fun_induction State.writeDdr
  all_goals with_reducible repeat' (first | assumption | intro _ | apply State.ddrWrite_keeps | apply_assumption)

theorem State.writeLegacy_keeps {o : State} : ∀ x0 x1 x2, Keep o x0 → Keep o (State.writeLegacy x0 x1 x2) := by
  intro x0 x1 x2
  fun_induction State.writeLegacy
  all_goals with_reducible repeat' (first
    | assumption | intro _ | apply keep_ite | apply State.legWrite_keeps | apply State.setRegField_keeps
    | apply_assumption)

theorem State.writeAt_keeps {o : State} : ∀ x0 x1 x2 x3 x4 x5 x6, Keep o x0 → Keep o (State.writeAt x0 x1 x2 x3 x4 x5 x6).1 := by
  intro x0 x1 x2 x3 x4 x5 x6 h0
  unfold State.writeAt
  with_reducible repeat' (first
    | assumption | apply keep_ite1 | apply State.spadStore_keeps | apply State.countRemote_keeps | apply State.bump_keeps
    | apply State.writeDdr_keeps | apply State.writeLegacy_keeps | apply State.deviceBusy_keeps
    | apply State.portWrite_keeps | dsimp only | split | refine keep_ofO ?_ (by assumption))

theorem execWrw_keeps {o : State} : ∀ x0 x1 x2 x3 x4 x5, Keep o x5 → KeepX o (execWrw x0 x1 x2 x3 x4 x5) := by
  intro x0 x1 x2 x3 x4 x5 h0
  unfold execWrw
  with_reducible repeat' (first
    | assumption | intro _ | apply keepX_next | apply keepX_ite | apply State.arriveReq_keeps
    | apply State.shadowLegacy_keeps | apply State.writeAt_keeps | apply State.answer_keeps)

theorem execSetw_keeps {o : State} : ∀ x0 x1 x2 x3, Keep o x3 → KeepX o (execSetw x0 x1 x2 x3) := by
  intro x0 x1 x2 x3 h0
  unfold execSetw
  with_reducible repeat' (first
    | assumption | intro _ | apply keepX_next | apply State.arriveReq_keeps | apply State.writeAt_keeps
    | apply State.answer_keeps)

theorem execClrw_keeps {o : State} : ∀ x0 x1 x2 x3, Keep o x3 → KeepX o (execClrw x0 x1 x2 x3) := by
  intro x0 x1 x2 x3 h0
  unfold execClrw
  with_reducible repeat' (first
    | assumption | intro _ | apply keepX_next | apply State.arriveReq_keeps | apply State.writeAt_keeps
    | apply State.answer_keeps)

theorem execRwr_keeps {o : State} : ∀ x0 x1 x2 x3 x4 x5, Keep o x5 → KeepX o (execRwr x0 x1 x2 x3 x4 x5) := by
  intro x0 x1 x2 x3 x4 x5 h0
  unfold execRwr
  with_reducible repeat' (first
    | assumption | intro _ | apply keep_ite | apply keepX_next | apply State.arriveReq_keeps
    | apply State.writeAt_keeps | apply State.refuse_keeps)

theorem execCwr_keeps {o : State} : ∀ x0 x1 x2 x3, Keep o x3 → KeepX o (execCwr x0 x1 x2 x3) := by
  intro x0 x1 x2 x3 h0
  unfold execCwr
  with_reducible repeat' (first
    | assumption | intro _ | apply keep_ite | apply keepX_next | apply State.arriveReq_keeps
    | apply State.answer_keeps | apply State.codeWrite_keeps)

theorem State.setTester_keeps {o : State} : ∀ x0 x1 x2, Keep o x0 → Keep o (State.setTester x0 x1 x2) := by
  intro x0 x1 x2 h
  exact keep_mem h (memory_wf_tester h.mem)


theorem State.testFailed_keeps {o : State} : ∀ x0 x1 x2, Keep o x0 → Keep o (State.testFailed x0 x1 x2) := by
  intro x0 x1 x2 h0
  unfold State.testFailed
  with_reducible repeat' (first | assumption | apply keep_ite | apply State.bump_keeps | apply State.remapRow_keeps)

theorem execTesterOperation_keeps {o : State} : ∀ x0 x1 x2 x3, Keep o x3 → KeepX o (execTesterOperation x0 x1 x2 x3) := by
  intro x0 x1 x2 x3 h0
  unfold execTesterOperation
  with_reducible repeat' (first
    | assumption | apply keep_ite | apply keepX_next | exact keepX_fault | apply keepX_ite | apply State.bump_keeps
    | apply State.setTester_keeps | apply State.testFailed_keeps | dsimp only | split)

theorem execStateFlush_keeps {o : State} : ∀ x0 x1 x2 x3, Keep o x3 → KeepX o (execStateFlush x0 x1 x2 x3) := by
  intro x0 x1 x2 x3 h0
  unfold execStateFlush
  with_reducible repeat' (first
    | assumption | intro _ | exact keepX_fault | apply keepX_ite | apply State.wardenWrite_keeps
    | apply State.flushStart_keeps)

end Sys2Proof.Machine
end

