-- ==== Sys2Proof/Laws/KeepLinks.lean ====
section
/-! SUPPORT. One lemma per meaning and operation of links, host interface and pair events: it keeps the waiting commands, the member, the die
and the canonical form of the memories. -/

namespace Sys2Proof.Machine

/-! ### Links -/

theorem State.enterLink_keeps {o : State} : ∀ x0 x1 x2, Keep o x0 → Keep o (State.enterLink x0 x1 x2) := by
  intro x0 x1 x2 h0
  unfold State.enterLink
  with_reducible repeat' (first | assumption | apply State.setRegField_keeps | apply State.log_keeps)

theorem State.takeAck_keeps {o : State} : ∀ x0 x1 x2, Keep o x0 → Keep o (State.takeAck x0 x1 x2) := by
  intro x0 x1 x2 h0
  unfold State.takeAck
  with_reducible repeat' (first | assumption | apply keep_ite | apply State.setLink_keeps)

theorem State.nak_keeps {o : State} : ∀ x0 x1, Keep o x0 → Keep o (State.nak x0 x1) := by
  intro x0 x1 h0
  unfold State.nak
  with_reducible repeat' (first | assumption | apply State.setLink_keeps)

theorem State.resolve_keeps {o : State} : ∀ x0 x1 x2, Keep o x0 → Keep o (State.resolve x0 x1 x2) := by
  intro x0 x1 x2 h0
  unfold State.resolve
  with_reducible repeat' (first | assumption | apply State.egressNow_keeps | split)

theorem State.linkLeaves_keeps {o : State} : ∀ x0 x1 x2, Keep o x0 → Keep o (State.linkLeaves x0 x1 x2) := by
  intro x0 x1 x2 h0
  unfold State.linkLeaves
  with_reducible repeat' (first
    | assumption | intro _ | apply keep_ite | apply keep_foldl | apply State.enterLink_keeps
    | apply State.setLink_keeps | apply State.log_keeps | apply State.bumpBy_keeps | apply State.resolve_keeps)

theorem State.linkOff_keeps {o : State} : ∀ x0 x1, Keep o x0 → Keep o (State.linkOff x0 x1) := by
  intro x0 x1 h0
  unfold State.linkOff
  with_reducible repeat' (first
    | assumption | apply keep_ite | apply State.setRegField_keeps | apply State.linkLeaves_keeps
    | apply State.enterLink_keeps)

theorem State.legacyStops_keeps {o : State} : ∀ x0, Keep o x0 → Keep o (State.legacyStops x0) := by
  intro x0 h0
  unfold State.legacyStops
  with_reducible repeat' (first
    | assumption | apply State.setRegField_keeps | (apply keep_same <;> first | apply State.masterLeaves_keeps))

theorem State.fenceSelf_keeps {o : State} : ∀ x0, Keep o x0 → Keep o (State.fenceSelf x0) := by
  intro x0 h0
  unfold State.fenceSelf
  with_reducible repeat' (first
    | assumption | intro _ | apply keep_ite | apply keep_foldl | apply State.bankLosesVio_keeps
    | apply State.linkOff_keeps | apply State.setRegField_keeps | apply State.legacyStops_keeps
    | apply State.setPairRole_keeps | apply State.setPairState_keeps | (apply keep_same <;> first | assumption))

theorem State.dieFault_keeps {o : State} : ∀ x0 x1 x2, Keep o x0 → Keep o (State.dieFault x0 x1 x2) := by
  intro x0 x1 x2 h0
  unfold State.dieFault
  with_reducible repeat' (first | assumption | apply keep_ite | apply State.fenceSelf_keeps | apply State.log_keeps)

theorem State.split_keeps {o : State} : ∀ x0, Keep o x0 → Keep o (State.split x0) := by
  intro x0 h0
  unfold State.split
  with_reducible repeat' (first | assumption | apply keep_ite | apply State.log_keeps | apply State.dieFault_keeps)

theorem State.linkDown_keeps {o : State} : ∀ x0 x1, Keep o x0 → Keep o (State.linkDown x0 x1) := by
  intro x0 x1 h0
  unfold State.linkDown
  with_reducible repeat' (first
    | assumption | apply keep_ite | apply State.linkLeaves_keeps | apply State.bump_keeps | apply State.split_keeps)

theorem State.replayLink_keeps {o : State} : ∀ x0 x1, Keep o x0 → Keep o (State.replayLink x0 x1) := by
  intro x0 x1 h0
  unfold State.replayLink
  with_reducible repeat' (first
    | assumption | apply keep_ite | apply State.linkDown_keeps | apply State.setLink_keeps | apply State.bump_keeps)

theorem State.refuseIngress_keeps {o : State} : ∀ x0 x1 x2, Keep o x0 → Keep o (State.refuseIngress x0 x1 x2) := by
  intro x0 x1 x2 h0
  unfold State.refuseIngress
  with_reducible repeat' (first
    | assumption | apply State.log_keeps | apply State.bump_keeps | apply State.egressRsp_keeps | dsimp only | split)

theorem State.ingest_keeps {o : State} : ∀ x0 x1 x2, Keep o x0 → Keep o (State.ingest x0 x1 x2) := by
  intro s l p h
  unfold State.ingest
  dsimp only
  split
  · exact State.refuseIngress_keeps _ _ _ h
  · split
    · exact State.egressNow_keeps _ _ _ h
    · split
      · exact State.bumpCluster_keeps _ _ _ h
      · exact State.bumpCluster_keeps _ _ _ h
      · exact State.refuseIngress_keeps _ _ _ h
      · split
        · exact State.refuseIngress_keeps _ _ _ h
        · split <;> with_reducible repeat' (first | assumption | apply keep_ite | apply State.refuseIngress_keeps | apply State.release_keeps | apply State.bump_keeps | apply State.send_keeps)


theorem State.takePackets_keeps {o : State} : ∀ x0 x1 x2, Keep o x0 → Keep o (State.takePackets x0 x1 x2) := by
  intro x0 x1 x2 h0
  unfold State.takePackets
  with_reducible repeat' (first
    | assumption | intro _ | apply keep_ite | apply keep_foldl | apply State.forwardInput_keeps
    | apply State.ingest_keeps)

theorem State.frameArrives_keeps {o : State} : ∀ x0 x1 x2 x3 x4, Keep o x0 → (∀ y0, Keep o y0 → Keep o (x4 y0)) → KeepX o (State.frameArrives x0 x1 x2 x3 x4) := by
  intro x0 x1 x2 x3 x4 h0 h1
  unfold State.frameArrives
  with_reducible repeat' (first
    | assumption | apply keep_ite | apply keepX_next | exact keepX_fault | apply keepX_ite | apply State.nak_keeps
    | apply State.bump_keeps | apply State.takeAck_keeps | apply State.replayLink_keeps | apply_assumption)

theorem execLinkFrameReceive_keeps {o : State} : ∀ x0 x1 x2, Keep o x2 → KeepX o (execLinkFrameReceive x0 x1 x2) := by
  intro x0 x1 x2 h0
  unfold execLinkFrameReceive
  with_reducible repeat' (first
    | assumption | intro _ | dsimp only | apply keep_ite | apply State.frameArrives_keeps | apply State.nak_keeps
    | apply State.takePackets_keeps | apply State.setLink_keeps)

theorem execReplayTimeout_keeps {o : State} : ∀ x0 x1, Keep o x1 → KeepX o (execReplayTimeout x0 x1) := by
  intro x0 x1 h0
  unfold execReplayTimeout
  with_reducible repeat' (first
    | assumption | apply keepX_next | exact keepX_fault | apply keepX_ite | apply State.replayLink_keeps | dsimp only
    | split)

theorem execLaneLockLoss_keeps {o : State} : ∀ x0 x1, Keep o x1 → KeepX o (execLaneLockLoss x0 x1) := by
  intro x0 x1 h0
  unfold execLaneLockLoss
  with_reducible repeat' (first
    | assumption | apply keepX_next | exact keepX_fault | apply keepX_ite | apply State.linkDown_keeps)

theorem execLinkRetrain_keeps {o : State} : ∀ x0 x1, Keep o x1 → KeepX o (execLinkRetrain x0 x1) := by
  intro x0 x1 h0
  unfold execLinkRetrain
  with_reducible repeat' (first
    | assumption | apply keepX_next | exact keepX_fault | apply keepX_ite | apply State.enterLink_keeps)

theorem execLinkUp_keeps {o : State} : ∀ x0 x1 x2, Keep o x2 → KeepX o (execLinkUp x0 x1 x2) := by
  intro x0 x1 x2 h0
  unfold execLinkUp
  with_reducible repeat' (first
    | assumption | apply keep_ite | apply keepX_next | exact keepX_fault | apply keepX_ite | apply State.log_keeps
    | apply State.enterLink_keeps | apply State.setRegField_keeps | apply State.resolveHeld_keeps
    | apply State.setLink_keeps)

theorem State.linkEnable_keeps {o : State} : ∀ x0 x1 x2, Keep o x0 → Keep o (State.linkEnable x0 x1 x2) := by
  intro x0 x1 x2 h0
  unfold State.linkEnable
  with_reducible repeat' (first
    | assumption | apply keep_ite | apply State.setRegField_keeps | apply State.enterLink_keeps
    | apply State.linkOff_keeps | apply State.split_keeps)

theorem execLinkEnable_keeps {o : State} : ∀ x0 x1 x2 x3, Keep o x3 → KeepX o (execLinkEnable x0 x1 x2 x3) := by
  intro x0 x1 x2 x3 h0
  unfold execLinkEnable
  with_reducible repeat' (first
    | assumption | intro _ | exact keepX_fault | apply keepX_ite | apply State.wardenWrite_keeps
    | apply State.linkEnable_keeps)

theorem execTimeExchangeStart_keeps {o : State} : ∀ x0 x1, Keep o x1 → KeepX o (execTimeExchangeStart x0 x1) := by
  intro x0 x1 h0
  unfold execTimeExchangeStart
  with_reducible repeat' (first
    | assumption | apply keepX_next | exact keepX_fault | apply keepX_ite | apply State.setLink_keeps)

theorem execSyncFrame_keeps {o : State} : ∀ x0 x1 x2 x3, Keep o x3 → KeepX o (execSyncFrame x0 x1 x2 x3) := by
  intro x0 x1 x2 x3 h0
  unfold execSyncFrame
  with_reducible repeat' (first
    | assumption | intro _ | apply keep_ite | apply State.frameArrives_keeps | apply State.log_keeps
    | apply State.setLink_keeps)

theorem execDelreq_keeps {o : State} : ∀ x0 x1 x2 x3, Keep o x3 → KeepX o (execDelreq x0 x1 x2 x3) := by
  intro x0 x1 x2 x3 h0
  unfold execDelreq
  with_reducible repeat' (first
    | assumption | intro _ | apply keep_ite | apply State.frameArrives_keeps | apply State.setLink_keeps)

theorem State.pairTime_keeps {o : State} : ∀ x0 x1, Keep o x0 → Keep o (State.pairTime x0 x1) := by
  intro x0 x1 h0
  unfold State.pairTime
  with_reducible repeat' (first
    | assumption | apply keep_ite | apply State.log_keeps | (apply keep_same <;> first | apply State.setReg_keeps))

theorem execTimesFrame_keeps {o : State} : ∀ x0 x1 x2 x3 x4 x5, Keep o x5 → KeepX o (execTimesFrame x0 x1 x2 x3 x4 x5) := by
  intro x0 x1 x2 x3 x4 x5 h0
  unfold execTimesFrame
  with_reducible repeat' (first
    | assumption | intro _ | apply keep_ite | apply State.frameArrives_keeps | apply State.sample_keeps
    | apply State.setLink_keeps | apply State.pairTime_keeps)

/-! ### Interface -/

theorem State.fnRequest_keeps {o : State} : ∀ x0 x1 x2 x3 x4, Keep o x0 → Keep o (State.fnRequest x0 x1 x2 x3 x4) := by
  intro x0 x1 x2 x3 x4 h0
  unfold State.fnRequest
  with_reducible repeat' (first | assumption | apply State.request_keeps)

theorem State.mailResult_keeps {o : State} : ∀ x0 x1 x2 x3, Keep o x0 → Keep o (State.mailResult x0 x1 x2 x3) := by
  intro x0 x1 x2 x3 h0
  unfold State.mailResult
  with_reducible repeat' (first | assumption | apply State.setHostFn_keeps)

theorem State.ingressAnswer_keeps {o : State} : ∀ x0 x1 x2 x3, Keep o x0 → Keep o (State.ingressAnswer x0 x1 x2 x3) := by
  intro x0 x1 x2 x3 h0
  unfold State.ingressAnswer
  with_reducible repeat' (first | assumption | apply State.linkReply_keeps | apply State.mailResult_keeps | split)

theorem State.mailRefused_keeps {o : State} : ∀ x0 x1, Keep o x0 → Keep o (State.mailRefused x0 x1) := by
  intro x0 x1 h0
  unfold State.mailRefused
  with_reducible repeat' (first | assumption | apply State.ingressAnswer_keeps | apply State.windowDone_keeps)

theorem State.passMail_keeps {o : State} : ∀ x0 x1, Keep o x0 → Keep o (State.passMail x0 x1) := by
  intro x0 x1 h0
  unfold State.passMail
  with_reducible repeat' (first
    | assumption | intro _ | apply keep_ite | apply keep_foldl | apply State.mailRefused_keeps
    | apply State.setHostFn_keeps | apply State.fnRequest_keeps | dsimp only | split)

theorem State.passOn_keeps {o : State} : ∀ x0 x1, Keep o x0 → Keep o (State.passOn x0 x1) := by
  intro x0 x1 h0
  unfold State.passOn
  with_reducible repeat' (first
    | assumption | apply State.request_keeps | apply State.passMail_keeps | dsimp only | split)

theorem State.meetWindow_keeps {o : State} : ∀ x0 x1, Keep o x0 → Keep o (State.meetWindow x0 x1) := by
  intro x0 x1 h0
  unfold State.meetWindow
  with_reducible repeat' (first
    | assumption | apply keep_ite | apply State.passOn_keeps | apply State.setWindow_keeps
    | apply State.bumpCluster_keeps | apply State.ingressAnswer_keeps | dsimp only | split)

theorem State.mailSubmit_keeps {o : State} : ∀ x0 x1 x2, Keep o x0 → Keep o (State.mailSubmit x0 x1 x2) := by
  intro x0 x1 x2 h0
  unfold State.mailSubmit
  with_reducible repeat' (first | assumption | apply keep_ite | apply State.setHostFn_keeps | apply State.send_keeps)

theorem State.takeNotice_keeps {o : State} : ∀ x0 x1, Keep o x0 → Keep o (State.takeNotice x0 x1).2 := by
  intro x0 x1 h0
  unfold State.takeNotice
  with_reducible repeat' (first | assumption | apply State.setHostFn_keeps | dsimp only | split)

theorem State.doorbell_keeps {o : State} : ∀ x0 x1 x2, Keep o x0 → Keep o (State.doorbell x0 x1 x2) := by
  intro x0 x1 x2 h0
  unfold State.doorbell
  with_reducible repeat' (first | assumption | apply keep_ite | apply State.send_keeps)

theorem State.pageWrite_keeps {o : State} : ∀ x0 x1 x2 x3, Keep o x0 → Keep o (State.pageWrite x0 x1 x2 x3) := by
  intro x0 x1 x2 x3 h0
  unfold State.pageWrite
  with_reducible repeat' (first
    | assumption | apply State.setHostFn_keeps | apply State.setWbuf_keeps | apply State.mailSubmit_keeps
    | apply State.doorbell_keeps | dsimp only | split)

theorem State.setSnap_keeps {o : State} : ∀ x0 x1 x2 x3, Keep o x0 → Keep o (State.setSnap x0 x1 x2 x3) := by
  intro x0 x1 x2 x3 h0
  unfold State.setSnap
  with_reducible repeat' (first | (apply keep_same <;> first | assumption))

theorem State.pageRead_keeps {o : State} : ∀ x0 x1 x2, Keep o x0 → Keep o (State.pageRead x0 x1 x2).2 := by
  intro x0 x1 x2 h0
  unfold State.pageRead
  with_reducible repeat' (first
    | assumption | apply State.setSnap_keeps | apply State.takeNotice_keeps | dsimp only | split)

theorem State.barReply_keeps {o : State} : ∀ x0 x1 x2 x3 x4, Keep o x0 → Keep o (State.barReply x0 x1 x2 x3 x4) := by
  intro x0 x1 x2 x3 x4 h0
  unfold State.barReply
  with_reducible repeat' (first | assumption | apply State.setHostFn_keeps)

theorem State.barRead_keeps {o : State} : ∀ x0 x1 x2 x3 x4, Keep o x0 → Keep o (State.barRead x0 x1 x2 x3 x4) := by
  intro x0 x1 x2 x3 x4 h0
  unfold State.barRead
  with_reducible repeat' (first
    | assumption | apply keep_ite | apply State.fnRequest_keeps | apply State.barReply_keeps
    | apply State.pageRead_keeps | dsimp only | split)

theorem State.barWrite_keeps {o : State} : ∀ x0 x1 x2 x3 x4 x5, Keep o x0 → Keep o (State.barWrite x0 x1 x2 x3 x4 x5) := by
  intro x0 x1 x2 x3 x4 x5 h0
  unfold State.barWrite
  with_reducible repeat' (first
    | assumption | apply keep_ite | apply State.log_keeps | apply State.bump_keeps | apply State.fnRequest_keeps
    | apply State.barDone_keeps | apply State.pageWrite_keeps | split)

theorem State.fnForget_keeps {o : State} : ∀ x0 x1, Keep o x0 → Keep o (State.fnForget x0 x1) := by
  intro x0 x1 h0
  unfold State.fnForget
  with_reducible repeat' (first | (apply keep_same <;> first | assumption))

theorem State.functionReset_keeps {o : State} : ∀ x0 x1, Keep o x0 → Keep o (State.functionReset x0 x1) := by
  intro x0 x1 h0
  unfold State.functionReset
  with_reducible repeat' (first
    | assumption | apply State.masterLeaves_keeps | apply State.setWbuf_keeps | apply State.setWindow_keeps
    | apply State.setHostFn_keeps | apply State.fnForget_keeps)

theorem State.ethReceive_keeps {o : State} : ∀ x0 x1 x2, Keep o x0 → Keep o (State.ethReceive x0 x1 x2) := by
  intro x0 x1 x2 h0
  unfold State.ethReceive
  with_reducible repeat' (first | assumption | apply keep_ite | apply State.bump_keeps | apply State.send_keeps)

theorem State.ethSend_keeps {o : State} : ∀ x0 x1 x2 x3, Keep o x0 → Keep o (State.ethSend x0 x1 x2 x3) := by
  intro x0 x1 x2 x3 h0
  unfold State.ethSend
  with_reducible repeat' (first
    | apply State.send_keeps | (apply keep_same <;> first | assumption) | dsimp only | split)

theorem State.ethTake_keeps {o : State} : ∀ x0 x1 x2, Keep o x0 → Keep o (State.ethTake x0 x1 x2) := by
  intro x0 x1 x2 h0
  unfold State.ethTake
  with_reducible repeat' (first
    | assumption | apply keep_ite | apply State.setQueue_keeps | apply State.log_keeps | apply State.bump_keeps
    | apply State.pairCount_keeps | apply State.holdEffect_keeps | apply State.ethSend_keeps | dsimp only | split)

theorem State.patrol_keeps {o : State} : ∀ x0 x1 x2, Keep o x0 → Keep o (State.patrol x0 x1 x2) := by
  intro s d e h
  have h1 : ∀ r, Keep o (s.bump r) := fun r => State.bump_keeps s r h
  have h2 : ∀ (t : State) (k v : Nat), Keep o t → Keep o { t with memory := { t.memory with scrub := Map.set (fun _ => 0) t.memory.scrub k v } } :=
    fun t k v ht => keep_mem ht (memory_wf_scrub ht.mem)
  unfold State.patrol
  cases e
  · exact h2 _ _ _ h
  · exact h2 _ _ _ (h1 _)
  · exact h2 _ _ _ (h1 _)


theorem State.legDrive_keeps {o : State} : ∀ x0 x1 x2, Keep o x0 → Keep o (State.legDrive x0 x1 x2) := by
  intro x0 x1 x2 h0
  unfold State.legDrive
  with_reducible repeat' (first | (apply keep_same <;> first | assumption))

theorem State.legBusy_keeps {o : State} : ∀ x0 x1, Keep o x0 → Keep o (State.legBusy x0 x1) := by
  intro x0 x1 h0
  unfold State.legBusy
  with_reducible repeat' (first | assumption | apply keep_ite | apply State.bump_keeps)

theorem State.legReadWord_keeps {o : State} : ∀ x0 x1 x2 x3, Keep o x0 → Keep o (State.legReadWord x0 x1 x2 x3) := by
  intro x0 x1 x2 x3 h0
  unfold State.legReadWord
  with_reducible repeat' (first
    | assumption | apply keep_ite | apply State.draw_keeps | apply State.legBusy_keeps | apply State.legDrive_keeps
    | apply State.setRegField_keeps | split)

theorem State.legMail_keeps {o : State} : ∀ x0 x1, Keep o x0 → Keep o (State.legMail x0 x1) := by
  intro x0 x1 h0
  unfold State.legMail
  with_reducible repeat' (first
    | assumption | apply keep_ite | apply State.bump_keeps | apply State.qPut_keeps | apply State.qCommit_keeps)

theorem State.legWriteWord_keeps {o : State} : ∀ x0 x1 x2 x3 x4, Keep o x0 → Keep o (State.legWriteWord x0 x1 x2 x3 x4) := by
  intro x0 x1 x2 x3 x4 h0
  unfold State.legWriteWord
  with_reducible repeat' (first
    | assumption | apply keep_ite | apply State.legBusy_keeps | apply State.legDrive_keeps
    | apply State.legWrite_keeps | apply State.legMail_keeps)

theorem State.legTryLock_keeps {o : State} : ∀ x0 x1, Keep o x0 → Keep o (State.legTryLock x0 x1) := by
  intro x0 x1 h0
  unfold State.legTryLock
  with_reducible repeat' (first | assumption | apply State.lkTry_keeps | apply State.legDrive_keeps)

theorem State.legReleaseLock_keeps {o : State} : ∀ x0 x1, Keep o x0 → Keep o (State.legReleaseLock x0 x1) := by
  intro x0 x1 h0
  unfold State.legReleaseLock
  with_reducible repeat' (first
    | assumption | apply keep_ite | apply State.legDrive_keeps | apply State.lkFree_keeps
    | apply State.lkForeign_keeps)

theorem State.legReadCycle_keeps {o : State} : ∀ x0 x1 x2 x3, Keep o x0 → Keep o (State.legReadCycle x0 x1 x2 x3) := by
  intro x0 x1 x2 x3 h0
  unfold State.legReadCycle
  with_reducible repeat' (first
    | assumption | apply keep_ite | apply State.legReadWord_keeps | apply State.legTryLock_keeps
    | apply State.legDrive_keeps)

theorem State.legWriteCycle_keeps {o : State} : ∀ x0 x1 x2 x3 x4, Keep o x0 → Keep o (State.legWriteCycle x0 x1 x2 x3 x4) := by
  intro x0 x1 x2 x3 x4 h0
  unfold State.legWriteCycle
  with_reducible repeat' (first
    | assumption | apply keep_ite | apply State.legWriteWord_keeps | apply State.legReleaseLock_keeps)

/-! ### External -/

theorem State.applyInput_keeps {o : State} : ∀ x0 x1, Keep o x0 → Keep o (State.applyInput x0 x1) := by
  intro x0 x1 h0
  unfold State.applyInput
  with_reducible repeat' (first
    | assumption | apply keep_ite | apply State.barRead_keeps | apply State.barWrite_keeps
    | apply State.mailSubmit_keeps | apply State.takeNotice_keeps | apply State.barReply_keeps
    | apply State.doorbell_keeps | apply State.functionReset_keeps | apply State.ingest_keeps
    | apply State.ethReceive_keeps | apply State.legReadCycle_keeps | apply State.legWriteCycle_keeps
    | apply State.legTryLock_keeps | apply State.legReleaseLock_keeps | apply State.captureIn_keeps
    | apply State.pairCapture_keeps | apply State.legResult_keeps | dsimp only | split)

theorem State.outsideInput_keeps {o : State} : ∀ x0 x1, Keep o x0 → Keep o (State.outsideInput x0 x1) := by
  intro x0 x1 h0
  unfold State.outsideInput
  with_reducible repeat' (first
    | assumption | apply keep_ite | apply State.forwardInput_keeps | apply State.applyInput_keeps)

theorem State.hostAccess_keeps {o : State} : ∀ x0 x1 x2 x3 x4, Keep o x0 → (∀ y0, Keep o y0 → Keep o (x4 y0)) → KeepX o (State.hostAccess x0 x1 x2 x3 x4) := by
  intro x0 x1 x2 x3 x4 h0 h1
  unfold State.hostAccess
  with_reducible repeat' (first
    | assumption | apply keep_ite | apply keepX_next | exact keepX_fault | apply keepX_ite
    | apply State.applyInput_keeps | apply State.outsideInput_keeps | apply_assumption)

theorem execIngressRequest_keeps {o : State} : ∀ x0 x1, Keep o x1 → KeepX o (execIngressRequest x0 x1) := by
  intro x0 x1 h0
  unfold execIngressRequest
  with_reducible repeat' (first
    | assumption | apply keepX_next | apply State.meetWindow_keeps | apply State.take_keeps)

theorem execPcieBarRead_keeps {o : State} : ∀ x0 x1 x2 x3 x4, Keep o x4 → KeepX o (execPcieBarRead x0 x1 x2 x3 x4) := by
  intro x0 x1 x2 x3 x4 h0
  unfold execPcieBarRead
  with_reducible repeat' (first | assumption | intro _ | apply State.hostAccess_keeps | apply State.barReply_keeps)

theorem execPcieBarWrite_keeps {o : State} : ∀ x0 x1 x2 x3 x4 x5, Keep o x5 → KeepX o (execPcieBarWrite x0 x1 x2 x3 x4 x5) := by
  intro x0 x1 x2 x3 x4 x5 h0
  unfold execPcieBarWrite
  with_reducible repeat' (first | assumption | intro _ | apply State.hostAccess_keeps | apply_assumption)

theorem execMailboxRead_keeps {o : State} : ∀ x0 x1, Keep o x1 → KeepX o (execMailboxRead x0 x1) := by
  intro x0 x1 h0
  unfold execMailboxRead
  with_reducible repeat' (first | assumption | intro _ | apply State.hostAccess_keeps | apply_assumption)

theorem execMailboxWrite_keeps {o : State} : ∀ x0 x1, Keep o x1 → KeepX o (execMailboxWrite x0 x1) := by
  intro x0 x1 h0
  unfold execMailboxWrite
  with_reducible repeat' (first | assumption | intro _ | apply State.hostAccess_keeps | apply_assumption)

theorem execMailboxSetWrite_keeps {o : State} : ∀ x0 x1, Keep o x1 → KeepX o (execMailboxSetWrite x0 x1) := by
  intro x0 x1 h0
  unfold execMailboxSetWrite
  with_reducible repeat' (first | assumption | intro _ | apply State.hostAccess_keeps | apply_assumption)

theorem execMailboxClearWrite_keeps {o : State} : ∀ x0 x1, Keep o x1 → KeepX o (execMailboxClearWrite x0 x1) := by
  intro x0 x1 h0
  unfold execMailboxClearWrite
  with_reducible repeat' (first | assumption | intro _ | apply State.hostAccess_keeps | apply_assumption)

theorem execNoticeRead_keeps {o : State} : ∀ x0 x1, Keep o x1 → KeepX o (execNoticeRead x0 x1) := by
  intro x0 x1 h0
  unfold execNoticeRead
  with_reducible repeat' (first | assumption | intro _ | apply State.hostAccess_keeps | apply State.barReply_keeps)

theorem execSevflags_keeps {o : State} : ∀ x0 x1 x2, Keep o x2 → KeepX o (execSevflags x0 x1 x2) := by
  intro x0 x1 x2 h0
  unfold execSevflags
  with_reducible repeat' (first | assumption | intro _ | apply State.hostAccess_keeps | apply_assumption)

theorem execFunctionLevelReset_keeps {o : State} : ∀ x0 x1, Keep o x1 → KeepX o (execFunctionLevelReset x0 x1) := by
  intro x0 x1 h0
  unfold execFunctionLevelReset
  with_reducible repeat' (first
    | assumption | apply keepX_next | exact keepX_fault | apply keepX_ite | apply State.outsideInput_keeps)

theorem execEthFrameReceive_keeps {o : State} : ∀ x0 x1 x2, Keep o x2 → KeepX o (execEthFrameReceive x0 x1 x2) := by
  intro x0 x1 x2 h0
  unfold execEthFrameReceive
  with_reducible repeat' (first
    | assumption | apply keepX_next | exact keepX_fault | apply keepX_ite | apply State.outsideInput_keeps)

theorem execEthFrameTransmit_keeps {o : State} : ∀ x0 x1 x2, Keep o x2 → KeepX o (execEthFrameTransmit x0 x1 x2) := by
  intro x0 x1 x2 h0
  unfold execEthFrameTransmit
  with_reducible repeat' (first | assumption | apply onUnit_keeps | apply State.ethTake_keeps)

theorem execPatrolScrub_keeps {o : State} : ∀ x0 x1 x2, Keep o x2 → KeepX o (execPatrolScrub x0 x1 x2) := by
  intro x0 x1 x2 h0
  unfold execPatrolScrub
  with_reducible repeat' (first
    | assumption | apply keepX_next | exact keepX_fault | apply keepX_ite | apply State.patrol_keeps)

theorem execLegacyRead_keeps {o : State} : ∀ x0 x1 x2 x3, Keep o x3 → KeepX o (execLegacyRead x0 x1 x2 x3) := by
  intro x0 x1 x2 x3 h0
  unfold execLegacyRead
  with_reducible repeat' (first | assumption | apply keepX_next | apply State.outsideInput_keeps)

theorem execLegacyWrite_keeps {o : State} : ∀ x0 x1 x2 x3 x4, Keep o x4 → KeepX o (execLegacyWrite x0 x1 x2 x3 x4) := by
  intro x0 x1 x2 x3 x4 h0
  unfold execLegacyWrite
  with_reducible repeat' (first | assumption | apply keepX_next | apply State.outsideInput_keeps)

theorem execLegacyMailboxWrite_keeps {o : State} : ∀ x0 x1 x2 x3, Keep o x3 → KeepX o (execLegacyMailboxWrite x0 x1 x2 x3) := by
  intro x0 x1 x2 x3 h0
  unfold execLegacyMailboxWrite
  with_reducible repeat' (first | assumption | apply keepX_next | apply State.outsideInput_keeps)

theorem execLegacyIntRead_keeps {o : State} : ∀ x0 x1 x2, Keep o x2 → KeepX o (execLegacyIntRead x0 x1 x2) := by
  intro x0 x1 x2 h0
  unfold execLegacyIntRead
  with_reducible repeat' (first | assumption | apply keepX_next | apply State.outsideInput_keeps)

theorem execLegacyLocketTry_keeps {o : State} : ∀ x0 x1, Keep o x1 → KeepX o (execLegacyLocketTry x0 x1) := by
  intro x0 x1 h0
  unfold execLegacyLocketTry
  with_reducible repeat' (first | assumption | apply keepX_next | apply State.outsideInput_keeps)

theorem execLegacyLocketRelease_keeps {o : State} : ∀ x0 x1, Keep o x1 → KeepX o (execLegacyLocketRelease x0 x1) := by
  intro x0 x1 h0
  unfold execLegacyLocketRelease
  with_reducible repeat' (first | assumption | apply keepX_next | apply State.outsideInput_keeps)

theorem execLegRstN_keeps {o : State} : ∀ x0 x1, Keep o x1 → KeepX o (execLegRstN x0 x1) := by
  intro x0 x1 h0
  unfold execLegRstN
  with_reducible repeat' (first
    | assumption | apply keep_ite | apply keepX_next | apply State.setRegField_keeps | apply State.legacyStops_keeps)

theorem execLegacyEnable_keeps {o : State} : ∀ x0 x1 x2, Keep o x2 → KeepX o (execLegacyEnable x0 x1 x2) := by
  intro x0 x1 x2 h0
  unfold execLegacyEnable
  with_reducible repeat' (first
    | assumption | intro _ | apply keep_ite | apply State.wardenWrite_keeps | apply State.setRegField_keeps
    | apply State.legacyStops_keeps)

theorem State.pairFrame_keeps {o : State} : ∀ x0 x1 x2 x3, Keep o x0 → (∀ y0, Keep o y0 → Keep o (x3 y0)) → KeepX o (State.pairFrame x0 x1 x2 x3) := by
  intro x0 x1 x2 x3 h0 h1
  unfold State.pairFrame
  with_reducible repeat' (first
    | assumption | intro _ | apply keep_ite | apply State.frameArrives_keeps | apply State.bump_keeps
    | apply_assumption)

theorem execPairInput_keeps {o : State} : ∀ x0 x1 x2 x3 x4, Keep o x4 → KeepX o (execPairInput x0 x1 x2 x3 x4) := by
  intro x0 x1 x2 x3 x4 h0
  unfold execPairInput
  with_reducible repeat' (first
    | assumption | intro _ | apply keep_ite | apply State.pairFrame_keeps | apply State.sendCtl_keeps
    | apply State.applyInput_keeps)

theorem execPairAcknowledgement_keeps {o : State} : ∀ x0 x1 x2 x3, Keep o x3 → KeepX o (execPairAcknowledgement x0 x1 x2 x3) := by
  intro x0 x1 x2 x3 h0
  unfold execPairAcknowledgement
  with_reducible repeat' (first
    | assumption | intro _ | apply keep_ite | apply State.pairFrame_keeps | apply State.applyInput_keeps
    | (apply keep_same <;> first | assumption) | dsimp only | split)

theorem State.mapEffects_keeps {o : State} : ∀ x0 x1, Keep o x0 → Keep o (State.mapEffects x0 x1) := by
  intro x0 x1 h0
  unfold State.mapEffects
  with_reducible repeat' (first | (apply keep_same <;> first | assumption))

theorem execPairIntent_keeps {o : State} : ∀ x0 x1 x2 x3 x4, Keep o x4 → KeepX o (execPairIntent x0 x1 x2 x3 x4) := by
  intro x0 x1 x2 x3 x4 h0
  unfold execPairIntent
  with_reducible repeat' (first
    | assumption | intro _ | apply keep_ite | apply State.pairFrame_keeps | apply State.sendCtl_keeps
    | apply State.mapEffects_keeps | (apply keep_same <;> first | assumption) | dsimp only | split)

theorem State.unhold_keeps {o : State} : ∀ x0 x1, Keep o x0 → Keep o (State.unhold x0 x1) := by
  intro x0 x1 h0
  unfold State.unhold
  with_reducible repeat' (first
    | assumption | apply State.readable_keeps | apply State.setQueue_keeps | dsimp only | split)

theorem State.releaseEffect_keeps {o : State} : ∀ x0 x1, Keep o x0 → Keep o (State.releaseEffect x0 x1) := by
  intro x0 x1 h0
  unfold State.releaseEffect
  with_reducible repeat' (first
    | assumption | apply State.linkSend_keeps | apply State.noRoute_keeps | apply State.ethSend_keeps
    | apply State.unhold_keeps | split)

theorem State.releaseAgreed_keeps {o : State} : ∀ x0 x1 x2, Keep o x0 → Keep o (State.releaseAgreed x0 x1 x2) := by
  intro x0 x1 x2
  fun_induction State.releaseAgreed
  all_goals with_reducible repeat' (first
    | assumption | intro _ | apply State.sendPair_keeps | apply State.releaseEffect_keeps
    | (apply keep_same <;> first | assumption) | apply_assumption)

theorem execPairAgreement_keeps {o : State} : ∀ x0 x1 x2 x3, Keep o x3 → KeepX o (execPairAgreement x0 x1 x2 x3) := by
  intro x0 x1 x2 x3 h0
  unfold execPairAgreement
  with_reducible repeat' (first
    | assumption | intro _ | apply keep_ite | apply State.pairFrame_keeps | apply State.mapEffects_keeps
    | apply State.releaseAgreed_keeps)

theorem execPairDone_keeps {o : State} : ∀ x0 x1 x2 x3, Keep o x3 → KeepX o (execPairDone x0 x1 x2 x3) := by
  intro x0 x1 x2 x3 h0
  unfold execPairDone
  with_reducible repeat' (first
    | assumption | intro _ | apply keep_ite | apply State.pairFrame_keeps | apply State.unhold_keeps
    | (apply keep_same <;> first | assumption) | dsimp only | split)

theorem execPairHeartbeat_keeps {o : State} : ∀ x0 x1 x2, Keep o x2 → KeepX o (execPairHeartbeat x0 x1 x2) := by
  intro x0 x1 x2 h0
  unfold execPairHeartbeat
  with_reducible repeat' (first | assumption | intro _ | apply State.pairFrame_keeps | apply_assumption)

theorem State.cellsSafe_keeps {o : State} : ∀ x0 x1, Keep o x0 → Keep o (State.cellsSafe x0 x1) := by
  intro x0 x1 h0
  unfold State.cellsSafe
  with_reducible repeat' (first
    | assumption | intro _ | apply keep_ite | apply keep_foldl | apply State.cellStops_keeps)

theorem State.attribute_keeps {o : State} : ∀ x0 x1 x2 x3, Keep o x0 → Keep o (State.attribute x0 x1 x2 x3) := by
  intro x0 x1 x2 x3 h0
  unfold State.attribute
  with_reducible repeat' (first
    | assumption | apply keep_ite | apply State.dieFault_keeps | apply State.cellsSafe_keeps | apply State.log_keeps
    | (apply keep_same <;> first | apply State.setPairState_keeps))

theorem execPadMismatch_keeps {o : State} : ∀ x0 x1 x2, Keep o x2 → KeepX o (execPadMismatch x0 x1 x2) := by
  intro x0 x1 x2 h0
  unfold execPadMismatch
  with_reducible repeat' (first
    | assumption | apply keepX_next | exact keepX_fault | apply keepX_ite | apply State.attribute_keeps
    | apply State.log_keeps | apply State.bump_keeps)

theorem execCaptureDisagreement_keeps {o : State} : ∀ x0 x1 x2, Keep o x2 → KeepX o (execCaptureDisagreement x0 x1 x2) := by
  intro x0 x1 x2 h0
  unfold execCaptureDisagreement
  with_reducible repeat' (first
    | assumption | apply keepX_next | exact keepX_fault | apply keepX_ite | apply State.attribute_keeps
    | apply State.log_keeps | apply State.bump_keeps | (apply keep_same <;> first | assumption))

theorem execEffectDisagreement_keeps {o : State} : ∀ x0 x1 x2, Keep o x2 → KeepX o (execEffectDisagreement x0 x1 x2) := by
  intro x0 x1 x2 h0
  unfold execEffectDisagreement
  with_reducible repeat' (first
    | assumption | apply keepX_next | apply keepX_ite | apply State.attribute_keeps | apply State.log_keeps
    | apply State.bump_keeps)

theorem State.runAlone_keeps {o : State} : ∀ x0, Keep o x0 → Keep o (State.runAlone x0) := by
  intro x0 h0
  unfold State.runAlone
  with_reducible repeat' (first
    | apply State.setPairRole_keeps | apply State.setPairState_keeps | (apply keep_same <;> first | assumption))

theorem State.lateCommits_keeps {o : State} : ∀ x0 x1 x2, Keep o x0 → Keep o (State.lateCommits x0 x1 x2) := by
  intro x0 x1 x2 h0
  unfold State.lateCommits
  with_reducible repeat' (first
    | assumption | intro _ | apply keep_ite | apply keep_foldl | apply State.bumpBy_keeps | apply State.setCell_keeps)

theorem State.effectsAtTakeover_keeps {o : State} : ∀ x0, Keep o x0 → Keep o (State.effectsAtTakeover x0) := by
  intro x0 h0
  unfold State.effectsAtTakeover
  with_reducible repeat' (first
    | assumption | intro _ | apply keep_ite | apply keep_foldl | apply State.releaseEffect_keeps
    | apply State.log_keeps | apply State.bumpBy_keeps | (apply keep_same <;> first | assumption))

theorem execTakeover_keeps {o : State} : ∀ x0 x1, Keep o x1 → KeepX o (execTakeover x0 x1) := by
  intro x0 x1 h0
  unfold execTakeover
  with_reducible repeat' (first
    | assumption | intro _ | apply keep_foldl | apply keepX_next | apply keepX_ite | apply State.lateCommits_keeps
    | apply State.log_keeps | apply State.bump_keeps | apply State.runAlone_keeps
    | apply State.effectsAtTakeover_keeps | apply State.send_keeps
    | (apply keep_same <;> first | apply State.setSrcValid_keeps))

theorem execLeadSeesFenceNLow_keeps {o : State} : ∀ x0, Keep o x0 → KeepX o (execLeadSeesFenceNLow x0) := by
  intro x0 h0
  unfold execLeadSeesFenceNLow
  with_reducible repeat' (first
    | assumption | intro _ | apply keep_foldl | apply keepX_next | apply keepX_ite | apply State.releaseEffect_keeps
    | apply State.applyInput_keeps | (apply keep_same <;> first | apply State.runAlone_keeps))

end Sys2Proof.Machine
end

