-- ==== Sys2Proof/Laws/KeepPower.lean ====
section
/-! SUPPORT. One lemma per meaning and operation of resets, power, registers, boot, update and exchange: it keeps the waiting commands, the member, the die
and the canonical form of the memories. -/

namespace Sys2Proof.Machine

/-! ### PowerSeq -/

theorem State.garble_keeps {o : State} : ∀ x0 x1 x2, Keep o x0 → Keep o (State.garble x0 x1 x2) := by
  intro x0 x1 x2 h0
  unfold State.garble
  with_reducible repeat' (first | (apply keep_same <;> first | assumption))

theorem State.cutFlash_keeps {o : State} : ∀ x0, Keep o x0 → Keep o (State.cutFlash x0) := by
  intro x0 h0
  unfold State.cutFlash
  with_reducible repeat' (first | assumption | apply keep_ite | apply State.garble_keeps | dsimp only | split)

theorem State.seedTime_keeps {o : State} : ∀ x0, Keep o x0 → Keep o (State.seedTime x0) := by
  intro x0 h0
  unfold State.seedTime
  with_reducible repeat' (first
    | assumption | apply keep_ite | apply State.setRegField_keeps
    | (apply keep_same <;> first | apply State.draw_keeps))

theorem State.coreVolts_keeps {o : State} : ∀ x0, Keep o x0 → Keep o (State.coreVolts x0) := by
  intro x0 h0
  unfold State.coreVolts
  with_reducible repeat' (first
    | assumption | intro _ | apply keep_ite | apply keep_foldl | apply State.setRail_keeps
    | apply State.setRegField_keeps)

theorem State.deviceReset_keeps {o : State} : ∀ x0 x1 x2, Keep o x0 → Keep o (State.deviceReset x0 x1 x2) := by
  intro s0 k w h0
  have h := State.cutFlash_keeps s0 h0
  unfold State.deviceReset
  dsimp only
  refine State.coreVolts_keeps _ (State.seedTime_keeps _ ?_)
  have hl : ∀ m : Memory, m.wf = true → Memory.wf { State.reset.memory with legacy := if k then m.legacy else [] } = true := by
    intro m hm
    rw [memory_wf_iff] at hm ⊢
    refine ⟨rfl, rfl, rfl, rfl, rfl, rfl, rfl, ?_, ?_⟩ <;> cases k
    · rfl
    · exact hm.2.2.2.2.2.2.2.1
    · rfl
    · exact hm.2.2.2.2.2.2.2.2
  with_reducible repeat' (first
    | apply keep_ite | apply State.setPairRole_keeps | apply State.setPairState_keeps | apply State.setRegField_keeps)
  all_goals exact ⟨h.1, h.2, h.3, hl _ h.4⟩


theorem State.ddrLost_keeps {o : State} : ∀ x0 x1, Keep o x0 → Keep o (State.ddrLost x0 x1) := by
  intro s c h
  have := memory_wf_iff.mp h.mem
  exact keep_mem h (memory_wf_iff.mpr ⟨this.1, this.2.1, this.2.2.1, this.2.2.2.1, this.2.2.2.2.1, Map.wf_filter _ this.2.2.2.2.2.1,
    this.2.2.2.2.2.2⟩)


theorem State.unitOff_keeps {o : State} : ∀ x0 x1, Keep o x0 → Keep o (State.unitOff x0 x1) := by
  intro x0 x1 h0
  unfold State.unitOff
  with_reducible repeat' (first
    | assumption | apply keep_ite | apply State.bankOff_keeps | apply State.linkDown_keeps
    | apply State.ddrLost_keeps)

theorem State.failDomain_keeps {o : State} : ∀ x0 x1, Keep o x0 → Keep o (State.failDomain x0 x1) := by
  intro x0 x1 h0
  unfold State.failDomain
  with_reducible repeat' (first
    | assumption | intro _ | apply keep_ite | apply keep_foldl | apply State.unitOff_keeps
    | apply State.failParked_keeps | apply State.setNodes_keeps | apply State.setRegField_keeps
    | apply State.setPower_keeps)

theorem State.logRail_keeps {o : State} : ∀ x0 x1 x2, Keep o x0 → Keep o (State.logRail x0 x1 x2) := by
  intro x0 x1 x2 h0
  unfold State.logRail
  with_reducible repeat' (first
    | assumption | apply keep_ite | apply State.log_keeps | (apply keep_same <;> first | assumption))

theorem State.noteRail_keeps {o : State} : ∀ x0 x1 x2, Keep o x0 → Keep o (State.noteRail x0 x1 x2) := by
  intro x0 x1 x2 h0
  unfold State.noteRail
  with_reducible repeat' (first | assumption | apply State.logRail_keeps | apply State.setReg_keeps)

theorem State.railOff_keeps {o : State} : ∀ x0 x1, Keep o x0 → Keep o (State.railOff x0 x1) := by
  intro x0 x1 h0
  unfold State.railOff
  with_reducible repeat' (first | assumption | apply State.setRail_keeps)

theorem State.railsOff_keeps {o : State} : ∀ x0, Keep o x0 → Keep o (State.railsOff x0) := by
  intro x0 h0
  unfold State.railsOff
  with_reducible repeat' (first
    | assumption | intro _ | apply keep_ite | apply keep_foldl | apply State.setRailState_keeps
    | apply State.railOff_keeps)

theorem State.coreOff_keeps {o : State} : ∀ x0, Keep o x0 → Keep o (State.coreOff x0) := by
  intro s h
  exact keep_same (State.deviceReset_keeps s false false h)


theorem State.powerStop_keeps {o : State} : ∀ x0, Keep o x0 → Keep o (State.powerStop x0) := by
  intro x0 h0
  unfold State.powerStop
  with_reducible repeat' (first
    | assumption | apply State.railsOff_keeps | (apply keep_same <;> first | apply State.coreOff_keeps))

theorem State.applyFailed_keeps {o : State} : ∀ x0, Keep o x0 → Keep o (State.applyFailed x0) := by
  intro x0 h0
  unfold State.applyFailed
  with_reducible repeat' (first
    | assumption | intro _ | apply keep_ite | apply keep_foldl | apply State.failDomain_keeps)

theorem State.releaseReset_keeps {o : State} : ∀ x0, Keep o x0 → Keep o (State.releaseReset x0) := by
  intro s h
  unfold State.releaseReset
  dsimp only
  refine keep_foldl (State.applyFailed_keeps _ (State.deviceReset_keeps _ _ _ (keep_same h))) ?_
  exact fun s e hs => State.logRail_keeps _ _ _ hs


theorem State.seqFrom_keeps {o : State} : ∀ x0 x1, Keep o x0 → Keep o (State.seqFrom x0 x1) := by
  intro x0 x1 h0
  unfold State.seqFrom
  with_reducible repeat' (first
    | assumption | intro _ | apply keep_ite | apply State.railAttempt_keeps | apply State.releaseReset_keeps
    | (apply keep_same <;> first | assumption | apply keep_foldl) | dsimp only | split)

theorem State.seqCheck_keeps {o : State} : ∀ x0, Keep o x0 → Keep o (State.seqCheck x0) := by
  intro x0 h0
  unfold State.seqCheck
  with_reducible repeat' (first | assumption | apply keep_ite | apply State.seqFrom_keeps | split)

theorem State.setFailedOff_keeps {o : State} : ∀ x0, Keep o x0 → Keep o (State.setFailedOff x0) := by
  intro x0 h0
  unfold State.setFailedOff
  with_reducible repeat' (first
    | assumption | intro _ | apply keep_ite | apply keep_foldl | apply State.setRailState_keeps)

theorem State.powerUp_keeps {o : State} : ∀ x0, Keep o x0 → Keep o (State.powerUp x0) := by
  intro x0 h0
  unfold State.powerUp
  with_reducible repeat' (first
    | apply State.seqFrom_keeps | apply State.setFailedOff_keeps | apply State.railsOff_keeps
    | (apply keep_same <;> first | assumption))

theorem State.attemptFails_keeps {o : State} : ∀ x0 x1 x2, Keep o x0 → Keep o (State.attemptFails x0 x1 x2) := by
  intro x0 x1 x2 h0
  unfold State.attemptFails
  with_reducible repeat' (first
    | assumption | intro _ | apply keep_ite | apply keep_foldl | apply State.setRegField_keeps
    | apply State.railOff_keeps | apply State.setRailState_keeps | apply State.noteRail_keeps
    | apply State.powerStop_keeps | apply State.seqCheck_keeps | apply State.failDomain_keeps)

theorem State.railOn_keeps {o : State} : ∀ x0 x1, Keep o x0 → Keep o (State.railOn x0 x1) := by
  intro x0 x1 h0
  unfold State.railOn
  with_reducible repeat' (first
    | assumption | intro _ | apply keep_ite | apply keep_foldl | apply State.setRailState_keeps
    | apply State.seqCheck_keeps | apply State.setPower_keeps | (apply keep_same <;> first | assumption))

theorem State.railFails_keeps {o : State} : ∀ x0 x1 x2, Keep o x0 → Keep o (State.railFails x0 x1 x2) := by
  intro x0 x1 x2 h0
  unfold State.railFails
  with_reducible repeat' (first
    | assumption | intro _ | apply keep_ite | apply keep_foldl | apply State.noteRail_keeps
    | apply State.setRailState_keeps | apply State.setRegField_keeps | apply State.railOff_keeps
    | apply State.powerStop_keeps | apply State.failDomain_keeps)

theorem State.noteWake_keeps {o : State} : ∀ x0 x1 x2 x3, Keep o x0 → Keep o (State.noteWake x0 x1 x2 x3) := by
  intro x0 x1 x2 x3 h0
  unfold State.noteWake
  with_reducible repeat' (first | assumption | apply State.setReg_keeps)

theorem State.wakeDie_keeps {o : State} : ∀ x0 x1 x2, Keep o x0 → Keep o (State.wakeDie x0 x1 x2) := by
  intro x0 x1 x2 h0
  unfold State.wakeDie
  with_reducible repeat' (first
    | assumption | apply keep_ite | apply State.powerUp_keeps | apply State.noteWake_keeps
    | (apply keep_same <;> first | assumption) | dsimp only | split)

/-! ### Power -/

theorem State.drainNode_keeps {o : State} : ∀ x0 x1, Keep o x0 → Keep o (State.drainNode x0 x1) := by
  intro x0 x1 h0
  unfold State.drainNode
  with_reducible repeat' (first | assumption | apply keep_ite | apply State.setNodes_keeps)

theorem State.startEntry_keeps {o : State} : ∀ x0 x1 x2, Keep o x0 → Keep o (State.startEntry x0 x1 x2) := by
  intro x0 x1 x2 h0
  unfold State.startEntry
  with_reducible repeat' (first
    | apply keep_ite | apply State.setPower_keeps | apply State.drainNode_keeps | apply State.flushStart_keeps
    | (apply keep_same <;> first | assumption))

theorem execDomainIdleEntry_keeps {o : State} : ∀ x0 x1, Keep o x1 → KeepX o (execDomainIdleEntry x0 x1) := by
  intro x0 x1 h0
  unfold execDomainIdleEntry
  with_reducible repeat' (first
    | assumption | apply keepX_next | exact keepX_fault | apply keepX_ite | apply State.startEntry_keeps | split)

theorem State.askLeave_keeps {o : State} : ∀ x0 x1 x2, Keep o x0 → Keep o (State.askLeave x0 x1 x2) := by
  intro x0 x1 x2 h0
  unfold State.askLeave
  with_reducible repeat' (first
    | assumption | apply keep_ite | apply State.startEntry_keeps | apply State.bump_keeps
    | (apply keep_same <;> first | assumption))

theorem State.writeDom_keeps {o : State} : ∀ x0 x1 x2, Keep o x0 → Keep o (State.writeDom x0 x1 x2) := by
  intro x0 x1 x2 h0
  unfold State.writeDom
  with_reducible repeat' (first | assumption | apply State.setRegField_keeps)

theorem State.reqWrite_keeps {o : State} : ∀ x0 x1 x2 x3 x4 x5, Keep o x0 → (∀ y0, Keep o y0 → Keep o (x5 y0)) → KeepX o (State.reqWrite x0 x1 x2 x3 x4 x5) := by
  intro x0 x1 x2 x3 x4 x5 h0 h1
  unfold State.reqWrite
  with_reducible repeat' (first
    | assumption | intro _ | apply keep_ite | apply State.wardenWrite_keeps | apply State.writeDom_keeps
    | apply_assumption)

theorem execReqRet_keeps {o : State} : ∀ x0 x1 x2 x3, Keep o x3 → KeepX o (execReqRet x0 x1 x2 x3) := by
  intro x0 x1 x2 x3 h0
  unfold execReqRet
  with_reducible repeat' (first | assumption | intro _ | apply State.reqWrite_keeps | apply State.askLeave_keeps)

theorem execReqOff_keeps {o : State} : ∀ x0 x1 x2 x3, Keep o x3 → KeepX o (execReqOff x0 x1 x2 x3) := by
  intro x0 x1 x2 x3 h0
  unfold execReqOff
  with_reducible repeat' (first | assumption | intro _ | apply State.reqWrite_keeps | apply State.askLeave_keeps)

theorem execReqWake_keeps {o : State} : ∀ x0 x1 x2 x3, Keep o x3 → KeepX o (execReqWake x0 x1 x2 x3) := by
  intro x0 x1 x2 x3 h0
  unfold execReqWake
  with_reducible repeat' (first | assumption | intro _ | apply State.reqWrite_keeps | apply State.askWake_keeps)

theorem State.idleRails_keeps {o : State} : ∀ x0 x1, Keep o x0 → Keep o (State.idleRails x0 x1) := by
  intro x0 x1 h0
  unfold State.idleRails
  with_reducible repeat' (first
    | assumption | intro _ | apply keep_ite | apply keep_foldl | apply State.setRailState_keeps
    | apply State.railOff_keeps)

theorem State.sliceOff_keeps {o : State} : ∀ x0 x1, Keep o x0 → Keep o (State.sliceOff x0 x1) := by
  intro x0 x1 h0
  unfold State.sliceOff
  with_reducible repeat' (first | (apply keep_same <;> first | assumption))

theorem State.switchOpens_keeps {o : State} : ∀ x0 x1, Keep o x0 → Keep o (State.switchOpens x0 x1) := by
  intro x0 x1 h0
  unfold State.switchOpens
  with_reducible repeat' (first
    | assumption | apply keep_ite | apply State.bump_keeps | apply State.setPower_keeps | apply State.sliceOff_keeps
    | apply State.unitOff_keeps | apply State.idleRails_keeps | apply State.startWake_keeps
    | apply State.setRegField_keeps | (apply keep_same <;> first | apply keep_ite))

theorem State.holdNode_keeps {o : State} : ∀ x0 x1, Keep o x0 → Keep o (State.holdNode x0 x1) := by
  intro x0 x1 h0
  unfold State.holdNode
  with_reducible repeat' (first
    | assumption | apply keep_ite | apply State.setNodes_keeps | apply State.setRegField_keeps)

theorem State.retirePav_keeps {o : State} : ∀ x0 x1, Keep o x0 → Keep o (State.retirePav x0 x1) := by
  intro x0 x1 h0
  unfold State.retirePav
  with_reducible repeat' (first
    | assumption | apply State.log_keeps | apply State.setReg_keeps | apply State.setRegField_keeps)

theorem State.fenceEnds_keeps {o : State} : ∀ x0 x1, Keep o x0 → Keep o (State.fenceEnds x0 x1) := by
  intro x0 x1 h0
  unfold State.fenceEnds
  with_reducible repeat' (first
    | assumption | apply keep_ite | apply State.isolate_keeps | apply State.switchOpens_keeps
    | apply State.setRegField_keeps | apply State.retirePav_keeps
    | (apply keep_same <;> first | apply State.setCache_keeps) | dsimp only)

theorem execDomainEntryComplete_keeps {o : State} : ∀ x0 x1 x2, Keep o x2 → KeepX o (execDomainEntryComplete x0 x1 x2) := by
  intro x0 x1 x2 h0
  unfold execDomainEntryComplete
  with_reducible repeat' (first
    | assumption | apply keep_ite | apply keepX_next | exact keepX_fault | apply keepX_ite
    | apply State.fenceEnds_keeps | apply State.openNodes_keeps | apply State.bump_keeps | apply State.setPower_keeps
    | apply State.holdNode_keeps | apply State.switchOpens_keeps)

theorem State.sliceWakes_keeps {o : State} : ∀ x0 x1, Keep o x0 → Keep o (State.sliceWakes x0 x1) := by
  intro x0 x1 h0
  unfold State.sliceWakes
  with_reducible repeat' (first
    | assumption | intro _ | apply keep_foldl | apply State.setPool_keeps | apply State.startQuar_keeps
    | apply State.setFrame_keeps)

theorem State.pavWakes_keeps {o : State} : ∀ x0 x1, Keep o x0 → Keep o (State.pavWakes x0 x1) := by
  intro s p h
  have := memory_wf_iff.mp h.mem
  exact keep_mem h (memory_wf_iff.mpr ⟨Map.wf_filter _ this.1, Map.wf_filter _ this.2.1, this.2.2.1, Map.wf_filter _ this.2.2.2.1,
    Map.wf_filter _ this.2.2.2.2.1, this.2.2.2.2.2⟩)


theorem State.unitOn_keeps {o : State} : ∀ x0 x1 x2, Keep o x0 → Keep o (State.unitOn x0 x1 x2) := by
  intro x0 x1 x2 h0
  unfold State.unitOn
  with_reducible repeat' (first
    | assumption | apply keep_ite | apply State.pavWakes_keeps | apply State.sliceWakes_keeps
    | apply State.bankOn_keeps | apply State.enterLink_keeps)

theorem execDomainWakeComplete_keeps {o : State} : ∀ x0 x1, Keep o x1 → KeepX o (execDomainWakeComplete x0 x1) := by
  intro x0 x1 h0
  unfold execDomainWakeComplete
  with_reducible repeat' (first
    | assumption | apply keep_ite | apply keepX_next | exact keepX_fault | apply keepX_ite | apply State.bump_keeps
    | apply State.unitOn_keeps | apply State.setPower_keeps | apply State.askLeave_keeps
    | (apply keep_same <;> first | apply State.openNodes_keeps))

theorem execRailPoll_keeps {o : State} : ∀ x0 x1 x2 x3 x4 x5 x6, Keep o x6 → KeepX o (execRailPoll x0 x1 x2 x3 x4 x5 x6) := by
  intro x0 x1 x2 x3 x4 x5 x6 h0
  unfold execRailPoll
  with_reducible repeat' (first
    | assumption | apply keepX_next | exact keepX_fault | apply keepX_ite | apply State.attemptFails_keeps
    | apply State.railOn_keeps)

theorem execRailTimeout_keeps {o : State} : ∀ x0 x1, Keep o x1 → KeepX o (execRailTimeout x0 x1) := by
  intro x0 x1 h0
  unfold execRailTimeout
  with_reducible repeat' (first
    | assumption | apply keepX_next | exact keepX_fault | apply keepX_ite | apply State.attemptFails_keeps)

theorem execRailPauseEnd_keeps {o : State} : ∀ x0 x1, Keep o x1 → KeepX o (execRailPauseEnd x0 x1) := by
  intro x0 x1 h0
  unfold execRailPauseEnd
  with_reducible repeat' (first
    | assumption | apply keepX_next | exact keepX_fault | apply keepX_ite | apply State.railAttempt_keeps)

theorem execPgoodFall_keeps {o : State} : ∀ x0 x1, Keep o x1 → KeepX o (execPgoodFall x0 x1) := by
  intro x0 x1 h0
  unfold execPgoodFall
  with_reducible repeat' (first
    | assumption | apply keepX_next | exact keepX_fault | apply keepX_ite | apply State.railFails_keeps)

theorem execPmbAlert_keeps {o : State} : ∀ x0 x1, Keep o x1 → KeepX o (execPmbAlert x0 x1) := by
  intro x0 x1 h0
  unfold execPmbAlert
  with_reducible repeat' (first
    | assumption | intro _ | apply keep_ite | apply keep_foldl | apply keepX_next | apply State.railFails_keeps
    | split)

theorem State.writeRail_keeps {o : State} : ∀ x0 x1 x2, Keep o x0 → Keep o (State.writeRail x0 x1 x2) := by
  intro x0 x1 x2 h0
  unfold State.writeRail
  with_reducible repeat' (first
    | assumption | intro _ | apply keep_ite | apply keep_foldl | apply State.setRegField_keeps
    | apply State.setReg_keeps)

theorem execRailClr_keeps {o : State} : ∀ x0 x1 x2 x3, Keep o x3 → KeepX o (execRailClr x0 x1 x2 x3) := by
  intro x0 x1 x2 x3 h0
  unfold execRailClr
  with_reducible repeat' (first
    | assumption | intro _ | apply keep_ite | exact keepX_fault | apply keepX_ite | apply State.wardenWhole_keeps
    | apply State.writeRail_keeps | apply State.railAttempt_keeps)

theorem State.setVset_keeps {o : State} : ∀ x0 x1, Keep o x0 → Keep o (State.setVset x0 x1) := by
  intro x0 x1 h0
  unfold State.setVset
  with_reducible repeat' (first
    | assumption | intro _ | apply keep_ite | apply keep_foldl | apply State.setRail_keeps
    | apply State.setRegField_keeps)

theorem execGovern_keeps {o : State} : ∀ x0, Keep o x0 → KeepX o (execGovern x0) := by
  intro x0 h0
  unfold execGovern
  with_reducible repeat' (first
    | assumption | intro _ | apply keep_ite | apply keep_foldl | apply keepX_next | apply keepX_ite
    | apply State.setReg_keeps | apply State.setVset_keeps | apply State.bump_keeps)

theorem execVsetMv_keeps {o : State} : ∀ x0 x1 x2, Keep o x2 → KeepX o (execVsetMv x0 x1 x2) := by
  intro x0 x1 x2 h0
  unfold execVsetMv
  with_reducible repeat' (first | assumption | intro _ | apply State.wardenWrite_keeps | apply State.setVset_keeps)

theorem execStandbyEntry_keeps {o : State} : ∀ x0 x1 x2, Keep o x2 → KeepX o (execStandbyEntry x0 x1 x2) := by
  intro x0 x1 x2 h0
  unfold execStandbyEntry
  with_reducible repeat' (first
    | assumption | intro _ | apply State.wardenLast_keeps | (apply keep_same <;> first | apply State.coreOff_keeps))

theorem execStandbyComplete_keeps {o : State} : ∀ x0, Keep o x0 → KeepX o (execStandbyComplete x0) := by
  intro x0 h0
  unfold execStandbyComplete
  with_reducible repeat' (first
    | assumption | apply keepX_next | apply keepX_ite | apply State.powerUp_keeps | apply State.noteWake_keeps
    | (apply keep_same <;> first | apply State.railsOff_keeps) | dsimp only | split)

theorem execWakeN_keeps {o : State} : ∀ x0, Keep o x0 → KeepX o (execWakeN x0) := by
  intro x0 h0
  unfold execWakeN
  with_reducible repeat' (first | assumption | apply keep_ite | apply keepX_next | apply State.wakeDie_keeps)

theorem execSecondsAlarm_keeps {o : State} : ∀ x0, Keep o x0 → KeepX o (execSecondsAlarm x0) := by
  intro x0 h0
  unfold execSecondsAlarm
  with_reducible repeat' (first | assumption | apply keep_ite | apply keepX_next | apply State.wakeDie_keeps)

theorem execI2cWake_keeps {o : State} : ∀ x0 x1 x2, Keep o x2 → KeepX o (execI2cWake x0 x1 x2) := by
  intro x0 x1 x2 h0
  unfold execI2cWake
  with_reducible repeat' (first
    | assumption | apply keep_ite | apply keepX_next | apply keepX_ite | apply State.setRegField_keeps
    | apply State.wakeDie_keeps)

theorem execI2cStatusRead_keeps {o : State} : ∀ x0 x1, Keep o x1 → KeepX o (execI2cStatusRead x0 x1) := by
  intro x0 x1 h0
  unfold execI2cStatusRead
  with_reducible repeat' (first
    | assumption | apply keepX_next | apply keepX_ite | (apply keep_same <;> first | assumption))

theorem execVaonApplied_keeps {o : State} : ∀ x0, Keep o x0 → KeepX o (execVaonApplied x0) := by
  intro x0 h0
  unfold execVaonApplied
  with_reducible repeat' (first
    | assumption | apply keepX_next | apply State.powerUp_keeps
    | (apply keep_same <;> first | apply State.coreOff_keeps))

theorem execVaonLoss_keeps {o : State} : ∀ x0, Keep o x0 → KeepX o (execVaonLoss x0) := by
  intro x0 h0
  unfold execVaonLoss
  with_reducible repeat' (first
    | assumption | apply keepX_next | (apply keep_same <;> first | apply State.coreOff_keeps))

theorem State.warmReset_keeps {o : State} : ∀ x0 x1, Keep o x0 → Keep o (State.warmReset x0 x1) := by
  intro x0 x1 h0
  unfold State.warmReset
  with_reducible repeat' (first | assumption | apply State.applyFailed_keeps | apply State.deviceReset_keeps)

theorem execRstN_keeps {o : State} : ∀ x0, Keep o x0 → KeepX o (execRstN x0) := by
  intro x0 h0
  unfold execRstN
  with_reducible repeat' (first | assumption | apply keep_ite | apply keepX_next | apply State.warmReset_keeps)

theorem execWardenReset_keeps {o : State} : ∀ x0 x1 x2, Keep o x2 → KeepX o (execWardenReset x0 x1 x2) := by
  intro x0 x1 x2 h0
  unfold execWardenReset
  with_reducible repeat' (first | assumption | intro _ | apply State.wardenLast_keeps | apply State.warmReset_keeps)

theorem execTrialExpiry_keeps {o : State} : ∀ x0, Keep o x0 → KeepX o (execTrialExpiry x0) := by
  intro x0 h0
  unfold execTrialExpiry
  with_reducible repeat' (first
    | assumption | apply keep_ite | apply keepX_next | apply State.warmReset_keeps | split)

/-! ### RegOps -/

theorem State.keepSeg_keeps {o : State} : ∀ x0 x1, Keep o x0 → Keep o (State.keepSeg x0 x1) := by
  intro x0 x1 h0
  unfold State.keepSeg
  with_reducible repeat' (first | (apply keep_same <;> first | assumption))

theorem State.writeSync_keeps {o : State} : ∀ x0 x1 x2 x3, Keep o x0 → Keep o (State.writeSync x0 x1 x2 x3) := by
  intro x0 x1 x2 x3 h0
  unfold State.writeSync
  with_reducible repeat' (first
    | assumption | apply State.setCtx_keeps | apply State.takeDevSync_keeps | dsimp only | split)

theorem State.afterWrite_keeps {o : State} : ∀ x0 x1 x2 x3, Keep o x0 → Keep o (State.afterWrite x0 x1 x2 x3) := by
  intro x0 x1 x2 x3 h0
  unfold State.afterWrite
  with_reducible repeat' (first
    | assumption | apply keep_ite | apply State.reselect_keeps | apply State.srcCheck_keeps
    | apply State.setRuns_keeps | apply State.setReg_keeps | apply State.setRegField_keeps)

theorem State.writeWord_keeps {o : State} : ∀ x0 x1 x2 x3 x4 x5 x6, Keep o x0 → Keep o (State.writeWord x0 x1 x2 x3 x4 x5 x6) := by
  intro x0 x1 x2 x3 x4 x5 x6 h0
  unfold State.writeWord
  with_reducible repeat' (first
    | assumption | apply keep_ite | apply State.setReg_keeps | apply State.writeSync_keeps
    | apply State.setTask_keeps | apply State.setFlow_keeps | apply State.keepSeg_keeps
    | apply State.afterWrite_keeps)

theorem State.writeWords_keeps {o : State} : ∀ x0 x1 x2 x3 x4 x5, Keep o x0 → Keep o (State.writeWords x0 x1 x2 x3 x4 x5) := by
  intro x0 x1 x2 x3 x4 x5 h0
  unfold State.writeWords
  with_reducible repeat' (first
    | assumption | intro _ | apply keep_ite | apply keep_foldl | apply State.taskWrite_keeps
    | apply State.writeWord_keeps)

theorem State.putWords_keeps {o : State} : ∀ x0 x1 x2, Keep o x0 → Keep o (State.putWords x0 x1 x2) := by
  intro x0 x1 x2 h0
  unfold State.putWords
  with_reducible repeat' (first | assumption | apply State.writeWords_keeps | split)

theorem State.regWrite_keeps {o : State} : ∀ x0 x1 x2 x3, Keep o x0 → Keep o (State.regWrite x0 x1 x2 x3) := by
  intro x0 x1 x2 x3 h0
  unfold State.regWrite
  with_reducible repeat' (first
    | assumption | apply keep_ite | apply State.writeWords_keeps | apply State.setWbuf_keeps | split)

theorem State.codeStore_keeps {o : State} : ∀ x0 x1 x2 x3, Keep o x0 → Keep o (State.codeStore x0 x1 x2 x3) := by
  intro x0 x1 x2 x3 h0
  unfold State.codeStore
  with_reducible repeat' (first | (apply keep_same <;> first | assumption))

theorem State.regRead_keeps {o : State} : ∀ x0 x1 x2, Keep o x0 → Keep o (State.regRead x0 x1 x2).2 := by
  intro x0 x1 x2 h0
  unfold State.regRead
  with_reducible repeat' (first | assumption | apply keep_ite2 | apply State.setSnap_keeps | dsimp only | split)

/-! ### Image -/

theorem State.setFlash_keeps {o : State} : ∀ x0 x1 x2, Keep o x0 → Keep o (State.setFlash x0 x1 x2) := by
  intro x0 x1 x2 h0
  unfold State.setFlash
  with_reducible repeat' (first | (apply keep_same <;> first | assumption))

/-! ### Loader -/

theorem State.loadWord_keeps {o : State} : ∀ x0 x1 x2, Keep o x0 → Keep o (State.loadWord x0 x1 x2) := by
  intro x0 x1 x2 h0
  unfold State.loadWord
  with_reducible repeat' (first
    | assumption | apply keep_ite | apply State.writeWord_keeps | apply State.writeDom_keeps
    | apply State.askLeave_keeps | apply State.askWake_keeps | apply State.writeRail_keeps
    | apply State.railAttempt_keeps | apply State.setVset_keeps | apply State.calStart_keeps
    | apply State.linkEnable_keeps | apply State.sample_keeps | apply State.setTask_keeps
    | apply State.setRegField_keeps | dsimp only | split)

theorem State.loadStep_keeps {o : State} : ∀ x0 x1 x2, Keep o x0 → Keep o (State.loadStep x0 x1 x2) := by
  intro x0 x1 x2 h0
  unfold State.loadStep
  with_reducible repeat' (first
    | assumption | apply keep_ite | apply State.askStep_keeps | apply State.refuseStep_keeps)

theorem State.loadWords_keeps {o : State} : ∀ x0 x1 x2, Keep o x0 → Keep o (State.loadWords x0 x1 x2) := by
  intro x0 x1 x2
  fun_induction State.loadWords
  all_goals with_reducible repeat' (first | assumption | intro _ | apply State.loadWord_keeps | apply_assumption)

theorem State.loadCode_keeps {o : State} : ∀ x0 x1 x2 x3, Keep o x0 → Keep o (State.loadCode x0 x1 x2 x3) := by
  intro x0 x1 x2 x3
  fun_induction State.loadCode
  all_goals with_reducible repeat' (first | assumption | intro _ | apply State.codeStore_keeps | apply_assumption)

theorem State.bindFrames_keeps {o : State} : ∀ x0 x1 x2 x3 x4, Keep o x0 → Keep o (State.bindFrames x0 x1 x2 x3 x4) := by
  intro x0 x1 x2 x3 x4
  fun_induction State.bindFrames
  all_goals with_reducible repeat' (first | assumption | intro _ | apply State.setFrame_keeps | apply_assumption)

theorem State.loadState_keeps {o : State} : ∀ x0 x1 x2, Keep o x0 → Keep o (State.loadState x0 x1 x2) := by
  intro x0 x1 x2
  fun_induction State.loadState
  all_goals with_reducible repeat' (first | assumption | intro _ | apply State.setStWord_keeps | apply_assumption)

theorem State.setInit_keeps {o : State} : ∀ x0 x1 x2, Keep o x0 → Keep o (State.setInit x0 x1 x2) := by
  intro x0 x1 x2 h0
  unfold State.setInit
  with_reducible repeat' (first | (apply keep_same <;> first | assumption))

theorem State.loadRec_keeps {o : State} : ∀ x0 x1 x2, Keep o x0 → Keep o (State.loadRec x0 x1 x2).1 := by
  intro x0 x1 x2 h0
  unfold State.loadRec
  with_reducible repeat' (first
    | assumption | intro _ | apply keep_foldl | apply State.loadStep_keeps | apply State.loadWords_keeps
    | apply State.loadCode_keeps | apply State.setPool_keeps | apply State.bindFrames_keeps
    | apply State.setTask_keeps | apply State.loadState_keeps | apply State.setInit_keeps
    | (apply keep_same <;> first | assumption) | dsimp only | split)

theorem State.loadSections_keeps {o : State} : ∀ x0 x1 x2, Keep o x0 → Keep o (State.loadSections x0 x1 x2) := by
  intro s m p h
  exact keep_foldl1 h (fun x r hx => State.loadRec_keeps _ _ _ hx)


theorem State.setQuotas_keeps {o : State} : ∀ x0, Keep o x0 → Keep o (State.setQuotas x0) := by
  intro x0 h0
  unfold State.setQuotas
  with_reducible repeat' (first | assumption | intro _ | apply keep_foldl | apply State.setRegField_keeps)

theorem State.setDomains_keeps {o : State} : ∀ x0, Keep o x0 → Keep o (State.setDomains x0) := by
  intro x0 h0
  unfold State.setDomains
  with_reducible repeat' (first | assumption | intro _ | apply keep_foldl | apply State.setRegField_keeps)

/-! ### Tenants -/

theorem State.setTenState_keeps {o : State} : ∀ x0 x1 x2, Keep o x0 → Keep o (State.setTenState x0 x1 x2) := by
  intro x0 x1 x2 h0
  unfold State.setTenState
  with_reducible repeat' (first | assumption | apply State.setRegField_keeps)

theorem State.setHandle_keeps {o : State} : ∀ x0 x1 x2 x3, Keep o x0 → Keep o (State.setHandle x0 x1 x2 x3) := by
  intro x0 x1 x2 x3 h0
  unfold State.setHandle
  with_reducible repeat' (first | (apply keep_same <;> first | assumption))

theorem State.initRec_keeps {o : State} : ∀ x0 x1 x2, Keep o x0 → KeepO o (State.initRec x0 x1 x2) := by
  intro x0 x1 x2 h0
  unfold State.initRec
  with_reducible repeat' (first
    | assumption | exact keepO_none | apply keepO_some | apply State.allocRun_keeps | apply State.setHandle_keeps
    | apply State.setFrame_keeps | apply State.send_keeps | apply State.inject_keeps | dsimp only | split
    | refine keep_snd ?_ (by assumption))

theorem State.runInit_keeps {o : State} : ∀ x0 x1 x2, Keep o x0 → KeepO o (State.runInit x0 x1 x2) := by
  intro x0 x1 x2
  fun_induction State.runInit
  all_goals with_reducible repeat' (first
    | assumption | intro _ | exact keepO_none | apply keepO_some | apply State.initRec_keeps | apply_assumption
    | refine keep_ofO ?_ (by assumption))

theorem State.cellStart_keeps {o : State} : ∀ x0 x1, Keep o x0 → Keep o (State.cellStart x0 x1) := by
  intro x0 x1 h0
  unfold State.cellStart
  with_reducible repeat' (first
    | assumption | apply keep_ite | apply State.cellRuns_keeps | apply State.cellFresh_keeps)

theorem State.imageTask_keeps {o : State} : ∀ x0 x1, Keep o x0 → Keep o (State.imageTask x0 x1) := by
  intro x0 x1 h0
  unfold State.imageTask
  with_reducible repeat' (first
    | assumption | apply State.recClear_keeps | apply State.taskReady_keeps | apply State.setTask_keeps)

theorem State.startTenant_keeps {o : State} : ∀ x0 x1, Keep o x0 → Keep o (State.startTenant x0 x1) := by
  intro s t h
  unfold State.startTenant
  dsimp only
  split
  · exact h
  · split
    · exact State.setTenState_keeps _ _ _ h
    · have h1 := keep_foldl (l := s.imageTasks t) (keep_foldl (l := s.tenantCells t) h (fun s c hs => State.cellStart_keeps s c hs))
        (fun s c hs => State.imageTask_keeps s c hs)
      split
      · exact State.log_keeps _ _ _ _ _ _ (State.setRegField_keeps _ _ _ _ _ h)
      · rename_i s2 e
        exact State.setTenState_keeps _ _ _ (keep_same (keep_ofO (State.runInit_keeps _ _ _ h1) e))


theorem State.stopTenant_keeps {o : State} : ∀ x0 x1, Keep o x0 → Keep o (State.stopTenant x0 x1) := by
  intro x0 x1 h0
  unfold State.stopTenant
  with_reducible repeat' (first
    | assumption | apply keep_ite | apply State.cellsSafe_keeps | apply State.setTenState_keeps)

theorem State.tenWrite_keeps {o : State} : ∀ x0 x1 x2, Keep o x0 → Keep o (State.tenWrite x0 x1 x2) := by
  intro x0 x1 x2 h0
  unfold State.tenWrite
  with_reducible repeat' (first
    | assumption | apply keep_ite | apply State.startTenant_keeps | apply State.stopTenant_keeps)

theorem execTenantStart_keeps {o : State} : ∀ x0 x1 x2 x3, Keep o x3 → KeepX o (execTenantStart x0 x1 x2 x3) := by
  intro x0 x1 x2 x3 h0
  unfold execTenantStart
  with_reducible repeat' (first
    | assumption | intro _ | exact keepX_fault | apply keepX_ite | apply State.wardenWhole_keeps
    | apply State.tenWrite_keeps)

theorem execTenantStop_keeps {o : State} : ∀ x0 x1 x2 x3, Keep o x3 → KeepX o (execTenantStop x0 x1 x2 x3) := by
  intro x0 x1 x2 x3 h0
  unfold execTenantStop
  with_reducible repeat' (first
    | assumption | intro _ | apply keepX_next | exact keepX_fault | apply keepX_ite | apply State.wardenWhole_keeps
    | apply State.tenWrite_keeps | apply State.stopTenant_keeps | apply State.take_keeps | split)

/-! ### Boot -/

theorem State.eraseSector_keeps {o : State} : ∀ x0 x1, Keep o x0 → Keep o (State.eraseSector x0 x1) := by
  intro x0 x1 h0
  unfold State.eraseSector
  with_reducible repeat' (first | (apply keep_same <;> first | assumption))

theorem State.putFlash_keeps {o : State} : ∀ x0 x1 x2, Keep o x0 → Keep o (State.putFlash x0 x1 x2) := by
  intro x0 x1 x2
  fun_induction State.putFlash
  all_goals with_reducible repeat' (first | assumption | intro _ | apply State.setFlash_keeps | apply_assumption)

theorem State.startWrite_keeps {o : State} : ∀ x0 x1 x2 x3 x4, Keep o x0 → Keep o (State.startWrite x0 x1 x2 x3 x4) := by
  intro x0 x1 x2 x3 x4 h0
  unfold State.startWrite
  with_reducible repeat' (first
    | assumption | intro _ | apply keep_foldl | apply State.setReg_keeps
    | (apply keep_same <;> first | apply State.eraseSector_keeps))

theorem State.endWrite_keeps {o : State} : ∀ x0, Keep o x0 → Keep o (State.endWrite x0) := by
  intro x0 h0
  unfold State.endWrite
  with_reducible repeat' (first
    | assumption | apply State.putFlash_keeps | (apply keep_same <;> first | assumption) | dsimp only | split)

theorem State.bootSlot_keeps {o : State} : ∀ x0 x1 x2 x3 x4, Keep o x0 → Keep o (State.bootSlot x0 x1 x2 x3 x4) := by
  intro x0 x1 x2 x3 x4 h0
  unfold State.bootSlot
  with_reducible repeat' (first | apply State.setRegField_keeps | (apply keep_same <;> first | assumption))

theorem State.enterRecovery_keeps {o : State} : ∀ x0, Keep o x0 → Keep o (State.enterRecovery x0) := by
  intro x0 h0
  unfold State.enterRecovery
  with_reducible repeat' (first
    | assumption | intro _ | apply keep_ite | apply keep_foldl | apply State.setRegField_keeps
    | apply State.setRailState_keeps | apply State.railOff_keeps | (apply keep_same <;> first | assumption))

theorem State.fallBack_keeps {o : State} : ∀ x0 x1 x2, Keep o x0 → Keep o (State.fallBack x0 x1 x2) := by
  intro x0 x1 x2 h0
  unfold State.fallBack
  with_reducible repeat' (first | assumption | apply State.bootSlot_keeps | apply State.startWrite_keeps)

theorem State.choose_keeps {o : State} : ∀ x0, Keep o x0 → Keep o (State.choose x0) := by
  intro x0 h0
  unfold State.choose
  with_reducible repeat' (first
    | assumption | apply keep_ite | apply State.bootSlot_keeps | apply State.endWrite_keeps
    | apply State.startWrite_keeps | apply State.fallBack_keeps | dsimp only | split)

theorem execBootChoose_keeps {o : State} : ∀ x0 x1, Keep o x1 → KeepX o (execBootChoose x0 x1) := by
  intro x0 x1 h0
  unfold execBootChoose
  with_reducible repeat' (first
    | assumption | apply keepX_next | apply keepX_ite | apply State.enterRecovery_keeps | apply State.choose_keeps)

theorem State.loadFails_keeps {o : State} : ∀ x0 x1, Keep o x0 → Keep o (State.loadFails x0 x1) := by
  intro x0 x1 h0
  unfold State.loadFails
  with_reducible repeat' (first
    | assumption | apply State.log_keeps | apply State.setReg_keeps | apply State.setRegField_keeps)

theorem State.bootFails_keeps {o : State} : ∀ x0 x1 x2, Keep o x0 → Keep o (State.bootFails x0 x1 x2) := by
  intro x0 x1 x2 h0
  unfold State.bootFails
  with_reducible repeat' (first
    | assumption | apply keep_ite | apply State.loadFails_keeps | apply State.bootSlot_keeps
    | apply State.enterRecovery_keeps | apply State.fallBack_keeps | split)

theorem State.resetLoaded_keeps {o : State} : ∀ x0, Keep o x0 → Keep o (State.resetLoaded x0) := by
  intro x0 h0
  unfold State.resetLoaded
  with_reducible repeat' (first
    | assumption | intro _ | apply keep_ite | apply State.railOff_keeps
    | (apply keep_same <;> first | apply keep_foldl))

theorem State.trainDdr_keeps {o : State} : ∀ x0 x1 x2, Keep o x0 → Keep o (State.trainDdr x0 x1 x2) := by
  intro x0 x1 x2 h0
  unfold State.trainDdr
  with_reducible repeat' (first
    | assumption | apply keep_ite | apply State.setReg_keeps | apply State.log_keeps | dsimp only | split)

theorem State.autostart_keeps {o : State} : ∀ x0, Keep o x0 → Keep o (State.autostart x0) := by
  intro x0 h0
  unfold State.autostart
  with_reducible repeat' (first
    | assumption | intro _ | apply keep_ite | apply keep_foldl | apply State.startTenant_keeps)

theorem State.runImage_keeps {o : State} : ∀ x0 x1, Keep o x0 → Keep o (State.runImage x0 x1) := by
  intro x0 x1 h0
  unfold State.runImage
  with_reducible repeat' (first
    | assumption | apply keep_ite | apply State.startTenant_keeps | apply State.setTenState_keeps
    | apply State.endWrite_keeps | apply State.startWrite_keeps | apply State.autostart_keeps
    | (apply keep_same <;> first | apply State.setRegField_keeps))

theorem State.loadImage_keeps {o : State} : ∀ x0 x1, Keep o x0 → Keep o (State.loadImage x0 x1) := by
  intro x0 x1 h0
  unfold State.loadImage
  with_reducible repeat' (first
    | assumption | apply State.setDomains_keeps | apply State.setQuotas_keeps | apply State.loadSections_keeps)

theorem State.secondPass_keeps {o : State} : ∀ x0 x1 x2 x3 x4 x5, Keep o x0 → Keep o (State.secondPass x0 x1 x2 x3 x4 x5) := by
  intro x0 x1 x2 x3 x4 x5 h0
  unfold State.secondPass
  with_reducible repeat' (first
    | assumption | intro _ | apply keep_ite | apply State.bootFails_keeps | apply State.resetLoaded_keeps
    | apply State.trainDdr_keeps | apply State.loadImage_keeps | apply State.runImage_keeps
    | (apply keep_same <;> first | apply keep_foldl))

theorem execImageLoad_keeps {o : State} : ∀ x0 x1 x2 x3 x4, Keep o x4 → KeepX o (execImageLoad x0 x1 x2 x3 x4) := by
  intro x0 x1 x2 x3 x4 h0
  unfold execImageLoad
  with_reducible repeat' (first
    | assumption | apply keepX_next | apply keepX_ite | apply State.endWrite_keeps | apply State.secondPass_keeps
    | apply State.bootFails_keeps | apply State.loadSections_keeps | apply State.seqFrom_keeps
    | (apply keep_same <;> first | apply State.setRegField_keeps) | dsimp only | split)

theorem execDigestExchange_keeps {o : State} : ∀ x0 x1, Keep o x1 → KeepX o (execDigestExchange x0 x1) := by
  intro x0 x1 h0
  unfold execDigestExchange
  with_reducible repeat' (first
    | assumption | apply keepX_next | apply keepX_ite | apply State.setPairRole_keeps | apply State.autostart_keeps
    | apply State.log_keeps | apply State.setPairState_keeps | (apply keep_same <;> first | assumption))

/-! ### Coherent -/

theorem State.atHome_keeps {o : State} : ∀ x0 x1 x2 x3 x4, Keep o x0 → KeepX o (State.atHome x0 x1 x2 x3 x4) := by
  intro x0 x1 x2 x3 x4 h0
  unfold State.atHome
  with_reducible repeat' (first
    | assumption | apply keepX_next | apply keepX_ite | apply State.homeRequest_keeps | apply State.homeCheck_keeps
    | apply State.refuse_keeps)

theorem execRdLine_keeps {o : State} : ∀ x0 x1 x2 x3, Keep o x3 → KeepX o (execRdLine x0 x1 x2 x3) := by
  intro x0 x1 x2 x3 h0
  unfold execRdLine
  with_reducible repeat' (first | assumption | intro _ | apply State.arriveReq_keeps | apply State.atHome_keeps)

theorem execRdxLine_keeps {o : State} : ∀ x0 x1 x2 x3, Keep o x3 → KeepX o (execRdxLine x0 x1 x2 x3) := by
  intro x0 x1 x2 x3 h0
  unfold execRdxLine
  with_reducible repeat' (first | assumption | intro _ | apply State.arriveReq_keeps | apply State.atHome_keeps)

theorem execRduLine_keeps {o : State} : ∀ x0 x1 x2 x3, Keep o x3 → KeepX o (execRduLine x0 x1 x2 x3) := by
  intro x0 x1 x2 x3 h0
  unfold execRduLine
  with_reducible repeat' (first | assumption | intro _ | apply State.arriveReq_keeps | apply State.atHome_keeps)

theorem execWruLine_keeps {o : State} : ∀ x0 x1 x2 x3, Keep o x3 → KeepX o (execWruLine x0 x1 x2 x3) := by
  intro x0 x1 x2 x3 h0
  unfold execWruLine
  with_reducible repeat' (first | assumption | intro _ | apply State.arriveReq_keeps | apply State.atHome_keeps)

theorem execWbLine_keeps {o : State} : ∀ x0 x1 x2 x3, Keep o x3 → KeepX o (execWbLine x0 x1 x2 x3) := by
  intro x0 x1 x2 x3 h0
  unfold execWbLine
  with_reducible repeat' (first
    | assumption | intro _ | apply keepX_next | apply keepX_ite | apply State.arriveReq_keeps
    | apply State.homeNotice_keeps | apply State.refuse_keeps)

theorem execEvcLine_keeps {o : State} : ∀ x0 x1 x2, Keep o x2 → KeepX o (execEvcLine x0 x1 x2) := by
  intro x0 x1 x2 h0
  unfold execEvcLine
  with_reducible repeat' (first
    | assumption | intro _ | apply keepX_next | apply keepX_ite | apply State.arriveReq_keeps
    | apply State.homeNotice_keeps | apply State.refuse_keeps)

theorem State.checkedForward_keeps {o : State} : ∀ x0 x1 x2 x3 x4, Keep o x0 → Keep o (State.checkedForward x0 x1 x2 x3 x4) := by
  intro x0 x1 x2 x3 x4 h0
  unfold State.checkedForward
  with_reducible repeat' (first
    | assumption | apply keep_ite | apply State.forwardAt_keeps | apply State.cacheCheck_keeps)

theorem execFwdS_keeps {o : State} : ∀ x0 x1 x2 x3, Keep o x3 → KeepX o (execFwdS x0 x1 x2 x3) := by
  intro x0 x1 x2 x3 h0
  unfold execFwdS
  with_reducible repeat' (first
    | assumption | intro _ | apply keepX_next | apply State.arriveReq_keeps | apply State.checkedForward_keeps)

theorem execFwdX_keeps {o : State} : ∀ x0 x1 x2 x3, Keep o x3 → KeepX o (execFwdX x0 x1 x2 x3) := by
  intro x0 x1 x2 x3 h0
  unfold execFwdX
  with_reducible repeat' (first
    | assumption | intro _ | apply keepX_next | apply State.arriveReq_keeps | apply State.checkedForward_keeps)

theorem execInvLine_keeps {o : State} : ∀ x0 x1 x2, Keep o x2 → KeepX o (execInvLine x0 x1 x2) := by
  intro x0 x1 x2 h0
  unfold execInvLine
  with_reducible repeat' (first
    | assumption | intro _ | apply keepX_next | apply State.arriveReq_keeps | apply State.invAt_keeps)

theorem State.answerHome_keeps {o : State} : ∀ x0 x1 x2 x3 x4 x5, Keep o x0 → (∀ y0, Keep o y0 → Keep o (x5 y0)) → KeepX o (State.answerHome x0 x1 x2 x3 x4 x5) := by
  intro x0 x1 x2 x3 x4 x5 h0 h1
  unfold State.answerHome
  with_reducible repeat' (first
    | assumption | intro _ | apply keepX_next | exact keepX_fault | apply keepX_ite | apply State.arriveRsp_keeps
    | apply_assumption | split)

theorem execFdata_keeps {o : State} : ∀ x0 x1 x2 x3 x4, Keep o x4 → KeepX o (execFdata x0 x1 x2 x3 x4) := by
  intro x0 x1 x2 x3 x4 h0
  unfold execFdata
  with_reducible repeat' (first | assumption | intro _ | apply State.answerHome_keeps | apply State.homeData_keeps)

theorem execAckLine_keeps {o : State} : ∀ x0 x1 x2, Keep o x2 → KeepX o (execAckLine x0 x1 x2) := by
  intro x0 x1 x2 h0
  unfold execAckLine
  with_reducible repeat' (first | assumption | intro _ | apply State.answerHome_keeps | apply State.homeAck_keeps)

theorem execGoneLine_keeps {o : State} : ∀ x0 x1 x2, Keep o x2 → KeepX o (execGoneLine x0 x1 x2) := by
  intro x0 x1 x2 h0
  unfold execGoneLine
  with_reducible repeat' (first | assumption | intro _ | apply State.answerHome_keeps | apply State.homeGone_keeps)

theorem State.fillRow_keeps {o : State} : ∀ x0 x1 x2 x3, Keep o x0 → KeepX o (State.fillRow x0 x1 x2 x3) := by
  intro x0 x1 x2 x3 h0
  unfold State.fillRow
  with_reducible repeat' (first
    | assumption | intro _ | apply keepX_next | exact keepX_fault | apply keepX_ite | apply State.arriveRsp_keeps
    | apply State.flushStep_keeps | apply State.fillArrives_keeps | split)

theorem execDataS_keeps {o : State} : ∀ x0 x1 x2, Keep o x2 → KeepX o (execDataS x0 x1 x2) := by
  intro x0 x1 x2 h0
  unfold execDataS
  with_reducible repeat' (first | assumption | apply State.fillRow_keeps)

theorem execDataE_keeps {o : State} : ∀ x0 x1 x2, Keep o x2 → KeepX o (execDataE x0 x1 x2) := by
  intro x0 x1 x2 h0
  unfold execDataE
  with_reducible repeat' (first | assumption | apply State.fillRow_keeps)

theorem execDataM_keeps {o : State} : ∀ x0 x1 x2, Keep o x2 → KeepX o (execDataM x0 x1 x2) := by
  intro x0 x1 x2 h0
  unfold execDataM
  with_reducible repeat' (first | assumption | apply State.fillRow_keeps)

theorem execWbAck_keeps {o : State} : ∀ x0 x1 x2, Keep o x2 → KeepX o (execWbAck x0 x1 x2) := by
  intro x0 x1 x2 h0
  unfold execWbAck
  with_reducible repeat' (first
    | assumption | intro _ | apply keepX_next | exact keepX_fault | apply keepX_ite | apply State.arriveRsp_keeps
    | apply State.victimFreed_keeps | split)

/-! ### Update -/

theorem State.setUpd_keeps {o : State} : ∀ x0 x1 x2, Keep o x0 → Keep o (State.setUpd x0 x1 x2) := by
  intro x0 x1 x2 h0
  unfold State.setUpd
  with_reducible repeat' (first | assumption | apply State.setRegField_keeps)

theorem State.updFails_keeps {o : State} : ∀ x0 x1, Keep o x0 → Keep o (State.updFails x0 x1) := by
  intro x0 x1 h0
  unfold State.updFails
  with_reducible repeat' (first | (apply keep_same <;> first | assumption))

theorem State.updCommand_keeps {o : State} : ∀ x0 x1 x2 x3 x4, Keep o x0 → Keep o (State.updCommand x0 x1 x2 x3 x4) := by
  intro x0 x1 x2 x3 x4 h0
  unfold State.updCommand
  with_reducible repeat' (first
    | assumption | apply keep_ite | apply State.setUpd_keeps | apply State.updFails_keeps
    | apply State.startWrite_keeps | (apply keep_same <;> first | apply State.setUpd_keeps) | dsimp only | split)

theorem State.updWrite_keeps {o : State} : ∀ x0 x1, Keep o x0 → Keep o (State.updWrite x0 x1) := by
  intro x0 x1 h0
  unfold State.updWrite
  with_reducible repeat' (first
    | assumption | intro _ | apply keep_ite | apply keep_foldl | apply State.setReg_keeps
    | apply State.updCommand_keeps | split)

theorem State.updRow_keeps {o : State} : ∀ x0 x1 x2 x3, Keep o x0 → KeepX o (State.updRow x0 x1 x2 x3) := by
  intro x0 x1 x2 x3 h0
  unfold State.updRow
  with_reducible repeat' (first | assumption | intro _ | apply State.wardenWhole_keeps | apply State.updWrite_keeps)

theorem execUpdBegin_keeps {o : State} : ∀ x0 x1 x2, Keep o x2 → KeepX o (execUpdBegin x0 x1 x2) := by
  intro x0 x1 x2 h0
  unfold execUpdBegin
  with_reducible repeat' (first | assumption | apply State.updRow_keeps)

theorem execUpdVerify_keeps {o : State} : ∀ x0 x1 x2, Keep o x2 → KeepX o (execUpdVerify x0 x1 x2) := by
  intro x0 x1 x2 h0
  unfold execUpdVerify
  with_reducible repeat' (first | assumption | apply State.updRow_keeps)

theorem execUpdArm_keeps {o : State} : ∀ x0 x1 x2, Keep o x2 → KeepX o (execUpdArm x0 x1 x2) := by
  intro x0 x1 x2 h0
  unfold execUpdArm
  with_reducible repeat' (first | assumption | apply State.updRow_keeps)

theorem execUpdDisarm_keeps {o : State} : ∀ x0 x1 x2, Keep o x2 → KeepX o (execUpdDisarm x0 x1 x2) := by
  intro x0 x1 x2 h0
  unfold execUpdDisarm
  with_reducible repeat' (first | assumption | apply State.updRow_keeps)

theorem execUpdConfirm_keeps {o : State} : ∀ x0 x1 x2, Keep o x2 → KeepX o (execUpdConfirm x0 x1 x2) := by
  intro x0 x1 x2 h0
  unfold execUpdConfirm
  with_reducible repeat' (first | assumption | apply State.updRow_keeps)

theorem execUpdReject_keeps {o : State} : ∀ x0 x1 x2, Keep o x2 → KeepX o (execUpdReject x0 x1 x2) := by
  intro x0 x1 x2 h0
  unfold execUpdReject
  with_reducible repeat' (first | assumption | apply State.updRow_keeps)

theorem execUpdErase_keeps {o : State} : ∀ x0 x1 x2, Keep o x2 → KeepX o (execUpdErase x0 x1 x2) := by
  intro x0 x1 x2 h0
  unfold execUpdErase
  with_reducible repeat' (first | assumption | apply State.updRow_keeps)

theorem execClrc_keeps {o : State} : ∀ x0 x1 x2, Keep o x2 → KeepX o (execClrc x0 x1 x2) := by
  intro x0 x1 x2 h0
  unfold execClrc
  with_reducible repeat' (first | assumption | intro _ | apply State.wardenWhole_keeps | apply State.updWrite_keeps)

theorem State.raiseSvn_keeps {o : State} : ∀ x0 x1, Keep o x0 → Keep o (State.raiseSvn x0 x1) := by
  intro x0 x1 h0
  unfold State.raiseSvn
  with_reducible repeat' (first | assumption | apply keep_ite | apply State.setRegField_keeps)

theorem execRecordCommandEnd_keeps {o : State} : ∀ x0 x1, Keep o x1 → KeepX o (execRecordCommandEnd x0 x1) := by
  intro x0 x1 h0
  unfold execRecordCommandEnd
  with_reducible repeat' (first
    | assumption | apply keep_ite | apply keepX_next | apply keepX_ite | apply State.endWrite_keeps
    | apply State.setUpd_keeps | apply State.raiseSvn_keeps | apply State.warmReset_keeps
    | (apply keep_same <;> first | apply State.garble_keeps) | dsimp only | split)

theorem State.setFlashStat_keeps {o : State} : ∀ x0 x1 x2, Keep o x0 → Keep o (State.setFlashStat x0 x1 x2) := by
  intro x0 x1 x2 h0
  unfold State.setFlashStat
  with_reducible repeat' (first | assumption | apply State.setRegField_keeps)

theorem State.flashWrite_keeps {o : State} : ∀ x0 x1, Keep o x0 → Keep o (State.flashWrite x0 x1) := by
  intro x0 x1 h0
  unfold State.flashWrite
  with_reducible repeat' (first
    | assumption | intro _ | apply keep_ite | apply keep_foldl | apply State.setRegField_keeps
    | apply State.setReg_keeps | apply State.setFlashStat_keeps | (apply keep_same <;> first | apply keep_foldl))

theorem State.flashRow_keeps {o : State} : ∀ x0 x1 x2 x3, Keep o x0 → KeepX o (State.flashRow x0 x1 x2 x3) := by
  intro x0 x1 x2 x3 h0
  unfold State.flashRow
  with_reducible repeat' (first | assumption | intro _ | apply State.wardenWhole_keeps | apply State.flashWrite_keeps)

theorem execFlashErase_keeps {o : State} : ∀ x0 x1 x2, Keep o x2 → KeepX o (execFlashErase x0 x1 x2) := by
  intro x0 x1 x2 h0
  unfold execFlashErase
  with_reducible repeat' (first | assumption | apply State.flashRow_keeps)

theorem execFlashProgram_keeps {o : State} : ∀ x0 x1 x2, Keep o x2 → KeepX o (execFlashProgram x0 x1 x2) := by
  intro x0 x1 x2 h0
  unfold execFlashProgram
  with_reducible repeat' (first | assumption | apply State.flashRow_keeps)

theorem execFlashRead_keeps {o : State} : ∀ x0 x1 x2, Keep o x2 → KeepX o (execFlashRead x0 x1 x2) := by
  intro x0 x1 x2 h0
  unfold execFlashRead
  with_reducible repeat' (first | assumption | apply State.flashRow_keeps)

theorem State.setFlashSide_keeps {o : State} : ∀ x0 x1 x2 x3, Keep o x0 → Keep o (State.setFlashSide x0 x1 x2 x3) := by
  intro x0 x1 x2 x3 h0
  unfold State.setFlashSide
  with_reducible repeat' (first | assumption | apply State.ddrWrite_keeps | apply State.setReg_keeps | split)

theorem State.progByte_keeps {o : State} : ∀ x0 x1 x2, Keep o x0 → Keep o (State.progByte x0 x1 x2) := by
  intro x0 x1 x2 h0
  unfold State.progByte
  with_reducible repeat' (first | assumption | apply keep_ite | apply State.setFlash_keeps)

theorem State.progWord_keeps {o : State} : ∀ x0 x1 x2, Keep o x0 → Keep o (State.progWord x0 x1 x2) := by
  intro x0 x1 x2 h0
  unfold State.progWord
  with_reducible repeat' (first | assumption | apply State.progByte_keeps)

theorem State.flashEffect_keeps {o : State} : ∀ x0 x1, Keep o x0 → Keep o (State.flashEffect x0 x1) := by
  intro x0 x1 h0
  unfold State.flashEffect
  with_reducible repeat' (first
    | assumption | intro _ | apply keep_foldl | apply State.eraseSector_keeps | apply State.progWord_keeps
    | apply State.setFlashSide_keeps | (apply keep_same <;> first | apply keep_foldl) | dsimp only | split)

theorem State.flashFails_keeps {o : State} : ∀ x0 x1, Keep o x0 → Keep o (State.flashFails x0 x1) := by
  intro x0 x1 h0
  unfold State.flashFails
  with_reducible repeat' (first
    | assumption | intro _ | apply keep_ite | apply keep_foldl | apply State.draw_keeps
    | apply State.setFlashSide_keeps | apply State.garble_keeps)

theorem execFlashOpDone_keeps {o : State} : ∀ x0 x1, Keep o x1 → KeepX o (execFlashOpDone x0 x1) := by
  intro x0 x1 h0
  unfold execFlashOpDone
  with_reducible repeat' (first
    | assumption | apply keep_ite | apply keepX_next | apply State.setFlashStat_keeps | apply State.flashEffect_keeps
    | apply State.flashFails_keeps | (apply keep_same <;> first | assumption) | dsimp only | split)

theorem State.fuseRow_keeps {o : State} : ∀ x0 x1 x2 x3 x4, Keep o x0 → (∀ y0, Keep o y0 → Keep o (x4 y0)) → KeepX o (State.fuseRow x0 x1 x2 x3 x4) := by
  intro x0 x1 x2 x3 x4 h0 h1
  unfold State.fuseRow
  with_reducible repeat' (first | assumption | apply State.openWrite_keeps)

theorem State.burnKey_keeps {o : State} : ∀ x0 x1, Keep o x0 → Keep o (State.burnKey x0 x1) := by
  intro x0 x1 h0
  unfold State.burnKey
  with_reducible repeat' (first | assumption | apply State.setRegField_keeps)

theorem State.revokeKey_keeps {o : State} : ∀ x0 x1, Keep o x0 → Keep o (State.revokeKey x0 x1) := by
  intro x0 x1 h0
  unfold State.revokeKey
  with_reducible repeat' (first | assumption | apply keep_ite | apply State.setRegField_keeps)

theorem execFuseBurn_keeps {o : State} : ∀ x0 x1 x2, Keep o x2 → KeepX o (execFuseBurn x0 x1 x2) := by
  intro x0 x1 x2 h0
  unfold execFuseBurn
  with_reducible repeat' (first | assumption | intro _ | apply State.fuseRow_keeps | apply State.burnKey_keeps)

theorem execFuseRevoke_keeps {o : State} : ∀ x0 x1 x2, Keep o x2 → KeepX o (execFuseRevoke x0 x1 x2) := by
  intro x0 x1 x2 h0
  unfold execFuseRevoke
  with_reducible repeat' (first | assumption | intro _ | apply State.fuseRow_keeps | apply State.revokeKey_keeps)

theorem execFuseRaiseSvn_keeps {o : State} : ∀ x0 x1 x2, Keep o x2 → KeepX o (execFuseRaiseSvn x0 x1 x2) := by
  intro x0 x1 x2 h0
  unfold execFuseRaiseSvn
  with_reducible repeat' (first | assumption | intro _ | apply State.fuseRow_keeps | apply State.raiseSvn_keeps)

/-! ### Exchange -/

theorem State.setXState_keeps {o : State} : ∀ x0 x1, Keep o x0 → Keep o (State.setXState x0 x1) := by
  intro x0 x1 h0
  unfold State.setXState
  with_reducible repeat' (first | assumption | apply State.setRegField_keeps)

theorem State.setXErr_keeps {o : State} : ∀ x0 x1, Keep o x0 → Keep o (State.setXErr x0 x1) := by
  intro x0 x1 h0
  unfold State.setXErr
  with_reducible repeat' (first | assumption | apply State.setRegField_keeps)

theorem State.placeWord_keeps {o : State} : ∀ x0 x1 x2 x3, Keep o x0 → Keep o (State.placeWord x0 x1 x2 x3).1 := by
  intro x0 x1 x2 x3 h0
  unfold State.placeWord
  with_reducible repeat' (first
    | assumption | apply State.setReg_keeps | apply State.setRegField_keeps | apply State.loadWord_keeps | dsimp only
    | split)

theorem State.placeWords_keeps {o : State} : ∀ x0 x1 x2 x3, Keep o x0 → Keep o (State.placeWords x0 x1 x2 x3).1 := by
  intro x0 x1 x2 x3
  fun_induction State.placeWords
  all_goals with_reducible repeat' (first | assumption | intro _ | apply State.placeWord_keeps | apply_assumption)

theorem State.placeRec_keeps {o : State} : ∀ x0 x1 x2, Keep o x0 → Keep o (State.placeRec x0 x1 x2).1 := by
  intro x0 x1 x2 h0
  unfold State.placeRec
  with_reducible repeat' (first
    | assumption | intro _ | apply keep_foldl | apply State.placeWords_keeps | apply State.loadCode_keeps
    | dsimp only | split)

theorem State.placeAll_keeps {o : State} : ∀ x0 x1 x2, Keep o x0 → Keep o (State.placeAll x0 x1 x2).1 := by
  intro s x m h
  exact keep_foldl (keep_foldl1 h (fun y e hy => State.placeRec_keeps _ _ _ hy)) (fun s c hs => State.setRegField_keeps _ _ _ _ _ hs)


theorem State.unplace_keeps {o : State} : ∀ x0 x1, Keep o x0 → Keep o (State.unplace x0 x1) := by
  intro x0 x1 h0
  unfold State.unplace
  with_reducible repeat' (first
    | assumption | intro _ | apply keep_foldl | apply State.setReg_keeps | apply State.setTask_keeps
    | apply State.setFlow_keeps | apply State.codeStore_keeps)

theorem State.xWrite_keeps {o : State} : ∀ x0 x1, Keep o x0 → Keep o (State.xWrite x0 x1) := by
  intro x0 x1 h0
  unfold State.xWrite
  with_reducible repeat' (first
    | assumption | intro _ | apply keep_ite | apply keep_foldl | apply State.setRegField_keeps
    | apply State.setReg_keeps | apply State.setXState_keeps | apply State.setTenState_keeps
    | apply State.unplace_keeps
    | (apply keep_same <;> first | apply State.setXErr_keeps | apply State.setXState_keeps) | dsimp only | split)

theorem execExchangeGo_keeps {o : State} : ∀ x0 x1 x2, Keep o x2 → KeepX o (execExchangeGo x0 x1 x2) := by
  intro x0 x1 x2 h0
  unfold execExchangeGo
  with_reducible repeat' (first | assumption | intro _ | apply State.wardenWhole_keeps | apply State.xWrite_keeps)

theorem execExchangeAbort_keeps {o : State} : ∀ x0 x1 x2, Keep o x2 → KeepX o (execExchangeAbort x0 x1 x2) := by
  intro x0 x1 x2 h0
  unfold execExchangeAbort
  with_reducible repeat' (first | assumption | intro _ | apply State.wardenWhole_keeps | apply State.xWrite_keeps)

theorem State.xReject_keeps {o : State} : ∀ x0 x1 x2, Keep o x0 → Keep o (State.xReject x0 x1 x2) := by
  intro x0 x1 x2 h0
  unfold State.xReject
  with_reducible repeat' (first
    | assumption | apply keep_ite | apply State.setXErr_keeps | apply State.setXState_keeps
    | apply State.setTenState_keeps | (apply keep_same <;> first | apply State.loadFails_keeps))

theorem execExchangeLoaded_keeps {o : State} : ∀ x0, Keep o x0 → KeepX o (execExchangeLoaded x0) := by
  intro x0 h0
  unfold execExchangeLoaded
  with_reducible repeat' (first
    | assumption | apply keepX_next | apply keepX_ite | apply State.xReject_keeps | apply State.setXState_keeps
    | (apply keep_same <;> first | apply State.placeAll_keeps) | dsimp only | split)

theorem State.endOldTask_keeps {o : State} : ∀ x0 x1, Keep o x0 → Keep o (State.endOldTask x0 x1) := by
  intro x0 x1 h0
  unfold State.endOldTask
  with_reducible repeat' (first
    | assumption | apply keep_ite | apply State.unlistTask_keeps | apply State.dropGrant_keeps
    | apply State.bump_keeps | dsimp only | apply State.schedule_keeps | apply State.setCtx_keeps | apply State.taskFree_keeps
    | apply State.cutShort_keeps | split)

theorem State.dropOld_keeps {o : State} : ∀ x0 x1, Keep o x0 → Keep o (State.dropOld x0 x1) := by
  intro x0 x1 h0
  unfold State.dropOld
  with_reducible repeat' (first
    | assumption | intro _ | apply State.returnCredit_keeps | apply State.bumpBy_keeps | apply State.sendAll_keeps
    | (apply keep_same <;> first | apply keep_foldl))

theorem State.swapSegs_keeps {o : State} : ∀ x0 x1, Keep o x0 → Keep o (State.swapSegs x0 x1) := by
  intro x0 x1 h0
  unfold State.swapSegs
  with_reducible repeat' (first | assumption | intro _ | apply keep_foldl | apply State.setReg_keeps)

theorem State.ageBanks_keeps {o : State} : ∀ x0 x1, Keep o x0 → Keep o (State.ageBanks x0 x1) := by
  intro x0 x1 h0
  unfold State.ageBanks
  with_reducible repeat' (first | (apply keep_same <;> first | assumption))

theorem State.sendStates_keeps {o : State} : ∀ x0 x1 x2, Keep o x0 → Keep o (State.sendStates x0 x1 x2) := by
  intro x0 x1 x2
  fun_induction State.sendStates
  all_goals with_reducible repeat' (first | assumption | intro _ | apply State.request_keeps | apply_assumption)

theorem State.switchRec_keeps {o : State} : ∀ x0 x1 x2, Keep o x0 → Keep o (State.switchRec x0 x1 x2).1 := by
  intro x0 x1 x2 h0
  unfold State.switchRec
  with_reducible repeat' (first
    | assumption | apply State.sendStates_keeps | apply State.imageTask_keeps | apply State.setTask_keeps
    | apply State.loadRec_keeps | dsimp only | split)

theorem State.switchTenant_keeps {o : State} : ∀ x0 x1, Keep o x0 → Keep o (State.switchTenant x0 x1) := by
  intro s x h
  unfold State.switchTenant
  extract_lets t old s1 s2 s3 s4 s5 s6
  have h1 : Keep o s1 := State.dropOld_keeps _ _ (keep_foldl h (fun s n hs => State.endOldTask_keeps s n hs))
  clear_value s1
  have h2 : Keep o s2 := keep_foldl h1 (fun s c hs => State.cellSwitch_keeps s c _ hs)
  clear_value s2
  have h3 : Keep o s3 := State.setInit_keeps _ _ _ (State.ageBanks_keeps _ _ (State.swapSegs_keeps _ _ h2))
  clear_value s3
  have h4 : Keep o s4 := keep_foldl h3 (fun s e hs => State.loadWord_keeps s e.1 e.2 hs)
  clear_value s4
  have h5 : Keep o s5 := keep_foldl1 h4 (fun y r hy => State.switchRec_keeps y.1 y.2 r hy)
  clear_value s5
  have h6 : Keep o s6 := by
    unfold s6
    split
    · rename_i e
      exact keep_ofO (State.runInit_keeps _ _ _ h5) e
    · exact State.setTenState_keeps _ _ _ (State.setXErr_keeps _ _ h5)
  clear_value s6
  exact State.setXState_keeps _ _ (State.setDomains_keeps _ (State.setQuotas_keeps _ h6))


theorem execTSwitch_keeps {o : State} : ∀ x0, Keep o x0 → KeepX o (execTSwitch x0) := by
  intro x0 h0
  unfold execTSwitch
  with_reducible repeat' (first
    | assumption | apply keepX_next | apply keepX_ite | apply State.switchTenant_keeps | split)

theorem State.cutOld_keeps {o : State} : ∀ x0 x1, Keep o x0 → Keep o (State.cutOld x0 x1) := by
  intro x0 x1 h0
  unfold State.cutOld
  with_reducible repeat' (first | assumption | apply State.bump_keeps | apply State.cutShort_keeps)

theorem State.endDrain_keeps {o : State} : ∀ x0 x1, Keep o x0 → Keep o (State.endDrain x0 x1) := by
  intro x0 x1 h0
  unfold State.endDrain
  with_reducible repeat' (first
    | assumption | intro _ | apply keep_ite | apply keep_foldl | apply State.cutOld_keeps | apply State.setPool_keeps
    | apply State.releaseFrame_keeps | apply State.setReg_keeps | apply State.setQuotas_keeps
    | apply State.setXState_keeps | apply State.setTenState_keeps
    | (apply keep_same <;> first | apply keep_foldl | apply State.setDomains_keeps))

theorem execDrainEnd_keeps {o : State} : ∀ x0, Keep o x0 → KeepX o (execDrainEnd x0) := by
  intro x0 h0
  unfold execDrainEnd
  with_reducible repeat' (first
    | assumption | apply keepX_next | apply keepX_ite | apply State.endDrain_keeps | split)

end Sys2Proof.Machine
end

