-- ==== Sys2Proof/Laws/KeepRest.lean ====
section
/-! SUPPORT. One lemma per meaning and operation of port, fence, integer, JTAG, queue and register commands: it keeps the waiting commands, the member, the die
and the canonical form of the memories. -/

namespace Sys2Proof.Machine

/-! ### Port -/

theorem execPtok_keeps {o : State} : ∀ x0 x1 x2, Keep o x2 → KeepX o (execPtok x0 x1 x2) := by
  intro x0 x1 x2 h0
  unfold execPtok
  with_reducible repeat' (first
    | assumption | intro _ | apply keepX_next | exact keepX_fault | apply keepX_ite | apply State.badVc_keeps
    | apply State.take_keeps | apply State.arrivePosted_keeps | apply State.setInbox_keeps | apply State.log_keeps
    | apply State.bump_keeps | dsimp only | split)

theorem State.headToken_keeps {o : State} : ∀ x0 x1 x2, Keep o x0 → KeepOP2 o (State.headToken x0 x1 x2) := by
  intro x0 x1 x2 h0
  unfold State.headToken
  with_reducible repeat' (first
    | assumption | exact keepOP2_none | apply keepOP2_some | apply State.setInbox_keeps | split)

theorem execPortCommit_keeps {o : State} : ∀ x0 x1, Keep o x1 → KeepX o (execPortCommit x0 x1) := by
  intro x0 x1 h0
  unfold execPortCommit
  with_reducible repeat' (first
    | assumption | apply keepX_next | exact keepX_fault | apply keepX_ite | apply State.headToken_keeps
    | apply State.commitEntry_keeps | split | refine keep_ofOP2 ?_ (by assumption))

theorem execPortArm_keeps {o : State} : ∀ x0 x1, Keep o x1 → KeepX o (execPortArm x0 x1) := by
  intro x0 x1 h0
  unfold execPortArm
  with_reducible repeat' (first
    | assumption | apply keepX_next | exact keepX_fault | apply keepX_ite | apply State.headToken_keeps
    | apply State.setCell_keeps | dsimp only | split | refine keep_ofOP2 ?_ (by assumption))

theorem execPortDisarm_keeps {o : State} : ∀ x0 x1, Keep o x1 → KeepX o (execPortDisarm x0 x1) := by
  intro x0 x1 h0
  unfold execPortDisarm
  with_reducible repeat' (first
    | assumption | apply keepX_next | exact keepX_fault | apply keepX_ite | apply State.headToken_keeps
    | apply State.disarm_keeps | split | refine keep_ofOP2 ?_ (by assumption))

theorem execCommitAct_keeps {o : State} : ∀ x0 x1, Keep o x1 → KeepX o (execCommitAct x0 x1) := by
  intro x0 x1 h0
  unfold execCommitAct
  with_reducible repeat' (first
    | assumption | apply keepX_next | exact keepX_fault | apply keepX_ite | apply State.actCommit_keeps
    | apply State.setCell_keeps | dsimp only | split)

theorem execExpectDeadline_keeps {o : State} : ∀ x0 x1, Keep o x1 → KeepX o (execExpectDeadline x0 x1) := by
  intro x0 x1 h0
  unfold execExpectDeadline
  with_reducible repeat' (first
    | assumption | apply keepX_next | exact keepX_fault | apply keepX_ite | apply State.setCell_keeps
    | apply State.lateEvent_keeps | apply State.bump_keeps | dsimp only | split)

theorem State.pwmStart_keeps {o : State} : ∀ x0 x1 x2, Keep o x0 → Keep o (State.pwmStart x0 x1 x2) := by
  intro x0 x1 x2 h0
  unfold State.pwmStart
  with_reducible repeat' (first | assumption | apply State.setCell_keeps | dsimp only | split)

theorem execScheduleInstant_keeps {o : State} : ∀ x0 x1, Keep o x1 → KeepX o (execScheduleInstant x0 x1) := by
  intro x0 x1 h0
  unfold execScheduleInstant
  with_reducible repeat' (first
    | assumption | apply keepX_next | exact keepX_fault | apply keepX_ite | apply State.setCell_keeps
    | apply State.capture_keeps | apply State.pwmStart_keeps | apply State.startSsi_keeps | dsimp only | split)

theorem execInputEdge_keeps {o : State} : ∀ x0 x1 x2, Keep o x2 → KeepX o (execInputEdge x0 x1 x2) := by
  intro x0 x1 x2 h0
  unfold execInputEdge
  with_reducible repeat' (first
    | assumption | apply keepX_next | exact keepX_fault | apply keepX_ite | apply State.setPin_keeps
    | apply State.capture_keeps | apply State.setCell_keeps | dsimp only | split)

theorem execQuadTransition_keeps {o : State} : ∀ x0 x1 x2 x3, Keep o x3 → KeepX o (execQuadTransition x0 x1 x2 x3) := by
  intro x0 x1 x2 x3 h0
  unfold execQuadTransition
  with_reducible repeat' (first
    | assumption | apply keepX_next | exact keepX_fault | apply keepX_ite | apply State.setPin_keeps
    | apply State.setCell_keeps | apply State.funcErr_keeps)

theorem execPulseEdge_keeps {o : State} : ∀ x0 x1, Keep o x1 → KeepX o (execPulseEdge x0 x1) := by
  intro x0 x1 h0
  unfold execPulseEdge
  with_reducible repeat' (first
    | assumption | apply keepX_next | exact keepX_fault | apply keepX_ite | apply State.setCell_keeps | dsimp only
    | split)

theorem execSsiTransferDone_keeps {o : State} : ∀ x0 x1 x2, Keep o x2 → KeepX o (execSsiTransferDone x0 x1 x2) := by
  intro x0 x1 x2 h0
  unfold execSsiTransferDone
  with_reducible repeat' (first
    | assumption | apply keepX_next | exact keepX_fault | apply keepX_ite | apply State.capture_keeps
    | apply State.setCell_keeps | dsimp only | split)

theorem execUartRxCharacter_keeps {o : State} : ∀ x0 x1 x2 x3 x4 x5, Keep o x5 → KeepX o (execUartRxCharacter x0 x1 x2 x3 x4 x5) := by
  intro x0 x1 x2 x3 x4 x5 h0
  unfold execUartRxCharacter
  with_reducible repeat' (first
    | assumption | apply keepX_next | exact keepX_fault | apply keepX_ite | apply State.capture_keeps)

theorem execSpiTransferDone_keeps {o : State} : ∀ x0 x1 x2, Keep o x2 → KeepX o (execSpiTransferDone x0 x1 x2) := by
  intro x0 x1 x2 h0
  unfold execSpiTransferDone
  with_reducible repeat' (first
    | assumption | apply keepX_next | exact keepX_fault | apply keepX_ite | apply State.capture_keeps
    | apply State.setCell_keeps | dsimp only | split)

theorem execCaptureInject_keeps {o : State} : ∀ x0 x1, Keep o x1 → KeepX o (execCaptureInject x0 x1) := by
  intro x0 x1 h0
  unfold execCaptureInject
  with_reducible repeat' (first
    | assumption | apply keep_ite | apply keepX_next | exact keepX_fault | apply keepX_ite
    | apply State.release_keeps | apply State.setCell_keeps | apply State.disarm_keeps | dsimp only | split)

theorem servePortWrite_keeps {o : State} : ∀ x0 x1 x2 x3 x4, Keep o x4 → Keep o (servePortWrite x0 x1 x2 x3 x4) := by
  intro x0 x1 x2 x3 x4 h0
  unfold servePortWrite
  with_reducible repeat' (first
    | assumption | apply State.portWrite_keeps | apply State.answer_keeps | apply State.refuse_keeps | split
    | refine keep_ofO ?_ (by assumption))

theorem execCellResume_keeps {o : State} : ∀ x0 x1 x2, Keep o x2 → KeepX o (execCellResume x0 x1 x2) := by
  intro x0 x1 x2 h0
  unfold execCellResume
  with_reducible repeat' (first
    | assumption | intro _ | apply keepX_next | apply State.arriveReq_keeps | apply servePortWrite_keeps)

theorem execCellFlush_keeps {o : State} : ∀ x0 x1 x2, Keep o x2 → KeepX o (execCellFlush x0 x1 x2) := by
  intro x0 x1 x2 h0
  unfold execCellFlush
  with_reducible repeat' (first
    | assumption | intro _ | apply keepX_next | apply State.arriveReq_keeps | apply servePortWrite_keeps)

theorem execCellPop_keeps {o : State} : ∀ x0 x1 x2, Keep o x2 → KeepX o (execCellPop x0 x1 x2) := by
  intro x0 x1 x2 h0
  unfold execCellPop
  with_reducible repeat' (first
    | assumption | intro _ | apply keepX_next | apply State.arriveReq_keeps | apply State.portRead_keeps
    | apply State.answerData_keeps | apply State.refuse_keeps | split | refine keep_ofOP1 ?_ (by assumption))

theorem execCellRecover_keeps {o : State} : ∀ x0 x1 x2 x3, Keep o x3 → KeepX o (execCellRecover x0 x1 x2 x3) := by
  intro x0 x1 x2 x3 h0
  unfold execCellRecover
  with_reducible repeat' (first
    | assumption | intro _ | apply keep_ite | exact keepX_fault | apply keepX_ite | apply State.wardenWhole_keeps
    | apply State.putWords_keeps | apply State.cellRuns_keeps)

theorem execCalgo_keeps {o : State} : ∀ x0 x1 x2 x3, Keep o x3 → KeepX o (execCalgo x0 x1 x2 x3) := by
  intro x0 x1 x2 x3 h0
  unfold execCalgo
  with_reducible repeat' (first
    | assumption | intro _ | exact keepX_fault | apply keepX_ite | apply State.wardenWrite_keeps
    | apply State.calStart_keeps)

theorem State.drawSkews_keeps {o : State} : ∀ x0 x1, Keep o x0 → Keep o (State.drawSkews x0 x1) := by
  intro x0 x1
  fun_induction State.drawSkews
  all_goals with_reducible repeat' (first
    | assumption | intro _ | apply State.draw_keeps | apply State.setReg_keeps | apply_assumption)

theorem execCalibrationDone_keeps {o : State} : ∀ x0 x1, Keep o x1 → KeepX o (execCalibrationDone x0 x1) := by
  intro x0 x1 h0
  unfold execCalibrationDone
  with_reducible repeat' (first
    | assumption | apply keepX_next | exact keepX_fault | apply keepX_ite | apply State.drawSkews_keeps
    | apply State.setRegField_keeps | (apply keep_same <;> first | assumption))

theorem execVioLoss_keeps {o : State} : ∀ x0 x1, Keep o x1 → KeepX o (execVioLoss x0 x1) := by
  intro x0 x1 h0
  unfold execVioLoss
  with_reducible repeat' (first
    | assumption | apply keepX_next | exact keepX_fault | apply keepX_ite | apply State.bankLosesVio_keeps
    | apply State.log_keeps | apply State.bump_keeps | apply State.setRegField_keeps)

theorem execVioReturn_keeps {o : State} : ∀ x0 x1, Keep o x1 → KeepX o (execVioReturn x0 x1) := by
  intro x0 x1 h0
  unfold execVioReturn
  with_reducible repeat' (first
    | assumption | intro _ | apply keep_foldl | apply keepX_next | exact keepX_fault | apply keepX_ite
    | apply State.setCell_keeps | apply State.setRegField_keeps)

theorem execReprogrammingEnd_keeps {o : State} : ∀ x0 x1, Keep o x1 → KeepX o (execReprogrammingEnd x0 x1) := by
  intro x0 x1 h0
  unfold execReprogrammingEnd
  with_reducible repeat' (first
    | assumption | apply keepX_next | exact keepX_fault | apply keepX_ite | apply State.loadNext_keeps
    | apply State.dropCommits_keeps | apply State.cellRuns_keeps | apply State.setCell_keeps
    | apply State.cellFresh_keeps)

/-! ### Depend -/

theorem State.fenceCtx_keeps {o : State} : ∀ x0 x1, Keep o x0 → Keep o (State.fenceCtx x0 x1) := by
  intro x0 x1 h0
  unfold State.fenceCtx
  with_reducible repeat' (first
    | assumption | apply keep_ite | apply State.killTask_keeps | apply State.cutShort_keeps)

theorem State.requeue_keeps {o : State} : ∀ x0 x1, Keep o x0 → Keep o (State.requeue x0 x1) := by
  intro x0 x1 h0
  unfold State.requeue
  with_reducible repeat' (first
    | assumption | apply keep_ite | apply State.setRl_keeps | apply State.taskChanged_keeps
    | apply State.setTask_keeps)

theorem State.emptyPq_keeps {o : State} : ∀ x0 x1, Keep o x0 → Keep o (State.emptyPq x0 x1) := by
  intro x0 x1 h0
  unfold State.emptyPq
  with_reducible repeat' (first
    | assumption | intro _ | apply keep_foldl | apply State.requeue_keeps | apply State.setPq_keeps)

theorem State.moveRecords_keeps {o : State} : ∀ x0 x1 x2, Keep o x0 → Keep o (State.moveRecords x0 x1 x2) := by
  intro x0 x1 x2 h0
  unfold State.moveRecords
  with_reducible repeat' (first
    | assumption | intro _ | apply keep_ite | apply keep_foldl | apply State.killTask_keeps
    | apply State.setRegField_keeps | apply State.spadStore_keeps)

theorem State.countFence_keeps {o : State} : ∀ x0 x1, Keep o x0 → Keep o (State.countFence x0 x1) := by
  intro x0 x1 h0
  unfold State.countFence
  with_reducible repeat' (first | assumption | apply State.bump_keeps | apply State.setRegField_keeps)

theorem State.fencePav_keeps {o : State} : ∀ x0 x1 x2 x3 x4, Keep o x0 → Keep o (State.fencePav x0 x1 x2 x3 x4) := by
  intro x0 x1 x2 x3 x4 h0
  unfold State.fencePav
  with_reducible repeat' (first
    | assumption | intro _ | apply keep_ite | apply keep_foldl | apply State.retirePav_keeps
    | apply State.setRegField_keeps | apply State.dieFault_keeps | apply State.log_keeps
    | apply State.countFence_keeps | apply State.moveRecords_keeps | apply State.emptyPq_keeps
    | apply State.fenceCtx_keeps | apply State.fenceEnds_keeps | apply State.drainNode_keeps
    | apply State.flushStart_keeps | apply State.setPower_keeps
    | (apply keep_same <;> first | apply State.moveRecords_keeps))

theorem execPavilionFence_keeps {o : State} : ∀ x0 x1 x2 x3, Keep o x3 → KeepX o (execPavilionFence x0 x1 x2 x3) := by
  intro x0 x1 x2 x3 h0
  unfold execPavilionFence
  with_reducible repeat' (first
    | assumption | intro _ | apply keepX_next | exact keepX_fault | apply keepX_ite | apply State.fencePav_keeps
    | apply State.wardenWrite_keeps | split)

theorem execPavRetire_keeps {o : State} : ∀ x0 x1 x2 x3 x4, Keep o x4 → KeepX o (execPavRetire x0 x1 x2 x3 x4) := by
  intro x0 x1 x2 x3 x4 h0
  unfold execPavRetire
  with_reducible repeat' (first
    | assumption | intro _ | exact keepX_fault | apply keepX_ite | apply State.wardenWrite_keeps
    | apply State.fencePav_keeps)

theorem execSelfTestDone_keeps {o : State} : ∀ x0 x1 x2, Keep o x2 → KeepX o (execSelfTestDone x0 x1 x2) := by
  intro x0 x1 x2 h0
  unfold execSelfTestDone
  with_reducible repeat' (first
    | assumption | apply keep_ite | apply keepX_next | exact keepX_fault | apply keepX_ite
    | apply State.setRegField_keeps | apply State.unisolate_keeps | apply State.log_keeps
    | apply State.startWake_keeps | apply State.retirePav_keeps)

theorem State.ctlWrite_keeps {o : State} : ∀ x0 x1, Keep o x0 → Keep o (State.ctlWrite x0 x1) := by
  intro x0 x1 h0
  unfold State.ctlWrite
  with_reducible repeat' (first
    | assumption | intro _ | apply keep_ite | apply keep_foldl | apply State.putWords_keeps
    | apply State.setReg_keeps | apply State.dieFault_keeps)

theorem execDieFault_keeps {o : State} : ∀ x0 x1 x2, Keep o x2 → KeepX o (execDieFault x0 x1 x2) := by
  intro x0 x1 x2 h0
  unfold execDieFault
  with_reducible repeat' (first | assumption | intro _ | apply State.wardenWhole_keeps | apply State.ctlWrite_keeps)

theorem execFaultClear_keeps {o : State} : ∀ x0 x1 x2, Keep o x2 → KeepX o (execFaultClear x0 x1 x2) := by
  intro x0 x1 x2 h0
  unfold execFaultClear
  with_reducible repeat' (first | assumption | intro _ | apply State.wardenWhole_keeps | apply State.ctlWrite_keeps)

theorem execRefclkLoss_keeps {o : State} : ∀ x0, Keep o x0 → KeepX o (execRefclkLoss x0) := by
  intro x0 h0
  unfold execRefclkLoss
  with_reducible repeat' (first | assumption | apply keep_ite | apply keepX_next | apply State.dieFault_keeps)

theorem State.goSimplex_keeps {o : State} : ∀ x0, Keep o x0 → KeepX o (State.goSimplex x0) := by
  intro x0 h0
  unfold State.goSimplex
  with_reducible repeat' (first
    | assumption | apply keepX_next | apply keepX_ite | apply State.autostart_keeps | apply State.runAlone_keeps
    | apply execLeadSeesFenceNLow_keeps | apply execTakeover_keeps)

theorem execPairSimplex_keeps {o : State} : ∀ x0 x1 x2, Keep o x2 → KeepX o (execPairSimplex x0 x1 x2) := by
  intro x0 x1 x2 h0
  unfold execPairSimplex
  with_reducible repeat' (first
    | assumption | intro _ | apply keep_ite | apply keepX_next | apply keepX_ite | apply State.fenceSelf_keeps
    | apply State.arriveReq_keeps | apply State.goSimplex_keeps | apply State.answer_keeps
    | apply State.refuseDomain_keeps | split | refine keep_ofX ?_ (by assumption))

theorem State.logWrite_keeps {o : State} : ∀ x0 x1, Keep o x0 → Keep o (State.logWrite x0 x1) := by
  intro x0 x1 h0
  unfold State.logWrite
  with_reducible repeat' (first
    | assumption | apply keep_ite | apply State.putWords_keeps
    | (apply keep_same <;> first | apply State.putWords_keeps))

theorem execLogNext_keeps {o : State} : ∀ x0 x1 x2, Keep o x2 → KeepX o (execLogNext x0 x1 x2) := by
  intro x0 x1 x2 h0
  unfold execLogNext
  with_reducible repeat' (first | assumption | intro _ | apply State.openWhole_keeps | apply State.logWrite_keeps)

/-! ### Integer -/

theorem execAdd_keeps {o : State} : ∀ x0 x1 x2 x3 x4, Keep o x4 → KeepX o (execAdd x0 x1 x2 x3 x4) := by
  intro x0 x1 x2 x3 x4 h0
  unfold execAdd
  with_reducible repeat' (first | assumption | apply runBody_keeps)

theorem execAdc_keeps {o : State} : ∀ x0 x1 x2 x3 x4, Keep o x4 → KeepX o (execAdc x0 x1 x2 x3 x4) := by
  intro x0 x1 x2 x3 x4 h0
  unfold execAdc
  with_reducible repeat' (first | assumption | apply runBody_keeps)

theorem execSub_keeps {o : State} : ∀ x0 x1 x2 x3 x4, Keep o x4 → KeepX o (execSub x0 x1 x2 x3 x4) := by
  intro x0 x1 x2 x3 x4 h0
  unfold execSub
  with_reducible repeat' (first | assumption | apply runBody_keeps)

theorem execSbc_keeps {o : State} : ∀ x0 x1 x2 x3 x4, Keep o x4 → KeepX o (execSbc x0 x1 x2 x3 x4) := by
  intro x0 x1 x2 x3 x4 h0
  unfold execSbc
  with_reducible repeat' (first | assumption | apply runBody_keeps)

theorem execAndW_keeps {o : State} : ∀ x0 x1 x2 x3 x4, Keep o x4 → KeepX o (execAndW x0 x1 x2 x3 x4) := by
  intro x0 x1 x2 x3 x4 h0
  unfold execAndW
  with_reducible repeat' (first | assumption | apply runBody_keeps)

theorem execOrW_keeps {o : State} : ∀ x0 x1 x2 x3 x4, Keep o x4 → KeepX o (execOrW x0 x1 x2 x3 x4) := by
  intro x0 x1 x2 x3 x4 h0
  unfold execOrW
  with_reducible repeat' (first | assumption | apply runBody_keeps)

theorem execXorW_keeps {o : State} : ∀ x0 x1 x2 x3 x4, Keep o x4 → KeepX o (execXorW x0 x1 x2 x3 x4) := by
  intro x0 x1 x2 x3 x4 h0
  unfold execXorW
  with_reducible repeat' (first | assumption | apply runBody_keeps)

theorem execAndn_keeps {o : State} : ∀ x0 x1 x2 x3 x4, Keep o x4 → KeepX o (execAndn x0 x1 x2 x3 x4) := by
  intro x0 x1 x2 x3 x4 h0
  unfold execAndn
  with_reducible repeat' (first | assumption | apply runBody_keeps)

theorem execShl_keeps {o : State} : ∀ x0 x1 x2 x3 x4, Keep o x4 → KeepX o (execShl x0 x1 x2 x3 x4) := by
  intro x0 x1 x2 x3 x4 h0
  unfold execShl
  with_reducible repeat' (first | assumption | apply runBody_keeps)

theorem execShr_keeps {o : State} : ∀ x0 x1 x2 x3 x4, Keep o x4 → KeepX o (execShr x0 x1 x2 x3 x4) := by
  intro x0 x1 x2 x3 x4 h0
  unfold execShr
  with_reducible repeat' (first | assumption | apply runBody_keeps)

theorem execSar_keeps {o : State} : ∀ x0 x1 x2 x3 x4, Keep o x4 → KeepX o (execSar x0 x1 x2 x3 x4) := by
  intro x0 x1 x2 x3 x4 h0
  unfold execSar
  with_reducible repeat' (first | assumption | apply runBody_keeps)

theorem execRol_keeps {o : State} : ∀ x0 x1 x2 x3 x4, Keep o x4 → KeepX o (execRol x0 x1 x2 x3 x4) := by
  intro x0 x1 x2 x3 x4 h0
  unfold execRol
  with_reducible repeat' (first | assumption | apply runBody_keeps)

theorem execMinW_keeps {o : State} : ∀ x0 x1 x2 x3 x4, Keep o x4 → KeepX o (execMinW x0 x1 x2 x3 x4) := by
  intro x0 x1 x2 x3 x4 h0
  unfold execMinW
  with_reducible repeat' (first | assumption | apply runBody_keeps)

theorem execMaxW_keeps {o : State} : ∀ x0 x1 x2 x3 x4, Keep o x4 → KeepX o (execMaxW x0 x1 x2 x3 x4) := by
  intro x0 x1 x2 x3 x4 h0
  unfold execMaxW
  with_reducible repeat' (first | assumption | apply runBody_keeps)

theorem execMinu_keeps {o : State} : ∀ x0 x1 x2 x3 x4, Keep o x4 → KeepX o (execMinu x0 x1 x2 x3 x4) := by
  intro x0 x1 x2 x3 x4 h0
  unfold execMinu
  with_reducible repeat' (first | assumption | apply runBody_keeps)

theorem execMaxu_keeps {o : State} : ∀ x0 x1 x2 x3 x4, Keep o x4 → KeepX o (execMaxu x0 x1 x2 x3 x4) := by
  intro x0 x1 x2 x3 x4 h0
  unfold execMaxu
  with_reducible repeat' (first | assumption | apply runBody_keeps)

theorem execCmp_keeps {o : State} : ∀ x0 x1 x2 x3 x4, Keep o x4 → KeepX o (execCmp x0 x1 x2 x3 x4) := by
  intro x0 x1 x2 x3 x4 h0
  unfold execCmp
  with_reducible repeat' (first | assumption | apply runBody_keeps)

theorem execTst_keeps {o : State} : ∀ x0 x1 x2 x3 x4, Keep o x4 → KeepX o (execTst x0 x1 x2 x3 x4) := by
  intro x0 x1 x2 x3 x4 h0
  unfold execTst
  with_reducible repeat' (first | assumption | apply runBody_keeps)

theorem execSlt_keeps {o : State} : ∀ x0 x1 x2 x3 x4, Keep o x4 → KeepX o (execSlt x0 x1 x2 x3 x4) := by
  intro x0 x1 x2 x3 x4 h0
  unfold execSlt
  with_reducible repeat' (first | assumption | apply runBody_keeps)

theorem execSltu_keeps {o : State} : ∀ x0 x1 x2 x3 x4, Keep o x4 → KeepX o (execSltu x0 x1 x2 x3 x4) := by
  intro x0 x1 x2 x3 x4 h0
  unfold execSltu
  with_reducible repeat' (first | assumption | apply runBody_keeps)

theorem execSeq_keeps {o : State} : ∀ x0 x1 x2 x3 x4, Keep o x4 → KeepX o (execSeq x0 x1 x2 x3 x4) := by
  intro x0 x1 x2 x3 x4 h0
  unfold execSeq
  with_reducible repeat' (first | assumption | apply runBody_keeps)

theorem execAddi_keeps {o : State} : ∀ x0 x1 x2 x3 x4, Keep o x4 → KeepX o (execAddi x0 x1 x2 x3 x4) := by
  intro x0 x1 x2 x3 x4 h0
  unfold execAddi
  with_reducible repeat' (first | assumption | apply runBody_keeps)

theorem execAndi_keeps {o : State} : ∀ x0 x1 x2 x3 x4, Keep o x4 → KeepX o (execAndi x0 x1 x2 x3 x4) := by
  intro x0 x1 x2 x3 x4 h0
  unfold execAndi
  with_reducible repeat' (first | assumption | apply runBody_keeps)

theorem execOri_keeps {o : State} : ∀ x0 x1 x2 x3 x4, Keep o x4 → KeepX o (execOri x0 x1 x2 x3 x4) := by
  intro x0 x1 x2 x3 x4 h0
  unfold execOri
  with_reducible repeat' (first | assumption | apply runBody_keeps)

theorem execXori_keeps {o : State} : ∀ x0 x1 x2 x3 x4, Keep o x4 → KeepX o (execXori x0 x1 x2 x3 x4) := by
  intro x0 x1 x2 x3 x4 h0
  unfold execXori
  with_reducible repeat' (first | assumption | apply runBody_keeps)

theorem execShli_keeps {o : State} : ∀ x0 x1 x2 x3 x4, Keep o x4 → KeepX o (execShli x0 x1 x2 x3 x4) := by
  intro x0 x1 x2 x3 x4 h0
  unfold execShli
  with_reducible repeat' (first | assumption | apply runBody_keeps)

theorem execShri_keeps {o : State} : ∀ x0 x1 x2 x3 x4, Keep o x4 → KeepX o (execShri x0 x1 x2 x3 x4) := by
  intro x0 x1 x2 x3 x4 h0
  unfold execShri
  with_reducible repeat' (first | assumption | apply runBody_keeps)

theorem execSari_keeps {o : State} : ∀ x0 x1 x2 x3 x4, Keep o x4 → KeepX o (execSari x0 x1 x2 x3 x4) := by
  intro x0 x1 x2 x3 x4 h0
  unfold execSari
  with_reducible repeat' (first | assumption | apply runBody_keeps)

theorem execCmpi_keeps {o : State} : ∀ x0 x1 x2 x3 x4, Keep o x4 → KeepX o (execCmpi x0 x1 x2 x3 x4) := by
  intro x0 x1 x2 x3 x4 h0
  unfold execCmpi
  with_reducible repeat' (first | assumption | apply runBody_keeps)

theorem execMovi_keeps {o : State} : ∀ x0 x1 x2 x3, Keep o x3 → KeepX o (execMovi x0 x1 x2 x3) := by
  intro x0 x1 x2 x3 h0
  unfold execMovi
  with_reducible repeat' (first | assumption | apply runBody_keeps)

theorem execMovh_keeps {o : State} : ∀ x0 x1 x2 x3, Keep o x3 → KeepX o (execMovh x0 x1 x2 x3) := by
  intro x0 x1 x2 x3 h0
  unfold execMovh
  with_reducible repeat' (first | assumption | apply runBody_keeps)

theorem execMov_keeps {o : State} : ∀ x0 x1 x2 x3 x4, Keep o x4 → KeepX o (execMov x0 x1 x2 x3 x4) := by
  intro x0 x1 x2 x3 x4 h0
  unfold execMov
  with_reducible repeat' (first | assumption | apply runBody_keeps)

theorem execMovp_keeps {o : State} : ∀ x0 x1 x2 x3 x4, Keep o x4 → KeepX o (execMovp x0 x1 x2 x3 x4) := by
  intro x0 x1 x2 x3 x4 h0
  unfold execMovp
  with_reducible repeat' (first | assumption | apply runBody_keeps)

theorem execMovt_keeps {o : State} : ∀ x0 x1 x2 x3 x4, Keep o x4 → KeepX o (execMovt x0 x1 x2 x3 x4) := by
  intro x0 x1 x2 x3 x4 h0
  unfold execMovt
  with_reducible repeat' (first | assumption | apply runBody_keeps)

theorem execNotW_keeps {o : State} : ∀ x0 x1 x2 x3 x4, Keep o x4 → KeepX o (execNotW x0 x1 x2 x3 x4) := by
  intro x0 x1 x2 x3 x4 h0
  unfold execNotW
  with_reducible repeat' (first | assumption | apply runBody_keeps)

theorem execNeg_keeps {o : State} : ∀ x0 x1 x2 x3 x4, Keep o x4 → KeepX o (execNeg x0 x1 x2 x3 x4) := by
  intro x0 x1 x2 x3 x4 h0
  unfold execNeg
  with_reducible repeat' (first | assumption | apply runBody_keeps)

theorem execClz_keeps {o : State} : ∀ x0 x1 x2 x3 x4, Keep o x4 → KeepX o (execClz x0 x1 x2 x3 x4) := by
  intro x0 x1 x2 x3 x4 h0
  unfold execClz
  with_reducible repeat' (first | assumption | apply runBody_keeps)

theorem execPopc_keeps {o : State} : ∀ x0 x1 x2 x3 x4, Keep o x4 → KeepX o (execPopc x0 x1 x2 x3 x4) := by
  intro x0 x1 x2 x3 x4 h0
  unfold execPopc
  with_reducible repeat' (first | assumption | apply runBody_keeps)

theorem execMfs_keeps {o : State} : ∀ x0 x1 x2 x3 x4, Keep o x4 → KeepX o (execMfs x0 x1 x2 x3 x4) := by
  intro x0 x1 x2 x3 x4 h0
  unfold execMfs
  with_reducible repeat' (first | assumption | apply runBody_keeps)

theorem execMts_keeps {o : State} : ∀ x0 x1 x2 x3 x4, Keep o x4 → KeepX o (execMts x0 x1 x2 x3 x4) := by
  intro x0 x1 x2 x3 x4 h0
  unfold execMts
  with_reducible repeat' (first | assumption | apply runBody_keeps)

theorem execMul_keeps {o : State} : ∀ x0 x1 x2 x3 x4, Keep o x4 → KeepX o (execMul x0 x1 x2 x3 x4) := by
  intro x0 x1 x2 x3 x4 h0
  unfold execMul
  with_reducible repeat' (first | assumption | apply runBody_keeps)

theorem execMulu_keeps {o : State} : ∀ x0 x1 x2 x3 x4, Keep o x4 → KeepX o (execMulu x0 x1 x2 x3 x4) := by
  intro x0 x1 x2 x3 x4 h0
  unfold execMulu
  with_reducible repeat' (first | assumption | apply runBody_keeps)

theorem execMac_keeps {o : State} : ∀ x0 x1 x2 x3 x4, Keep o x4 → KeepX o (execMac x0 x1 x2 x3 x4) := by
  intro x0 x1 x2 x3 x4 h0
  unfold execMac
  with_reducible repeat' (first | assumption | apply runBody_keeps)

theorem execMacu_keeps {o : State} : ∀ x0 x1 x2 x3 x4, Keep o x4 → KeepX o (execMacu x0 x1 x2 x3 x4) := by
  intro x0 x1 x2 x3 x4 h0
  unfold execMacu
  with_reducible repeat' (first | assumption | apply runBody_keeps)

theorem execMsu_keeps {o : State} : ∀ x0 x1 x2 x3 x4, Keep o x4 → KeepX o (execMsu x0 x1 x2 x3 x4) := by
  intro x0 x1 x2 x3 x4 h0
  unfold execMsu
  with_reducible repeat' (first | assumption | apply runBody_keeps)

theorem execMsuu_keeps {o : State} : ∀ x0 x1 x2 x3 x4, Keep o x4 → KeepX o (execMsuu x0 x1 x2 x3 x4) := by
  intro x0 x1 x2 x3 x4 h0
  unfold execMsuu
  with_reducible repeat' (first | assumption | apply runBody_keeps)

theorem execMulw_keeps {o : State} : ∀ x0 x1 x2 x3 x4, Keep o x4 → KeepX o (execMulw x0 x1 x2 x3 x4) := by
  intro x0 x1 x2 x3 x4 h0
  unfold execMulw
  with_reducible repeat' (first | assumption | apply runBody_keeps)

theorem execDiv_keeps {o : State} : ∀ x0 x1 x2 x3 x4, Keep o x4 → KeepX o (execDiv x0 x1 x2 x3 x4) := by
  intro x0 x1 x2 x3 x4 h0
  unfold execDiv
  with_reducible repeat' (first | assumption | apply runBody_keeps)

theorem execDivu_keeps {o : State} : ∀ x0 x1 x2 x3 x4, Keep o x4 → KeepX o (execDivu x0 x1 x2 x3 x4) := by
  intro x0 x1 x2 x3 x4 h0
  unfold execDivu
  with_reducible repeat' (first | assumption | apply runBody_keeps)

theorem execClracc_keeps {o : State} : ∀ x0 x1 x2 x3 x4, Keep o x4 → KeepX o (execClracc x0 x1 x2 x3 x4) := by
  intro x0 x1 x2 x3 x4 h0
  unfold execClracc
  with_reducible repeat' (first | assumption | apply runBody_keeps)

theorem execAccsr_keeps {o : State} : ∀ x0 x1 x2 x3 x4, Keep o x4 → KeepX o (execAccsr x0 x1 x2 x3 x4) := by
  intro x0 x1 x2 x3 x4 h0
  unfold execAccsr
  with_reducible repeat' (first | assumption | apply runBody_keeps)

theorem execAccsat_keeps {o : State} : ∀ x0 x1 x2 x3 x4, Keep o x4 → KeepX o (execAccsat x0 x1 x2 x3 x4) := by
  intro x0 x1 x2 x3 x4 h0
  unfold execAccsat
  with_reducible repeat' (first | assumption | apply runBody_keeps)

theorem execFaddD_keeps {o : State} : ∀ x0 x1 x2 x3 x4, Keep o x4 → KeepX o (execFaddD x0 x1 x2 x3 x4) := by
  intro x0 x1 x2 x3 x4 h0
  unfold execFaddD
  with_reducible repeat' (first | assumption | apply runBody_keeps)

theorem execFaddS_keeps {o : State} : ∀ x0 x1 x2 x3 x4, Keep o x4 → KeepX o (execFaddS x0 x1 x2 x3 x4) := by
  intro x0 x1 x2 x3 x4 h0
  unfold execFaddS
  with_reducible repeat' (first | assumption | apply runBody_keeps)

theorem execFsubD_keeps {o : State} : ∀ x0 x1 x2 x3 x4, Keep o x4 → KeepX o (execFsubD x0 x1 x2 x3 x4) := by
  intro x0 x1 x2 x3 x4 h0
  unfold execFsubD
  with_reducible repeat' (first | assumption | apply runBody_keeps)

theorem execFsubS_keeps {o : State} : ∀ x0 x1 x2 x3 x4, Keep o x4 → KeepX o (execFsubS x0 x1 x2 x3 x4) := by
  intro x0 x1 x2 x3 x4 h0
  unfold execFsubS
  with_reducible repeat' (first | assumption | apply runBody_keeps)

theorem execFmulD_keeps {o : State} : ∀ x0 x1 x2 x3 x4, Keep o x4 → KeepX o (execFmulD x0 x1 x2 x3 x4) := by
  intro x0 x1 x2 x3 x4 h0
  unfold execFmulD
  with_reducible repeat' (first | assumption | apply runBody_keeps)

theorem execFmulS_keeps {o : State} : ∀ x0 x1 x2 x3 x4, Keep o x4 → KeepX o (execFmulS x0 x1 x2 x3 x4) := by
  intro x0 x1 x2 x3 x4 h0
  unfold execFmulS
  with_reducible repeat' (first | assumption | apply runBody_keeps)

theorem execFdivD_keeps {o : State} : ∀ x0 x1 x2 x3 x4, Keep o x4 → KeepX o (execFdivD x0 x1 x2 x3 x4) := by
  intro x0 x1 x2 x3 x4 h0
  unfold execFdivD
  with_reducible repeat' (first | assumption | apply runBody_keeps)

theorem execFdivS_keeps {o : State} : ∀ x0 x1 x2 x3 x4, Keep o x4 → KeepX o (execFdivS x0 x1 x2 x3 x4) := by
  intro x0 x1 x2 x3 x4 h0
  unfold execFdivS
  with_reducible repeat' (first | assumption | apply runBody_keeps)

theorem execFmaD_keeps {o : State} : ∀ x0 x1 x2 x3 x4, Keep o x4 → KeepX o (execFmaD x0 x1 x2 x3 x4) := by
  intro x0 x1 x2 x3 x4 h0
  unfold execFmaD
  with_reducible repeat' (first | assumption | apply runBody_keeps)

theorem execFmaS_keeps {o : State} : ∀ x0 x1 x2 x3 x4, Keep o x4 → KeepX o (execFmaS x0 x1 x2 x3 x4) := by
  intro x0 x1 x2 x3 x4 h0
  unfold execFmaS
  with_reducible repeat' (first | assumption | apply runBody_keeps)

theorem execFmsD_keeps {o : State} : ∀ x0 x1 x2 x3 x4, Keep o x4 → KeepX o (execFmsD x0 x1 x2 x3 x4) := by
  intro x0 x1 x2 x3 x4 h0
  unfold execFmsD
  with_reducible repeat' (first | assumption | apply runBody_keeps)

theorem execFmsS_keeps {o : State} : ∀ x0 x1 x2 x3 x4, Keep o x4 → KeepX o (execFmsS x0 x1 x2 x3 x4) := by
  intro x0 x1 x2 x3 x4 h0
  unfold execFmsS
  with_reducible repeat' (first | assumption | apply runBody_keeps)

theorem execFsqrtD_keeps {o : State} : ∀ x0 x1 x2 x3 x4, Keep o x4 → KeepX o (execFsqrtD x0 x1 x2 x3 x4) := by
  intro x0 x1 x2 x3 x4 h0
  unfold execFsqrtD
  with_reducible repeat' (first | assumption | apply runBody_keeps)

theorem execFsqrtS_keeps {o : State} : ∀ x0 x1 x2 x3 x4, Keep o x4 → KeepX o (execFsqrtS x0 x1 x2 x3 x4) := by
  intro x0 x1 x2 x3 x4 h0
  unfold execFsqrtS
  with_reducible repeat' (first | assumption | apply runBody_keeps)

theorem execFminD_keeps {o : State} : ∀ x0 x1 x2 x3 x4, Keep o x4 → KeepX o (execFminD x0 x1 x2 x3 x4) := by
  intro x0 x1 x2 x3 x4 h0
  unfold execFminD
  with_reducible repeat' (first | assumption | apply runBody_keeps)

theorem execFmaxD_keeps {o : State} : ∀ x0 x1 x2 x3 x4, Keep o x4 → KeepX o (execFmaxD x0 x1 x2 x3 x4) := by
  intro x0 x1 x2 x3 x4 h0
  unfold execFmaxD
  with_reducible repeat' (first | assumption | apply runBody_keeps)

theorem execFcmpD_keeps {o : State} : ∀ x0 x1 x2 x3 x4, Keep o x4 → KeepX o (execFcmpD x0 x1 x2 x3 x4) := by
  intro x0 x1 x2 x3 x4 h0
  unfold execFcmpD
  with_reducible repeat' (first | assumption | apply runBody_keeps)

theorem execFcmpS_keeps {o : State} : ∀ x0 x1 x2 x3 x4, Keep o x4 → KeepX o (execFcmpS x0 x1 x2 x3 x4) := by
  intro x0 x1 x2 x3 x4 h0
  unfold execFcmpS
  with_reducible repeat' (first | assumption | apply runBody_keeps)

theorem execFnegD_keeps {o : State} : ∀ x0 x1 x2 x3 x4, Keep o x4 → KeepX o (execFnegD x0 x1 x2 x3 x4) := by
  intro x0 x1 x2 x3 x4 h0
  unfold execFnegD
  with_reducible repeat' (first | assumption | apply runBody_keeps)

theorem execFabsD_keeps {o : State} : ∀ x0 x1 x2 x3 x4, Keep o x4 → KeepX o (execFabsD x0 x1 x2 x3 x4) := by
  intro x0 x1 x2 x3 x4 h0
  unfold execFabsD
  with_reducible repeat' (first | assumption | apply runBody_keeps)

theorem execFcvtSd_keeps {o : State} : ∀ x0 x1 x2 x3 x4, Keep o x4 → KeepX o (execFcvtSd x0 x1 x2 x3 x4) := by
  intro x0 x1 x2 x3 x4 h0
  unfold execFcvtSd
  with_reducible repeat' (first | assumption | apply runBody_keeps)

theorem execFcvtDs_keeps {o : State} : ∀ x0 x1 x2 x3 x4, Keep o x4 → KeepX o (execFcvtDs x0 x1 x2 x3 x4) := by
  intro x0 x1 x2 x3 x4 h0
  unfold execFcvtDs
  with_reducible repeat' (first | assumption | apply runBody_keeps)

theorem execFitofD_keeps {o : State} : ∀ x0 x1 x2 x3 x4, Keep o x4 → KeepX o (execFitofD x0 x1 x2 x3 x4) := by
  intro x0 x1 x2 x3 x4 h0
  unfold execFitofD
  with_reducible repeat' (first | assumption | apply runBody_keeps)

theorem execFftoiD_keeps {o : State} : ∀ x0 x1 x2 x3 x4, Keep o x4 → KeepX o (execFftoiD x0 x1 x2 x3 x4) := by
  intro x0 x1 x2 x3 x4 h0
  unfold execFftoiD
  with_reducible repeat' (first | assumption | apply runBody_keeps)

theorem execFmvwD_keeps {o : State} : ∀ x0 x1 x2 x3 x4, Keep o x4 → KeepX o (execFmvwD x0 x1 x2 x3 x4) := by
  intro x0 x1 x2 x3 x4 h0
  unfold execFmvwD
  with_reducible repeat' (first | assumption | apply runBody_keeps)

theorem execFmvwS_keeps {o : State} : ∀ x0 x1 x2 x3 x4, Keep o x4 → KeepX o (execFmvwS x0 x1 x2 x3 x4) := by
  intro x0 x1 x2 x3 x4 h0
  unfold execFmvwS
  with_reducible repeat' (first | assumption | apply runBody_keeps)

theorem execWmvfD_keeps {o : State} : ∀ x0 x1 x2 x3 x4, Keep o x4 → KeepX o (execWmvfD x0 x1 x2 x3 x4) := by
  intro x0 x1 x2 x3 x4 h0
  unfold execWmvfD
  with_reducible repeat' (first | assumption | apply runBody_keeps)

theorem execWmvfS_keeps {o : State} : ∀ x0 x1 x2 x3 x4, Keep o x4 → KeepX o (execWmvfS x0 x1 x2 x3 x4) := by
  intro x0 x1 x2 x3 x4 h0
  unfold execWmvfS
  with_reducible repeat' (first | assumption | apply runBody_keeps)

theorem execBCond_keeps {o : State} : ∀ x0 x1 x2 x3, Keep o x3 → KeepX o (execBCond x0 x1 x2 x3) := by
  intro x0 x1 x2 x3 h0
  unfold execBCond
  with_reducible repeat' (first | assumption | apply runBody_keeps)

theorem execBra_keeps {o : State} : ∀ x0 x1 x2, Keep o x2 → KeepX o (execBra x0 x1 x2) := by
  intro x0 x1 x2 h0
  unfold execBra
  with_reducible repeat' (first | assumption | apply runBody_keeps)

theorem execJr_keeps {o : State} : ∀ x0 x1 x2 x3 x4, Keep o x4 → KeepX o (execJr x0 x1 x2 x3 x4) := by
  intro x0 x1 x2 x3 x4 h0
  unfold execJr
  with_reducible repeat' (first | assumption | apply runBody_keeps)

/-! ### Jtag -/

theorem State.jtagLoad_keeps {o : State} : ∀ x0 x1 x2, Keep o x0 → Keep o (State.jtagLoad x0 x1 x2) := by
  intro x0 x1 x2 h0
  unfold State.jtagLoad
  with_reducible repeat' (first | assumption | apply keep_ite | (apply keep_same <;> first | assumption))

theorem execJtagBypass_keeps {o : State} : ∀ x0, Keep o x0 → KeepX o (execJtagBypass x0) := by
  intro x0 h0
  unfold execJtagBypass
  with_reducible repeat' (first | assumption | apply keepX_next | apply State.jtagLoad_keeps)

theorem execJtagIdcode_keeps {o : State} : ∀ x0, Keep o x0 → KeepX o (execJtagIdcode x0) := by
  intro x0 h0
  unfold execJtagIdcode
  with_reducible repeat' (first | assumption | apply keepX_next | apply State.jtagLoad_keeps)

theorem State.boundaryScan_keeps {o : State} : ∀ x0 x1 x2, Keep o x0 → Keep o (State.boundaryScan x0 x1 x2) := by
  intro x0 x1 x2 h0
  unfold State.boundaryScan
  with_reducible repeat' (first | assumption | apply keep_ite | (apply keep_same <;> first | assumption))

theorem execJtagSamplePreload_keeps {o : State} : ∀ x0 x1, Keep o x1 → KeepX o (execJtagSamplePreload x0 x1) := by
  intro x0 x1 h0
  unfold execJtagSamplePreload
  with_reducible repeat' (first | assumption | apply keepX_next | apply State.boundaryScan_keeps)

theorem execJtagExtest_keeps {o : State} : ∀ x0 x1, Keep o x1 → KeepX o (execJtagExtest x0 x1) := by
  intro x0 x1 h0
  unfold execJtagExtest
  with_reducible repeat' (first | assumption | apply keepX_next | apply State.boundaryScan_keeps)

theorem execJtagClamp_keeps {o : State} : ∀ x0, Keep o x0 → KeepX o (execJtagClamp x0) := by
  intro x0 h0
  unfold execJtagClamp
  with_reducible repeat' (first | assumption | apply keepX_next | apply State.jtagLoad_keeps)

theorem execJtagHighz_keeps {o : State} : ∀ x0, Keep o x0 → KeepX o (execJtagHighz x0) := by
  intro x0 h0
  unfold execJtagHighz
  with_reducible repeat' (first | assumption | apply keepX_next | apply State.jtagLoad_keeps)

theorem execDbgacc_keeps {o : State} : ∀ x0 x1 x2, Keep o x2 → KeepX o (execDbgacc x0 x1 x2) := by
  intro x0 x1 x2 h0
  unfold execDbgacc
  with_reducible repeat' (first
    | assumption | apply keep_ite | apply keepX_next | apply keepX_ite | apply State.jtagLoad_keeps
    | apply State.request_keeps | (apply keep_same <;> first | assumption))

theorem State.dbgctx_keeps {o : State} : ∀ x0 x1, Keep o x0 → (∀ y0, Keep o y0 → Keep o (x1 y0)) → Keep o (State.dbgctx x0 x1) := by
  intro x0 x1 h0 h1
  unfold State.dbgctx
  with_reducible repeat' (first | assumption | apply keep_ite | apply State.jtagLoad_keeps | apply_assumption)

theorem State.dbgOne_keeps {o : State} : ∀ x0 x1 x2, Keep o x0 → (∀ y0, Keep o y0 → Keep o (x2 y0)) → KeepX o (State.dbgOne x0 x1 x2) := by
  intro x0 x1 x2 h0 h1
  unfold State.dbgOne
  with_reducible repeat' (first
    | assumption | apply keepX_next | exact keepX_fault | apply keepX_ite | apply State.dbgctx_keeps)

theorem execDbgctxHalt_keeps {o : State} : ∀ x0 x1, Keep o x1 → KeepX o (execDbgctxHalt x0 x1) := by
  intro x0 x1 h0
  unfold execDbgctxHalt
  with_reducible repeat' (first
    | assumption | intro _ | apply keep_ite | apply State.dbgOne_keeps | apply State.schedule_keeps
    | apply State.setCtx_keeps)

theorem State.unhalt_keeps {o : State} : ∀ x0 x1 x2, Keep o x0 → Keep o (State.unhalt x0 x1 x2) := by
  intro x0 x1 x2 h0
  unfold State.unhalt
  with_reducible repeat' (first | assumption | apply keep_ite | apply State.schedule_keeps | apply State.setCtx_keeps)

theorem execDbgctxStep_keeps {o : State} : ∀ x0 x1, Keep o x1 → KeepX o (execDbgctxStep x0 x1) := by
  intro x0 x1 h0
  unfold execDbgctxStep
  with_reducible repeat' (first | assumption | intro _ | apply State.dbgOne_keeps | apply State.unhalt_keeps)

theorem execDbgctxResume_keeps {o : State} : ∀ x0 x1, Keep o x1 → KeepX o (execDbgctxResume x0 x1) := by
  intro x0 x1 h0
  unfold execDbgctxResume
  with_reducible repeat' (first | assumption | intro _ | apply State.dbgOne_keeps | apply State.unhalt_keeps)

theorem execDbgctxBrkEnable_keeps {o : State} : ∀ x0, Keep o x0 → KeepX o (execDbgctxBrkEnable x0) := by
  intro x0 h0
  unfold execDbgctxBrkEnable
  with_reducible repeat' (first
    | assumption | intro _ | apply keepX_next | apply State.dbgctx_keeps | (apply keep_same <;> first | assumption))

theorem execDbgctxBrkDisable_keeps {o : State} : ∀ x0, Keep o x0 → KeepX o (execDbgctxBrkDisable x0) := by
  intro x0 h0
  unfold execDbgctxBrkDisable
  with_reducible repeat' (first
    | assumption | intro _ | apply keepX_next | apply State.dbgctx_keeps | (apply keep_same <;> first | assumption))

/-! ### Queues -/

theorem State.atQueue_keeps {o : State} : ∀ x0 x1 x2 x3 x4 x5, Keep o x0 → (∀ y0, Keep o y0 → Keep o (x5 y0)) → KeepX o (State.atQueue x0 x1 x2 x3 x4 x5) := by
  intro x0 x1 x2 x3 x4 x5 h0 h1
  unfold State.atQueue
  with_reducible repeat' (first
    | assumption | intro _ | apply keepX_next | apply keepX_ite | apply State.arriveReq_keeps
    | apply State.answer_keeps | apply_assumption)

theorem execQueuePut_keeps {o : State} : ∀ x0 x1 x2 x3, Keep o x3 → KeepX o (execQueuePut x0 x1 x2 x3) := by
  intro x0 x1 x2 x3 h0
  unfold execQueuePut
  with_reducible repeat' (first
    | assumption | intro _ | apply State.atQueue_keeps | apply State.qPut_keeps | apply State.answerData_keeps)

theorem State.qChecked_keeps {o : State} : ∀ x0 x1 x2 x3, Keep o x0 → Keep o (State.qChecked x0 x1 x2 x3) := by
  intro x0 x1 x2 x3 h0
  unfold State.qChecked
  with_reducible repeat' (first
    | assumption | apply keep_ite | apply State.qGet_keeps | apply State.answerData_keeps | apply State.bump_keeps
    | apply State.answer_keeps | apply State.log_keeps | apply State.qDrop_keeps | split)

theorem execQueueGet_keeps {o : State} : ∀ x0 x1 x2 x3, Keep o x3 → KeepX o (execQueueGet x0 x1 x2 x3) := by
  intro x0 x1 x2 x3 h0
  unfold execQueueGet
  with_reducible repeat' (first | assumption | intro _ | apply State.atQueue_keeps | apply State.qChecked_keeps)

theorem execQueueCommit_keeps {o : State} : ∀ x0 x1 x2, Keep o x2 → KeepX o (execQueueCommit x0 x1 x2) := by
  intro x0 x1 x2 h0
  unfold execQueueCommit
  with_reducible repeat' (first
    | assumption | intro _ | apply keepX_next | apply keepX_ite | apply State.arrivePosted_keeps
    | apply State.qCommit_keeps | apply State.atQueue_keeps | apply State.answer_keeps)

theorem execQueueRewind_keeps {o : State} : ∀ x0 x1 x2, Keep o x2 → KeepX o (execQueueRewind x0 x1 x2) := by
  intro x0 x1 x2 h0
  unfold execQueueRewind
  with_reducible repeat' (first
    | assumption | intro _ | apply State.atQueue_keeps | apply State.answer_keeps | apply State.qRewind_keeps)

theorem execQueueDrop_keeps {o : State} : ∀ x0 x1 x2, Keep o x2 → KeepX o (execQueueDrop x0 x1 x2) := by
  intro x0 x1 x2 h0
  unfold execQueueDrop
  with_reducible repeat' (first
    | assumption | intro _ | apply State.atQueue_keeps | apply State.answer_keeps | apply State.qDrop_keeps)

theorem execQueueStatus_keeps {o : State} : ∀ x0 x1 x2, Keep o x2 → KeepX o (execQueueStatus x0 x1 x2) := by
  intro x0 x1 x2 h0
  unfold execQueueStatus
  with_reducible repeat' (first | assumption | intro _ | apply State.atQueue_keeps | apply State.answerData_keeps)

theorem execPstatus_keeps {o : State} : ∀ x0 x1 x2, Keep o x2 → KeepX o (execPstatus x0 x1 x2) := by
  intro x0 x1 x2 h0
  unfold execPstatus
  with_reducible repeat' (first | assumption | intro _ | apply State.atQueue_keeps | apply State.answerData_keeps)

theorem execQueueRecord_keeps {o : State} : ∀ x0 x1 x2 x3, Keep o x3 → KeepX o (execQueueRecord x0 x1 x2 x3) := by
  intro x0 x1 x2 x3 h0
  unfold execQueueRecord
  with_reducible repeat' (first
    | assumption | apply keep_ite | apply keepX_next | apply State.take_keeps | apply State.passes_keeps
    | apply State.qRecord_keeps | split)

theorem State.atLocket_keeps {o : State} : ∀ x0 x1 x2 x3 x4 x5, Keep o x0 → (∀ y0, Keep o y0 → Keep o (x5 y0)) → KeepX o (State.atLocket x0 x1 x2 x3 x4 x5) := by
  intro x0 x1 x2 x3 x4 x5 h0 h1
  unfold State.atLocket
  with_reducible repeat' (first
    | assumption | intro _ | apply keepX_next | apply keepX_ite | apply State.arriveReq_keeps
    | apply State.answer_keeps | apply State.shadowLegacy_keeps | apply_assumption)

theorem State.tryLocket_keeps {o : State} : ∀ x0 x1 x2, Keep o x0 → Keep o (State.tryLocket x0 x1 x2) := by
  intro x0 x1 x2 h0
  unfold State.tryLocket
  with_reducible repeat' (first
    | assumption | apply keep_ite | apply State.lkTry_keeps | apply State.answerData_keeps
    | apply State.lkOrphan_keeps)

theorem execLockTry_keeps {o : State} : ∀ x0 x1 x2, Keep o x2 → KeepX o (execLockTry x0 x1 x2) := by
  intro x0 x1 x2 h0
  unfold execLockTry
  with_reducible repeat' (first | assumption | intro _ | apply State.atLocket_keeps | apply State.tryLocket_keeps)

theorem execLockWait_keeps {o : State} : ∀ x0 x1 x2, Keep o x2 → KeepX o (execLockWait x0 x1 x2) := by
  intro x0 x1 x2 h0
  unfold execLockWait
  with_reducible repeat' (first
    | assumption | intro _ | apply keep_ite | apply State.atLocket_keeps | apply State.tryLocket_keeps
    | apply State.setLocket_keeps)

theorem execWaitTimeout_keeps {o : State} : ∀ x0 x1 x2, Keep o x2 → KeepX o (execWaitTimeout x0 x1 x2) := by
  intro x0 x1 x2 h0
  unfold execWaitTimeout
  with_reducible repeat' (first
    | assumption | apply keepX_next | apply keepX_ite | apply State.answerData_keeps | apply State.bump_keeps
    | apply State.setLocket_keeps | dsimp only | split)

theorem execLockPeek_keeps {o : State} : ∀ x0 x1 x2, Keep o x2 → KeepX o (execLockPeek x0 x1 x2) := by
  intro x0 x1 x2 h0
  unfold execLockPeek
  with_reducible repeat' (first | assumption | intro _ | apply State.atLocket_keeps | apply State.answerData_keeps)

theorem execLocketRelease_keeps {o : State} : ∀ x0 x1 x2, Keep o x2 → KeepX o (execLocketRelease x0 x1 x2) := by
  intro x0 x1 x2 h0
  unfold execLocketRelease
  with_reducible repeat' (first
    | assumption | intro _ | apply keep_ite | apply State.atLocket_keeps | apply State.answer_keeps
    | apply State.lkFree_keeps | apply State.lkForeign_keeps)

theorem execLocketRecovery_keeps {o : State} : ∀ x0 x1 x2, Keep o x2 → KeepX o (execLocketRecovery x0 x1 x2) := by
  intro x0 x1 x2 h0
  unfold execLocketRecovery
  with_reducible repeat' (first
    | assumption | intro _ | apply keep_ite | apply State.atLocket_keeps | apply State.answer_keeps
    | apply State.lkFree_keeps)

theorem execLockForce_keeps {o : State} : ∀ x0 x1 x2 x3, Keep o x3 → KeepX o (execLockForce x0 x1 x2 x3) := by
  intro x0 x1 x2 x3 h0
  unfold execLockForce
  with_reducible repeat' (first
    | assumption | intro _ | apply keep_ite | exact keepX_fault | apply keepX_ite | apply State.wardenWrite_keeps
    | apply State.lkFree_keeps)

/-! ### RegAccess -/

theorem State.wholeAction_keeps {o : State} : ∀ x0 x1 x2 x3 x4, Keep o x0 → KeepOX o (State.wholeAction x0 x1 x2 x3 x4) := by
  intro x0 x1 x2 x3 x4 h0
  unfold State.wholeAction
  with_reducible repeat' (first
    | assumption | intro _ | exact keepOX_none | apply keepOX_some | apply keepOX_ite | apply State.wardenWhole_keeps
    | apply State.ctlWrite_keeps | apply State.openWhole_keeps | apply State.logWrite_keeps
    | apply State.updWrite_keeps | apply State.flashWrite_keeps | apply State.xWrite_keeps
    | apply State.tenWrite_keeps | apply execRailClr_keeps | apply execTimeStep_keeps | apply execCellRecover_keeps)

theorem State.wordAction_keeps {o : State} : ∀ x0 x1 x2 x3, Keep o x0 → KeepOX o (State.wordAction x0 x1 x2 x3) := by
  intro x0 x1 x2 x3 h0
  unfold State.wordAction
  with_reducible repeat' (first
    | assumption | exact keepOX_none | apply keepOX_some | apply keepOX_ite | apply execPairSimplex_keeps
    | apply execPavRetire_keeps | apply execPavilionFence_keeps | apply execVsetMv_keeps | apply execReqRet_keeps
    | apply execReqOff_keeps | apply execReqWake_keeps | apply execStandbyEntry_keeps | apply execWardenReset_keeps
    | apply execFuseBurn_keeps | apply execFuseRevoke_keeps | apply execFuseRaiseSvn_keeps
    | apply execPtpOffset_keeps | apply execNodeIso_keeps | apply execLockForce_keeps | apply execCalgo_keeps
    | apply execLinkEnable_keeps | apply execLegacyEnable_keeps | apply execAlertRequest_keeps
    | apply execStateFlush_keeps | split)

theorem State.writeAction_keeps {o : State} : ∀ x0 x1 x2 x3, Keep o x0 → KeepOX o (State.writeAction x0 x1 x2 x3) := by
  intro x0 x1 x2 x3 h0
  unfold State.writeAction
  with_reducible repeat' (first
    | assumption | exact keepOX_none | apply keepOX_ite | apply State.wordAction_keeps
    | apply State.wholeAction_keeps | split)

theorem execRegisterWrite_keeps {o : State} : ∀ x0 x1 x2 x3, Keep o x3 → KeepX o (execRegisterWrite x0 x1 x2 x3) := by
  intro q a v s h
  unfold execRegisterWrite
  have hw := State.writeAction_keeps s q a v h
  split
  · rename_i e
    exact keep_ofOX hw e
  · refine State.arriveReq_keeps _ _ _ _ _ h (fun s1 h1 => ?_)
    split
    · refine keepX_next (State.answer_keeps _ _ _ ?_)
      split
      · exact State.codeStore_keeps _ _ _ _ h1
      · exact State.regWrite_keeps _ _ _ _ h1
    · exact keepX_next (State.refuseDomain_keeps _ _ _ _ h1)


theorem execRegisterRead_keeps {o : State} : ∀ x0 x1 x2, Keep o x2 → KeepX o (execRegisterRead x0 x1 x2) := by
  intro x0 x1 x2 h0
  unfold execRegisterRead
  with_reducible repeat' (first
    | assumption | intro _ | apply keepX_next | apply keepX_ite | apply State.arriveReq_keeps
    | apply State.regRead_keeps | apply State.answerData_keeps | apply State.refuseDomain_keeps)

end Sys2Proof.Machine
end

