-- ==== Sys2Proof/Laws/State.lean ====
section
/-! SUPPORT. What the named updates of State leave alone, one lemma per field and update, and what the views read after
them. -/

namespace Sys2Proof.Machine

section
variable (s : State)

/-! ### setCtx -/

@[simp] theorem State.setCtx_pending (c : CtxId) (x : Context) : (s.setCtx c x).pending = s.pending := rfl
@[simp] theorem State.setCtx_member (c : CtxId) (x : Context) : (s.setCtx c x).member = s.member := rfl
@[simp] theorem State.setCtx_die (c : CtxId) (x : Context) : (s.setCtx c x).die = s.die := rfl
@[simp] theorem State.setCtx_flight (c : CtxId) (x : Context) : (s.setCtx c x).flight = s.flight := rfl
@[simp] theorem State.setCtx_regs (c : CtxId) (x : Context) : (s.setCtx c x).regs = s.regs := rfl
@[simp] theorem State.setCtx_free (c : CtxId) (x : Context) : (s.setCtx c x).free = s.free := rfl
@[simp] theorem State.setCtx_clock (c : CtxId) (x : Context) : (s.setCtx c x).clock = s.clock := rfl
@[simp] theorem State.setCtx_keeper (c : CtxId) (x : Context) : (s.setCtx c x).keeper = s.keeper := rfl
@[simp] theorem State.setCtx_store (c : CtxId) (x : Context) : (s.setCtx c x).store = s.store := rfl
@[simp] theorem State.setCtx_hub (c : CtxId) (x : Context) : (s.setCtx c x).hub = s.hub := rfl
@[simp] theorem State.setCtx_net (c : CtxId) (x : Context) : (s.setCtx c x).net = s.net := rfl
@[simp] theorem State.setCtx_memory (c : CtxId) (x : Context) : (s.setCtx c x).memory = s.memory := rfl
@[simp] theorem State.setCtx_coh (c : CtxId) (x : Context) : (s.setCtx c x).coh = s.coh := rfl
@[simp] theorem State.setCtx_banks (c : CtxId) (x : Context) : (s.setCtx c x).banks = s.banks := rfl
@[simp] theorem State.setCtx_bufs (c : CtxId) (x : Context) : (s.setCtx c x).bufs = s.bufs := rfl
@[simp] theorem State.setCtx_host (c : CtxId) (x : Context) : (s.setCtx c x).host = s.host := rfl
@[simp] theorem State.setCtx_fsl (c : CtxId) (x : Context) : (s.setCtx c x).fsl = s.fsl := rfl
@[simp] theorem State.setCtx_ports (c : CtxId) (x : Context) : (s.setCtx c x).ports = s.ports := rfl
@[simp] theorem State.setCtx_jtag (c : CtxId) (x : Context) : (s.setCtx c x).jtag = s.jtag := rfl
@[simp] theorem State.setCtx_power (c : CtxId) (x : Context) : (s.setCtx c x).power = s.power := rfl
@[simp] theorem State.setCtx_leg (c : CtxId) (x : Context) : (s.setCtx c x).leg = s.leg := rfl
@[simp] theorem State.setCtx_evlog (c : CtxId) (x : Context) : (s.setCtx c x).evlog = s.evlog := rfl
@[simp] theorem State.setCtx_pair (c : CtxId) (x : Context) : (s.setCtx c x).pair = s.pair := rfl
@[simp] theorem State.setCtx_ethSent (c : CtxId) (x : Context) : (s.setCtx c x).ethSent = s.ethSent := rfl
@[simp] theorem State.setCtx_fil (c : CtxId) (x : Context) : (s.setCtx c x).fil = s.fil := rfl
@[simp] theorem State.setCtx_i2cOut (c : CtxId) (x : Context) : (s.setCtx c x).i2cOut = s.i2cOut := rfl

/-! ### setReg -/

@[simp] theorem State.setReg_pending (a : Nat) (v : Word) : (s.setReg a v).pending = s.pending := rfl
@[simp] theorem State.setReg_member (a : Nat) (v : Word) : (s.setReg a v).member = s.member := rfl
@[simp] theorem State.setReg_die (a : Nat) (v : Word) : (s.setReg a v).die = s.die := rfl
@[simp] theorem State.setReg_flight (a : Nat) (v : Word) : (s.setReg a v).flight = s.flight := rfl
@[simp] theorem State.setReg_free (a : Nat) (v : Word) : (s.setReg a v).free = s.free := rfl
@[simp] theorem State.setReg_clock (a : Nat) (v : Word) : (s.setReg a v).clock = s.clock := rfl
@[simp] theorem State.setReg_keeper (a : Nat) (v : Word) : (s.setReg a v).keeper = s.keeper := rfl
@[simp] theorem State.setReg_strands (a : Nat) (v : Word) : (s.setReg a v).strands = s.strands := rfl
@[simp] theorem State.setReg_store (a : Nat) (v : Word) : (s.setReg a v).store = s.store := rfl
@[simp] theorem State.setReg_hub (a : Nat) (v : Word) : (s.setReg a v).hub = s.hub := rfl
@[simp] theorem State.setReg_net (a : Nat) (v : Word) : (s.setReg a v).net = s.net := rfl
@[simp] theorem State.setReg_memory (a : Nat) (v : Word) : (s.setReg a v).memory = s.memory := rfl
@[simp] theorem State.setReg_coh (a : Nat) (v : Word) : (s.setReg a v).coh = s.coh := rfl
@[simp] theorem State.setReg_banks (a : Nat) (v : Word) : (s.setReg a v).banks = s.banks := rfl
@[simp] theorem State.setReg_bufs (a : Nat) (v : Word) : (s.setReg a v).bufs = s.bufs := rfl
@[simp] theorem State.setReg_host (a : Nat) (v : Word) : (s.setReg a v).host = s.host := rfl
@[simp] theorem State.setReg_fsl (a : Nat) (v : Word) : (s.setReg a v).fsl = s.fsl := rfl
@[simp] theorem State.setReg_ports (a : Nat) (v : Word) : (s.setReg a v).ports = s.ports := rfl
@[simp] theorem State.setReg_jtag (a : Nat) (v : Word) : (s.setReg a v).jtag = s.jtag := rfl
@[simp] theorem State.setReg_power (a : Nat) (v : Word) : (s.setReg a v).power = s.power := rfl
@[simp] theorem State.setReg_leg (a : Nat) (v : Word) : (s.setReg a v).leg = s.leg := rfl
@[simp] theorem State.setReg_evlog (a : Nat) (v : Word) : (s.setReg a v).evlog = s.evlog := rfl
@[simp] theorem State.setReg_pair (a : Nat) (v : Word) : (s.setReg a v).pair = s.pair := rfl
@[simp] theorem State.setReg_ethSent (a : Nat) (v : Word) : (s.setReg a v).ethSent = s.ethSent := rfl
@[simp] theorem State.setReg_fil (a : Nat) (v : Word) : (s.setReg a v).fil = s.fil := rfl
@[simp] theorem State.setReg_i2cOut (a : Nat) (v : Word) : (s.setReg a v).i2cOut = s.i2cOut := rfl

/-! ### setRegField -/

@[simp] theorem State.setRegField_pending (a lo len v : Nat) : (s.setRegField a lo len v).pending = s.pending := rfl
@[simp] theorem State.setRegField_member (a lo len v : Nat) : (s.setRegField a lo len v).member = s.member := rfl
@[simp] theorem State.setRegField_die (a lo len v : Nat) : (s.setRegField a lo len v).die = s.die := rfl
@[simp] theorem State.setRegField_flight (a lo len v : Nat) : (s.setRegField a lo len v).flight = s.flight := rfl
@[simp] theorem State.setRegField_free (a lo len v : Nat) : (s.setRegField a lo len v).free = s.free := rfl
@[simp] theorem State.setRegField_clock (a lo len v : Nat) : (s.setRegField a lo len v).clock = s.clock := rfl
@[simp] theorem State.setRegField_keeper (a lo len v : Nat) : (s.setRegField a lo len v).keeper = s.keeper := rfl
@[simp] theorem State.setRegField_strands (a lo len v : Nat) : (s.setRegField a lo len v).strands = s.strands := rfl
@[simp] theorem State.setRegField_store (a lo len v : Nat) : (s.setRegField a lo len v).store = s.store := rfl
@[simp] theorem State.setRegField_hub (a lo len v : Nat) : (s.setRegField a lo len v).hub = s.hub := rfl
@[simp] theorem State.setRegField_net (a lo len v : Nat) : (s.setRegField a lo len v).net = s.net := rfl
@[simp] theorem State.setRegField_memory (a lo len v : Nat) : (s.setRegField a lo len v).memory = s.memory := rfl
@[simp] theorem State.setRegField_coh (a lo len v : Nat) : (s.setRegField a lo len v).coh = s.coh := rfl
@[simp] theorem State.setRegField_banks (a lo len v : Nat) : (s.setRegField a lo len v).banks = s.banks := rfl
@[simp] theorem State.setRegField_bufs (a lo len v : Nat) : (s.setRegField a lo len v).bufs = s.bufs := rfl
@[simp] theorem State.setRegField_host (a lo len v : Nat) : (s.setRegField a lo len v).host = s.host := rfl
@[simp] theorem State.setRegField_fsl (a lo len v : Nat) : (s.setRegField a lo len v).fsl = s.fsl := rfl
@[simp] theorem State.setRegField_ports (a lo len v : Nat) : (s.setRegField a lo len v).ports = s.ports := rfl
@[simp] theorem State.setRegField_jtag (a lo len v : Nat) : (s.setRegField a lo len v).jtag = s.jtag := rfl
@[simp] theorem State.setRegField_power (a lo len v : Nat) : (s.setRegField a lo len v).power = s.power := rfl
@[simp] theorem State.setRegField_leg (a lo len v : Nat) : (s.setRegField a lo len v).leg = s.leg := rfl
@[simp] theorem State.setRegField_evlog (a lo len v : Nat) : (s.setRegField a lo len v).evlog = s.evlog := rfl
@[simp] theorem State.setRegField_pair (a lo len v : Nat) : (s.setRegField a lo len v).pair = s.pair := rfl
@[simp] theorem State.setRegField_ethSent (a lo len v : Nat) : (s.setRegField a lo len v).ethSent = s.ethSent := rfl
@[simp] theorem State.setRegField_fil (a lo len v : Nat) : (s.setRegField a lo len v).fil = s.fil := rfl
@[simp] theorem State.setRegField_i2cOut (a lo len v : Nat) : (s.setRegField a lo len v).i2cOut = s.i2cOut := rfl

/-! ### bump -/

@[simp] theorem State.bump_pending (a : Nat) : (s.bump a).pending = s.pending := rfl
@[simp] theorem State.bump_member (a : Nat) : (s.bump a).member = s.member := rfl
@[simp] theorem State.bump_die (a : Nat) : (s.bump a).die = s.die := rfl
@[simp] theorem State.bump_flight (a : Nat) : (s.bump a).flight = s.flight := rfl
@[simp] theorem State.bump_free (a : Nat) : (s.bump a).free = s.free := rfl
@[simp] theorem State.bump_clock (a : Nat) : (s.bump a).clock = s.clock := rfl
@[simp] theorem State.bump_keeper (a : Nat) : (s.bump a).keeper = s.keeper := rfl
@[simp] theorem State.bump_strands (a : Nat) : (s.bump a).strands = s.strands := rfl
@[simp] theorem State.bump_store (a : Nat) : (s.bump a).store = s.store := rfl
@[simp] theorem State.bump_hub (a : Nat) : (s.bump a).hub = s.hub := rfl
@[simp] theorem State.bump_net (a : Nat) : (s.bump a).net = s.net := rfl
@[simp] theorem State.bump_memory (a : Nat) : (s.bump a).memory = s.memory := rfl
@[simp] theorem State.bump_coh (a : Nat) : (s.bump a).coh = s.coh := rfl
@[simp] theorem State.bump_banks (a : Nat) : (s.bump a).banks = s.banks := rfl
@[simp] theorem State.bump_bufs (a : Nat) : (s.bump a).bufs = s.bufs := rfl
@[simp] theorem State.bump_host (a : Nat) : (s.bump a).host = s.host := rfl
@[simp] theorem State.bump_fsl (a : Nat) : (s.bump a).fsl = s.fsl := rfl
@[simp] theorem State.bump_ports (a : Nat) : (s.bump a).ports = s.ports := rfl
@[simp] theorem State.bump_jtag (a : Nat) : (s.bump a).jtag = s.jtag := rfl
@[simp] theorem State.bump_power (a : Nat) : (s.bump a).power = s.power := rfl
@[simp] theorem State.bump_leg (a : Nat) : (s.bump a).leg = s.leg := rfl
@[simp] theorem State.bump_evlog (a : Nat) : (s.bump a).evlog = s.evlog := rfl
@[simp] theorem State.bump_pair (a : Nat) : (s.bump a).pair = s.pair := rfl
@[simp] theorem State.bump_ethSent (a : Nat) : (s.bump a).ethSent = s.ethSent := rfl
@[simp] theorem State.bump_fil (a : Nat) : (s.bump a).fil = s.fil := rfl
@[simp] theorem State.bump_i2cOut (a : Nat) : (s.bump a).i2cOut = s.i2cOut := rfl

/-! ### bumpBy -/

@[simp] theorem State.bumpBy_pending (a n : Nat) : (s.bumpBy a n).pending = s.pending := rfl
@[simp] theorem State.bumpBy_member (a n : Nat) : (s.bumpBy a n).member = s.member := rfl
@[simp] theorem State.bumpBy_die (a n : Nat) : (s.bumpBy a n).die = s.die := rfl
@[simp] theorem State.bumpBy_flight (a n : Nat) : (s.bumpBy a n).flight = s.flight := rfl
@[simp] theorem State.bumpBy_free (a n : Nat) : (s.bumpBy a n).free = s.free := rfl
@[simp] theorem State.bumpBy_clock (a n : Nat) : (s.bumpBy a n).clock = s.clock := rfl
@[simp] theorem State.bumpBy_keeper (a n : Nat) : (s.bumpBy a n).keeper = s.keeper := rfl
@[simp] theorem State.bumpBy_strands (a n : Nat) : (s.bumpBy a n).strands = s.strands := rfl
@[simp] theorem State.bumpBy_store (a n : Nat) : (s.bumpBy a n).store = s.store := rfl
@[simp] theorem State.bumpBy_hub (a n : Nat) : (s.bumpBy a n).hub = s.hub := rfl
@[simp] theorem State.bumpBy_net (a n : Nat) : (s.bumpBy a n).net = s.net := rfl
@[simp] theorem State.bumpBy_memory (a n : Nat) : (s.bumpBy a n).memory = s.memory := rfl
@[simp] theorem State.bumpBy_coh (a n : Nat) : (s.bumpBy a n).coh = s.coh := rfl
@[simp] theorem State.bumpBy_banks (a n : Nat) : (s.bumpBy a n).banks = s.banks := rfl
@[simp] theorem State.bumpBy_bufs (a n : Nat) : (s.bumpBy a n).bufs = s.bufs := rfl
@[simp] theorem State.bumpBy_host (a n : Nat) : (s.bumpBy a n).host = s.host := rfl
@[simp] theorem State.bumpBy_fsl (a n : Nat) : (s.bumpBy a n).fsl = s.fsl := rfl
@[simp] theorem State.bumpBy_ports (a n : Nat) : (s.bumpBy a n).ports = s.ports := rfl
@[simp] theorem State.bumpBy_jtag (a n : Nat) : (s.bumpBy a n).jtag = s.jtag := rfl
@[simp] theorem State.bumpBy_power (a n : Nat) : (s.bumpBy a n).power = s.power := rfl
@[simp] theorem State.bumpBy_leg (a n : Nat) : (s.bumpBy a n).leg = s.leg := rfl
@[simp] theorem State.bumpBy_evlog (a n : Nat) : (s.bumpBy a n).evlog = s.evlog := rfl
@[simp] theorem State.bumpBy_pair (a n : Nat) : (s.bumpBy a n).pair = s.pair := rfl
@[simp] theorem State.bumpBy_ethSent (a n : Nat) : (s.bumpBy a n).ethSent = s.ethSent := rfl
@[simp] theorem State.bumpBy_fil (a n : Nat) : (s.bumpBy a n).fil = s.fil := rfl
@[simp] theorem State.bumpBy_i2cOut (a n : Nat) : (s.bumpBy a n).i2cOut = s.i2cOut := rfl

/-! ### send -/

@[simp] theorem State.send_pending (p : Packet) : (s.send p).pending = s.pending := rfl
@[simp] theorem State.send_member (p : Packet) : (s.send p).member = s.member := rfl
@[simp] theorem State.send_die (p : Packet) : (s.send p).die = s.die := rfl
@[simp] theorem State.send_regs (p : Packet) : (s.send p).regs = s.regs := rfl
@[simp] theorem State.send_free (p : Packet) : (s.send p).free = s.free := rfl
@[simp] theorem State.send_clock (p : Packet) : (s.send p).clock = s.clock := rfl
@[simp] theorem State.send_keeper (p : Packet) : (s.send p).keeper = s.keeper := rfl
@[simp] theorem State.send_strands (p : Packet) : (s.send p).strands = s.strands := rfl
@[simp] theorem State.send_store (p : Packet) : (s.send p).store = s.store := rfl
@[simp] theorem State.send_hub (p : Packet) : (s.send p).hub = s.hub := rfl
@[simp] theorem State.send_net (p : Packet) : (s.send p).net = s.net := rfl
@[simp] theorem State.send_memory (p : Packet) : (s.send p).memory = s.memory := rfl
@[simp] theorem State.send_coh (p : Packet) : (s.send p).coh = s.coh := rfl
@[simp] theorem State.send_banks (p : Packet) : (s.send p).banks = s.banks := rfl
@[simp] theorem State.send_bufs (p : Packet) : (s.send p).bufs = s.bufs := rfl
@[simp] theorem State.send_host (p : Packet) : (s.send p).host = s.host := rfl
@[simp] theorem State.send_fsl (p : Packet) : (s.send p).fsl = s.fsl := rfl
@[simp] theorem State.send_ports (p : Packet) : (s.send p).ports = s.ports := rfl
@[simp] theorem State.send_jtag (p : Packet) : (s.send p).jtag = s.jtag := rfl
@[simp] theorem State.send_power (p : Packet) : (s.send p).power = s.power := rfl
@[simp] theorem State.send_leg (p : Packet) : (s.send p).leg = s.leg := rfl
@[simp] theorem State.send_evlog (p : Packet) : (s.send p).evlog = s.evlog := rfl
@[simp] theorem State.send_pair (p : Packet) : (s.send p).pair = s.pair := rfl
@[simp] theorem State.send_ethSent (p : Packet) : (s.send p).ethSent = s.ethSent := rfl
@[simp] theorem State.send_fil (p : Packet) : (s.send p).fil = s.fil := rfl
@[simp] theorem State.send_i2cOut (p : Packet) : (s.send p).i2cOut = s.i2cOut := rfl

/-! ### sendAll -/

@[simp] theorem State.sendAll_pending (l : List Packet) : (s.sendAll l).pending = s.pending := rfl
@[simp] theorem State.sendAll_member (l : List Packet) : (s.sendAll l).member = s.member := rfl
@[simp] theorem State.sendAll_die (l : List Packet) : (s.sendAll l).die = s.die := rfl
@[simp] theorem State.sendAll_regs (l : List Packet) : (s.sendAll l).regs = s.regs := rfl
@[simp] theorem State.sendAll_free (l : List Packet) : (s.sendAll l).free = s.free := rfl
@[simp] theorem State.sendAll_clock (l : List Packet) : (s.sendAll l).clock = s.clock := rfl
@[simp] theorem State.sendAll_keeper (l : List Packet) : (s.sendAll l).keeper = s.keeper := rfl
@[simp] theorem State.sendAll_strands (l : List Packet) : (s.sendAll l).strands = s.strands := rfl
@[simp] theorem State.sendAll_store (l : List Packet) : (s.sendAll l).store = s.store := rfl
@[simp] theorem State.sendAll_hub (l : List Packet) : (s.sendAll l).hub = s.hub := rfl
@[simp] theorem State.sendAll_net (l : List Packet) : (s.sendAll l).net = s.net := rfl
@[simp] theorem State.sendAll_memory (l : List Packet) : (s.sendAll l).memory = s.memory := rfl
@[simp] theorem State.sendAll_coh (l : List Packet) : (s.sendAll l).coh = s.coh := rfl
@[simp] theorem State.sendAll_banks (l : List Packet) : (s.sendAll l).banks = s.banks := rfl
@[simp] theorem State.sendAll_bufs (l : List Packet) : (s.sendAll l).bufs = s.bufs := rfl
@[simp] theorem State.sendAll_host (l : List Packet) : (s.sendAll l).host = s.host := rfl
@[simp] theorem State.sendAll_fsl (l : List Packet) : (s.sendAll l).fsl = s.fsl := rfl
@[simp] theorem State.sendAll_ports (l : List Packet) : (s.sendAll l).ports = s.ports := rfl
@[simp] theorem State.sendAll_jtag (l : List Packet) : (s.sendAll l).jtag = s.jtag := rfl
@[simp] theorem State.sendAll_power (l : List Packet) : (s.sendAll l).power = s.power := rfl
@[simp] theorem State.sendAll_leg (l : List Packet) : (s.sendAll l).leg = s.leg := rfl
@[simp] theorem State.sendAll_evlog (l : List Packet) : (s.sendAll l).evlog = s.evlog := rfl
@[simp] theorem State.sendAll_pair (l : List Packet) : (s.sendAll l).pair = s.pair := rfl
@[simp] theorem State.sendAll_ethSent (l : List Packet) : (s.sendAll l).ethSent = s.ethSent := rfl
@[simp] theorem State.sendAll_fil (l : List Packet) : (s.sendAll l).fil = s.fil := rfl
@[simp] theorem State.sendAll_i2cOut (l : List Packet) : (s.sendAll l).i2cOut = s.i2cOut := rfl

/-! ### take -/

@[simp] theorem State.take_pending (p : Packet) : (s.take p).pending = s.pending := rfl
@[simp] theorem State.take_member (p : Packet) : (s.take p).member = s.member := rfl
@[simp] theorem State.take_die (p : Packet) : (s.take p).die = s.die := rfl
@[simp] theorem State.take_regs (p : Packet) : (s.take p).regs = s.regs := rfl
@[simp] theorem State.take_free (p : Packet) : (s.take p).free = s.free := rfl
@[simp] theorem State.take_clock (p : Packet) : (s.take p).clock = s.clock := rfl
@[simp] theorem State.take_keeper (p : Packet) : (s.take p).keeper = s.keeper := rfl
@[simp] theorem State.take_strands (p : Packet) : (s.take p).strands = s.strands := rfl
@[simp] theorem State.take_store (p : Packet) : (s.take p).store = s.store := rfl
@[simp] theorem State.take_hub (p : Packet) : (s.take p).hub = s.hub := rfl
@[simp] theorem State.take_net (p : Packet) : (s.take p).net = s.net := rfl
@[simp] theorem State.take_memory (p : Packet) : (s.take p).memory = s.memory := rfl
@[simp] theorem State.take_coh (p : Packet) : (s.take p).coh = s.coh := rfl
@[simp] theorem State.take_banks (p : Packet) : (s.take p).banks = s.banks := rfl
@[simp] theorem State.take_bufs (p : Packet) : (s.take p).bufs = s.bufs := rfl
@[simp] theorem State.take_host (p : Packet) : (s.take p).host = s.host := rfl
@[simp] theorem State.take_fsl (p : Packet) : (s.take p).fsl = s.fsl := rfl
@[simp] theorem State.take_ports (p : Packet) : (s.take p).ports = s.ports := rfl
@[simp] theorem State.take_jtag (p : Packet) : (s.take p).jtag = s.jtag := rfl
@[simp] theorem State.take_power (p : Packet) : (s.take p).power = s.power := rfl
@[simp] theorem State.take_leg (p : Packet) : (s.take p).leg = s.leg := rfl
@[simp] theorem State.take_evlog (p : Packet) : (s.take p).evlog = s.evlog := rfl
@[simp] theorem State.take_pair (p : Packet) : (s.take p).pair = s.pair := rfl
@[simp] theorem State.take_ethSent (p : Packet) : (s.take p).ethSent = s.ethSent := rfl
@[simp] theorem State.take_fil (p : Packet) : (s.take p).fil = s.fil := rfl
@[simp] theorem State.take_i2cOut (p : Packet) : (s.take p).i2cOut = s.i2cOut := rfl

/-! ### setSlot -/

@[simp] theorem State.setSlot_pending (k : Nat) (v : Slot) : (s.setSlot k v).pending = s.pending := rfl
@[simp] theorem State.setSlot_member (k : Nat) (v : Slot) : (s.setSlot k v).member = s.member := rfl
@[simp] theorem State.setSlot_die (k : Nat) (v : Slot) : (s.setSlot k v).die = s.die := rfl
@[simp] theorem State.setSlot_flight (k : Nat) (v : Slot) : (s.setSlot k v).flight = s.flight := rfl
@[simp] theorem State.setSlot_regs (k : Nat) (v : Slot) : (s.setSlot k v).regs = s.regs := rfl
@[simp] theorem State.setSlot_free (k : Nat) (v : Slot) : (s.setSlot k v).free = s.free := rfl
@[simp] theorem State.setSlot_clock (k : Nat) (v : Slot) : (s.setSlot k v).clock = s.clock := rfl
@[simp] theorem State.setSlot_keeper (k : Nat) (v : Slot) : (s.setSlot k v).keeper = s.keeper := rfl
@[simp] theorem State.setSlot_strands (k : Nat) (v : Slot) : (s.setSlot k v).strands = s.strands := rfl
@[simp] theorem State.setSlot_hub (k : Nat) (v : Slot) : (s.setSlot k v).hub = s.hub := rfl
@[simp] theorem State.setSlot_net (k : Nat) (v : Slot) : (s.setSlot k v).net = s.net := rfl
@[simp] theorem State.setSlot_memory (k : Nat) (v : Slot) : (s.setSlot k v).memory = s.memory := rfl
@[simp] theorem State.setSlot_coh (k : Nat) (v : Slot) : (s.setSlot k v).coh = s.coh := rfl
@[simp] theorem State.setSlot_banks (k : Nat) (v : Slot) : (s.setSlot k v).banks = s.banks := rfl
@[simp] theorem State.setSlot_bufs (k : Nat) (v : Slot) : (s.setSlot k v).bufs = s.bufs := rfl
@[simp] theorem State.setSlot_host (k : Nat) (v : Slot) : (s.setSlot k v).host = s.host := rfl
@[simp] theorem State.setSlot_fsl (k : Nat) (v : Slot) : (s.setSlot k v).fsl = s.fsl := rfl
@[simp] theorem State.setSlot_ports (k : Nat) (v : Slot) : (s.setSlot k v).ports = s.ports := rfl
@[simp] theorem State.setSlot_jtag (k : Nat) (v : Slot) : (s.setSlot k v).jtag = s.jtag := rfl
@[simp] theorem State.setSlot_power (k : Nat) (v : Slot) : (s.setSlot k v).power = s.power := rfl
@[simp] theorem State.setSlot_leg (k : Nat) (v : Slot) : (s.setSlot k v).leg = s.leg := rfl
@[simp] theorem State.setSlot_evlog (k : Nat) (v : Slot) : (s.setSlot k v).evlog = s.evlog := rfl
@[simp] theorem State.setSlot_pair (k : Nat) (v : Slot) : (s.setSlot k v).pair = s.pair := rfl
@[simp] theorem State.setSlot_ethSent (k : Nat) (v : Slot) : (s.setSlot k v).ethSent = s.ethSent := rfl
@[simp] theorem State.setSlot_fil (k : Nat) (v : Slot) : (s.setSlot k v).fil = s.fil := rfl
@[simp] theorem State.setSlot_i2cOut (k : Nat) (v : Slot) : (s.setSlot k v).i2cOut = s.i2cOut := rfl

/-! ### setFrame -/

@[simp] theorem State.setFrame_pending (f : Nat) (v : FrameEntry) : (s.setFrame f v).pending = s.pending := rfl
@[simp] theorem State.setFrame_member (f : Nat) (v : FrameEntry) : (s.setFrame f v).member = s.member := rfl
@[simp] theorem State.setFrame_die (f : Nat) (v : FrameEntry) : (s.setFrame f v).die = s.die := rfl
@[simp] theorem State.setFrame_flight (f : Nat) (v : FrameEntry) : (s.setFrame f v).flight = s.flight := rfl
@[simp] theorem State.setFrame_regs (f : Nat) (v : FrameEntry) : (s.setFrame f v).regs = s.regs := rfl
@[simp] theorem State.setFrame_free (f : Nat) (v : FrameEntry) : (s.setFrame f v).free = s.free := rfl
@[simp] theorem State.setFrame_clock (f : Nat) (v : FrameEntry) : (s.setFrame f v).clock = s.clock := rfl
@[simp] theorem State.setFrame_keeper (f : Nat) (v : FrameEntry) : (s.setFrame f v).keeper = s.keeper := rfl
@[simp] theorem State.setFrame_strands (f : Nat) (v : FrameEntry) : (s.setFrame f v).strands = s.strands := rfl
@[simp] theorem State.setFrame_hub (f : Nat) (v : FrameEntry) : (s.setFrame f v).hub = s.hub := rfl
@[simp] theorem State.setFrame_net (f : Nat) (v : FrameEntry) : (s.setFrame f v).net = s.net := rfl
@[simp] theorem State.setFrame_memory (f : Nat) (v : FrameEntry) : (s.setFrame f v).memory = s.memory := rfl
@[simp] theorem State.setFrame_coh (f : Nat) (v : FrameEntry) : (s.setFrame f v).coh = s.coh := rfl
@[simp] theorem State.setFrame_banks (f : Nat) (v : FrameEntry) : (s.setFrame f v).banks = s.banks := rfl
@[simp] theorem State.setFrame_bufs (f : Nat) (v : FrameEntry) : (s.setFrame f v).bufs = s.bufs := rfl
@[simp] theorem State.setFrame_host (f : Nat) (v : FrameEntry) : (s.setFrame f v).host = s.host := rfl
@[simp] theorem State.setFrame_fsl (f : Nat) (v : FrameEntry) : (s.setFrame f v).fsl = s.fsl := rfl
@[simp] theorem State.setFrame_ports (f : Nat) (v : FrameEntry) : (s.setFrame f v).ports = s.ports := rfl
@[simp] theorem State.setFrame_jtag (f : Nat) (v : FrameEntry) : (s.setFrame f v).jtag = s.jtag := rfl
@[simp] theorem State.setFrame_power (f : Nat) (v : FrameEntry) : (s.setFrame f v).power = s.power := rfl
@[simp] theorem State.setFrame_leg (f : Nat) (v : FrameEntry) : (s.setFrame f v).leg = s.leg := rfl
@[simp] theorem State.setFrame_evlog (f : Nat) (v : FrameEntry) : (s.setFrame f v).evlog = s.evlog := rfl
@[simp] theorem State.setFrame_pair (f : Nat) (v : FrameEntry) : (s.setFrame f v).pair = s.pair := rfl
@[simp] theorem State.setFrame_ethSent (f : Nat) (v : FrameEntry) : (s.setFrame f v).ethSent = s.ethSent := rfl
@[simp] theorem State.setFrame_fil (f : Nat) (v : FrameEntry) : (s.setFrame f v).fil = s.fil := rfl
@[simp] theorem State.setFrame_i2cOut (f : Nat) (v : FrameEntry) : (s.setFrame f v).i2cOut = s.i2cOut := rfl

/-! ### setGroup -/

@[simp] theorem State.setGroup_pending (k : Nat) (v : Group) : (s.setGroup k v).pending = s.pending := rfl
@[simp] theorem State.setGroup_member (k : Nat) (v : Group) : (s.setGroup k v).member = s.member := rfl
@[simp] theorem State.setGroup_die (k : Nat) (v : Group) : (s.setGroup k v).die = s.die := rfl
@[simp] theorem State.setGroup_flight (k : Nat) (v : Group) : (s.setGroup k v).flight = s.flight := rfl
@[simp] theorem State.setGroup_regs (k : Nat) (v : Group) : (s.setGroup k v).regs = s.regs := rfl
@[simp] theorem State.setGroup_free (k : Nat) (v : Group) : (s.setGroup k v).free = s.free := rfl
@[simp] theorem State.setGroup_clock (k : Nat) (v : Group) : (s.setGroup k v).clock = s.clock := rfl
@[simp] theorem State.setGroup_keeper (k : Nat) (v : Group) : (s.setGroup k v).keeper = s.keeper := rfl
@[simp] theorem State.setGroup_strands (k : Nat) (v : Group) : (s.setGroup k v).strands = s.strands := rfl
@[simp] theorem State.setGroup_hub (k : Nat) (v : Group) : (s.setGroup k v).hub = s.hub := rfl
@[simp] theorem State.setGroup_net (k : Nat) (v : Group) : (s.setGroup k v).net = s.net := rfl
@[simp] theorem State.setGroup_memory (k : Nat) (v : Group) : (s.setGroup k v).memory = s.memory := rfl
@[simp] theorem State.setGroup_coh (k : Nat) (v : Group) : (s.setGroup k v).coh = s.coh := rfl
@[simp] theorem State.setGroup_banks (k : Nat) (v : Group) : (s.setGroup k v).banks = s.banks := rfl
@[simp] theorem State.setGroup_bufs (k : Nat) (v : Group) : (s.setGroup k v).bufs = s.bufs := rfl
@[simp] theorem State.setGroup_host (k : Nat) (v : Group) : (s.setGroup k v).host = s.host := rfl
@[simp] theorem State.setGroup_fsl (k : Nat) (v : Group) : (s.setGroup k v).fsl = s.fsl := rfl
@[simp] theorem State.setGroup_ports (k : Nat) (v : Group) : (s.setGroup k v).ports = s.ports := rfl
@[simp] theorem State.setGroup_jtag (k : Nat) (v : Group) : (s.setGroup k v).jtag = s.jtag := rfl
@[simp] theorem State.setGroup_power (k : Nat) (v : Group) : (s.setGroup k v).power = s.power := rfl
@[simp] theorem State.setGroup_leg (k : Nat) (v : Group) : (s.setGroup k v).leg = s.leg := rfl
@[simp] theorem State.setGroup_evlog (k : Nat) (v : Group) : (s.setGroup k v).evlog = s.evlog := rfl
@[simp] theorem State.setGroup_pair (k : Nat) (v : Group) : (s.setGroup k v).pair = s.pair := rfl
@[simp] theorem State.setGroup_ethSent (k : Nat) (v : Group) : (s.setGroup k v).ethSent = s.ethSent := rfl
@[simp] theorem State.setGroup_fil (k : Nat) (v : Group) : (s.setGroup k v).fil = s.fil := rfl
@[simp] theorem State.setGroup_i2cOut (k : Nat) (v : Group) : (s.setGroup k v).i2cOut = s.i2cOut := rfl

/-! ### setPool -/

@[simp] theorem State.setPool_pending (k : Nat) (v : Pool) : (s.setPool k v).pending = s.pending := rfl
@[simp] theorem State.setPool_member (k : Nat) (v : Pool) : (s.setPool k v).member = s.member := rfl
@[simp] theorem State.setPool_die (k : Nat) (v : Pool) : (s.setPool k v).die = s.die := rfl
@[simp] theorem State.setPool_flight (k : Nat) (v : Pool) : (s.setPool k v).flight = s.flight := rfl
@[simp] theorem State.setPool_regs (k : Nat) (v : Pool) : (s.setPool k v).regs = s.regs := rfl
@[simp] theorem State.setPool_free (k : Nat) (v : Pool) : (s.setPool k v).free = s.free := rfl
@[simp] theorem State.setPool_clock (k : Nat) (v : Pool) : (s.setPool k v).clock = s.clock := rfl
@[simp] theorem State.setPool_keeper (k : Nat) (v : Pool) : (s.setPool k v).keeper = s.keeper := rfl
@[simp] theorem State.setPool_strands (k : Nat) (v : Pool) : (s.setPool k v).strands = s.strands := rfl
@[simp] theorem State.setPool_hub (k : Nat) (v : Pool) : (s.setPool k v).hub = s.hub := rfl
@[simp] theorem State.setPool_net (k : Nat) (v : Pool) : (s.setPool k v).net = s.net := rfl
@[simp] theorem State.setPool_memory (k : Nat) (v : Pool) : (s.setPool k v).memory = s.memory := rfl
@[simp] theorem State.setPool_coh (k : Nat) (v : Pool) : (s.setPool k v).coh = s.coh := rfl
@[simp] theorem State.setPool_banks (k : Nat) (v : Pool) : (s.setPool k v).banks = s.banks := rfl
@[simp] theorem State.setPool_bufs (k : Nat) (v : Pool) : (s.setPool k v).bufs = s.bufs := rfl
@[simp] theorem State.setPool_host (k : Nat) (v : Pool) : (s.setPool k v).host = s.host := rfl
@[simp] theorem State.setPool_fsl (k : Nat) (v : Pool) : (s.setPool k v).fsl = s.fsl := rfl
@[simp] theorem State.setPool_ports (k : Nat) (v : Pool) : (s.setPool k v).ports = s.ports := rfl
@[simp] theorem State.setPool_jtag (k : Nat) (v : Pool) : (s.setPool k v).jtag = s.jtag := rfl
@[simp] theorem State.setPool_power (k : Nat) (v : Pool) : (s.setPool k v).power = s.power := rfl
@[simp] theorem State.setPool_leg (k : Nat) (v : Pool) : (s.setPool k v).leg = s.leg := rfl
@[simp] theorem State.setPool_evlog (k : Nat) (v : Pool) : (s.setPool k v).evlog = s.evlog := rfl
@[simp] theorem State.setPool_pair (k : Nat) (v : Pool) : (s.setPool k v).pair = s.pair := rfl
@[simp] theorem State.setPool_ethSent (k : Nat) (v : Pool) : (s.setPool k v).ethSent = s.ethSent := rfl
@[simp] theorem State.setPool_fil (k : Nat) (v : Pool) : (s.setPool k v).fil = s.fil := rfl
@[simp] theorem State.setPool_i2cOut (k : Nat) (v : Pool) : (s.setPool k v).i2cOut = s.i2cOut := rfl

/-! ### setFiredQ -/

@[simp] theorem State.setFiredQ_pending (k : Nat) (v : List Activation) : (s.setFiredQ k v).pending = s.pending := rfl
@[simp] theorem State.setFiredQ_member (k : Nat) (v : List Activation) : (s.setFiredQ k v).member = s.member := rfl
@[simp] theorem State.setFiredQ_die (k : Nat) (v : List Activation) : (s.setFiredQ k v).die = s.die := rfl
@[simp] theorem State.setFiredQ_flight (k : Nat) (v : List Activation) : (s.setFiredQ k v).flight = s.flight := rfl
@[simp] theorem State.setFiredQ_regs (k : Nat) (v : List Activation) : (s.setFiredQ k v).regs = s.regs := rfl
@[simp] theorem State.setFiredQ_free (k : Nat) (v : List Activation) : (s.setFiredQ k v).free = s.free := rfl
@[simp] theorem State.setFiredQ_clock (k : Nat) (v : List Activation) : (s.setFiredQ k v).clock = s.clock := rfl
@[simp] theorem State.setFiredQ_keeper (k : Nat) (v : List Activation) : (s.setFiredQ k v).keeper = s.keeper := rfl
@[simp] theorem State.setFiredQ_strands (k : Nat) (v : List Activation) : (s.setFiredQ k v).strands = s.strands := rfl
@[simp] theorem State.setFiredQ_hub (k : Nat) (v : List Activation) : (s.setFiredQ k v).hub = s.hub := rfl
@[simp] theorem State.setFiredQ_net (k : Nat) (v : List Activation) : (s.setFiredQ k v).net = s.net := rfl
@[simp] theorem State.setFiredQ_memory (k : Nat) (v : List Activation) : (s.setFiredQ k v).memory = s.memory := rfl
@[simp] theorem State.setFiredQ_coh (k : Nat) (v : List Activation) : (s.setFiredQ k v).coh = s.coh := rfl
@[simp] theorem State.setFiredQ_banks (k : Nat) (v : List Activation) : (s.setFiredQ k v).banks = s.banks := rfl
@[simp] theorem State.setFiredQ_bufs (k : Nat) (v : List Activation) : (s.setFiredQ k v).bufs = s.bufs := rfl
@[simp] theorem State.setFiredQ_host (k : Nat) (v : List Activation) : (s.setFiredQ k v).host = s.host := rfl
@[simp] theorem State.setFiredQ_fsl (k : Nat) (v : List Activation) : (s.setFiredQ k v).fsl = s.fsl := rfl
@[simp] theorem State.setFiredQ_ports (k : Nat) (v : List Activation) : (s.setFiredQ k v).ports = s.ports := rfl
@[simp] theorem State.setFiredQ_jtag (k : Nat) (v : List Activation) : (s.setFiredQ k v).jtag = s.jtag := rfl
@[simp] theorem State.setFiredQ_power (k : Nat) (v : List Activation) : (s.setFiredQ k v).power = s.power := rfl
@[simp] theorem State.setFiredQ_leg (k : Nat) (v : List Activation) : (s.setFiredQ k v).leg = s.leg := rfl
@[simp] theorem State.setFiredQ_evlog (k : Nat) (v : List Activation) : (s.setFiredQ k v).evlog = s.evlog := rfl
@[simp] theorem State.setFiredQ_pair (k : Nat) (v : List Activation) : (s.setFiredQ k v).pair = s.pair := rfl
@[simp] theorem State.setFiredQ_ethSent (k : Nat) (v : List Activation) : (s.setFiredQ k v).ethSent = s.ethSent := rfl
@[simp] theorem State.setFiredQ_fil (k : Nat) (v : List Activation) : (s.setFiredQ k v).fil = s.fil := rfl
@[simp] theorem State.setFiredQ_i2cOut (k : Nat) (v : List Activation) : (s.setFiredQ k v).i2cOut = s.i2cOut := rfl

/-! ### setNotices -/

@[simp] theorem State.setNotices_pending (k : Nat) (v : List Notice) : (s.setNotices k v).pending = s.pending := rfl
@[simp] theorem State.setNotices_member (k : Nat) (v : List Notice) : (s.setNotices k v).member = s.member := rfl
@[simp] theorem State.setNotices_die (k : Nat) (v : List Notice) : (s.setNotices k v).die = s.die := rfl
@[simp] theorem State.setNotices_flight (k : Nat) (v : List Notice) : (s.setNotices k v).flight = s.flight := rfl
@[simp] theorem State.setNotices_regs (k : Nat) (v : List Notice) : (s.setNotices k v).regs = s.regs := rfl
@[simp] theorem State.setNotices_free (k : Nat) (v : List Notice) : (s.setNotices k v).free = s.free := rfl
@[simp] theorem State.setNotices_clock (k : Nat) (v : List Notice) : (s.setNotices k v).clock = s.clock := rfl
@[simp] theorem State.setNotices_keeper (k : Nat) (v : List Notice) : (s.setNotices k v).keeper = s.keeper := rfl
@[simp] theorem State.setNotices_strands (k : Nat) (v : List Notice) : (s.setNotices k v).strands = s.strands := rfl
@[simp] theorem State.setNotices_hub (k : Nat) (v : List Notice) : (s.setNotices k v).hub = s.hub := rfl
@[simp] theorem State.setNotices_net (k : Nat) (v : List Notice) : (s.setNotices k v).net = s.net := rfl
@[simp] theorem State.setNotices_memory (k : Nat) (v : List Notice) : (s.setNotices k v).memory = s.memory := rfl
@[simp] theorem State.setNotices_coh (k : Nat) (v : List Notice) : (s.setNotices k v).coh = s.coh := rfl
@[simp] theorem State.setNotices_banks (k : Nat) (v : List Notice) : (s.setNotices k v).banks = s.banks := rfl
@[simp] theorem State.setNotices_bufs (k : Nat) (v : List Notice) : (s.setNotices k v).bufs = s.bufs := rfl
@[simp] theorem State.setNotices_host (k : Nat) (v : List Notice) : (s.setNotices k v).host = s.host := rfl
@[simp] theorem State.setNotices_fsl (k : Nat) (v : List Notice) : (s.setNotices k v).fsl = s.fsl := rfl
@[simp] theorem State.setNotices_ports (k : Nat) (v : List Notice) : (s.setNotices k v).ports = s.ports := rfl
@[simp] theorem State.setNotices_jtag (k : Nat) (v : List Notice) : (s.setNotices k v).jtag = s.jtag := rfl
@[simp] theorem State.setNotices_power (k : Nat) (v : List Notice) : (s.setNotices k v).power = s.power := rfl
@[simp] theorem State.setNotices_leg (k : Nat) (v : List Notice) : (s.setNotices k v).leg = s.leg := rfl
@[simp] theorem State.setNotices_evlog (k : Nat) (v : List Notice) : (s.setNotices k v).evlog = s.evlog := rfl
@[simp] theorem State.setNotices_pair (k : Nat) (v : List Notice) : (s.setNotices k v).pair = s.pair := rfl
@[simp] theorem State.setNotices_ethSent (k : Nat) (v : List Notice) : (s.setNotices k v).ethSent = s.ethSent := rfl
@[simp] theorem State.setNotices_fil (k : Nat) (v : List Notice) : (s.setNotices k v).fil = s.fil := rfl
@[simp] theorem State.setNotices_i2cOut (k : Nat) (v : List Notice) : (s.setNotices k v).i2cOut = s.i2cOut := rfl

/-! ### setHome -/

@[simp] theorem State.setHome_pending (r v : Nat) : (s.setHome r v).pending = s.pending := rfl
@[simp] theorem State.setHome_member (r v : Nat) : (s.setHome r v).member = s.member := rfl
@[simp] theorem State.setHome_die (r v : Nat) : (s.setHome r v).die = s.die := rfl
@[simp] theorem State.setHome_flight (r v : Nat) : (s.setHome r v).flight = s.flight := rfl
@[simp] theorem State.setHome_regs (r v : Nat) : (s.setHome r v).regs = s.regs := rfl
@[simp] theorem State.setHome_free (r v : Nat) : (s.setHome r v).free = s.free := rfl
@[simp] theorem State.setHome_clock (r v : Nat) : (s.setHome r v).clock = s.clock := rfl
@[simp] theorem State.setHome_keeper (r v : Nat) : (s.setHome r v).keeper = s.keeper := rfl
@[simp] theorem State.setHome_strands (r v : Nat) : (s.setHome r v).strands = s.strands := rfl
@[simp] theorem State.setHome_hub (r v : Nat) : (s.setHome r v).hub = s.hub := rfl
@[simp] theorem State.setHome_net (r v : Nat) : (s.setHome r v).net = s.net := rfl
@[simp] theorem State.setHome_memory (r v : Nat) : (s.setHome r v).memory = s.memory := rfl
@[simp] theorem State.setHome_coh (r v : Nat) : (s.setHome r v).coh = s.coh := rfl
@[simp] theorem State.setHome_banks (r v : Nat) : (s.setHome r v).banks = s.banks := rfl
@[simp] theorem State.setHome_bufs (r v : Nat) : (s.setHome r v).bufs = s.bufs := rfl
@[simp] theorem State.setHome_host (r v : Nat) : (s.setHome r v).host = s.host := rfl
@[simp] theorem State.setHome_fsl (r v : Nat) : (s.setHome r v).fsl = s.fsl := rfl
@[simp] theorem State.setHome_ports (r v : Nat) : (s.setHome r v).ports = s.ports := rfl
@[simp] theorem State.setHome_jtag (r v : Nat) : (s.setHome r v).jtag = s.jtag := rfl
@[simp] theorem State.setHome_power (r v : Nat) : (s.setHome r v).power = s.power := rfl
@[simp] theorem State.setHome_leg (r v : Nat) : (s.setHome r v).leg = s.leg := rfl
@[simp] theorem State.setHome_evlog (r v : Nat) : (s.setHome r v).evlog = s.evlog := rfl
@[simp] theorem State.setHome_pair (r v : Nat) : (s.setHome r v).pair = s.pair := rfl
@[simp] theorem State.setHome_ethSent (r v : Nat) : (s.setHome r v).ethSent = s.ethSent := rfl
@[simp] theorem State.setHome_fil (r v : Nat) : (s.setHome r v).fil = s.fil := rfl
@[simp] theorem State.setHome_i2cOut (r v : Nat) : (s.setHome r v).i2cOut = s.i2cOut := rfl

/-! ### setRl -/

@[simp] theorem State.setRl_pending (r g : Nat) (v : List Entry) : (s.setRl r g v).pending = s.pending := rfl
@[simp] theorem State.setRl_member (r g : Nat) (v : List Entry) : (s.setRl r g v).member = s.member := rfl
@[simp] theorem State.setRl_die (r g : Nat) (v : List Entry) : (s.setRl r g v).die = s.die := rfl
@[simp] theorem State.setRl_flight (r g : Nat) (v : List Entry) : (s.setRl r g v).flight = s.flight := rfl
@[simp] theorem State.setRl_regs (r g : Nat) (v : List Entry) : (s.setRl r g v).regs = s.regs := rfl
@[simp] theorem State.setRl_free (r g : Nat) (v : List Entry) : (s.setRl r g v).free = s.free := rfl
@[simp] theorem State.setRl_clock (r g : Nat) (v : List Entry) : (s.setRl r g v).clock = s.clock := rfl
@[simp] theorem State.setRl_keeper (r g : Nat) (v : List Entry) : (s.setRl r g v).keeper = s.keeper := rfl
@[simp] theorem State.setRl_strands (r g : Nat) (v : List Entry) : (s.setRl r g v).strands = s.strands := rfl
@[simp] theorem State.setRl_store (r g : Nat) (v : List Entry) : (s.setRl r g v).store = s.store := rfl
@[simp] theorem State.setRl_net (r g : Nat) (v : List Entry) : (s.setRl r g v).net = s.net := rfl
@[simp] theorem State.setRl_memory (r g : Nat) (v : List Entry) : (s.setRl r g v).memory = s.memory := rfl
@[simp] theorem State.setRl_coh (r g : Nat) (v : List Entry) : (s.setRl r g v).coh = s.coh := rfl
@[simp] theorem State.setRl_banks (r g : Nat) (v : List Entry) : (s.setRl r g v).banks = s.banks := rfl
@[simp] theorem State.setRl_bufs (r g : Nat) (v : List Entry) : (s.setRl r g v).bufs = s.bufs := rfl
@[simp] theorem State.setRl_host (r g : Nat) (v : List Entry) : (s.setRl r g v).host = s.host := rfl
@[simp] theorem State.setRl_fsl (r g : Nat) (v : List Entry) : (s.setRl r g v).fsl = s.fsl := rfl
@[simp] theorem State.setRl_ports (r g : Nat) (v : List Entry) : (s.setRl r g v).ports = s.ports := rfl
@[simp] theorem State.setRl_jtag (r g : Nat) (v : List Entry) : (s.setRl r g v).jtag = s.jtag := rfl
@[simp] theorem State.setRl_power (r g : Nat) (v : List Entry) : (s.setRl r g v).power = s.power := rfl
@[simp] theorem State.setRl_leg (r g : Nat) (v : List Entry) : (s.setRl r g v).leg = s.leg := rfl
@[simp] theorem State.setRl_evlog (r g : Nat) (v : List Entry) : (s.setRl r g v).evlog = s.evlog := rfl
@[simp] theorem State.setRl_pair (r g : Nat) (v : List Entry) : (s.setRl r g v).pair = s.pair := rfl
@[simp] theorem State.setRl_ethSent (r g : Nat) (v : List Entry) : (s.setRl r g v).ethSent = s.ethSent := rfl
@[simp] theorem State.setRl_fil (r g : Nat) (v : List Entry) : (s.setRl r g v).fil = s.fil := rfl
@[simp] theorem State.setRl_i2cOut (r g : Nat) (v : List Entry) : (s.setRl r g v).i2cOut = s.i2cOut := rfl

/-! ### setDeficit -/

@[simp] theorem State.setDeficit_pending (r g : Nat) (v : Int) : (s.setDeficit r g v).pending = s.pending := rfl
@[simp] theorem State.setDeficit_member (r g : Nat) (v : Int) : (s.setDeficit r g v).member = s.member := rfl
@[simp] theorem State.setDeficit_die (r g : Nat) (v : Int) : (s.setDeficit r g v).die = s.die := rfl
@[simp] theorem State.setDeficit_flight (r g : Nat) (v : Int) : (s.setDeficit r g v).flight = s.flight := rfl
@[simp] theorem State.setDeficit_regs (r g : Nat) (v : Int) : (s.setDeficit r g v).regs = s.regs := rfl
@[simp] theorem State.setDeficit_free (r g : Nat) (v : Int) : (s.setDeficit r g v).free = s.free := rfl
@[simp] theorem State.setDeficit_clock (r g : Nat) (v : Int) : (s.setDeficit r g v).clock = s.clock := rfl
@[simp] theorem State.setDeficit_keeper (r g : Nat) (v : Int) : (s.setDeficit r g v).keeper = s.keeper := rfl
@[simp] theorem State.setDeficit_strands (r g : Nat) (v : Int) : (s.setDeficit r g v).strands = s.strands := rfl
@[simp] theorem State.setDeficit_store (r g : Nat) (v : Int) : (s.setDeficit r g v).store = s.store := rfl
@[simp] theorem State.setDeficit_net (r g : Nat) (v : Int) : (s.setDeficit r g v).net = s.net := rfl
@[simp] theorem State.setDeficit_memory (r g : Nat) (v : Int) : (s.setDeficit r g v).memory = s.memory := rfl
@[simp] theorem State.setDeficit_coh (r g : Nat) (v : Int) : (s.setDeficit r g v).coh = s.coh := rfl
@[simp] theorem State.setDeficit_banks (r g : Nat) (v : Int) : (s.setDeficit r g v).banks = s.banks := rfl
@[simp] theorem State.setDeficit_bufs (r g : Nat) (v : Int) : (s.setDeficit r g v).bufs = s.bufs := rfl
@[simp] theorem State.setDeficit_host (r g : Nat) (v : Int) : (s.setDeficit r g v).host = s.host := rfl
@[simp] theorem State.setDeficit_fsl (r g : Nat) (v : Int) : (s.setDeficit r g v).fsl = s.fsl := rfl
@[simp] theorem State.setDeficit_ports (r g : Nat) (v : Int) : (s.setDeficit r g v).ports = s.ports := rfl
@[simp] theorem State.setDeficit_jtag (r g : Nat) (v : Int) : (s.setDeficit r g v).jtag = s.jtag := rfl
@[simp] theorem State.setDeficit_power (r g : Nat) (v : Int) : (s.setDeficit r g v).power = s.power := rfl
@[simp] theorem State.setDeficit_leg (r g : Nat) (v : Int) : (s.setDeficit r g v).leg = s.leg := rfl
@[simp] theorem State.setDeficit_evlog (r g : Nat) (v : Int) : (s.setDeficit r g v).evlog = s.evlog := rfl
@[simp] theorem State.setDeficit_pair (r g : Nat) (v : Int) : (s.setDeficit r g v).pair = s.pair := rfl
@[simp] theorem State.setDeficit_ethSent (r g : Nat) (v : Int) : (s.setDeficit r g v).ethSent = s.ethSent := rfl
@[simp] theorem State.setDeficit_fil (r g : Nat) (v : Int) : (s.setDeficit r g v).fil = s.fil := rfl
@[simp] theorem State.setDeficit_i2cOut (r g : Nat) (v : Int) : (s.setDeficit r g v).i2cOut = s.i2cOut := rfl

/-! ### setTurn -/

@[simp] theorem State.setTurn_pending (r v : Nat) : (s.setTurn r v).pending = s.pending := rfl
@[simp] theorem State.setTurn_member (r v : Nat) : (s.setTurn r v).member = s.member := rfl
@[simp] theorem State.setTurn_die (r v : Nat) : (s.setTurn r v).die = s.die := rfl
@[simp] theorem State.setTurn_flight (r v : Nat) : (s.setTurn r v).flight = s.flight := rfl
@[simp] theorem State.setTurn_regs (r v : Nat) : (s.setTurn r v).regs = s.regs := rfl
@[simp] theorem State.setTurn_free (r v : Nat) : (s.setTurn r v).free = s.free := rfl
@[simp] theorem State.setTurn_clock (r v : Nat) : (s.setTurn r v).clock = s.clock := rfl
@[simp] theorem State.setTurn_keeper (r v : Nat) : (s.setTurn r v).keeper = s.keeper := rfl
@[simp] theorem State.setTurn_strands (r v : Nat) : (s.setTurn r v).strands = s.strands := rfl
@[simp] theorem State.setTurn_store (r v : Nat) : (s.setTurn r v).store = s.store := rfl
@[simp] theorem State.setTurn_net (r v : Nat) : (s.setTurn r v).net = s.net := rfl
@[simp] theorem State.setTurn_memory (r v : Nat) : (s.setTurn r v).memory = s.memory := rfl
@[simp] theorem State.setTurn_coh (r v : Nat) : (s.setTurn r v).coh = s.coh := rfl
@[simp] theorem State.setTurn_banks (r v : Nat) : (s.setTurn r v).banks = s.banks := rfl
@[simp] theorem State.setTurn_bufs (r v : Nat) : (s.setTurn r v).bufs = s.bufs := rfl
@[simp] theorem State.setTurn_host (r v : Nat) : (s.setTurn r v).host = s.host := rfl
@[simp] theorem State.setTurn_fsl (r v : Nat) : (s.setTurn r v).fsl = s.fsl := rfl
@[simp] theorem State.setTurn_ports (r v : Nat) : (s.setTurn r v).ports = s.ports := rfl
@[simp] theorem State.setTurn_jtag (r v : Nat) : (s.setTurn r v).jtag = s.jtag := rfl
@[simp] theorem State.setTurn_power (r v : Nat) : (s.setTurn r v).power = s.power := rfl
@[simp] theorem State.setTurn_leg (r v : Nat) : (s.setTurn r v).leg = s.leg := rfl
@[simp] theorem State.setTurn_evlog (r v : Nat) : (s.setTurn r v).evlog = s.evlog := rfl
@[simp] theorem State.setTurn_pair (r v : Nat) : (s.setTurn r v).pair = s.pair := rfl
@[simp] theorem State.setTurn_ethSent (r v : Nat) : (s.setTurn r v).ethSent = s.ethSent := rfl
@[simp] theorem State.setTurn_fil (r v : Nat) : (s.setTurn r v).fil = s.fil := rfl
@[simp] theorem State.setTurn_i2cOut (r v : Nat) : (s.setTurn r v).i2cOut = s.i2cOut := rfl

/-! ### setCreditUsed -/

@[simp] theorem State.setCreditUsed_pending (k v : Nat) : (s.setCreditUsed k v).pending = s.pending := rfl
@[simp] theorem State.setCreditUsed_member (k v : Nat) : (s.setCreditUsed k v).member = s.member := rfl
@[simp] theorem State.setCreditUsed_die (k v : Nat) : (s.setCreditUsed k v).die = s.die := rfl
@[simp] theorem State.setCreditUsed_flight (k v : Nat) : (s.setCreditUsed k v).flight = s.flight := rfl
@[simp] theorem State.setCreditUsed_regs (k v : Nat) : (s.setCreditUsed k v).regs = s.regs := rfl
@[simp] theorem State.setCreditUsed_free (k v : Nat) : (s.setCreditUsed k v).free = s.free := rfl
@[simp] theorem State.setCreditUsed_clock (k v : Nat) : (s.setCreditUsed k v).clock = s.clock := rfl
@[simp] theorem State.setCreditUsed_keeper (k v : Nat) : (s.setCreditUsed k v).keeper = s.keeper := rfl
@[simp] theorem State.setCreditUsed_strands (k v : Nat) : (s.setCreditUsed k v).strands = s.strands := rfl
@[simp] theorem State.setCreditUsed_store (k v : Nat) : (s.setCreditUsed k v).store = s.store := rfl
@[simp] theorem State.setCreditUsed_net (k v : Nat) : (s.setCreditUsed k v).net = s.net := rfl
@[simp] theorem State.setCreditUsed_memory (k v : Nat) : (s.setCreditUsed k v).memory = s.memory := rfl
@[simp] theorem State.setCreditUsed_coh (k v : Nat) : (s.setCreditUsed k v).coh = s.coh := rfl
@[simp] theorem State.setCreditUsed_banks (k v : Nat) : (s.setCreditUsed k v).banks = s.banks := rfl
@[simp] theorem State.setCreditUsed_bufs (k v : Nat) : (s.setCreditUsed k v).bufs = s.bufs := rfl
@[simp] theorem State.setCreditUsed_host (k v : Nat) : (s.setCreditUsed k v).host = s.host := rfl
@[simp] theorem State.setCreditUsed_fsl (k v : Nat) : (s.setCreditUsed k v).fsl = s.fsl := rfl
@[simp] theorem State.setCreditUsed_ports (k v : Nat) : (s.setCreditUsed k v).ports = s.ports := rfl
@[simp] theorem State.setCreditUsed_jtag (k v : Nat) : (s.setCreditUsed k v).jtag = s.jtag := rfl
@[simp] theorem State.setCreditUsed_power (k v : Nat) : (s.setCreditUsed k v).power = s.power := rfl
@[simp] theorem State.setCreditUsed_leg (k v : Nat) : (s.setCreditUsed k v).leg = s.leg := rfl
@[simp] theorem State.setCreditUsed_evlog (k v : Nat) : (s.setCreditUsed k v).evlog = s.evlog := rfl
@[simp] theorem State.setCreditUsed_pair (k v : Nat) : (s.setCreditUsed k v).pair = s.pair := rfl
@[simp] theorem State.setCreditUsed_ethSent (k v : Nat) : (s.setCreditUsed k v).ethSent = s.ethSent := rfl
@[simp] theorem State.setCreditUsed_fil (k v : Nat) : (s.setCreditUsed k v).fil = s.fil := rfl
@[simp] theorem State.setCreditUsed_i2cOut (k v : Nat) : (s.setCreditUsed k v).i2cOut = s.i2cOut := rfl

/-! ### setPq -/

@[simp] theorem State.setPq_pending (p : Nat) (v : List Entry) : (s.setPq p v).pending = s.pending := rfl
@[simp] theorem State.setPq_member (p : Nat) (v : List Entry) : (s.setPq p v).member = s.member := rfl
@[simp] theorem State.setPq_die (p : Nat) (v : List Entry) : (s.setPq p v).die = s.die := rfl
@[simp] theorem State.setPq_flight (p : Nat) (v : List Entry) : (s.setPq p v).flight = s.flight := rfl
@[simp] theorem State.setPq_regs (p : Nat) (v : List Entry) : (s.setPq p v).regs = s.regs := rfl
@[simp] theorem State.setPq_free (p : Nat) (v : List Entry) : (s.setPq p v).free = s.free := rfl
@[simp] theorem State.setPq_clock (p : Nat) (v : List Entry) : (s.setPq p v).clock = s.clock := rfl
@[simp] theorem State.setPq_keeper (p : Nat) (v : List Entry) : (s.setPq p v).keeper = s.keeper := rfl
@[simp] theorem State.setPq_strands (p : Nat) (v : List Entry) : (s.setPq p v).strands = s.strands := rfl
@[simp] theorem State.setPq_store (p : Nat) (v : List Entry) : (s.setPq p v).store = s.store := rfl
@[simp] theorem State.setPq_net (p : Nat) (v : List Entry) : (s.setPq p v).net = s.net := rfl
@[simp] theorem State.setPq_memory (p : Nat) (v : List Entry) : (s.setPq p v).memory = s.memory := rfl
@[simp] theorem State.setPq_coh (p : Nat) (v : List Entry) : (s.setPq p v).coh = s.coh := rfl
@[simp] theorem State.setPq_banks (p : Nat) (v : List Entry) : (s.setPq p v).banks = s.banks := rfl
@[simp] theorem State.setPq_bufs (p : Nat) (v : List Entry) : (s.setPq p v).bufs = s.bufs := rfl
@[simp] theorem State.setPq_host (p : Nat) (v : List Entry) : (s.setPq p v).host = s.host := rfl
@[simp] theorem State.setPq_fsl (p : Nat) (v : List Entry) : (s.setPq p v).fsl = s.fsl := rfl
@[simp] theorem State.setPq_ports (p : Nat) (v : List Entry) : (s.setPq p v).ports = s.ports := rfl
@[simp] theorem State.setPq_jtag (p : Nat) (v : List Entry) : (s.setPq p v).jtag = s.jtag := rfl
@[simp] theorem State.setPq_power (p : Nat) (v : List Entry) : (s.setPq p v).power = s.power := rfl
@[simp] theorem State.setPq_leg (p : Nat) (v : List Entry) : (s.setPq p v).leg = s.leg := rfl
@[simp] theorem State.setPq_evlog (p : Nat) (v : List Entry) : (s.setPq p v).evlog = s.evlog := rfl
@[simp] theorem State.setPq_pair (p : Nat) (v : List Entry) : (s.setPq p v).pair = s.pair := rfl
@[simp] theorem State.setPq_ethSent (p : Nat) (v : List Entry) : (s.setPq p v).ethSent = s.ethSent := rfl
@[simp] theorem State.setPq_fil (p : Nat) (v : List Entry) : (s.setPq p v).fil = s.fil := rfl
@[simp] theorem State.setPq_i2cOut (p : Nat) (v : List Entry) : (s.setPq p v).i2cOut = s.i2cOut := rfl

/-! ### setTask -/

@[simp] theorem State.setTask_pending (n : Nat) (v : Task) : (s.setTask n v).pending = s.pending := rfl
@[simp] theorem State.setTask_member (n : Nat) (v : Task) : (s.setTask n v).member = s.member := rfl
@[simp] theorem State.setTask_die (n : Nat) (v : Task) : (s.setTask n v).die = s.die := rfl
@[simp] theorem State.setTask_flight (n : Nat) (v : Task) : (s.setTask n v).flight = s.flight := rfl
@[simp] theorem State.setTask_regs (n : Nat) (v : Task) : (s.setTask n v).regs = s.regs := rfl
@[simp] theorem State.setTask_free (n : Nat) (v : Task) : (s.setTask n v).free = s.free := rfl
@[simp] theorem State.setTask_clock (n : Nat) (v : Task) : (s.setTask n v).clock = s.clock := rfl
@[simp] theorem State.setTask_keeper (n : Nat) (v : Task) : (s.setTask n v).keeper = s.keeper := rfl
@[simp] theorem State.setTask_strands (n : Nat) (v : Task) : (s.setTask n v).strands = s.strands := rfl
@[simp] theorem State.setTask_store (n : Nat) (v : Task) : (s.setTask n v).store = s.store := rfl
@[simp] theorem State.setTask_net (n : Nat) (v : Task) : (s.setTask n v).net = s.net := rfl
@[simp] theorem State.setTask_memory (n : Nat) (v : Task) : (s.setTask n v).memory = s.memory := rfl
@[simp] theorem State.setTask_coh (n : Nat) (v : Task) : (s.setTask n v).coh = s.coh := rfl
@[simp] theorem State.setTask_banks (n : Nat) (v : Task) : (s.setTask n v).banks = s.banks := rfl
@[simp] theorem State.setTask_bufs (n : Nat) (v : Task) : (s.setTask n v).bufs = s.bufs := rfl
@[simp] theorem State.setTask_host (n : Nat) (v : Task) : (s.setTask n v).host = s.host := rfl
@[simp] theorem State.setTask_fsl (n : Nat) (v : Task) : (s.setTask n v).fsl = s.fsl := rfl
@[simp] theorem State.setTask_ports (n : Nat) (v : Task) : (s.setTask n v).ports = s.ports := rfl
@[simp] theorem State.setTask_jtag (n : Nat) (v : Task) : (s.setTask n v).jtag = s.jtag := rfl
@[simp] theorem State.setTask_power (n : Nat) (v : Task) : (s.setTask n v).power = s.power := rfl
@[simp] theorem State.setTask_leg (n : Nat) (v : Task) : (s.setTask n v).leg = s.leg := rfl
@[simp] theorem State.setTask_evlog (n : Nat) (v : Task) : (s.setTask n v).evlog = s.evlog := rfl
@[simp] theorem State.setTask_pair (n : Nat) (v : Task) : (s.setTask n v).pair = s.pair := rfl
@[simp] theorem State.setTask_ethSent (n : Nat) (v : Task) : (s.setTask n v).ethSent = s.ethSent := rfl
@[simp] theorem State.setTask_fil (n : Nat) (v : Task) : (s.setTask n v).fil = s.fil := rfl
@[simp] theorem State.setTask_i2cOut (n : Nat) (v : Task) : (s.setTask n v).i2cOut = s.i2cOut := rfl

/-! ### setFlow -/

@[simp] theorem State.setFlow_pending (f : Nat) (v : Flow) : (s.setFlow f v).pending = s.pending := rfl
@[simp] theorem State.setFlow_member (f : Nat) (v : Flow) : (s.setFlow f v).member = s.member := rfl
@[simp] theorem State.setFlow_die (f : Nat) (v : Flow) : (s.setFlow f v).die = s.die := rfl
@[simp] theorem State.setFlow_flight (f : Nat) (v : Flow) : (s.setFlow f v).flight = s.flight := rfl
@[simp] theorem State.setFlow_regs (f : Nat) (v : Flow) : (s.setFlow f v).regs = s.regs := rfl
@[simp] theorem State.setFlow_free (f : Nat) (v : Flow) : (s.setFlow f v).free = s.free := rfl
@[simp] theorem State.setFlow_clock (f : Nat) (v : Flow) : (s.setFlow f v).clock = s.clock := rfl
@[simp] theorem State.setFlow_keeper (f : Nat) (v : Flow) : (s.setFlow f v).keeper = s.keeper := rfl
@[simp] theorem State.setFlow_strands (f : Nat) (v : Flow) : (s.setFlow f v).strands = s.strands := rfl
@[simp] theorem State.setFlow_store (f : Nat) (v : Flow) : (s.setFlow f v).store = s.store := rfl
@[simp] theorem State.setFlow_net (f : Nat) (v : Flow) : (s.setFlow f v).net = s.net := rfl
@[simp] theorem State.setFlow_memory (f : Nat) (v : Flow) : (s.setFlow f v).memory = s.memory := rfl
@[simp] theorem State.setFlow_coh (f : Nat) (v : Flow) : (s.setFlow f v).coh = s.coh := rfl
@[simp] theorem State.setFlow_banks (f : Nat) (v : Flow) : (s.setFlow f v).banks = s.banks := rfl
@[simp] theorem State.setFlow_bufs (f : Nat) (v : Flow) : (s.setFlow f v).bufs = s.bufs := rfl
@[simp] theorem State.setFlow_host (f : Nat) (v : Flow) : (s.setFlow f v).host = s.host := rfl
@[simp] theorem State.setFlow_fsl (f : Nat) (v : Flow) : (s.setFlow f v).fsl = s.fsl := rfl
@[simp] theorem State.setFlow_ports (f : Nat) (v : Flow) : (s.setFlow f v).ports = s.ports := rfl
@[simp] theorem State.setFlow_jtag (f : Nat) (v : Flow) : (s.setFlow f v).jtag = s.jtag := rfl
@[simp] theorem State.setFlow_power (f : Nat) (v : Flow) : (s.setFlow f v).power = s.power := rfl
@[simp] theorem State.setFlow_leg (f : Nat) (v : Flow) : (s.setFlow f v).leg = s.leg := rfl
@[simp] theorem State.setFlow_evlog (f : Nat) (v : Flow) : (s.setFlow f v).evlog = s.evlog := rfl
@[simp] theorem State.setFlow_pair (f : Nat) (v : Flow) : (s.setFlow f v).pair = s.pair := rfl
@[simp] theorem State.setFlow_ethSent (f : Nat) (v : Flow) : (s.setFlow f v).ethSent = s.ethSent := rfl
@[simp] theorem State.setFlow_fil (f : Nat) (v : Flow) : (s.setFlow f v).fil = s.fil := rfl
@[simp] theorem State.setFlow_i2cOut (f : Nat) (v : Flow) : (s.setFlow f v).i2cOut = s.i2cOut := rfl

/-! ### Views after an update -/

@[simp] theorem State.ctx_setCtx (c : CtxId) (x : Context) : (s.setCtx c x).ctx c = x := Map.get_set_self
@[simp] theorem State.reg_setReg (a : Nat) (v : Word) : (s.setReg a v).reg a = v := Map.get_set_self
@[simp] theorem State.slot_setSlot (k : Nat) (v : Slot) : (s.setSlot k v).slot k = v := Map.get_set_self
@[simp] theorem State.frame_setFrame (f : Nat) (v : FrameEntry) : (s.setFrame f v).frame f = v := Map.get_set_self
@[simp] theorem State.group_setGroup (k : Nat) (v : Group) : (s.setGroup k v).group k = v := Map.get_set_self
@[simp] theorem State.pool_setPool (k : Nat) (v : Pool) : (s.setPool k v).pool k = v := Map.get_set_self
@[simp] theorem State.firedQ_setFiredQ (k : Nat) (v : List Activation) : (s.setFiredQ k v).firedQ k = v := Map.get_set_self
@[simp] theorem State.notices_setNotices (k : Nat) (v : List Notice) : (s.setNotices k v).notices k = v := Map.get_set_self
@[simp] theorem State.rl_setRl (r g : Nat) (v : List Entry) : (s.setRl r g v).rl r g = v := Map.get_set_self
@[simp] theorem State.pq_setPq (p : Nat) (v : List Entry) : (s.setPq p v).pq p = v := Map.get_set_self
@[simp] theorem State.task_setTask (n : Nat) (v : Task) : (s.setTask n v).task n = v := Map.get_set_self
@[simp] theorem State.flow_setFlow (f : Nat) (v : Flow) : (s.setFlow f v).flow f = v := Map.get_set_self

theorem State.reg_setReg_other {a b : Nat} (v : Word) (h : b ≠ a) : (s.setReg a v).reg b = s.reg b := Map.get_set_other h
theorem State.reg_bump_other {a b : Nat} (h : b ≠ a) : (s.bump a).reg b = s.reg b := Map.get_set_other h
@[simp] theorem State.reg_bump (a : Nat) : (s.bump a).reg a = satInc (s.reg a) := Map.get_set_self
theorem State.slot_setSlot_other {k j : Nat} (v : Slot) (h : j ≠ k) : (s.setSlot k v).slot j = s.slot j := Map.get_set_other h
theorem State.task_setTask_other {k j : Nat} (v : Task) (h : j ≠ k) : (s.setTask k v).task j = s.task j := Map.get_set_other h

@[simp] theorem State.ctx_setReg (a : Nat) (v : Word) (c : CtxId) : (s.setReg a v).ctx c = s.ctx c := rfl
@[simp] theorem State.ctx_bump (a : Nat) (c : CtxId) : (s.bump a).ctx c = s.ctx c := rfl
@[simp] theorem State.ctx_send (p : Packet) (c : CtxId) : (s.send p).ctx c = s.ctx c := rfl
@[simp] theorem State.ctx_take (p : Packet) (c : CtxId) : (s.take p).ctx c = s.ctx c := rfl
@[simp] theorem State.ctx_setTask (n : Nat) (v : Task) (c : CtxId) : (s.setTask n v).ctx c = s.ctx c := rfl
@[simp] theorem State.reg_setCtx (c : CtxId) (x : Context) (a : Nat) : (s.setCtx c x).reg a = s.reg a := rfl
@[simp] theorem State.reg_send (p : Packet) (a : Nat) : (s.send p).reg a = s.reg a := rfl
@[simp] theorem State.reg_take (p : Packet) (a : Nat) : (s.take p).reg a = s.reg a := rfl

end

/-- Two present contexts with one key are one context. -/
theorem ctxKey_inj {m : Member} {c d : CtxId} (hc : ctxPresent m c = true) (hd : ctxPresent m d = true)
    (h : ctxKey c = ctxKey d) : c = d := by
  obtain ⟨p, q, k⟩ := c
  obtain ⟨p', q', k'⟩ := d
  simp only [ctxPresent, Bool.and_eq_true, decide_eq_true_eq] at hc hd
  simp only [ctxKey] at h
  have : p = p' ∧ q = q' ∧ k = k' := by omega
  simp [this.1, this.2.1, this.2.2]

theorem State.ctx_setCtx_other (s : State) {c d : CtxId} (x : Context) (h : ctxKey d ≠ ctxKey c) :
    (s.setCtx c x).ctx d = s.ctx d := Map.get_set_other h

end Sys2Proof.Machine
end

