-- ==== Sys2Proof/Laws/Strand.lean ====
section
/-! SUPPORT. How a strand instruction that issues reaches its next state. -/

namespace Sys2Proof.Machine

variable {s t : State} {c : CtxId}

@[simp] theorem State.setCtx_setCtx (x y : Context) : (s.setCtx c x).setCtx c y = s.setCtx c y := by
  simp [State.setCtx]

/-- A strand instruction that issues does what it answers. -/
theorem runStrand_issues (h : Issues s c) (act : State → Context → Act) :
    runStrand s c act = .next (s.finish c (act s (s.ctx c))) := by
  unfold runStrand
  have hip : ¬ (s.ctx c).ip ≥ 16384 := by have := h.inside; omega
  simp [h.present, h.working, h.issuing, h.plain, h.calm, h.granted, h.stored, hip]

/-- A context that no debugger steps goes on. -/
theorem State.stepEnds_of_running (h : (s.ctx c).stepping = false) : s.stepEnds c = s := by
  simp [State.stepEnds, h]

theorem Context.loopEnd_stepping (x : Context) (a n : Nat) : (x.loopEnd a n).1.stepping = x.stepping := by
  induction n generalizing x with
  | zero => rfl
  | succ n ih =>
    unfold Context.loopEnd
    split
    · rfl
    · dsimp only
      split
      · rfl
      · split
        · rfl
        · rw [ih]
          rfl

theorem Context.advance_stepping (x : Context) : x.advance.stepping = x.stepping := Context.loopEnd_stepping x _ _

theorem State.finish_done (h : (t.ctx c).stepping = false) : s.finish c (.done t) = t.issued c (t.ctx c) := by
  refine State.stepEnds_of_running ?_
  show ((t.setCtx c (t.ctx c).advance).ctx c).stepping = false
  rw [State.ctx_setCtx, Context.advance_stepping, h]

theorem State.finish_goto {a : Nat} (h : (t.ctx c).stepping = false) : s.finish c (.goto t a) = t.went c (t.ctx c) a := by
  refine State.stepEnds_of_running ?_
  show ((t.setCtx c _).ctx c).stepping = false
  rw [State.ctx_setCtx]
  exact h

/-- After an instruction whose effect is a new context `y`. -/
theorem State.finish_setCtx {y : Context} (h : y.stepping = false) : s.finish c (.done (s.setCtx c y)) = s.issued c y := by
  rw [State.finish_done (by simpa using h)]
  simp [State.issued]

theorem State.finish_goto_setCtx {y : Context} {a : Nat} (h : y.stepping = false) :
    s.finish c (.goto (s.setCtx c y) a) = s.went c y a := by
  rw [State.finish_goto (by simpa using h)]
  simp [State.went]

/-- An instruction that issues touches its own context and the count of issued instructions. -/
theorem onlyContext_issued (s : State) (c : CtxId) (y : Context) : OnlyContext c s (s.issued c y) where
  rest := rfl
  code := rfl
  others := fun _ h => State.ctx_setCtx_other s _ h
  counters := fun _ h => State.reg_bump_other _ h

theorem onlyContext_went (s : State) (c : CtxId) (y : Context) (a : Nat) : OnlyContext c s (s.went c y a) where
  rest := rfl
  code := rfl
  others := fun _ h => State.ctx_setCtx_other s _ h
  counters := fun _ h => State.reg_bump_other _ h

@[simp] theorem State.ctx_issued (s : State) (c : CtxId) (y : Context) : (s.issued c y).ctx c = y.advance := State.ctx_setCtx s c _
@[simp] theorem State.ctx_went (s : State) (c : CtxId) (y : Context) (a : Nat) : (s.went c y a).ctx c = { y with ip := a } :=
  State.ctx_setCtx s c _

/-- The write is to a register that the context holds (EVM stands in the task table). -/
def RegWrite.held : RegWrite → Bool
  | .evm _ => false
  | _ => true

theorem Context.apply_stepping (x : Context) (w : RegWrite) : (x.apply w).stepping = x.stepping := by
  cases w <;> rfl

theorem Context.applyAll_stepping (x : Context) (ws : List RegWrite) : (x.applyAll ws).stepping = x.stepping := by
  induction ws generalizing x with
  | nil => rfl
  | cons w ws ih => exact (ih (x.apply w)).trans (Context.apply_stepping x w)

theorem landRegs_plain (h : (s.ctx c).micro = none) {ws : List RegWrite} (hw : ws.all RegWrite.held = true) :
    s.landRegs c ws = s.setCtx c ((s.ctx c).applyAll ws) := by
  have hl : (s.ctx c).landWrites (s.ctx c).micro.isSome ws = (s.ctx c).applyAll ws := by
    simp only [Context.landWrites, h]
  have hs : (s.ctx c).stages = false := by simp only [Context.stages, h]
  simp only [State.landRegs, hl, hs]
  generalize s.setCtx c ((s.ctx c).applyAll ws) = t
  simp only [Bool.false_eq_true, if_false]
  induction ws generalizing t with
  | nil => rfl
  | cons w ws ih =>
    simp only [List.all_cons, Bool.and_eq_true] at hw
    simp only [List.foldl_cons]
    cases w <;> first | exact ih hw.2 (by rw [Context.landWrites, h]) t | exact absurd hw.1 (by simp [RegWrite.held])

/-- A register-only instruction that answers register writes. -/
theorem runBody_ok (h : Issues s c) {b : Context → BodyOut} {ws : List RegWrite} (hb : b (s.ctx c) = .ok ws)
    (hw : ws.all RegWrite.held = true) : runBody s c b = .next (s.issued c ((s.ctx c).applyAll ws)) := by
  unfold runBody
  rw [runStrand_issues h, hb]
  simp only [bodyAct]
  rw [landRegs_plain h.plain hw, State.finish_setCtx]
  rw [Context.applyAll_stepping]
  exact h.running

/-- A register-only instruction that answers a taken transfer. -/
theorem runBody_jump (h : Issues s c) {b : Context → BodyOut} {a : Nat} (hb : b (s.ctx c) = .jump [] a) :
    runBody s c b = .next (s.went c (s.ctx c) a) := by
  unfold runBody
  rw [runStrand_issues h, hb]
  simp only [bodyAct]
  rw [landRegs_plain h.plain rfl]
  exact congrArg _ (State.finish_goto_setCtx (y := s.ctx c) h.running)

/-- A register-only instruction whose result comes later. -/
theorem runBody_long (h : Issues s c) {b : Context → BodyOut} {op : LongOp} (hb : b (s.ctx c) = .long op)
    (hu : s.unitBusy c op.unit = false) (hm : op.micro = false) :
    runBody s c b = .next (s.issued c { s.ctx c with longOps := (s.ctx c).longOps ++ [op] }) := by
  unfold runBody
  rw [runStrand_issues h, hb]
  have : { op with micro := (s.ctx c).micro.isSome } = op := by rw [h.plain]; cases op; cases hm; rfl
  simp only [bodyAct, hu, this, Bool.false_eq_true, if_false]
  exact congrArg _ (State.finish_setCtx h.running)

/-- The checks pass. -/
theorem gate_pass {x : Context} {ill rng : Bool} {refs : List RegRef} {k : BodyOut} (hi : ill = false) (hr : rng = false)
    (h : x.owes refs = false) : gate x ill rng refs k = k := by
  simp only [Context.owes, Bool.or_eq_false_iff] at h
  simp [gate, hi, hr, h.1, h.2]

/-- A field that must be 0 is not. -/
theorem gate_ill {x : Context} {ill rng : Bool} {refs : List RegRef} {k : BodyOut} (h : ill = true) :
    gate x ill rng refs k = .raise .illegal := by
  simp [gate, h]

/-- A pair or triple leaves the window. -/
theorem gate_rng {x : Context} {ill rng : Bool} {refs : List RegRef} {k : BodyOut} (hi : ill = false) (h : rng = true) :
    gate x ill rng refs k = .raise .regRange := by
  simp [gate, hi, h]

/-- A register-only instruction that raises an instruction fault. -/
theorem runBody_raise (h : Issues s c) {b : Context → BodyOut} {k : Cause} (hb : b (s.ctx c) = .raise k) :
    runBody s c b = .next ((s.countIssue c).instrFault c k) := by
  unfold runBody
  rw [runStrand_issues h, hb]
  rfl

/-- A register-only instruction that stalls at R. -/
theorem runBody_stall (h : Issues s c) {b : Context → BodyOut} {l : Bool} (hb : b (s.ctx c) = .stall l) :
    runBody s c b = .next (s.stallCtx c l) := by
  unfold runBody
  rw [runStrand_issues h, hb]
  rfl

theorem Context.owed_pass {x : Context} {rs : List RegRef} {k : Act} (h : x.owes rs = false) : x.owed rs k = k := by
  simp only [Context.owes, Bool.or_eq_false_iff] at h
  simp [Context.owed, h.1, h.2]

end Sys2Proof.Machine
end

