-- ==== Sys2Proof/Machine/Pins.lean ====
section
/-! DEFINITION. What the pins of a die show outside: which port pins are high impedance, the level of a TSOUT pin, the outputs of
the legacy port, and DEP_FAULT_N (R433, R456, R488, R493, R603, R614, R616, Tables 14-1, 18-5, 18-6 and 19-3). A level is
`none` where the pin is high impedance. -/

namespace Sys2Proof.Machine

/-- The pins that a function drives, as offsets from its cell (Table 14-1). -/
def outputPins (func : Nat) (rs485 : Bool) : List Nat :=
  match func with
  | 2 => [0]
  | 4 => [0, 1]
  | 5 => [0]
  | 6 => [0]
  | 7 => if rs485 then [0, 2] else [0]
  | 8 => [0, 1, 3]
  | _ => []

/-- The cell that sets pin `n`: its own, or that of the function whose PARTNER it is (R432). -/
def State.pinServer (s : State) (n : Nat) : Nat :=
  n - ((List.range 4).find? (fun k => decide (k ≤ n % 32) && decide (s.cellFunc (n - k) ≠ 10))).getD 0

/-- The function of its cell drives pin `n`. -/
def State.pinOut (s : State) (n : Nat) : Bool :=
  let c := s.pinServer n
  decide (n - c ∈ outputPins (s.cellFunc c) (s.regBit (Reg.cell c 6) 3))

/-- The die may drive its shared pins: it is powered, out of reset and not fenced, and no shadow (R591, R614, R616). -/
def State.dieDrives (s : State) : Bool := s.power.vaon && s.power.core && !s.pair.fenced && !s.pairShadow

/-- Port pin `n` is high impedance to its cell (R433, R456, R614). On a die that is no die of a pair a fence leaves the safe
levels driven (R588). -/
def State.portFloats (s : State) (n : Nat) : Bool :=
  let lives := if s.member = .z256d then s.dieDrives else s.power.vaon && s.power.core
  !(lives && s.domainOn (nodeBank (cellBank n)) && s.vioOk (cellBank n) && s.pinOut n)
    || (decide (s.cellFunc n = 2) && decide (s.outLevel n = 2))

/-- The level at a pin of a TSOUT cell: the boundary register imposes it, or the cell drives it (R434, R445, R495). -/
def State.tsoutPin (s : State) (n : Nat) : Option Bool :=
  match s.jtagDrives n with
  | some x => x
  | none => if s.portFloats n then none else some (decide (s.outLevel n = 1))

/-- The outputs of the legacy port are enabled (R488, R493, Table 19-3). -/
def State.legOutputs (s : State) : Bool := s.dieDrives && s.legServes

/-- A status line of the legacy port: push-pull, or open-drain where OD is 1 (R488). -/
def State.legLine (s : State) (low : Bool) : Option Bool :=
  if s.legOutputs = false then none
  else if low then some false
  else if s.regBit 0x0DC000 21 then none else some true

/-- LEG_INT_N (R490) and LEG_BUSY_N (R492). -/
def State.legIntPin (s : State) : Option Bool := s.legLine s.legInt
def State.legBusyPin (s : State) : Option Bool := s.legLine s.leg.busy

/-- DEP_FAULT_N: open-drain, low while FAULT is set (R603, R614). -/
def State.faultPin (s : State) : Option Bool := if s.power.vaon && s.regBit 0x000002 8 then some false else none

end Sys2Proof.Machine
end

