-- ==== Sys2Proof/Tests/Slice0.lean ====
section
/-! SUPPORT. Tests of the model: ill-formed commands that WellFormed refuses, single steps with results worked out by hand
from the rules, and for every statement that has hypotheses states and operands that meet them, clause by clause. -/

open Sys2Proof Sys2Proof.Machine

namespace Sys2Proof.Tests

-- One theorem at a time: kernel evaluations side by side ask for more stack than the checker grants.
set_option Elab.async false

/-- The outcome is a next state with the property `p`. -/
def answers (o : Out) (p : State → Bool) : Bool :=
  match o with
  | .next t => p t
  | _ => false

/-- Two outcomes are the same next state. -/
def same (o q : Out) : Bool :=
  match q with
  | .next t => answers o (fun u => decide (u = t))
  | _ => false

theorem same_next {o : Out} {t : State} (h : same o (.next t) = true) : o = .next t := by
  cases o with
  | next u => exact congrArg _ (of_decide_eq_true h)
  | fault r => exact absurd h (by simp [same, answers])
  | refused r => exact absurd h (by simp [same, answers])

/-- Context 0 of pipeline 0 of pavilion 0. -/
def c0 : CtxId := ⟨0, 0, 0⟩

/-- A strand that issues: a task of tenant 1. -/
def strand : Context := { Context.idle with state := .issuing, isTask := true, tenant := 1, wgrp := 1, task := 5 }

/-- The state after reset with context `x` in `c0`. -/
def withCtx (x : Context) : State := State.reset.setCtx c0 x

/-- The context that an instruction in `withCtx x` reads. -/
abbrev at0 (x : Context) : Context := (withCtx x).ctx c0

/-- The conditions of `Issues`, as one Boolean. -/
def issuesB (s : State) (c : CtxId) : Bool :=
  ctxPresent s.member c && !s.pair.fenced && decide ((s.ctx c).state = .issuing) && decide ((s.ctx c).micro = none)
    && !(s.ctx c).alertDue && !(s.ctx c).awaitsGrant && decide ((s.ctx c).lateErr = none) && decide ((s.ctx c).ip < 16384)
    && !(s.ctx c).stepping

theorem issues_of {s : State} {c : CtxId} (h : issuesB s c = true) : Issues s c := by
  simp only [issuesB, Bool.and_eq_true, Bool.not_eq_true', decide_eq_true_eq] at h
  obtain ⟨⟨⟨⟨⟨⟨⟨⟨h1, h2⟩, h3⟩, h4⟩, h5⟩, h6⟩, h7⟩, h8⟩, h9⟩ := h
  exact ⟨h1, h2, h3, h4, h5, h6, h7, h8, h9⟩

/-- `exec` cuts the strand short with the instruction fault of cause `k` (Table 6-13). -/
def faults (i : Instr) (x : Context) (k : Nat) : Bool :=
  answers (exec i (withCtx x)) (fun t => decide ((t.ctx c0).state = .free) &&
    t.flight.any (fun p => match p with
      | .evlog r => decide (r.code = 8 ∧ r.detail.toNat / 0x10000 = k)
      | _ => false))

/-- Context `x` with register W(i) of its window set. -/
def w (x : Context) (i : Nat) (v : Word) : Context := x.setRing (x.wi i) v

/-! ### Ill-formed commands -/

def badReq : Req := ⟨1024, 0, 0, 0, 0, 0, 0⟩
def okReq : Req := ⟨0, 0, 0, 0, 0, 0, 0⟩
def okFrame : LinkFrame := ⟨true, 0, 0, false, []⟩

theorem test_wf_context_refused : (Instr.nop ⟨256, 0, 0⟩ 0 0 0).wf = false ∧ (Instr.nop ⟨0, 4, 0⟩ 0 0 0).wf = false ∧
    (Instr.nop ⟨0, 0, 4⟩ 0 0 0).wf = false ∧ (Instr.nop ⟨255, 3, 3⟩ 0 0 0).wf = true := by decide +kernel

theorem test_wf_request_refused : (Instr.lockTry badReq 0).wf = false ∧ (Instr.lockTry { okReq with node := 1024 } 0).wf = false ∧
    (Instr.lockTry { okReq with unit := 16 } 0).wf = false ∧ (Instr.lockTry { okReq with rid := 16384 } 0).wf = false ∧
    (Instr.lockTry { okReq with tenant := 512 } 0).wf = false ∧ (Instr.lockTry okReq 2048).wf = false ∧
    (Instr.lockTry okReq 2047).wf = true := by decide +kernel

theorem test_wf_response_refused : (Instr.rsp ⟨1024, 0, 0, 0, 0, false, 0⟩).wf = false ∧
    (Instr.rsp ⟨0, 16, 0, 0, 0, false, 0⟩).wf = false ∧ (Instr.rsp ⟨0, 0, 16384, 0, 0, false, 0⟩).wf = false ∧
    (Instr.rsp ⟨0, 0, 0, 1024, 0, false, 0⟩).wf = false ∧ (Instr.rsp ⟨0, 0, 0, 0, 16, false, 0⟩).wf = false ∧
    (Instr.rsp ⟨0, 0, 0, 0, 15, false, 0⟩).wf = true := by decide +kernel

theorem test_wf_token_refused : (Instr.ftok ⟨1024, 0, 0, 0, 2, 0, 0, 0, false⟩).wf = false ∧
    (Instr.ftok ⟨0, 1024, 0, 0, 2, 0, 0, 0, false⟩).wf = false ∧ (Instr.ftok ⟨0, 0, 0, 512, 2, 0, 0, 0, false⟩).wf = false ∧
    (Instr.ftok ⟨0, 0, 0, 0, 8, 0, 0, 0, false⟩).wf = false ∧ (Instr.ptok 32 ⟨0, 0, 0, 0, 2, 0, 0, 0, false⟩).wf = false := by
  decide +kernel

theorem test_wf_packets_refused : (Instr.evlog ⟨256, 0, 0, 0, 0, none⟩).wf = false ∧ (Instr.evlog ⟨0, 1024, 0, 0, 0, none⟩).wf = false ∧
    (Instr.freePacket ⟨0, 512, 0, 0, false⟩).wf = false ∧ (Instr.freePacket ⟨0, 0, 0, 1024, false⟩).wf = false ∧
    (Instr.allocRequest ⟨c0, 16384, 0, 0, 0, false⟩).wf = false ∧ (Instr.allocRequest ⟨c0, 0, 512, 0, 0, false⟩).wf = false ∧
    (Instr.allocRequest ⟨c0, 0, 0, 256, 0, false⟩).wf = false ∧ (Instr.allocRequest ⟨⟨256, 0, 0⟩, 0, 0, 0, 0, false⟩).wf = false ∧
    (Instr.spres ⟨c0, 16384, 0, 0, 0, 0⟩).wf = false ∧ (Instr.spres ⟨c0, 0, 512, 0, 0, 0⟩).wf = false ∧
    (Instr.spres ⟨c0, 0, 0, 64, 0, 0⟩).wf = false ∧ (Instr.spres ⟨c0, 0, 0, 0, 32768, 0⟩).wf = false ∧
    (Instr.ingressRequest ⟨none, 1024, 0, 0, 0, 0, [], 0⟩).wf = false ∧
    (Instr.ingressRequest ⟨none, 0, 0, 16384, 0, 0, [], 0⟩).wf = false ∧
    (Instr.linkFrameReceive 0 { okFrame with seq := 2048 }).wf = false ∧
    (Instr.linkFrameReceive 0 { okFrame with ack := 2048 }).wf = false := by decide +kernel

theorem test_wf_store_units_refused : (Instr.longOpComplete c0 32).wf = false ∧ (Instr.preloadComplete c0 false .sound 16).wf = false ∧
    (Instr.fireNotice 64).wf = false ∧ (Instr.handOver 64).wf = false ∧ (Instr.dispatchDecision 16).wf = false ∧
    (Instr.pavilionQueueBind 256).wf = false ∧ (Instr.recallAnswer 32768).wf = false ∧ (Instr.land 64 0 0 0).wf = false ∧
    (Instr.land 0 1024 0 0).wf = false ∧ (Instr.land 0 0 1024 0).wf = false ∧ (Instr.land 0 0 0 32768).wf = false ∧
    (Instr.paceTimeout 1024 0 0).wf = false ∧ (Instr.paceTimeout 0 1024 0).wf = false ∧ (Instr.paceTimeout 0 0 32768).wf = false ∧
    (Instr.wakeRequest 16 0).wf = false ∧ (Instr.wakeRequest 0 64).wf = false ∧ (Instr.allocReply c0 16384 0 true).wf = false ∧
    (Instr.genQuarantineEnd 262144).wf = false ∧ (Instr.sevArrival 4096 0 .device).wf = false ∧
    (Instr.spawnRelease 4096 0 0 c0 0 0).wf = false ∧ (Instr.spawnRelease 0 32768 0 c0 0 0).wf = false ∧
    (Instr.spawnRelease 0 0 64 c0 0 0).wf = false ∧ (Instr.spawnRelease 0 0 0 c0 512 0).wf = false ∧
    (Instr.waittTargetReached 4096).wf = false ∧ (Instr.domainVisit 512).wf = false ∧ (Instr.flowhang 32768).wf = false ∧
    (Instr.taskKill okReq 4096 0).wf = false ∧ (Instr.evfWrite okReq 4096 0).wf = false := by decide +kernel

theorem test_wf_port_units_refused : (Instr.portCommit 32).wf = false ∧ (Instr.portArm 32).wf = false ∧ (Instr.portDisarm 32).wf = false ∧
    (Instr.commitAct 1024).wf = false ∧ (Instr.expectDeadline 1024).wf = false ∧ (Instr.scheduleInstant 1024).wf = false ∧
    (Instr.inputEdge 1024 true).wf = false ∧ (Instr.quadTransition 1024 true true).wf = false ∧ (Instr.pulseEdge 1024).wf = false ∧
    (Instr.ssiTransferDone 1024 0).wf = false ∧ (Instr.uartRxCharacter 1024 0 false false 0).wf = false ∧
    (Instr.uartRxCharacter 0 512 false false 0).wf = false ∧ (Instr.spiTransferDone 1024 0).wf = false ∧
    (Instr.captureInject 1024).wf = false ∧ (Instr.cellResume okReq 1024).wf = false ∧ (Instr.cellFlush okReq 1024).wf = false ∧
    (Instr.cellPop okReq 1024).wf = false ∧ (Instr.cellRecover okReq 1024 0).wf = false ∧ (Instr.calgo okReq 32 0).wf = false ∧
    (Instr.calibrationDone 32).wf = false ∧ (Instr.vioLoss 32).wf = false ∧ (Instr.vioReturn 32).wf = false ∧
    (Instr.reprogrammingEnd 1024).wf = false ∧ (Instr.padMismatch 1024 true).wf = false ∧
    (Instr.captureDisagreement 1024 true).wf = false ∧ (Instr.sourceTimeout 4).wf = false := by decide +kernel

theorem test_wf_memory_units_refused : (Instr.hopResend 64 0 1 0 0).wf = false ∧ (Instr.hopResend 0 0 5 0 0).wf = false ∧
    (Instr.requestTimeout 1024 0).wf = false ∧ (Instr.requestTimeout 0 16384).wf = false ∧
    (Instr.rdLine okReq 4194304 .sound).wf = false ∧ (Instr.rdxLine okReq 4194304 .sound).wf = false ∧
    (Instr.rdw okReq 16777216 1 .sound 0 false).wf = false ∧ (Instr.wrw okReq 16777216 [0] 0 false).wf = false ∧
    (Instr.setw okReq 16777216 [0]).wf = false ∧ (Instr.clrw okReq 16777216 [0]).wf = false ∧
    (Instr.rrd okReq 16777216 1 .sound 0 false).wf = false ∧ (Instr.rwr okReq 16777216 [0] 0 false).wf = false ∧
    (Instr.registerRead okReq 33554432).wf = false ∧ (Instr.registerWrite okReq 33554432 0).wf = false ∧
    (Instr.testerOperation 256 true false).wf = false ∧ (Instr.stateFlush okReq 256 0).wf = false ∧
    (Instr.queuePut okReq 1024 0).wf = false ∧ (Instr.queueGet okReq 1024 .sound).wf = false ∧
    (Instr.queueCommit okReq 1024).wf = false ∧ (Instr.queueRewind okReq 1024).wf = false ∧ (Instr.queueDrop okReq 1024).wf = false ∧
    (Instr.queueStatus okReq 1024).wf = false ∧ (Instr.pstatus okReq 1024).wf = false ∧ (Instr.queueRecord 1024 0 []).wf = false ∧
    (Instr.queueRecord 0 1024 []).wf = false ∧ (Instr.lockWait okReq 2048).wf = false ∧ (Instr.waitTimeout 2048 0).wf = false ∧
    (Instr.lockPeek okReq 2048).wf = false ∧ (Instr.locketRelease okReq 2048).wf = false ∧
    (Instr.locketRecovery okReq 2048).wf = false ∧ (Instr.lockForce okReq 2048 0).wf = false ∧
    (Instr.nodeIso okReq 1024 0).wf = false ∧ (Instr.alertRequest okReq 256 0).wf = false := by decide +kernel

theorem test_wf_outside_units_refused : (Instr.linkFrameReceive 16 okFrame).wf = false ∧ (Instr.replayTimeout 16).wf = false ∧
    (Instr.laneLockLoss 16).wf = false ∧ (Instr.linkRetrain 16).wf = false ∧ (Instr.linkUp 16 0).wf = false ∧
    (Instr.linkUp 0 65536).wf = false ∧ (Instr.linkEnable okReq 16 0).wf = false ∧ (Instr.timeExchangeStart 16).wf = false ∧
    (Instr.syncFrame 16 okFrame 0).wf = false ∧ (Instr.delreq 16 okFrame 0).wf = false ∧ (Instr.timesFrame 16 okFrame 0 0 0).wf = false ∧
    (Instr.pairInput 16 okFrame 0 (.legTry 0)).wf = false ∧ (Instr.pairAcknowledgement 16 okFrame 0).wf = false ∧
    (Instr.pairIntent 16 okFrame ⟨0, 0, 0⟩ 0).wf = false ∧ (Instr.pairAgreement 16 okFrame ⟨0, 0, 0⟩).wf = false ∧
    (Instr.pairDone 16 okFrame ⟨0, 0, 0⟩).wf = false ∧ (Instr.pairHeartbeat 16 okFrame).wf = false ∧
    (Instr.pcieBarRead 64 0 0 0).wf = false ∧ (Instr.pcieBarRead 0 6 0 0).wf = false ∧ (Instr.pcieBarRead 0 0 16777216 0).wf = false ∧
    (Instr.pcieBarWrite 64 0 0 0 true).wf = false ∧ (Instr.pcieBarWrite 0 6 0 0 true).wf = false ∧
    (Instr.pcieBarWrite 0 0 16777216 0 true).wf = false ∧ (Instr.mailboxRead 64).wf = false ∧ (Instr.mailboxWrite 64).wf = false ∧
    (Instr.mailboxSetWrite 64).wf = false ∧ (Instr.mailboxClearWrite 64).wf = false ∧ (Instr.noticeRead 64).wf = false ∧
    (Instr.sevflags 64 0).wf = false ∧ (Instr.functionLevelReset 64).wf = false ∧ (Instr.ethFrameReceive 4 ⟨true, [], 0⟩).wf = false ∧
    (Instr.ethFrameTransmit 4 .sound).wf = false ∧ (Instr.patrolScrub 8 .sound).wf = false ∧ (Instr.dbgacc 16777216 none).wf = false := by
  decide +kernel

theorem test_wf_power_units_refused : (Instr.domainIdleEntry 512).wf = false ∧ (Instr.reqRet okReq 512 0).wf = false ∧
    (Instr.reqOff okReq 512 0).wf = false ∧ (Instr.reqWake okReq 512 0).wf = false ∧ (Instr.domainEntryComplete 512 true).wf = false ∧
    (Instr.domainWakeComplete 512).wf = false ∧ (Instr.railPoll 16 false false false false 0).wf = false ∧
    (Instr.railTimeout 16).wf = false ∧ (Instr.railPauseEnd 16).wf = false ∧ (Instr.pgoodFall 16).wf = false ∧
    (Instr.railClr okReq 16 0).wf = false ∧ (Instr.tenantStart okReq 512 0).wf = false ∧ (Instr.tenantStop none 512 0).wf = false ∧
    (Instr.tenantStop (some badReq) 0 0).wf = false ∧ (Instr.pavilionFence 256 .residue []).wf = false ∧
    (Instr.pavRetire okReq 256 0 []).wf = false ∧ (Instr.selfTestDone 256 true).wf = false ∧
    (Instr.pairSimplex (some badReq) 0).wf = false ∧ (Instr.logNext badReq 0).wf = false := by decide +kernel

/-! ### Integer and move instructions -/

/-- W1 = 5, W2 = 7, W3 = 0xFFFFFF, W4 = 0x800000, W5 = 0. -/
def ints : Context := w (w (w (w (w strand 1 5) 2 7) 3 0xFFFFFF) 4 0x800000) 5 0

/-- `exec` gives the state with W(d) = r and flags f. -/
def givesWF (i : Instr) (x : Context) (d : Reg) (r : Word) (f : BitVec 5) : Bool :=
  answers (exec i (withCtx x)) (fun t => decide ((t.ctx c0).w d.toNat = r ∧ (t.ctx c0).fl = f ∧ (t.ctx c0).ip = x.ip + 1))

theorem w_ArithmeticLogicAndShiftResults : Issues (withCtx ints) c0 ∧
    (at0 ints).owes ((at0 ints).wRefs (2 : Reg) 1 ++ (at0 ints).wRefs (1 : Reg) 1
      ++ (at0 ints).wRefs (6 : Reg) 1 ++ [.fl]) = false ∧
    (at0 ints).owes ((at0 ints).wRefs (31 : Reg) 1 ++ (at0 ints).wRefs (31 : Reg) 1
      ++ (at0 ints).wRefs (31 : Reg) 1 ++ [.fl]) = false :=
  ⟨issues_of (by decide +kernel), by decide +kernel⟩

/-- 5 + 7 = 12; −1 + 5 = 4 with a carry; 0x800000 + 0x800000 = 0 with carry and overflow; 5 − 7 = −2 with a borrow. -/
theorem test_add : givesWF (.add c0 6 1 2) ints 6 12 (Fl.ofBools false false false false false) = true ∧
    givesWF (.add c0 6 3 1) ints 6 4 (Fl.ofBools false false false true false) = true ∧
    givesWF (.add c0 4 4 4) ints 4 0 (Fl.ofBools false false true true true) = true := by decide +kernel
theorem test_adc : givesWF (.adc c0 6 1 2) { ints with fl := Fl.ofBools true false false true false } 6 13
    (Fl.ofBools true false false false false) = true := by decide +kernel
theorem test_sub : givesWF (.sub c0 6 1 2) ints 6 0xFFFFFE (Fl.ofBools false true false false false) = true ∧
    givesWF (.sub c0 6 4 1) ints 6 0x7FFFFB (Fl.ofBools false false false true true) = true := by decide +kernel
theorem test_sbc : givesWF (.sbc c0 6 2 1) ints 6 1 (Fl.ofBools false false false true false) = true := by decide +kernel
theorem test_logic : givesWF (.andW c0 6 1 2) ints 6 5 (Fl.ofBools false false false false false) = true ∧
    givesWF (.orW c0 6 1 4) ints 6 0x800005 (Fl.ofBools false true false false false) = true ∧
    givesWF (.xorW c0 6 1 1) ints 6 0 (Fl.ofBools false false true false false) = true ∧
    givesWF (.andn c0 6 2 1) ints 6 2 (Fl.ofBools false false false false false) = true := by decide +kernel
/-- A count of 7; a count of 24 shifts bit 0 or bit 23 out, one of more than 24 leaves a carry of 0 (R253). -/
theorem test_shifts : givesWF (.shl c0 6 1 2) ints 6 640 (Fl.ofBools false false false false false) = true ∧
    givesWF (.shr c0 6 3 2) ints 6 0x01FFFF (Fl.ofBools false false false true false) = true ∧
    givesWF (.sar c0 6 4 2) ints 6 0xFF0000 (Fl.ofBools false true false false false) = true ∧
    givesWF (.rol c0 6 4 2) ints 6 0x000040 (Fl.ofBools false false false false false) = true ∧
    givesWF (.shl c0 6 3 7) (w ints 7 24) 6 0 (Fl.ofBools false false true true false) = true ∧
    givesWF (.shr c0 6 3 7) (w ints 7 25) 6 0 (Fl.ofBools false false true false false) = true ∧
    givesWF (.sar c0 6 4 7) (w ints 7 25) 6 0xFFFFFF (Fl.ofBools false true false true false) = true := by decide +kernel

theorem w_CompareAndSelectResults : Issues (withCtx ints) c0 ∧
    (at0 ints).owes ((at0 ints).wRefs (31 : Reg) 1 ++ (at0 ints).wRefs (2 : Reg) 1
      ++ (at0 ints).wRefs (31 : Reg) 1) = false ∧
    (at0 ints).owes ((at0 ints).wRefs (31 : Reg) 1 ++ (at0 ints).wRefs (2 : Reg) 1 ++ [.fl]) = false ∧
    (1 : Reg) ≠ 0 :=
  ⟨issues_of (by decide +kernel), by decide +kernel⟩

theorem test_select : givesWF (.minW c0 6 1 3) ints 6 0xFFFFFF 0 = true ∧ givesWF (.maxW c0 6 1 3) ints 6 5 0 = true ∧
    givesWF (.minu c0 6 1 3) ints 6 5 0 = true ∧ givesWF (.maxu c0 6 1 3) ints 6 0xFFFFFF 0 = true ∧
    givesWF (.slt c0 6 3 1) ints 6 1 0 = true ∧ givesWF (.sltu c0 6 3 1) ints 6 0 0 = true ∧
    givesWF (.seq c0 6 1 1) ints 6 1 0 = true := by decide +kernel
theorem test_compare : givesWF (.cmp c0 0 1 2) ints 0 0 (Fl.ofBools false true false false false) = true ∧
    givesWF (.tst c0 0 1 4) ints 0 0 (Fl.ofBools false false true false false) = true ∧
    faults (.cmp c0 1 1 2) ints 1 = true := by decide +kernel

theorem w_ImmediateResults : Issues (withCtx ints) c0 ∧
    (at0 ints).owes ((at0 ints).wRefs (31 : Reg) 1 ++ (at0 ints).wRefs (31 : Reg) 1 ++ [.fl]) = false ∧
    (at0 ints).owes ((at0 ints).wRefs (31 : Reg) 1 ++ [.fl]) = false ∧
    (31 : BitVec 8).toNat < 32 ∧ 32 ≤ (32 : BitVec 8).toNat ∧ (1 : Reg) ≠ 0 :=
  ⟨issues_of (by decide +kernel), by decide +kernel⟩

/-- The immediate of ADDI and CMPI is signed, that of ANDI, ORI and XORI is not. -/
theorem test_immediates : givesWF (.addi c0 6 1 0xFF) ints 6 4 (Fl.ofBools false false false true false) = true ∧
    givesWF (.andi c0 6 3 0xFF) ints 6 0xFF (Fl.ofBools false false false false false) = true ∧
    givesWF (.ori c0 6 5 0x80) ints 6 0x80 (Fl.ofBools false false false false false) = true ∧
    givesWF (.xori c0 6 3 0xFF) ints 6 0xFFFF00 (Fl.ofBools false true false false false) = true ∧
    givesWF (.shli c0 6 1 31) ints 6 0 (Fl.ofBools false false true false false) = true ∧
    givesWF (.shri c0 6 4 4) ints 6 0x080000 (Fl.ofBools false false false false false) = true ∧
    givesWF (.sari c0 6 4 4) ints 6 0xF80000 (Fl.ofBools false true false false false) = true ∧
    givesWF (.cmpi c0 0 1 5) ints 0 0 (Fl.ofBools false false true true false) = true ∧
    faults (.shli c0 6 1 32) ints 1 = true := by decide +kernel

theorem w_UnaryAndConstantResults : Issues (withCtx ints) c0 ∧
    (at0 ints).owes ((at0 ints).wRefs (31 : Reg) 1) = false ∧ (2047 : BitVec 13).toNat < 2048 ∧
    2048 ≤ (2048 : BitVec 13).toNat ∧
    (at0 ints).owes ((at0 ints).wRefs (31 : Reg) 1 ++ (at0 ints).wRefs (31 : Reg) 1 ++ [.fl]) = false ∧
    (at0 ints).w 5 = 0 ∧ (at0 ints).w 1 ≠ 0 ∧ (1 : Reg) ≠ 0 :=
  ⟨issues_of (by decide +kernel), by decide +kernel⟩

theorem test_unary : givesWF (.movi c0 6 0x1FFF) ints 6 0xFFFFFF 0 = true ∧ givesWF (.movh c0 1 0x7FF) ints 1 0xFFE005 0 = true ∧
    givesWF (.notW c0 6 1 0) ints 6 0xFFFFFA (Fl.ofBools false true false false false) = true ∧
    givesWF (.neg c0 6 1 0) ints 6 0xFFFFFB (Fl.ofBools false true false false false) = true ∧
    givesWF (.neg c0 6 4 0) ints 6 0x800000 (Fl.ofBools false true false false true) = true ∧
    givesWF (.clz c0 6 1 0) ints 6 21 0 = true ∧ givesWF (.clz c0 6 5 0) ints 6 24 0 = true ∧
    givesWF (.popc c0 6 2 0) ints 6 3 0 = true := by decide +kernel

/-! ### Moves, special registers, multiply, divide, accumulate, floating point -/

/-- `exec` gives the state whose context has the property. -/
def givesCtx (i : Instr) (x : Context) (p : Context → Prop) [DecidablePred p] : Bool :=
  answers (exec i (withCtx x)) (fun t => decide (p (t.ctx c0)))

/-- No register of the context is owed. -/
def free (x : Context) : Bool := decide (x.longOps = [] ∧ x.waits = [])

theorem w_MoveResults : Issues (withCtx ints) c0 ∧
    (at0 ints).owes ((at0 ints).wRefs (31 : Reg) 1 ++ (at0 ints).wRefs (31 : Reg) 1) = false ∧
    ((at0 ints).owes ((at0 ints).wRefs (30 : Reg) 2 ++ (at0 ints).wRefs (30 : Reg) 2) = false ∧ (30 : Reg).toNat ≤ 30) ∧
    ((at0 ints).owes ((at0 ints).wRefs (29 : Reg) 3 ++ (at0 ints).wRefs (29 : Reg) 3) = false ∧ (29 : Reg).toNat ≤ 29) ∧
    30 < (31 : Reg).toNat ∧ 29 < (30 : Reg).toNat ∧ (1 : Reg) ≠ 0 :=
  ⟨issues_of (by decide +kernel), by decide +kernel⟩

theorem test_move : givesCtx (.mov c0 31 3 0) ints (fun y => y.w 31 = 0xFFFFFF) = true ∧
    givesCtx (.movp c0 30 3 0) ints (fun y => y.w 30 = 0xFFFFFF ∧ y.w 31 = 0x800000) = true ∧
    givesCtx (.movt c0 2 1 0) ints (fun y => y.w 2 = 5 ∧ y.w 3 = 7 ∧ y.w 4 = 0xFFFFFF) = true ∧
    faults (.movp c0 31 3 0) ints 2 = true ∧ faults (.movt c0 1 30 0) ints 2 = true := by decide +kernel

/-- A strand with every special register set. -/
def specials : Context :=
  { (ints.setLoop 0 ⟨11, 12, 13, 0⟩).setLoop 2 ⟨31, 32, 33, 0⟩ with
    lnk := 0x123, pl := 1, ph := 2, acc := Triple.ofWords 3 4 5, fl := 21, fpsc := 0x0C0001, depth := 0 }

theorem w_ReadSpecialRegisters : Issues (withCtx specials) c0 ∧
    (∀ n, n < 22 → (at0 specials).owes (spRefs n ++ (at0 specials).wRefs (31 : Reg) 1) = false) ∧
    (at0 specials).isTask = true ∧ (at0 specials).fpOut = false ∧ (at0 specials).sync = [] ∧
    (22 ≤ (22 : Reg).toNat ∧ (1 : Reg) ≠ 0) ∧ Issues (withCtx { specials with isTask := false }) c0 ∧
    (at0 { specials with isTask := false }).isTask = false :=
  ⟨issues_of (by decide +kernel), by decide +kernel, by decide +kernel, by decide +kernel, by decide +kernel, by decide +kernel,
    issues_of (by decide +kernel), by decide +kernel⟩

theorem test_mfs : givesCtx (.mfs c0 6 0 0) specials (fun y => y.w 6 = 0x123) = true ∧
    givesCtx (.mfs c0 6 0 5) specials (fun y => y.w 6 = 5) = true ∧ givesCtx (.mfs c0 6 0 6) specials (fun y => y.w 6 = 11) = true ∧
    givesCtx (.mfs c0 6 0 13) specials (fun y => y.w 6 = 32) = true ∧ givesCtx (.mfs c0 6 0 14) specials (fun y => y.w 6 = 33) = true ∧
    givesCtx (.mfs c0 6 0 15) specials (fun y => y.w 6 = 21) = true ∧ faults (.mfs c0 6 0 22) specials 1 = true ∧
    faults (.mfs c0 6 1 0) specials 1 = true ∧ faults (.mfs c0 6 0 17) { specials with isTask := false } 7 = true := by
  decide +kernel

theorem w_WriteSpecialRegisters : Issues (withCtx specials) c0 ∧
    (∀ n, n < 22 → (at0 specials).owes ((at0 specials).wRefs (31 : Reg) 1 ++ spRefs n) = false) ∧
    (at0 specials).fpOut = false ∧ (w (at0 specials) 6 191).w 6 = 191 ∧ (191 : Word).toNat % 256 < 192 ∧
    192 ≤ (192 : Word).toNat % 256 ∧ (at0 specials).isTask = true ∧ (at0 specials).owes ((at0 specials).wRefs (31 : Reg) 1) = false ∧
    (at0 { specials with isTask := false }).isTask = false ∧ 21 ≤ (21 : Reg).toNat :=
  ⟨issues_of (by decide +kernel), by decide +kernel⟩

theorem test_mts : givesCtx (.mts c0 0 3 0) ints (fun y => y.lnk = 0x3FFF) = true ∧
    givesCtx (.mts c0 4 1 0) specials (fun y => y.acc = Triple.ofWords 3 5 5) = true ∧
    givesCtx (.mts c0 15 3 0) ints (fun y => y.fl = 31) = true ∧ givesCtx (.mts c0 18 3 0) ints (fun y => y.fpsc = 0x0C1F1F) = true ∧
    givesCtx (.mts c0 19 1 0) ints (fun y => y.wb = 0 ∧ y.sync = [.wb 5]) = true ∧
    faults (.mts c0 19 6 0) (w ints 6 192) 1 = true ∧ faults (.mts c0 21 1 0) ints 1 = true ∧
    answers (exec (.mts c0 16 1 0) (withCtx ints)) (fun t => decide ((t.task 5).evm = 5)) = true := by decide +kernel

theorem w_MultiplyResults : Issues (withCtx ints) c0 ∧
    (at0 ints).owes ((at0 ints).wRefs (31 : Reg) 1 ++ (at0 ints).wRefs (31 : Reg) 1 ++ [.pl, .ph]) = false ∧
    (at0 ints).owes ((at0 ints).wRefs (31 : Reg) 1 ++ (at0 ints).wRefs (31 : Reg) 1 ++ (at0 ints).wRefs (31 : Reg) 1) = false ∧
    ((at0 ints).owes ((at0 ints).wRefs (31 : Reg) 1 ++ (at0 ints).wRefs (31 : Reg) 1) = false ∧ (at0 ints).accHeld = false) ∧
    (1 : Reg) ≠ 0 :=
  ⟨issues_of (by decide +kernel), by decide +kernel⟩

theorem test_multiply : givesCtx (.mul c0 0 3 1) ints (fun y => y.longOps.map LongOp.writes = [[.pl 0xFFFFFB, .ph 0xFFFFFF]]) = true ∧
    givesCtx (.mulu c0 0 3 1) ints (fun y => y.longOps.map LongOp.writes = [[.pl 0xFFFFFB, .ph 4]]) = true ∧
    givesCtx (.mulw c0 6 2 1) ints (fun y => y.longOps.map LongOp.writes = [[y.wr (6 : Reg) 35]]) = true := by decide +kernel
theorem test_accumulate : givesCtx (.mac c0 0 3 1) { ints with acc := 100 } (fun y => y.longOps.map LongOp.writes = [[.acc 95]]) = true ∧
    givesCtx (.macu c0 0 2 1) { ints with acc := 100 } (fun y => y.longOps.map LongOp.writes = [[.acc 135]]) = true ∧
    givesCtx (.msu c0 0 3 1) { ints with acc := 100 } (fun y => y.longOps.map LongOp.writes = [[.acc 105]]) = true ∧
    givesCtx (.msuu c0 0 2 1) { ints with acc := 35 } (fun y => y.longOps.map LongOp.writes = [[.acc 0]]) = true := by decide +kernel

/-- A strand whose divider is busy. -/
def dividing : Context := { ints with longOps := [⟨.divider, false, [.pl 0, .ph 0], 0, false, 0, false⟩] }

theorem w_DivideResults : Issues (withCtx ints) c0 ∧
    (at0 ints).owes ((at0 ints).wRefs (4 : Reg) 1 ++ (at0 ints).wRefs (3 : Reg) 1 ++ [.pl, .ph]) = false ∧
    (withCtx ints).unitBusy c0 .divider = false ∧ (at0 ints).w 5 = 0 ∧ ((at0 ints).w 4 = 0x800000 ∧ (at0 ints).w 3 = 0xFFFFFF) ∧
    ((at0 ints).w 1 ≠ 0 ∧ ¬ ((at0 ints).w 1 = 0x800000 ∧ (at0 ints).w 1 = 0xFFFFFF)) ∧
    (let s := (withCtx ints).setCtx ⟨0, 0, 1⟩ dividing
     (s.ctx c0).owes ((s.ctx c0).wRefs (1 : Reg) 1 ++ (s.ctx c0).wRefs (2 : Reg) 1 ++ [.pl, .ph]) = false ∧
      s.unitBusy c0 .divider = true) :=
  ⟨issues_of (by decide +kernel), by decide +kernel⟩

/-- 7 / −5 = −1 remainder 2 and −7 / 5 = −1 remainder −2: the quotient rounds toward zero (R256). -/
theorem test_divide : givesCtx (.div c0 0 2 6) (w ints 6 0xFFFFFB) (fun y => y.longOps.map LongOp.writes = [[.pl 0xFFFFFF, .ph 2]]) = true ∧
    givesCtx (.div c0 0 6 1) (w ints 6 0xFFFFF9) (fun y => y.longOps.map LongOp.writes = [[.pl 0xFFFFFF, .ph 0xFFFFFE]]) = true ∧
    givesCtx (.div c0 0 4 3) ints (fun y => y.longOps.map LongOp.writes = [[.pl 0x800000, .ph 0]]) = true ∧
    givesCtx (.div c0 0 1 5) ints (fun y => y.longOps.map LongOp.writes = [[.pl 0xFFFFFF, .ph 5]]) = true ∧
    givesCtx (.divu c0 0 3 2) ints (fun y => y.longOps.map LongOp.writes = [[.pl 2396745, .ph 0]]) = true := by decide +kernel

theorem w_AccumulatorResults : Issues (withCtx ints) c0 ∧ (at0 ints).owes [.acc] = false ∧
    (at0 ints).owes ((at0 ints).wRefs (31 : Reg) 1 ++ [.acc]) = false ∧
    (at0 ints).owes ((at0 ints).wRefs (31 : Reg) 1 ++ [.acc, .fl]) = false ∧ (1 : Reg) ≠ 0 :=
  ⟨issues_of (by decide +kernel), by decide +kernel⟩

theorem test_accsat : givesCtx (.clracc c0 0 0 0) specials (fun y => y.acc = 0) = true ∧
    givesCtx (.accsr c0 0 1 0) { ints with acc := -33 } (fun y => y.acc = -2) = true ∧
    givesCtx (.accsat c0 6 0 0) { ints with acc := 0x800000 } (fun y => y.longOps.map LongOp.writes =
      [[y.wr (6 : Reg) 0x7FFFFF, .fl (Fl.ofBools false false false false true)]]) = true := by decide +kernel

/-- A strand with two operations under way: a multiplication, and an FP operation that raises the inexact flag. -/
def longs (fpsc : Word) : Context :=
  { ints with fpsc := fpsc, longOps := [⟨.mult, false, [.pl 1], 0, false, 3, false⟩, ⟨.fpPipe, false, [.freg 2 9], 1, true, 4, false⟩] }

theorem w_LongOperationCompletes : ctxPresent (withCtx (longs 0)).member c0 = true ∧ (at0 (longs 0)).micro = none ∧
    (∃ o p, (at0 (longs 0)).longOps[0]? = some o ∧ o.micro = false ∧ o.unit = .mult ∧
      (∀ p ∈ (at0 (longs 0)).longOps.take 0, p.unit ≠ .mult) ∧ o.fpFlags = 0 ∧
      (at0 (longs 0)).longOps[1]? = some p ∧ p.micro = false ∧ p.unit ≠ .mult ∧ p.fpFlags ≠ 0 ∧
      p.fpFlags &&& 0x00001F &&& ((at0 (longs 0)).fpsc >>> 8) = 0 ∧
      p.fpFlags &&& 0x00001F &&& ((at0 (longs 0x100)).fpsc >>> 8) ≠ 0) := by
  refine ⟨by decide +kernel, by decide +kernel, ⟨.mult, false, [.pl 1], 0, false, 3, false⟩,
    ⟨.fpPipe, false, [.freg 2 9], 1, true, 4, false⟩, by decide +kernel⟩

theorem test_longOpComplete : givesCtx (.longOpComplete c0 0) (longs 0) (fun y => y.pl = 1 ∧ y.longOps.length = 1) = true ∧
    givesCtx (.longOpComplete c0 1) (longs 0x100) (fun y => y.fr 2 = 9 ∧ y.fpsc = 0x101 ∧ y.alerts = [(1, 4)]) = true := by
  decide +kernel

/-- F1 = 1.5, F2 = −2.0; F3 = 1.5 and F4 = −2.0 in single precision; W8 to W10 hold 1.5 in double precision. -/
def floats : Context :=
  w (w { ints with f := [(1, 0x3FF8000000000000), (2, 0xC000000000000000), (3, 0x3FC00000), (4, 0xC0000000)] } 9 0xF80000) 10 0x3F

theorem w_DoublePrecisionResults : Issues (withCtx floats) c0 ∧ (15 : Reg).toNat < 16 ∧
    (∀ k, k ∈ [LongUnit.fpPipe, .fpIter] → (withCtx floats).unitBusy c0 k = false) ∧
    (at0 floats).owes [.freg 15, .freg 15, .freg 15] = false ∧ (at0 floats).owes [.freg 15, .freg 15] = false :=
  ⟨issues_of (by decide +kernel), by decide +kernel⟩

/-- What the first operation under way will write. -/
def owed (y : Context) : List (List RegWrite) := y.longOps.map LongOp.writes

theorem test_double : givesCtx (.faddD c0 5 1 2) floats (fun y => owed y = [[.freg 5 0xBFE0000000000000]]) = true ∧
    givesCtx (.fsubD c0 5 1 2) floats (fun y => owed y = [[.freg 5 0x400C000000000000]]) = true ∧
    givesCtx (.fmulD c0 5 1 2) floats (fun y => owed y = [[.freg 5 0xC008000000000000]]) = true ∧
    givesCtx (.fdivD c0 5 1 2) floats (fun y => owed y = [[.freg 5 0xBFE8000000000000]]) = true ∧
    givesCtx (.fmaD c0 1 1 2) floats (fun y => owed y = [[.freg 1 0xBFF8000000000000]]) = true ∧
    givesCtx (.fmsD c0 1 1 2) floats (fun y => owed y = [[.freg 1 0x4012000000000000]]) = true := by decide +kernel
theorem test_double_others : givesCtx (.fminD c0 5 1 2) floats (fun y => owed y = [[.freg 5 0xC000000000000000]]) = true ∧
    givesCtx (.fmaxD c0 5 1 2) floats (fun y => owed y = [[.freg 5 0x3FF8000000000000]]) = true ∧
    givesCtx (.fnegD c0 5 1 0) floats (fun y => owed y = [[.freg 5 0xBFF8000000000000]]) = true ∧
    givesCtx (.fabsD c0 5 2 0) floats (fun y => owed y = [[.freg 5 0x4000000000000000]]) = true ∧
    givesCtx (.fsqrtD c0 5 6 0) { floats with f := [(6, 0x4010000000000000)] } (fun y => owed y = [[.freg 5 0x4000000000000000]]) = true := by
  decide +kernel

theorem w_SinglePrecisionAndCompareResults : Issues (withCtx floats) c0 ∧ (15 : Reg).toNat < 16 ∧
    (∀ k, k ∈ [LongUnit.fpPipe, .fpIter] → (withCtx floats).unitBusy c0 k = false) ∧
    (at0 floats).owes [.freg 15, .freg 15, .freg 15] = false ∧ (at0 floats).owes [.freg 15, .freg 15] = false ∧
    (at0 floats).owes [.freg 15, .freg 15, .fl] = false :=
  ⟨issues_of (by decide +kernel), by decide +kernel⟩

theorem test_single : givesCtx (.faddS c0 5 3 4) floats (fun y => owed y = [[.freg 5 0xBF000000]]) = true ∧
    givesCtx (.fmulS c0 5 3 4) floats (fun y => owed y = [[.freg 5 0xC0400000]]) = true ∧
    givesCtx (.fdivS c0 5 3 4) floats (fun y => owed y = [[.freg 5 0xBF400000]]) = true ∧
    givesCtx (.fmaS c0 3 3 4) floats (fun y => owed y = [[.freg 3 0xBFC00000]]) = true ∧
    givesCtx (.fcmpS c0 0 3 4) floats (fun y => y.longOps.length = 1) = true := by decide +kernel

theorem w_ConvertAndMoveFpResults : Issues (withCtx floats) c0 ∧ (15 : Reg).toNat < 16 ∧ (29 : Reg).toNat ≤ 29 ∧ (30 : Reg).toNat ≤ 30 ∧
    (at0 floats).owes [.freg 15, .freg 15] = false ∧ (at0 floats).owes (.freg 15 :: (at0 floats).wRefs (31 : Reg) 1) = false ∧
    (at0 floats).owes (.freg 15 :: (at0 floats).wRefs (29 : Reg) 3) = false ∧
    (at0 floats).owes (.freg 15 :: (at0 floats).wRefs (30 : Reg) 2) = false :=
  ⟨issues_of (by decide +kernel), by decide +kernel⟩

theorem test_convert : givesCtx (.fcvtSd c0 5 1 0) floats (fun y => owed y = [[.freg 5 0x3FC00000]]) = true ∧
    givesCtx (.fcvtDs c0 5 4 0) floats (fun y => owed y = [[.freg 5 0xC000000000000000]]) = true ∧
    givesCtx (.fitofD c0 5 3 0) floats (fun y => owed y = [[.freg 5 0xBFF0000000000000]]) = true ∧
    givesCtx (.fftoiD c0 6 2 0) floats (fun y => owed y = [[y.wr (6 : Reg) 0xFFFFFE]]) = true ∧
    givesCtx (.fmvwD c0 5 8 0) floats (fun y => y.fr 5 = 0x003FF80000000000) = true ∧
    givesCtx (.wmvfD c0 8 2 0) floats (fun y => y.w 8 = 0 ∧ y.w 9 = 0 ∧ y.w 10 = 0xC000) = true ∧
    givesCtx (.fmvwS c0 5 1 0) floats (fun y => y.fr 5 = 0x07000005) = true ∧
    givesCtx (.wmvfS c0 8 4 0) floats (fun y => y.w 8 = 0 ∧ y.w 9 = 0xC0) = true := by decide +kernel

theorem w_FpRegisterFieldChecks : Issues (withCtx floats) c0 ∧ 16 ≤ (16 : Reg).toNat ∧ (1 : Reg) ≠ 0 ∧
    ((15 : Reg).toNat < 16 ∧ 29 < (30 : Reg).toNat) ∧ 30 < (31 : Reg).toNat :=
  ⟨issues_of (by decide +kernel), by decide +kernel⟩

theorem test_fp_fields : faults (.faddD c0 16 1 2) floats 1 = true ∧ faults (.fsqrtD c0 5 1 1) floats 1 = true ∧
    faults (.fcmpD c0 1 1 2) floats 1 = true ∧ faults (.fmvwD c0 5 30 0) floats 2 = true ∧
    faults (.wmvfS c0 31 2 0) floats 2 = true := by decide +kernel

/-! ### Branches, loops, calls, returns -/

/-- A strand at address 100 with the zero flag set; W1 = 5, W2 = 7, W3 = 0xFFFFFF, W6 = 16,383, W7 = 16,384. -/
def goer : Context := w (w { ints with ip := 100, fl := Fl.ofBools false false true false false } 6 16383) 7 16384

theorem w_BranchTargets : Issues (withCtx goer) c0 ∧ (at0 goer).owes [.fl] = false ∧
    (Claims.taken (at0 goer).fl 1 = false ∧ Claims.taken (at0 goer).fl 0 = true) ∧
    ((((at0 goer).ip : Int) + (-100 : BitVec 14).toInt = 0 ∧ ((at0 { goer with ip := 16383 }).ip : Int) + (0 : BitVec 14).toInt = 16383)) ∧
    (((at0 goer).ip : Int) + (-101 : BitVec 14).toInt < 0 ∧ (16383 : Int) < ((at0 { goer with ip := 16383 }).ip : Int) + (1 : BitVec 14).toInt) ∧
    (((at0 goer).ip : Int) + (16283 : BitVec 18).toInt = 16383 ∧ (16383 : Int) < ((at0 goer).ip : Int) + (16284 : BitVec 18).toInt) ∧
    (at0 goer).owes ((at0 goer).wRefs (6 : Reg) 1) = false ∧ ((at0 goer).w 6).toNat ≤ 16383 ∧ 16383 < ((at0 goer).w 7).toNat ∧ (1 : Reg) ≠ 0 :=
  ⟨issues_of (by decide +kernel), by decide +kernel⟩

theorem test_branch : givesCtx (.bCond c0 0 (-100)) goer (fun y => y.ip = 0) = true ∧
    givesCtx (.bCond c0 1 5) goer (fun y => y.ip = 101) = true ∧ faults (.bCond c0 0 (-101)) goer 14 = true ∧
    givesCtx (.bra c0 16283) goer (fun y => y.ip = 16383) = true ∧ faults (.bra c0 16284) goer 14 = true ∧
    givesCtx (.jr c0 0 6 0) goer (fun y => y.ip = 16383) = true ∧ faults (.jr c0 0 7 0) goer 14 = true := by decide +kernel

/-- Three loop levels are open. -/
def looped : Context := { goer with lcfgDepth := 3 }

theorem w_LoopInstructions : Issues (withCtx goer) c0 ∧ ((1 : BitVec 13) ≠ 0 ∧ (1 : BitVec 10) ≠ 0 ∧ (1 : BitVec 8) ≠ 0) ∧
    (at0 goer).owes ((at0 goer).wRefs (1 : Reg) 1) = false ∧ (((at0 goer).w 1).toNat ≠ 0 ∧ (at0 goer).lcfgDepth < 3) ∧
    (Issues (withCtx looped) c0 ∧ (at0 looped).lcfgDepth = 3 ∧ ((at0 looped).w 1).toNat ≠ 0) ∧
    (((at0 goer).w 5).toNat = 0 ∧ (at0 goer).ip + (7000 : BitVec 13).toNat + 1 ≤ 16383) ∧
    (Issues (withCtx { goer with ip := 16383 }) c0 ∧ ((at0 { goer with ip := 16383 }).w 5).toNat = 0 ∧
      16383 < (at0 { goer with ip := 16383 }).ip + (1 : BitVec 13).toNat + 1) ∧
    (let y := goer.setLoop 0 ⟨50, 100, 2, 0⟩
     (y.lcfgDepth ≤ 3 ∧ ¬ (y.lcfgDepth ≠ 0)) ∧
      (({ y with lcfgDepth := 1 } : Context).lcfgDepth ≠ 0 ∧ y.ip = (y.loop 0).le.toNat ∧ y.depth = (y.loop 0).ld ∧ 1 < (y.loop 0).lc.toNat) ∧
      ((goer.setLoop 0 ⟨50, 100, 1, 0⟩).loop 0).lc.toNat ≤ 1) :=
  ⟨issues_of (by decide +kernel), by decide +kernel, by decide +kernel, by decide +kernel,
    ⟨issues_of (by decide +kernel), by decide +kernel⟩, by decide +kernel, ⟨issues_of (by decide +kernel), by decide +kernel⟩,
    by decide +kernel⟩

/-- A body of END instructions is passed count times: the loop's last address goes back, and ends it at the last pass. -/
theorem test_loop : givesCtx (.loop c0 1 8) goer (fun y => y.ip = 101 ∧ y.lcfgDepth = 1 ∧ y.loop 0 = ⟨101, 108, 5, 0⟩) = true ∧
    givesCtx (.loop c0 5 8) goer (fun y => y.ip = 109 ∧ y.lcfgDepth = 0) = true ∧ faults (.loop c0 1 8) looped 6 = true ∧
    givesCtx (.loopi c0 9 8) goer (fun y => y.ip = 101 ∧ y.lcfgDepth = 1 ∧ (y.loop 0).lc = 9) = true ∧
    faults (.loopi c0 9 0) goer 1 = true ∧
    givesCtx (.nop c0 0 0 0) { goer.setLoop 0 ⟨50, 100, 2, 0⟩ with lcfgDepth := 1 } (fun y => y.ip = 50 ∧ (y.loop 0).lc = 1) = true ∧
    givesCtx (.nop c0 0 0 0) { goer.setLoop 0 ⟨50, 100, 1, 0⟩ with lcfgDepth := 1 } (fun y => y.ip = 101 ∧ y.lcfgDepth = 0) = true := by
  decide +kernel
theorem test_lpop : givesCtx (.lpop c0 0 0 0) looped (fun y => y.lcfgDepth = 2) = true := by decide +kernel

theorem w_CallSlidesTheWindow : Issues (withCtx goer) c0 ∧ (at0 goer).owes (at0 goer).upRefs = false ∧
    (at0 goer).owes ((at0 goer).wRefs (6 : Reg) 1) = false ∧ ((at0 goer).depth < 31 ∧ (at0 goer).res < 176) ∧
    ((at0 goer).ip : Int) + (-100 : BitVec 18).toInt = 0 ∧ ((at0 goer).ip : Int) + (16283 : BitVec 18).toInt = 16383 ∧
    (((at0 goer).w 6).toNat ≤ 16383 ∧ 16383 < ((at0 goer).w 7).toNat) ∧ (16383 : Int) < ((at0 goer).ip : Int) + (16284 : BitVec 18).toInt ∧
    Issues (withCtx { goer with depth := 31 }) c0 ∧ (at0 { goer with depth := 31 }).depth = 31 :=
  ⟨issues_of (by decide +kernel), by decide +kernel, by decide +kernel, by decide +kernel, by decide +kernel, by decide +kernel,
    by decide +kernel, by decide +kernel, issues_of (by decide +kernel), by decide +kernel⟩

theorem test_call : givesCtx (.call c0 50) (w goer 24 77) (fun y => y.ip = 150 ∧ y.lnk = 101 ∧ y.wb = 24 ∧ y.depth = 1 ∧ y.res = 56 ∧
      y.w 0 = 77 ∧ y.w 8 = 0) = true ∧ givesCtx (.callr c0 0 6 0) goer (fun y => y.ip = 16383 ∧ y.depth = 1) = true ∧
    faults (.call c0 50) { goer with depth := 31 } 4 = true ∧ faults (.callr c0 0 7 0) goer 14 = true := by decide +kernel

/-- Called 6 times, with 176 resident words; and the same depth with the caller's words spilled. -/
def deep : Context := { goer with depth := 6, res := 176, lnk := 55, wb := 144 }
def shallow : Context := { deep with res := 32 }

theorem w_ReturnsSpillsAndFills : Issues (withCtx deep) c0 ∧ (0 < (at0 deep).depth ∧ (at0 deep).res ≠ 32) ∧
    (Issues (withCtx goer) c0 ∧ (at0 goer).depth = 0) ∧ (1 : Reg) ≠ 0 ∧
    ((at0 deep).owes (at0 deep).upRefs = false ∧ (at0 deep).depth < 31 ∧ (at0 deep).res = 176 ∧
      0 ≤ ((at0 deep).ip : Int) + (50 : BitVec 18).toInt ∧ ((at0 deep).ip : Int) + (50 : BitVec 18).toInt ≤ 16383) ∧
    (Issues (withCtx shallow) c0 ∧ (at0 shallow).owes (at0 shallow).downRefs = false ∧ 0 < (at0 shallow).depth ∧ (at0 shallow).res = 32) :=
  ⟨issues_of (by decide +kernel), by decide +kernel, ⟨issues_of (by decide +kernel), by decide +kernel⟩, by decide +kernel,
    by decide +kernel, ⟨issues_of (by decide +kernel), by decide +kernel⟩⟩

theorem test_return : givesCtx (.ret c0 0 0 0) deep (fun y => y.ip = 55 ∧ y.wb = 120 ∧ y.res = 152 ∧ y.depth = 5) = true ∧
    faults (.ret c0 0 0 0) goer 5 = true := by decide +kernel
/-- The oldest 24 words, at ring word 0 of six nested windows, go to block 0 of the spill area, and come back. -/
theorem test_spill : (match exec (.call c0 50) (withCtx (deep.setRing 0 99)) with
    | .next t => (match exec (.ret c0 0 0 0) (t.setCtx c0 { t.ctx c0 with depth := 1, res := 32, wb := 48 }) with
      | .next v => decide ((t.ctx c0).res = 176 ∧ (v.ctx c0).res = 32 ∧ (v.ctx c0).w 0 = 99)
      | _ => false)
    | _ => false) = true := by decide +kernel

/-! ### Loads, stores, slots, staged effects, requests -/

/-- Tenant 1 maps its pavilion's scratchpad with segment 0 (KIND 1, read and write, 64 Ki words); code set 5 of tenant 1 lies at
0x100 of pavilion 0 and entry 7 at its offset 10; queue 9 is in MODE 1 with contexts of tenant 1 on both sides; frame 2 of slice 2,
one granule with operand slots 0 and 1, is allocated with GEN 3 from pool 4, whose free list holds frame 66; template 3. -/
def world (x : Context) : State :=
  let s := (((((((withCtx x).setReg 0x040080 0x130400).setReg (Reg.codeset 5 0) 0x801000).setReg (Reg.codeset 5 1) 0x100).setReg
    (Reg.codeset 5 3) 1).setReg (Reg.entry 7) 0x01400A).setReg (Reg.que 9 0) 0x400801)
  { s with store := { s.store with
      frames := [(2, ⟨true, false, 3, 0, 0, 4, false⟩), (66, ⟨false, false, 0, 0, 1, 4, false⟩)]
      groups := [(4096 * 2, ⟨3, 2, 0, .waiting, 1, 7, 1, 0, false, true⟩)]
      pools := [(256 * 2 + 4, ⟨1, 1, [2, 66], [66], false⟩)]
      templates := [(256 + 3, some ⟨false, 0, [⟨2, 3, 7, 1⟩]⟩)]
      home := [(0, 2)] } }

/-- The handle of frame 2, with slot 3; and of frame 2 under another GEN. -/
def handle : Triple := Tag.mk 0 2 3 3 0 0 0
def stale : Triple := Tag.mk 0 2 4 3 0 0 0

/-- W1 = 65,533; W2 = 2; W3 = 0x040000, in a segment that maps nothing; W10 to W12 hold 1, 2 and 3. -/
def user : Context := w (w (w (w (w (w strand 1 65533) 2 2) 3 0x040000) 10 1) 11 2) 12 3

theorem w_AddressForms : (0 : BitVec 3) = 0 ∧ (1 : BitVec 3) = 1 ∧ (2 : BitVec 3) = 2 ∧ 4 ≤ (4 : BitVec 3).toNat ∧
    4 ≤ (7 : BitVec 3).toNat ∧ Issues (world user) c0 ∧ (7 : BitVec 3) ≠ 3 ∧ 30 < (31 : Reg).toNat ∧ 29 < (30 : Reg).toNat :=
  ⟨by decide, by decide, by decide, by decide, by decide, issues_of (by decide +kernel), by decide, by decide, by decide⟩

theorem test_addresses : mAddr user 2 (1 : Reg) 0 31 = (65564, none) ∧ mAddr user 2 (1 : Reg) 1 0 = (65533, some 65535) ∧
    mAddr user 2 (2 : Reg) 2 5 = (0xFFFFFD, some 0xFFFFFD) ∧ mAddr user 3 (1 : Reg) 6 2 = (65539, none) ∧
    faults (.ld c0 4 1 3 0 .sound) user 1 = true ∧ faults (.stt c0 30 1 0 0) user 2 = true := by decide +kernel

theorem w_LoadsFromScratchpad : Issues (world user) c0 ∧ (7 : BitVec 3) ≠ 3 ∧ (29 : Reg).toNat + 3 ≤ 32 ∧
    ((world user).ctx c0).owes (mRefs ((world user).ctx c0) (1 : Reg) 7 2 ++ ((world user).ctx c0).wRefs (29 : Reg) 3) = false ∧
    (world user).translateAll c0 ((world user).ctx c0) (mAddr ((world user).ctx c0) 3 (3 : Reg) 0 0).1 false 3 = none ∧
    (world user).translateAll c0 ((world user).ctx c0) (mAddr ((world user).ctx c0) 3 (1 : Reg) 0 0).1 false 3
      = some ((List.range 3).map (fun j => Target.own (65533 + j) 0)) ∧
    (∀ j, j < 3 → (world user).spadBad c0.pav (65533 + j) = false) ∧
    (∃ j, j < 3 ∧ ((world user).setSpadBad 0 65535 true).spadBad c0.pav (65533 + j) = true) :=
  ⟨issues_of (by decide +kernel), by decide +kernel, by decide +kernel, by decide +kernel, by decide +kernel, by decide +kernel,
    by decide +kernel, ⟨2, by decide +kernel⟩⟩

/-- The state with words 65,533 to 65,535 of pavilion 0 at 11, 12 and 13. -/
def filled : State := (((world user).setSpadRaw 0 65533 11).setSpadRaw 0 65534 12).setSpadRaw 0 65535 13

theorem test_loads : answers (exec (.ldt c0 29 1 0 0 .sound) filled) (fun t => decide ((t.ctx c0).w 29 = 11 ∧ (t.ctx c0).w 31 = 13)) = true ∧
    answers (exec (.ldp c0 20 1 1 0 .sound) filled) (fun t => decide ((t.ctx c0).w 21 = 12 ∧ (t.ctx c0).w 1 = 65535)) = true ∧
    answers (exec (.ld c0 1 1 1 0 .sound) filled) (fun t => decide ((t.ctx c0).w 1 = 11)) = true ∧
    answers (exec (.ld c0 20 3 0 0 .sound) filled) (fun t => decide ((t.ctx c0).state = .free)) = true := by decide +kernel

theorem w_StoresToScratchpad : Issues (world user) c0 ∧ (7 : BitVec 3) ≠ 3 ∧ (29 : Reg).toNat + 3 ≤ 32 ∧ 65533 + 3 ≤ 65536 ∧
    ((world user).ctx c0).owes (mRefs ((world user).ctx c0) (1 : Reg) 7 2 ++ ((world user).ctx c0).wRefs (29 : Reg) 3) = false ∧
    (world user).translateAll c0 ((world user).ctx c0) (mAddr ((world user).ctx c0) 3 (3 : Reg) 0 0).1 true 3 = none ∧
    (world user).translateAll c0 ((world user).ctx c0) (mAddr ((world user).ctx c0) 3 (1 : Reg) 0 0).1 true 3
      = some ((List.range 3).map (fun j => Target.own (65533 + j) 0)) :=
  ⟨issues_of (by decide +kernel), by decide +kernel⟩

theorem test_stores : answers (exec (.stt c0 10 1 0 0) filled) (fun t => decide (t.spadRead 0 65533 = 1 ∧ t.spadRead 0 65534 = 2 ∧
      t.spadRead 0 65535 = 3 ∧ t.spadRead 0 65532 = 0)) = true ∧
    answers (exec (.st c0 10 1 2 0) filled) (fun t => decide (t.spadRead 0 65532 = 1 ∧ t.spadRead 0 65533 = 11 ∧
      (t.ctx c0).w 1 = 65532)) = true ∧
    answers (exec (.stp c0 10 1 0 0) filled) (fun t => decide (t.spadRead 0 65535 = 13)) = true ∧
    answers (exec (.st c0 10 1 0 0) (filled.setReg 0x040080 0x150400)) (fun t => decide (t.spadRead 0 65533 = 11)) = true := by
  decide +kernel

/-- An activation of frame 2. -/
def firing : Context := { user with isTask := false, handle := handle, entry := 7 }

theorem w_SlotAccess : Issues (world firing) c0 ∧ (1 : Reg) ≠ 0 ∧ 29 < (30 : Reg).toNat ∧ (29 : Reg).toNat ≤ 29 ∧
    (Issues (world user) c0 ∧ ((world user).ctx c0).isTask = true) ∧
    ((world firing).frameGone handle = false ∧ ((world firing).frame (Tag.frame handle)).slots ≤ (16 : BitVec 8).toNat) ∧
    (((world firing).ctx c0).isTask = false ∧ ((world firing).ctx c0).owes (((world firing).ctx c0).wRefs (29 : Reg) 3) = false) ∧
    (world firing).frameGone stale = true ∧ (15 : BitVec 8).toNat < ((world firing).frame (Tag.frame handle)).slots ∧
    (world firing).matchRow (Tag.frame handle) 15 false = .passive ∧ (world firing).matchRow (Tag.frame handle) 0 false ≠ .passive :=
  ⟨issues_of (by decide +kernel), by decide +kernel, by decide +kernel, by decide +kernel, ⟨issues_of (by decide +kernel), by decide +kernel⟩,
    by decide +kernel, by decide +kernel, by decide +kernel, by decide +kernel, by decide +kernel, by decide +kernel⟩

theorem test_slots : answers (exec (.sts c0 10 0 15) (world firing)) (fun t => decide ((t.slot (65536 * 2 + 15)).val = 0x000003000002000001 ∧
      (t.slot (65536 * 2 + 15)).pres = true ∧ (t.slot (65536 * 2 + 15)).ty = 2)) = true ∧
    answers (exec (.lds c0 20 0 4) ((world firing).setSlot (65536 * 2 + 4) { Slot.empty with val := 9, pres := true }))
      (fun t => decide ((t.ctx c0).w 20 = 9)) = true := by decide +kernel

/-- A strand with a full staged set. -/
def full : Context := { user with staged := List.replicate 32 (.qcommit 0) }
/-- W20 to W22 hold `handle`; W23 = 9, W24 = 1,023. -/
def sender : Context := w (w (w (w (w user 20 (handle.word 0)) 21 (handle.word 1)) 22 (handle.word 2)) 23 9) 24 1023

theorem w_StagedEffects : Issues (world sender) c0 ∧ (29 : Reg).toNat ≤ 29 ∧
    ((world sender).ctx c0).owes (((world sender).ctx c0).wRefs (29 : Reg) 3 ++ ((world sender).ctx c0).wRefs (29 : Reg) 3) = false ∧
    Tag.slot (((world sender).ctx c0).wTriple 20) + (31 : Reg).toNat ≤ 255 ∧
    255 < Tag.slot (Tag.mk 0 2 3 225 0 0 0) + (31 : Reg).toNat ∧
    (((world sender).ctx c0).w 24).toNat < 1024 ∧ (world sender).qMode (((world sender).ctx c0).w 23).toNat ≠ 0 ∧
    (world sender).onPut 9 (masterCtx 1 c0) = true ∧ (world { sender with tenant := 2 }).onPut 9 (masterCtx 2 c0) = false ∧
    (((world sender).ctx c0).staged.length < 32 ∧ ¬ ((world full).ctx c0).staged.length < 32) ∧ (1 : Reg) ≠ 0 :=
  ⟨issues_of (by decide +kernel), by decide +kernel⟩

theorem test_send : givesCtx (.send c0 20 10 1 2) sender (fun y => y.staged = [.token (Tag.mk 0 2 3 5 0 1 0) 0x000000000002000001]) = true ∧
    givesCtx (.sendC c0 20 10 2 0) sender (fun y => y.staged = [.token (Tag.mk 0 2 3 3 0 2 1) 0x000003000002000001]) = true ∧
    givesCtx (.sendcC c0 20 10 0) sender (fun y => y.staged = [.token (Tag.mk 0 2 3 3 0 0 1) 1]) = true ∧
    givesCtx (.sendp c0 20 10 0) sender (fun y => y.staged = [.port handle 1]) = true ∧
    givesCtx (.freeF c0 0 20 0) sender (fun y => y.staged = [.freeFrame handle]) = true ∧
    givesCtx (.sev c0 0 23 10) sender (fun y => y.staged = [.sev 9 1]) = true ∧
    faults (.freeF c0 0 20 0) full 10 = true := by decide +kernel
theorem test_qcmt : answers (exec (.qcmt c0 0 23 0) (world sender)) (fun t => decide ((t.ctx c0).staged = [.qcommit 9])) = true := by
  decide +kernel

theorem w_StrandRequests : Issues (world sender) c0 ∧ ((((world sender).ctx c0).w 23).toNat < 1024 ∧ (((world sender).ctx c0).w 24).toNat < 1024) ∧
    (world sender).qMode 9 ≠ 0 ∧ ((world sender).onPut 9 (masterCtx 1 c0) = true ∧ (world sender).onGet 9 (masterCtx 1 c0) = true) ∧
    (let x := (world sender).ctx c0
     x.owes (x.wRefs (23 : Reg) 1 ++ .fl :: x.wRefs (31 : Reg) 1) = false ∧ x.owes (x.wRefs (23 : Reg) 1) = false ∧
      x.owes (x.wRefs (23 : Reg) 1 ++ x.wRefs (31 : Reg) 1) = false ∧ x.owes (.fl :: x.wRefs (29 : Reg) 3) = false ∧
      (world sender).allocCheck x 3 = none ∧ (world sender).allocCheck x 4 = some .template ∧ x.isTask = true ∧ x.longOps = [] ∧
      x.waits = [] ∧ (world sender).bufferEmpty c0 = true ∧ (world sender).syncHeld c0 = false ∧
      (world sender).allocCheck { x with allocs := [] } 3 = none ∧
      x.owes (.fl :: (x.wRefs (31 : Reg) 1 ++ x.wRefs (29 : Reg) 3 ++ x.wRefs (25 : Reg) 1)) = false ∧
      (x.w 25).toNat < 2 ^ 21 ∧ (world sender).entryOwned 0 x.tenant = false ∧ (world sender).entryOwned 7 x.tenant = true ∧
      x.staged.length < 32) ∧
    (Issues (world firing) c0 ∧ ((world firing).ctx c0).isTask = false) ∧ (29 : Reg).toNat ≤ 29 :=
  ⟨issues_of (by decide +kernel), by decide +kernel, by decide +kernel, by decide +kernel, by decide +kernel,
    ⟨issues_of (by decide +kernel), by decide +kernel⟩, by decide⟩

theorem test_requests : answers (exec (.qput c0 0 23 10) (world sender)) (fun t => decide (t.flight =
      [.req ⟨nodeQueues, 0, 0, 0, 1, masterCtx 1 c0, 0⟩ (.qput 9 1)] ∧ (t.ctx c0).waits = [⟨0, .qput, false⟩])) = true ∧
    answers (exec (.qget c0 5 23 0) (world sender)) (fun t => decide ((t.ctx c0).waits = [⟨0, .qget 5, false⟩])) = true ∧
    answers (exec (.alloc c0 5 0 3) (world sender)) (fun t => decide (t.flight = [.allocReq ⟨c0, 0, 1, 3, 0, false⟩])) = true ∧
    answers (exec (.allocw c0 5 0 3 10) (world sender)) (fun t => decide ((t.ctx c0).waits = [⟨0, .allocw 5, false⟩])) = true ∧
    answers (exec (.spawn c0 5 10 25) (world (w sender 25 0x00800F))) (fun t => decide ((t.ctx c0).state = .free)) = true ∧
    answers (exec (.spawn c0 5 10 25) (world (w sender 25 0x008007))) (fun t => decide (t.flight =
      [.spres ⟨c0, 0, 1, 1, 7, 0x000003000002000001⟩])) = true := by decide +kernel

/-! ### The system group, waits, the pipeline -/

/-- An operation is under way. -/
def busyOne : Context := { user with waits := [⟨1, .store, false⟩] }
/-- In an alert handler, called from address 60; W8 and W9 hold the address and the flags of the entry. -/
def handler : Context := w (w { user with inAlert := true, depth := 2, res := 80, wb := 48, lnk := 9 } 8 70) 9 17

theorem w_SystemInstructions : Issues (world user) c0 ∧ (((world user).ctx c0).longOps = [] ∧ ((world user).ctx c0).waits = []) ∧
    (world user).syncHeld c0 = false ∧ (((world user).ctx c0).codeBuf = [] ∧ (world user).draining c0 = false) ∧
    (let x := { user with sync := [.devReg 0x800400 7] }
     Issues (world x) c0 ∧ (world x).syncHeld c0 = false ∧ ((world x).ctx c0).sync = [.devReg 0x800400 7]) ∧
    (let x := { user with codeBuf := [⟨0, 16383, 7⟩] }
     Issues (world x) c0 ∧ (world x).draining c0 = false ∧ ((world x).ctx c0).codeBuf = [⟨c0.pav, 16383, 7⟩]) ∧
    (Issues (world busyOne) c0 ∧ ¬ (((world busyOne).ctx c0).longOps = [] ∧ ((world busyOne).ctx c0).waits = [])) ∧
    ((world user).stateQuiet c0 = true ∧ (world user).bufferEmpty c0 = true) ∧
    (let s := (world user).setCache 0 { (world user).cache 0 with buffer := [⟨0, 4, [(0, 1)], true⟩] }
     s.stateQuiet c0 = false ∧ s.bufferEmpty c0 = false) ∧
    (({ world user with jtag := { (world user).jtag with brk := true } } : State).jtag.brk = true ∧ (world user).jtag.brk = false) ∧
    ((29 : Reg).toNat ≤ 29 ∧ ((world user).ctx c0).owes (((world user).ctx c0).wRefs (29 : Reg) 3) = false) ∧
    ((world user).ctx c0).inAlert = false ∧
    (Issues (world handler) c0 ∧
      (let x := (world handler).ctx c0
       x.inAlert = true ∧ x.alerts = [] ∧ x.depth ≠ 0 ∧ x.res ≠ 32 ∧ (x.w 8).toNat ≤ 16383 ∧
        x.owes (.fl :: x.wRefs (8 : Reg) 2) = false)) ∧
    (Issues (world { handler with alerts := [(2, 0)] }) c0 ∧
      (let x := (world { handler with alerts := [(2, 0)] }).ctx c0
       x.inAlert = true ∧ x.alerts = [(2, 0)] ∧ x.owes (x.wRefs (10 : Reg) 1) = false)) ∧ (1 : Reg) ≠ 0 ∧ 2 ≤ (2 : BitVec 2).toNat :=
  ⟨issues_of (by decide +kernel), by decide +kernel, by decide +kernel, by decide +kernel,
    ⟨issues_of (by decide +kernel), by decide +kernel, by decide +kernel⟩, ⟨issues_of (by decide +kernel), by decide +kernel, by decide +kernel⟩,
    ⟨issues_of (by decide +kernel), by decide +kernel⟩, by decide +kernel, by decide +kernel, by decide +kernel, by decide +kernel,
    by decide +kernel, ⟨issues_of (by decide +kernel), by decide +kernel⟩, ⟨issues_of (by decide +kernel), by decide +kernel⟩,
    by decide +kernel, by decide +kernel⟩

theorem test_system : givesCtx (.nop c0 0 0 0) user (fun y => y.ip = 1) = true ∧ faults (.nop c0 1 0 0) user 1 = true ∧
    givesCtx (.sync c0 0 0 0) { user with ip := 3, sync := [.wb 24, .lcfg 2] } (fun y => y.wb = 24 ∧ y.lcfgDepth = 2 ∧ y.sync = []) = true ∧
    givesCtx (.sync c0 0 0 0) busyOne (fun y => y.ip = 0) = true ∧
    answers (exec (.syncI c0 0 0 0) (world { user with codeBuf := [⟨0, 16383, 7⟩] })) (fun t => decide (t.codeRead 0 16383 = 7)) = true ∧
    givesCtx (.fence c0 0 0 0) user (fun y => y.ip = 1) = true ∧ givesCtx (.fenceWrites c0 0 0) user (fun y => y.ip = 1) = true ∧
    faults (.brk c0 0 0 0) user 15 = true ∧ faults (.mcommit c0 0 0 0) user 1 = true ∧ faults (.aret c0 0 0 0) user 1 = true := by
  decide +kernel
theorem test_aret : givesCtx (.aret c0 0 0 0) handler (fun y => y.ip = 70 ∧ y.fl = 17 ∧ y.inAlert = false ∧ y.wb = 24 ∧ y.depth = 1) = true ∧
    givesCtx (.aret c0 0 0 0) { handler with alerts := [(2, 0)] } (fun y => y.ip = y.port + 2 ∧ y.inAlert = true ∧ y.alerts = []) = true := by
  decide +kernel
theorem test_gett : answers (exec (.gett c0 20 0 0) { world user with clock := ⟨0x000003000002000001, 0, 0, 0⟩ })
    (fun t => decide ((t.ctx c0).wTriple 20 = 0x000003000002000001)) = true := by decide +kernel

/-- Task 5 with flags and mask. -/
def flagged (evf evm : Word) : State :=
  (world user).setTask 5 { Task.zero with st := .running, owner := 1, wgrp := 1, evf := evf, evm := evm }

theorem w_EndAndWaits : Issues (flagged 5 4) c0 ∧
    (let x := (flagged 5 4).ctx c0
     (x.longOps = [] ∧ x.waits = [] ∧ (flagged 5 4).bufferEmpty c0 = true ∧ (flagged 5 4).syncHeld c0 = false) ∧ x.isTask = true ∧
      x.sync = [] ∧ ((flagged 5 4).task x.task).evf &&& ((flagged 5 4).task x.task).evm ≠ 0 ∧
      ((flagged 5 2).task x.task).evf &&& ((flagged 5 2).task x.task).evm = 0 ∧ (29 : Reg).toNat ≤ 29 ∧
      (flagged 5 4).time < x.wTriple 10 ∧ x.wTriple 20 ≤ (flagged 5 4).time) ∧
    (Issues (world firing) c0 ∧ ((world firing).ctx c0).isTask = false ∧ ((world firing).ctx c0).longOps = []) ∧
    (Issues (world busyOne) c0 ∧ (((world busyOne).ctx c0).longOps ≠ [] ∨ ((world busyOne).ctx c0).waits ≠ [])) :=
  ⟨issues_of (by decide +kernel), by decide +kernel, ⟨issues_of (by decide +kernel), by decide +kernel⟩,
    ⟨issues_of (by decide +kernel), by decide +kernel⟩⟩

theorem test_end : answers (exec (.endStrand c0 0 0 0 50) (flagged 5 4)) (fun t => decide ((t.ctx c0).state = .free ∧
      (t.task 5).st = .free ∧ (t.task 5).evf = 0)) = true ∧
    answers (exec (.endStrand c0 0 0 0 50) (world firing)) (fun t => decide (.slotRelease handle ∈ t.flight)) = true := by decide +kernel
theorem test_waits : answers (exec (.wfe c0 20 0 0 50) (flagged 5 4)) (fun t => decide ((t.ctx c0).w 20 = 4 ∧ (t.task 5).evf = 1)) = true ∧
    answers (exec (.wfe c0 20 0 0 50) (flagged 5 2)) (fun t => decide ((t.ctx c0).state = .saving ∧ (t.task 5).st = .waitEv)) = true ∧
    answers (exec (.waitt c0 0 10 0 50) (flagged 5 2)) (fun t => decide ((t.task 5).target = 0x000003000002000001)) = true ∧
    faults (.wfe c0 20 0 0 50) firing 7 = true := by decide +kernel

/-- Two ready contexts beside the issuing one: a group-0 strand in context 1, and another strand in context 2. -/
def crowd : State := ((world user).setCtx ⟨0, 0, 1⟩ { user with state := .ready, wgrp := 0 }).setCtx ⟨0, 0, 2⟩ { user with state := .ready }
/-- The state with context `c0` in another state. -/
def stateIs (k : CtxState) (x : Context) : State := world { x with state := k }
def alertReq : Req := ⟨0, nodeHub, 0, 3, 0, 0x400000, 0⟩

theorem w_PipelineEvents : ctxPresent crowd.member c0 = true ∧ crowd.pair.fenced = false ∧
    ((crowd.ctx c0).state = .issuing ∧ (crowd.ctx c0).wgrp ≠ 0 ∧ crowd.regField (pavBase 0 + 0x100) 0 8 ≠ 0 ∧
      Map.get (fun _ => 3) (crowd.issueTo 0 0 0).strands.lastIssued 0 = 0 ∧ (crowd.ctx ⟨0, 0, 2⟩).state = .ready) ∧
    ((crowd.ctx c0).micro = none ∧ (crowd.ctx ⟨0, 0, 1⟩).state = .ready ∧ (crowd.ctx ⟨0, 0, 1⟩).wgrp = 0) ∧
    (((stateIs .preload firing).ctx c0).state = .preload ∧ (stateIs .preload firing).frameGone handle = false ∧
      (stateIs .preload firing).frameGone stale = true) ∧
    (((stateIs .saving user).ctx c0).state = .saving ∧ ((stateIs .saving user).ctx c0).task < 4096) ∧
    (((stateIs .restoring user).ctx c0).state = .restoring ∧
      ((stateIs .restoring user).setTask 5 { Task.zero with saved := true }).savingTask 5 = false ∧
      (((stateIs .restoring user).setTask 5 { Task.zero with saved := true }).task 5).result = none ∧
      ((stateIs .restoring user).task 5).saved = false) ∧
    ((world { user with budgetLimit := 9 }).ctx c0).budgetLimit ≠ 0 ∧
    ((0x800000 : Word).bit 23 = true ∧ Claims.reaches (world user) alertReq ∧
      (Claims.arrived (world user) alertReq (.regwr (pavBase 0 + 0x101) 0x800000)).mayWarden alertReq (pavBase 0 + 0x101) = true) ∧
    (let x := (world { user with alerts := [(2, 0)] }).ctx c0
     x.state = .issuing ∧ x.inAlert = false ∧ x.alerts = [(2, 0)] ∧ x.awaitsGrant = false ∧ x.lateErr = none ∧ x.ip < 16384 ∧
      x.depth < 31 ∧ x.entry < 32768 ∧ x.dropMicro.owes (.fl :: x.dropMicro.upRefs) = false) := by
  refine ⟨by decide +kernel, by decide +kernel, by decide +kernel, by decide +kernel, by decide +kernel, by decide +kernel,
    by decide +kernel, by decide +kernel, ⟨by decide +kernel, ⟨by decide +kernel, by decide +kernel, by decide +kernel⟩, by decide +kernel⟩, by decide +kernel⟩

theorem test_switch : answers (exec (.timeSliceExpiry c0) (crowd.issueTo 0 0 0)) (fun t => decide ((t.ctx c0).state = .ready ∧
      (t.ctx ⟨0, 0, 1⟩).state = .issuing)) = true ∧
    answers (exec (.preemption c0) crowd) (fun t => decide ((t.ctx c0).state = .suspended ∧ (t.ctx ⟨0, 0, 1⟩).state = .issuing)) = true := by
  decide +kernel
theorem test_preload : answers (exec (.preloadComplete c0 false .sound 0) ((stateIs .preload firing).setSlot (65536 * 2 + 1)
      { Slot.empty with val := 0x000006000005000004, pres := true })) (fun t => decide ((t.ctx c0).ip = 0x10A ∧ (t.ctx c0).w 0 = handle.word 0 ∧
      (t.ctx c0).w 11 = 4 ∧ (t.ctx c0).w 12 = 5 ∧ (t.ctx c0).w 13 = 6 ∧ (t.ctx c0).state = .issuing)) = true := by decide +kernel
theorem test_restore : answers (exec (.taskRestoreComplete c0) ((stateIs .restoring { user with entry := 7 }).setTask 5
    { Task.zero with arg := 0x000006000005000004 })) (fun t => decide ((t.ctx c0).ip = 0x10A ∧ (t.ctx c0).w 4 = 5 ∧ (t.ctx c0).w 8 = 4)) = true := by
  decide +kernel
theorem test_save : (match exec (.taskSaveComplete c0) (stateIs .saving { user with ip := 33 }) with
    | .next t => (match exec (.taskRestoreComplete c0) (t.setCtx c0 { Context.idle with state := .restoring, isTask := true, tenant := 1, task := 5 }) with
      | .next v => decide ((t.ctx c0).state = .free ∧ (v.ctx c0).ip = 33 ∧ (v.ctx c0).w 1 = 65533)
      | _ => false)
    | _ => false) = true := by decide +kernel
theorem test_alerts : answers (exec (.budgetAlert c0) (world { user with budgetLimit := 9 })) (fun t => decide ((t.ctx c0).alerts = [(2, 0)])) = true ∧
    answers (exec (.alertEntry c0) (world { user with alerts := [(2, 0)], fl := 9, ip := 44 })) (fun t => decide ((t.ctx c0).inAlert = true ∧
      (t.ctx c0).w 8 = 44 ∧ (t.ctx c0).w 9 = 9 ∧ (t.ctx c0).depth = 1)) = true ∧
    answers (exec (.alertRequest alertReq 0 0x800011) (world user)) (fun t => decide ((t.ctx c0).alerts = [(3, 0x11)])) = true := by decide +kernel

/-- Entry 4 of the decode table names micro-op 9, a routine of one micro-op, a NOP that ends it. -/
def micro : State :=
  { world user with strands := { (world user).strands with
      syncEff := [(Reg.uop 0 9 1, 0x800000), (Reg.decode 0 4 0, 0x800009), (Reg.decode 0 4 1, 1)] } }

theorem w_CustomInstructions : Issues micro c0 ∧ (micro.effWord (Reg.decode 0 5 0)).bit 23 = false ∧
    (micro.effWord (Reg.decode 0 4 0)).bit 23 = true ∧ (micro.effWord (Reg.decode 0 4 1)).field 0 13 = 1 ∧
    ((micro.effWord (Reg.decode 0 4 0)).field 0 12 < 4096 ∧ (micro.effWord (Reg.decode 0 4 0)).field 20 2 = 0) ∧
    (micro.customHeld 0 = false ∧ (micro.ctx c0).longOps = [] ∧ (micro.ctx c0).waits = []) ∧
    (micro.effWord (Reg.uop 0 9 0) = 0 ∧ micro.effWord (Reg.uop 0 9 1) = 0x800000) :=
  ⟨issues_of (by decide +kernel), by decide +kernel⟩

theorem test_custom : answers (exec (.customInstruction c0 4 0x0C6) micro) (fun t => decide ((t.ctx c0).ip = 1 ∧ (t.ctx c0).mimm = 2 ∧
      (t.ctx c0).micro = none)) = true ∧
    answers (exec (.customInstruction c0 5 0x0C6) micro) (fun t => decide ((t.ctx c0).state = .free)) = true := by decide +kernel

/-! ### The central store and the hub -/

def base : State := world strand
/-- A token for slot `sl` of frame 2 from context 0 of pavilion 1, with value 9. -/
def token (sl : Nat) : Token := ⟨1, 0, masterCtx 1 ⟨1, 0, 0⟩, 1, 2, Tag.mk 0 2 3 sl 0 0 0, 9, 0, false⟩
/-- The same on VC3, critical. -/
def critical (sl : Nat) (flow : Nat) : Token := ⟨1, 0, masterCtx 1 ⟨1, 0, 0⟩, 1, 3, Tag.mk 0 2 3 sl flow 0 1, 9, ~~~9, false⟩
/-- Frame 2 whose operand slot 0 is already there. -/
def half : State := (base.setGroup (4096 * 2) { base.group (4096 * 2) with join := 1 }).setSlot (65536 * 2)
  { Slot.empty with val := 8, pres := true }

theorem w_TokensAtTheStore : ((token 0).vc = 2 ∧ (critical 4 0).vc = 3 ∧ Tag.device (token 0).tag = base.deviceNo ∧
      base.nodeState (nodeSlice (base.sliceOf 2)) = 0) ∧
    base.checkToken { token 0 with poison := true } = some .poisoned ∧ base.checkToken { token 0 with tenant := 2 } = some .foreign ∧
    base.checkToken (token 16) = some .slotRange ∧
    (base.checkToken (critical 14 0) = none ∧ base.checkToken (critical 0 0) = none ∧ base.matchRow 2 0 true = .layout) ∧
    (half.checkToken (token 0) = none ∧ half.matchRow 2 0 false = .collision) ∧
    (base.checkToken (token 15) = none ∧ base.matchRow 2 15 false = .passive ∧ base.matchRow 2 2 false = .passive) ∧
    (base.checkToken (token 0) = none ∧ base.matchRow 2 0 false = .operand ∧ base.matchRow 2 1 false = .operand ∧
      (base.group (base.groupKey 2 0)).join + 1 ≠ (base.group (base.groupKey 2 0)).arity ∧
      (half.group (half.groupKey 2 0)).join + 1 = (half.group (half.groupKey 2 0)).arity ∧ half.matchRow 2 1 false = .operand) ∧
    Tag.flow (critical 1 7).tag ≠ 0 := by decide +kernel

theorem test_token : answers (exec (.ftok (token 15)) base) (fun t => decide ((t.slot (65536 * 2 + 15)).val = 9 ∧ t.firedQ 5 = [])) = true ∧
    answers (exec (.ftok (token 1)) half) (fun t => decide (t.firedQ 5 = [⟨1, Tag.mk 0 2 3 0 0 0 0, 7, 1, 0, 0, 0⟩] ∧
      (t.group (4096 * 2)).gst = .held)) = true ∧
    answers (exec (.ftok (token 0)) half) (fun t => decide ((t.slot (65536 * 2)).val = 8 ∧ t.reg (Reg.sliceStat 2 5) = 1)) = true := by
  decide +kernel

/-- A FREE of frame 2 by tenant `n`. -/
def freePkt (n : Nat) (h : Triple) : FreePkt := ⟨h, n, masterCtx n c0, 0, false⟩
/-- Frame 2 with a one-shot group; frame 2 in quarantine since 0. -/
def oneshot : State := base.setGroup (4096 * 2) { base.group (4096 * 2) with oneshot := true, gst := .handed }
def quarantined : State := base.setFrame 2 ⟨false, true, 0, 0, 0, 4, false⟩

theorem w_SlotsAndFramesGoBack : (¬ ((base.frame (Tag.frame stale)).alloc = true ∧ (base.frame (Tag.frame stale)).gen.toNat = Tag.gen stale)) ∧
    ((base.frame (Tag.frame handle)).alloc = true ∧ (base.frame (Tag.frame handle)).gen.toNat = Tag.gen handle ∧
      (base.group (base.groupKey 2 0)).oneshot = false) ∧
    ((oneshot.frame 2).alloc = true ∧ (oneshot.group (oneshot.groupKey 2 0)).oneshot = true ∧
      (∀ j ∈ oneshot.groupKeys 2, j ≠ oneshot.groupKey 2 0 → (oneshot.group j).arity = 0 ∨ (oneshot.group j).gst = .done)) ∧
    (Tag.device (freePkt 1 handle).handle = base.deviceNo ∧ base.nodeState (nodeSlice (base.sliceOf 2)) = 0) ∧
    ((base.frame 2).gen.toNat ≠ Tag.gen (freePkt 1 stale).handle) ∧
    ((freePkt 1 handle).tenant = (base.groupOf 2 0).owner ∧ (freePkt 0 handle).tenant = 0) ∧
    ((freePkt 2 handle).tenant ≠ 0 ∧ (freePkt 2 handle).tenant ≠ (base.groupOf 2 0).owner) ∧
    ((quarantined.frame 2).quar = true ∧ Map.get (fun _ => 0) quarantined.store.quarEnd 2 ≤ quarantined.elapsed) := by decide +kernel

theorem test_slotRelease : answers (exec (.slotRelease handle) half) (fun t => decide ((t.slot (65536 * 2)).pres = false ∧
      (t.group (4096 * 2)).gst = .waiting ∧ (t.group (4096 * 2)).join = 0)) = true ∧
    answers (exec (.slotRelease handle) oneshot) (fun t => decide ((t.frame 2).alloc = false ∧ (t.frame 2).gen = 4)) = true := by decide +kernel
theorem test_free : answers (exec (.freePacket (freePkt 1 handle)) base) (fun t => decide ((t.frame 2).alloc = false ∧ (t.frame 2).gen = 4)) = true ∧
    answers (exec (.freePacket (freePkt 2 handle)) base) (fun t => decide ((t.frame 2).alloc = true ∧ t.reg (Reg.sliceStat 2 4) = 1)) = true ∧
    answers (exec (.genQuarantineEnd 2) quarantined) (fun t => decide ((t.pool (256 * 2 + 4)).free = [66, 2])) = true := by decide +kernel

def request (k : Nat) (wait : Bool) : AllocReq := ⟨c0, 6, 1, k, 0, wait⟩
/-- The pool has no free frame. -/
def emptied (s : State) : State :=
  { s.setPool (256 * 2 + 4) { s.pool (256 * 2 + 4) with free := [] } with member := .z16 }
def empty : State := emptied base
/-- Context `c0` awaits the answer to request 6. -/
def awaiting : State :=
  let s := world { strand with waits := [⟨6, .alloc [10, 11, 12], false⟩] }
  { s with net := { s.net with outst := [⟨⟨nodeSlice 2, 0, 0, 6, 1, masterCtx 1 c0, 0⟩, .alloc, 0, 0, 50, none, .strand c0⟩] } }
def parkedAlloc : AllocWait := ⟨1, 1, 0, 3, 5⟩
/-- Task 5 waits for a frame of template 3, and a release has come. -/
def rerunning : State :=
  let s := base.setTask 5 { Task.zero with st := .waitAlloc, owner := 1, wgrp := 1, result := some (5, 0, 0) }
  { s with store := { s.store with waits := [parkedAlloc], rerun := [⟨2, false, 1, 1, 0⟩] } }

theorem w_AllocationAnswers : ctxPresent base.member (request 3 false).c = true ∧ base.templateIn 1 4 0 = none ∧
    base.templateIn 1 3 0 = some ⟨false, 0, [⟨2, 3, 7, 1⟩]⟩ ∧
    ((base.allocRun 1 1 0 ⟨false, 0, [⟨2, 3, 7, 1⟩]⟩).1 = some (Tag.mk 0 66 0 0 0 0 0) ∧
      (empty.allocRun 1 1 0 ⟨false, 0, [⟨2, 3, 7, 1⟩]⟩).1 = none) ∧
    (base.domainOn (nodeSlice (4 * 0 + base.home 0)) = true ∧ base.usablePool (4 * 0 + base.home 0) 1 1 false 256 = some 4 ∧
      (base.pool (256 * (4 * 0 + base.home 0) + 4)).free = [66] ∧ 0 < sliceCount base.member) ∧
    awaiting.awaitsAlloc c0 6 = true ∧ (base.awaitsAlloc c0 6 = false ∧ base.outstOf c0.pav 6 = none) ∧ base.store.rerun = [] ∧
    (rerunning.store.rerun = [⟨2, false, 1, 1, 0⟩] ∧
      rerunning.store.waits.find? (fun a => decide (a.tenant = 1 ∧ a.size = 1)) = some parkedAlloc ∧
      rerunning.templateIn 1 3 (rerunning.task 5).epoch = some ⟨false, 0, [⟨2, 3, 7, 1⟩]⟩ ∧
      (rerunning.rerunAlloc parkedAlloc ⟨false, 0, [⟨2, 3, 7, 1⟩]⟩ 2).1 = some (Tag.mk 0 66 0 0 0 0 0)) := by decide +kernel

theorem test_alloc : answers (exec (.allocRequest (request 3 false)) base) (fun t => decide ((t.frame 66).alloc = true ∧
      .allocReply c0 6 (Tag.mk 0 66 0 0 0 0 0) true ∈ t.flight ∧ t.home 0 = 3)) = true ∧
    answers (exec (.allocRequest (request 3 true)) (emptied { awaiting with hub := base.hub })) (fun t => decide (t.store.waits = [parkedAlloc] ∧ (t.ctx c0).state = .saving)) = true := by decide +kernel
theorem test_allocReply : answers (exec (.allocReply c0 6 handle true) awaiting) (fun t => decide ((t.ctx c0).wTriple 10 = handle ∧
      (t.ctx c0).waits = [] ∧ (t.ctx c0).allocs = [handle])) = true ∧
    answers (exec .allocwRerun rerunning) (fun t => decide ((t.task 5).st = .ready ∧ t.store.waits = [])) = true := by decide +kernel

/-- An activation of frame 2, in flow `f`; its entry. -/
def act (f : Nat) : Activation := ⟨1, Tag.mk 0 2 3 0 f 0 0, 7, 1, f, 0, 0⟩
def entry (f : Nat) : Entry := entryOfAct (act f) none false 0
/-- Flow 7 belongs to tenant 1; a notice of it waits at slice 2. -/
def noticed (f : Nat) : State := (base.setFlow 7 { Flow.zero with owner := 1 }).setNotices 2 [⟨act f, 1, 4, true⟩]
/-- Fired queue 5 (slice 2, groups 1 to 63) holds an activation of flow `f`. -/
def fired (f : Nat) : State := base.setFiredQ 5 [act f]
/-- Pavilion 0's queue holds an entry of an activation; or of task 5. -/
def queued (e : Entry) : State :=
  ((State.reset.setPq 0 [e]).setReg (Reg.filTen 1 0) 0x800000).setFlow 7 { Flow.zero with order := [actId (act 7).handle] }
def recalled : State := { base with hub := { base.hub with recalls := [(7, act 7)] } }
/-- A token of context 1 of pavilion 1 for flow 7 awaits `n` landing replies. -/
def paced (n : Nat) : State := base.setPace (paceKey 1 1 7) { Pace.none with frame := 2, sent := List.replicate n (0, 0) }
/-- Pavilion 0 sleeps, and an entry of code set 5 has waited at port 3 since 0. -/
def sleeping : State :=
  let s := ((base.setRl 3 1 [entry 0]).setRegField (Reg.pwrDom 0) 20 3 1).setReg (Reg.pwrDom 0) 0x200000
  { s with clock := { s.clock with elapsed := 0x100000000000 } }

theorem w_HubTraffic_1 : (unitPresent base.member .slices 63 = true ∧ unitPresent base.member .ports 15 = true ∧
      unitPresent base.member .pavs 255 = true) ∧
    ((noticed 7).notices 2 = [⟨act 7, 1, 4, true⟩] ∧ ((noticed 7).flow 7).owner = (act 7).tenant ∧ (noticed 7).frameGone (act 7).handle = false) ∧
    ((noticed 8).notices 2 = [⟨act 8, 1, 4, true⟩] ∧ ((noticed 8).flow 8).owner ≠ (act 8).tenant) ∧
    ((fired 0).notices 2 = [] ∧ (fired 0).firedQ (2 * 2) = [] ∧ (fired 0).firedQ (2 * 2 + 1) = [act 0] ∧ (fired 0).creditUsed 5 < 96 ∧
      (base.setFiredQ 4 [act 0]).firedQ (2 * 2) = [act 0] ∧ base.creditUsed 4 < 24 ∧ (act 0).flow = 0) ∧
    ((fired 7).firedQ (2 * 2 + 1) = [act 7] ∧ (act 7).flow ≠ 0 ∧ ((fired 7).flow 7).order.head? ≠ some (actId (act 7).handle)) := by
  decide +kernel
theorem w_HubTraffic_2 : ((queued (entry 7)).pq 0 = [entry 7] ∧ (queued (entry 7)).freeCtx 0 (entry 7).act.wgrp ≠ 0 ∧
      (queued (entry 7)).pavInService 0 = true ∧ (queued (entry 7)).domainOn 0 = true ∧ (queued (entry 7)).tenantStopped 1 = false ∧
      (queued (entry 7)).pair.fenced = false ∧ (queued (entry 7)).pickPipe 0 1 = some 0 ∧ (queued (entry 7)).pickCtx 0 0 = some 0) ∧
    ((entry 7).isTask = false ∧ (entry 7).act.flow ≠ 0 ∧ actId (entry 7).act.handle ∈ ((queued (entry 7)).flow 7).order ∧ (entryOfTask Task.zero 5 0).isTask = true) ∧
    (recalled.hub.recalls.find? (fun e => decide (e.1 = 7)) = some (7, act 7) ∧ recalled.frameGone (act 7).handle = false ∧
      recalled.recalledAt (portOfSlice recalled.member (recalled.sliceOf 2)) < 32) ∧
    ((paced 1).nodeState 1 = 0 ∧ nodePresent (paced 1).member 1 = true ∧ (base.paceOf (paceKey 1 1 7)).owed = 0 ∧
      ((paced 1).paceOf (paceKey 1 1 7)).owed ≠ 0 ∧ 1 < ((paced 2).paceOf (paceKey 1 1 7)).owed ∧
      (paced 2).sliceOf ((paced 2).paceOf (paceKey 1 1 7)).frame = 2 ∧ (paced 2).held 1 1 = []) ∧
    (let s := { paced 1 with clock := { (paced 1).clock with elapsed := 0x100000000000 } }
     (s.paceOf (paceKey 1 1 7)).due ≤ s.elapsed) ∧
    (sleeping.wakeAfter ≠ 0 ∧ (sleeping.rl 3 1).find? (fun e => sleeping.overdue e && (sleeping.sleeper e.act.entry 3).isSome) =
      some (entry 0) ∧ sleeping.sleeper (entry 0).act.entry 3 = some 0) := by decide +kernel

theorem test_fireNotice : answers (exec (.fireNotice 2) (noticed 7)) (fun t => decide ((t.flow 7).order = [Tag.mk 0 2 3 0 0 0 0] ∧
      t.flight = [.land 2 1 4 7])) = true := by decide +kernel
theorem test_handOver : answers (exec (.handOver 2) (fired 0)) (fun t => decide ((t.rl 0 1).length = 1 ∧ t.creditUsed 5 = 1 ∧ t.firedQ 5 = [])) = true ∧
    answers (exec (.handOver 2) (fired 7)) (fun t => decide ((t.flow 7).parked = [act 7] ∧ t.creditUsed 5 = 0)) = true := by decide +kernel
theorem test_decision : answers (exec (.dispatchDecision 0) ((base.setCtx c0 Context.idle).setReg (Reg.filTen 1 0) 0x800000 |>.setRl 0 1 [entry 0]))
    (fun t => decide (t.rl 0 1 = [] ∧ (t.ctx c0).state = .preload ∧ (t.ctx c0).entry = 7)) = true := by decide +kernel
theorem test_bind : answers (exec (.pavilionQueueBind 0) (queued (entry 7))) (fun t => decide ((t.ctx c0).state = .preload ∧ (t.ctx c0).tenant = 1 ∧
      t.pq 0 = [] ∧ (t.flow 7).busy = true)) = true := by decide +kernel
theorem test_recall : answers (exec (.recallAnswer 7) recalled) (fun t => decide ((t.rl 0 1).length = 1 ∧ t.hub.recalls = [])) = true := by
  decide +kernel
theorem test_land : answers (exec (.land 2 1 1 7) (paced 2)) (fun t => decide ((t.paceOf (paceKey 1 1 7)).owed = 1)) = true ∧
    answers (exec (.paceTimeout 1 1 7) { paced 2 with clock := { (paced 2).clock with elapsed := 0x100000000000 } })
      (fun t => decide ((t.paceOf (paceKey 1 1 7)).owed = 1 ∧ t.reg (Reg.dispStat 3) = 1)) = true := by decide +kernel
theorem test_wakeRequest : answers (exec (.wakeRequest 3 1) sleeping) (fun t => decide (t.powerOf 0 = 4 ∧ t.reg (Reg.port 3 7) = 1)) = true := by
  decide +kernel

/-- Task 5 of tenant 1 in a state, with flags and mask; task 6 is a valid FREE task. -/
def tasked (k : TaskState) (evf evm : Word) : State :=
  (base.setTask 5 { Task.zero with st := k, owner := 1, wgrp := 1, valid := true, evf := evf, evm := evm }).setTask 6
    { Task.zero with owner := 1, wgrp := 1, valid := true }
def spawner : SpawnReq := ⟨c0, 6, 1, 1, 7, 3⟩
def wardenReq : Req := ⟨nodeHub, 0, 0, 3, 0, 0x400000, 0⟩
/-- Flow 7 of tenant 1 has been busy since 0, and another activation of it waits. -/
def hung : State :=
  let s := base.setFlow 7 { Flow.zero with owner := 1, busy := true, order := [0, 1] }
  { s with clock := { s.clock with elapsed := 0x100000000000 } }
/-- Tenant 1 is a wait domain, whose only task, 6, waits for flags that nothing sets. -/
def watched : State :=
  { State.reset with
    member := .z16
    regs := [(0x00D004, 0x001005)]
    hub := { State.reset.hub with tasks := [(6, { Task.zero with st := .waitEv, owner := 1, wgrp := 1, valid := true, evm := 4 })] }
    clock := ⟨0, 0, 0x10000000000000, 0⟩ }

theorem w_TaskEvents_1 : ((tasked .running 1 4).task 5).st ≠ .free ∧ ((tasked .running 1 4).task 5).st ≠ .reserved ∧
    (((tasked .waitEv 1 4).task 5).st = .waitEv ∧ ((1 : Word) ||| 4) &&& 4 ≠ 0 ∧ ((1 : Word) ||| 2) &&& 4 = 0) ∧
    ((tasked .free 0 0).task 5).st = .free ∧ ((tasked .reserved 0 0).task 5).st = .reserved ∧
    ((2 : Nat) ≠ 0 ∧ ((tasked .waitEv 1 4).task 5).owner ≠ 2 ∧
      (((tasked .waitEv 1 4).take (.sev 5 4 (.master 2 (masterCtx 2 c0) 0))).sevPasses (.master 2 (masterCtx 2 c0) 0)).bindFlags 0 2 5 1024 = 0) ∧
    (ctxPresent base.member spawner.c = true ∧ (tasked .running 0 0).spawnPick 1 1 4096 = some 6 ∧ base.spawnPick 1 1 4096 = none) := by
  decide +kernel
theorem w_TaskEvents_2 : (((tasked .waitTime 0 0).task 5).st = .waitTime ∧ ((tasked .waitTime 0 0).task 5).target ≤ (tasked .waitTime 0 0).time ∧
      (tasked .waitTime 0 0).time < (((tasked .waitTime 0 0).setTask 5 { Task.zero with target := 1 }).task 5).target) ∧
    Claims.reaches (tasked .waitEv 0 0) wardenReq ∧
    (Claims.arrived (tasked .waitEv 0 0) wardenReq (.regwr 0x018017 2)).mayWarden wardenReq 0x018017 = true ∧
    ((wrote ((tasked .waitEv 0 0).written wardenReq.master 0x018014 4 2) 3).bit 1 = true ∧
      wrote (({ tasked .waitEv 0 0 with bufs := ⟨[], [(bufKey wardenReq.master 0x018014, [(1, 6)])]⟩ } : State).written wardenReq.master 0x018014 4 0) 1 ≠ 0) ∧
    (tasked .waitEv 0 0).ctxOfTask 6 = none ∧ (((tasked .waitEv 0 0).setCtx c0 Context.idle).ctxOfTask 5 = none) ∧
    ((hung.reg 0x00C012).toNat ≠ 0 ∧ (hung.flow 7).busy = true ∧ (hung.flow 7).hangReported = false ∧ hung.flowWaits 7 = true ∧
      (hung.flow 7).busySince + usTicks (hung.reg 0x00C012).toNat < hung.elapsed) := by
  refine ⟨by decide +kernel, ⟨by decide +kernel, by decide +kernel, by decide +kernel⟩, by decide +kernel⟩
theorem w_TaskEvents_3 : ((1 : Nat) ≠ 0 ∧ 1 ≤ 511 ∧ watched.domain 1 = 1 ∧ watched.regBit 0x00C010 23 = true) ∧ 511 ≤ 511 ∧
    (watched.setTask 6 Task.zero).deadlocked 1 = false := by decide +kernel
theorem w_TaskEvents_4 : watched.deadlocked 1 = true ∧ 1 ∉ watched.hub.active ∧
    Map.get (fun _ => 0) watched.hub.qstart 1 + watched.quietTicks ≤ watched.elapsed ∧ watched.regBit (Reg.dlkTen 1 0) 22 = false ∧
    watched.hub.reports.any (fun r => decide (r.domain = 1)) = false :=
  ⟨by decide +kernel, by decide +kernel⟩

theorem test_flags : answers (exec (.sevArrival 5 6 .device) (tasked .waitEv 1 4)) (fun t => decide ((t.task 5).st = .ready ∧ (t.task 5).evf = 3)) = true ∧
    answers (exec (.sevArrival 5 6 .device) (tasked .free 0 0)) (fun t => decide (t.reg (Reg.dispStat 1) = 1)) = true := by decide +kernel
theorem test_spawn : answers (exec (.spres spawner) (tasked .running 0 0)) (fun t => decide ((t.task 6).st = .reserved)) = true := by
  decide +kernel
theorem test_kill : answers (exec (.taskKill wardenReq 5 2) (tasked .waitTime 0 0)) (fun t => decide ((t.task 5).st = .free)) = true ∧
    answers (exec (.waittTargetReached 5) (tasked .waitTime 0 0)) (fun t => decide ((t.task 5).st = .ready)) = true := by decide +kernel
theorem test_evf : answers (exec (.evfWrite wardenReq 5 0) ({ tasked .waitEv 0 4 with bufs := ⟨[], [(bufKey wardenReq.master 0x018014, [(1, 6)])]⟩ } : State))
    (fun t => decide ((t.task 5).st = .ready ∧ (t.task 5).evf = 2)) = true := by decide +kernel
theorem test_hang : answers (exec (.flowhang 7) hung) (fun t => decide ((t.flow 7).hangReported = true)) = true ∧
    answers (exec (.domainVisit 1) (watched.setTask 6 Task.zero)) (fun t => decide (Map.get (fun _ => 0) t.hub.qstart 1 = 0x10000000000000)) = true := by
  decide +kernel

/-! ### Port cells -/

/-- One second after reset: cell 4 of tenant 1 in state `st` with function `fn`, other bits of word 0 in `w0`, and data `k`; bank 0
has its supply. -/
def portly (fn st : Nat) (w0 : Nat) (k : Cell) : State :=
  let s := ((((State.reset.setReg (Reg.bank 0 0) 0x400000).setReg (Reg.cell 4 0) (BitVec.ofNat 24 (fn * 0x100000 + w0))).setReg (Reg.cell 4 1)
    0x00800C).setReg (Reg.cell 4 8) (BitVec.ofNat 24 (st * 0x200000))).setCell 4 k
  { s with clock := ⟨0x100000000, 0, 0x100000000, 0⟩ }
/-- A port token for cell 4: operation, TYPE, instant in units of 2⁻³² s, value. -/
def portToken (op ty time : Nat) (v : Triple) : Token :=
  ⟨1, 0, masterCtx 1 ⟨1, 0, 0⟩, 1, 2, ((((0 : Triple).setField 46 10 4).setField 42 4 op).setField 6 36 time).setField 3 3 ty, v, 0, false⟩
def arrived (op : Nat) : State := (portly 1 1 0 Cell.idle).setInbox 0 [portToken op 6 0 0]
def early : Commit := ⟨900000000, 1⟩
def later : Commit := ⟨1900000000, 1⟩
def kept : Capture := ⟨0, 3, gridTime 900000000⟩

theorem w_PortTokensAndInstants_1 : (unitPresent State.reset.member .banks 31 = true ∧ unitPresent State.reset.member .cells 1023 = true) ∧
    ((portToken 0 0 0 1).vc = 2 ∧ (portly 2 1 0 Cell.idle).nodeState (nodeBank 0) = 0 ∧
      (portly 2 1 0 Cell.idle).checkPort 0 (portToken 0 0 0 1) = none ∧ (portly 2 1 0 Cell.idle).checkPort 0 (portToken 0 0 0 3) = some 2) ∧
    ((arrived 0).inbox 0 = [portToken 0 6 0 0] ∧ portOp (portToken 0 6 0 0).tag = 0 ∧ portOp (portToken 1 6 0 0).tag = 1 ∧
      portOp (portToken 2 6 0 0).tag = 2) ∧
    (let s := portly 2 1 0 { Cell.idle with commits := [early] }
     (s.cell 4).commits = [early] ∧ s.reached early.g = true ∧ s.cellState 4 = 1 ∧ s.cellExpect 4 = 0 ∧ s.cellFunc 4 = 2 ∧
      s.reached later.g = false) ∧
    (let s := portly 2 2 0 { Cell.idle with deadline := some 0x100000000 }
     (s.cell 4).deadline = some 0x100000000 ∧ 0x100000000 ≤ s.elapsed ∧ (s.cell 4).commits = [] ∧ s.cellLive 4 = true) := by decide +kernel

/-- The same with a period of 100 ns. -/
def periodic (fn : Nat) (k : Cell) : State := (portly fn 1 0 k).setReg (Reg.cell 4 2) 100

theorem w_PortTokensAndInstants_2 : (∀ fn, fn ∈ [3, 5, 6] → (periodic fn Cell.idle).schedInstant 4 = some 1000000000 ∧
      (periodic fn Cell.idle).cellLive 4 = true ∧ ((periodic fn Cell.idle).cell 4).sched ≠ some 1000000000 ∧ (periodic fn Cell.idle).cellFunc 4 = fn) ∧
    (let s := portly 1 1 0x200 Cell.idle
     s.pin 4 ≠ true ∧ s.cellLive 4 = true ∧ s.vioOk (cellBank 4) = true ∧ s.edgeCounts 4 (true ^^ s.regBit (Reg.cell 4 0) 11) = true ∧
      s.cellFunc 4 = 1) ∧
    (let s := portly 3 4 0 Cell.idle
     s.quadCounts 4 = true ∧ (true ≠ s.pin 4 ∧ false = s.pin 5) ∧ (s.cell 4).lastTrans = none) ∧
    (let s := portly 4 1 0 { Cell.idle with burst := some ⟨900000000, 100, 1, 0, true⟩ }
     (s.cell 4).burst = some ⟨900000000, 100, 1, 0, true⟩ ∧ s.cellLive 4 = true ∧ s.reached (900000000 + 0 * 100) = true) ∧
    (∀ fn, fn ∈ [6, 8] → (let s := portly fn 1 0 { Cell.idle with xfers := [early] }
      (s.cell 4).xfers = [early] ∧ s.cellFunc 4 = fn ∧ s.reached (early.g + s.ssiSpan 4) = true ∧ s.reached (early.g + s.spiSpan 4) = true ∧
        s.regBit (Reg.cell 4 0) 11 = false ∧ s.regBit (Reg.cell 4 6) 6 = false)) ∧
    (let s := portly 7 1 0 Cell.idle
     s.cellFunc 4 = 7 ∧ s.deHigh 4 = false ∧ s.vioOk (cellBank 4) = true) ∧
    (let s := portly 1 2 0 { Cell.idle with captures := List.replicate 7 kept }
     s.cellLive 4 = true ∧ s.pairShadow = false ∧ s.pairLead = false ∧ (s.cell 4).switchAt = none ∧ (s.cell 4).captures.length < 8) := by
  decide +kernel

/-- Cell 4 is armed with a continuation to slot 3 of frame 2, and holds a capture. -/
def armed (w0 : Nat) : State := portly 1 1 w0 { Cell.idle with cont := some handle, captures := [kept] }

theorem w_PortTokensAndInstants_3 : (((armed 0).cell 4).cont = some handle ∧ ((armed 0).cell 4).captures = [kept] ∧
      ((armed 0).captureTokens 4 handle kept).any (fun p => (armed 0).mustWait (nodeBank (cellBank 4)) (4 % 32) p) = false) ∧
    (let h := Tag.mk 0 2 3 3 7 0 0
     let s := (portly 1 1 0 { Cell.idle with cont := some h, captures := [kept] }).setPace (paceKey (nodeBank 0) 4 7) { Pace.none with sent := [(0, 0)] }
     (s.captureTokens 4 h kept).any (fun p => s.mustWait (nodeBank (cellBank 4)) (4 % 32) p) = true) ∧
    (let s := portly 2 1 0 { Cell.idle with commits := List.replicate 7 later }
     let tag := (portToken 0 0 0x300000000 1).tag
     s.cellState 4 = 1 ∧ (s.cell 4).commits.length < 8 ∧ portCtime tag = (s.time.toNat + 2 ^ 33) % 2 ^ 36 ∧
      (∀ e ∈ (s.cell 4).commits, e.g ≠ gridOf (BitVec.ofNat 72 (s.time.toNat + 2 ^ 33))) ∧ s.time.toNat < 2 ^ 71) := by decide +kernel

theorem test_ptok : answers (exec (.ptok 0 (portToken 0 0 0 1)) (portly 2 1 0 Cell.idle)) (fun t => decide (t.inbox 0 = [portToken 0 0 0 1])) = true ∧
    answers (exec (.ptok 0 (portToken 0 0 0 3)) (portly 2 1 0 Cell.idle)) (fun t => decide (t.inbox 0 = [] ∧ t.reg (Reg.cell 4 14) = 1)) = true := by
  decide +kernel
/-- A commit two seconds ahead enters at the instant of 3 s. -/
theorem test_commit : answers (exec (.portCommit 0) ((portly 2 1 0 Cell.idle).setInbox 0 [portToken 0 0 0x300000000 1]))
      (fun t => decide ((t.cell 4).commits = [⟨3000000000, 1⟩])) = true ∧
    answers (exec (.commitAct 4) (portly 2 1 0 { Cell.idle with commits := [early, later] })) (fun t => decide ((t.cell 4).out = 1 ∧
      (t.cell 4).commits = [later])) = true := by decide +kernel
theorem test_arm : answers (exec (.portArm 0) (arrived 1)) (fun t => decide ((t.cell 4).cont = some 0)) = true ∧
    answers (exec (.portDisarm 0) ((arrived 2).setCell 4 { Cell.idle with cont := some 5 })) (fun t => decide ((t.cell 4).cont = none)) = true := by
  decide +kernel
theorem test_expect : answers (exec (.expectDeadline 4) (portly 2 1 0 { Cell.idle with deadline := some 0x100000000 }))
    (fun t => decide (t.cellState 4 = 2 ∧ t.reg (Reg.cell 4 11) = 1)) = true := by decide +kernel
theorem test_schedule : answers (exec (.scheduleInstant 4) (periodic 3 { Cell.idle with count := 77 })) (fun t => decide ((t.cell 4).captures =
    [⟨0, 77, gridTime 1000000000⟩])) = true := by decide +kernel
theorem test_edge : answers (exec (.inputEdge 4 true) (portly 1 1 0x200 Cell.idle)) (fun t => decide ((t.cell 4).captures = [⟨0, 3, gridTime 1000000000⟩] ∧
    t.pin 4 = true)) = true := by decide +kernel
theorem test_quad : answers (exec (.quadTransition 4 true false) (portly 3 1 0 Cell.idle)) (fun t => decide ((t.cell 4).count = 1)) = true ∧
    answers (exec (.quadTransition 4 false true) (portly 3 1 0 Cell.idle)) (fun t => decide ((t.cell 4).count = 0xFFFFFF)) = true := by decide +kernel
theorem test_pulse : answers (exec (.pulseEdge 4) (portly 4 1 0 { Cell.idle with burst := some ⟨900000000, 100, 1, 0, false⟩, count := 5 }))
    (fun t => decide ((t.cell 4).count = 4 ∧ (t.cell 4).burst = none)) = true := by decide +kernel
theorem test_transfers : answers (exec (.ssiTransferDone 4 0xFFFFF) (portly 6 1 0 { Cell.idle with xfers := [early] })) (fun t => decide ((t.cell 4).captures =
      [⟨0, 0xFFF, gridTime 900000000⟩])) = true ∧
    answers (exec (.spiTransferDone 4 0x1001) (portly 8 1 0 { Cell.idle with xfers := [early] })) (fun t => decide ((t.cell 4).captures =
      [⟨0, 1, gridTime 900000000⟩])) = true := by decide +kernel
theorem test_uart : answers (exec (.uartRxCharacter 4 0x41 true false 950000000) (portly 7 1 0 Cell.idle)) (fun t => decide ((t.cell 4).captures =
    [⟨0, 0x241, gridTime 950000000⟩])) = true := by decide +kernel
theorem test_inject : answers (exec (.captureInject 4) (armed 0)) (fun t => decide (t.flight =
      [.ftok ⟨nodeBank 0, 4, 0, 1, 2, Tag.mk 0 2 3 3 0 0 0, 3, 0, false⟩,
       .ftok ⟨nodeBank 0, 4, 0, 1, 2, Tag.mk 0 2 3 4 0 5 0, gridTime 900000000, 0, false⟩] ∧ (t.cell 4).cont = none)) = true := by decide +kernel

/-- A request of tenant 1 to bank 0; one of the warden. -/
def cellReq : Req := ⟨nodeBank 0, 0, 0, 3, 1, masterCtx 1 c0, 0⟩
def cellWarden : Req := ⟨nodeBank 0, 0, 0, 3, 0, 0x400000, 0⟩

theorem w_PortWindowAndBanks_1 : (Claims.reaches (portly 1 3 0 Cell.idle) cellReq ∧ 4 < 1024) ∧
    (let u := Claims.arrived (portly 1 3 0 Cell.idle) cellReq (.wrw 65 [0x800000])
     u.cellMay 4 1 = true ∧ u.cellState 4 = 3) ∧
    (Claims.arrived (portly 1 4 0 Cell.idle) cellReq (.wrw 65 [0x800000])).cellState 4 = 4 ∧
    (Claims.arrived (portly 1 1 0 Cell.idle) cellReq (.wrw 65 [0x400000])).cellMay 4 1 = true ∧
    (Claims.arrived (armed 0) cellReq (.rdw 68 1)).cellMay 4 1 = true ∧ ((portly 1 1 0 Cell.idle).cell 4).captures = [] ∧
    ((armed 0).cell 4).captures = [kept] := by
  refine ⟨⟨⟨by decide +kernel, by decide +kernel, by decide +kernel⟩, by decide⟩, by decide +kernel⟩
theorem w_PortWindowAndBanks_2 :
    (let s := { portly 1 4 0 Cell.idle with bufs := ⟨[], [(bufKey 0x400000 (Reg.cell 4 0), [(8, 0x000400)])]⟩ }
     Claims.reaches s cellWarden ∧ (Claims.arrived s cellWarden (.regwr (Reg.cell 4 31) 0)).mayWarden cellWarden (Reg.cell 4 31) = true ∧
      (wrote (s.written 0x400000 (Reg.cell 4 0) 32 0) 8).bit 10 = true ∧
      ((Claims.arrived s cellWarden (.regwr (Reg.cell 4 31) 0)).putWords (Reg.cell 4 0) (s.written 0x400000 (Reg.cell 4 0) 32 0)).cellState 4 = 4) ∧
    ((Claims.arrived (portly 1 1 0 Cell.idle) cellWarden (.regwr (Reg.bank 0 0) 0x200000)).mayWarden cellWarden (Reg.bank 0 0) = true ∧
      (0x200000 : Word).bit 21 = true) ∧
    Map.get (fun _ => true) State.reset.ports.caling 0 = true ∧ (portly 1 1 0 Cell.idle).vioOk 0 = true ∧ State.reset.vioOk 0 = false ∧
    (portly 1 5 0 Cell.idle).cellState 4 = 5 := by
  refine ⟨⟨⟨by decide +kernel, by decide +kernel, by decide +kernel⟩, by decide +kernel⟩, by decide +kernel⟩

theorem test_resume : answers (exec (.cellResume cellReq 4) (portly 1 3 0 Cell.idle)) (fun t => decide (t.cellState 4 = 1)) = true ∧
    answers (exec (.cellResume cellReq 4) (portly 1 4 0 Cell.idle)) (fun t => decide (t.cellState 4 = 4)) = true := by decide +kernel
theorem test_capture_views : answers (exec (.cellFlush cellReq 4) (armed 0)) (fun t => decide ((t.cell 4).captures = [] ∧ t.reg (Reg.cell 4 13) = 1)) = true ∧
    answers (exec (.cellPop cellReq 4) (armed 0)) (fun t => decide ((t.cell 4).captures = [] ∧ t.poppedOf 4 cellReq.master = kept)) = true := by
  decide +kernel
theorem test_banks : answers (exec (.calgo cellWarden 0 0x200000) (portly 1 1 0 Cell.idle)) (fun t => decide (t.reg (Reg.bank 0 2) = 1)) = true ∧
    answers (exec (.vioLoss 0) (portly 1 1 0 Cell.idle)) (fun t => decide (t.cellState 4 = 3 ∧ t.vioOk 0 = false)) = true ∧
    answers (exec (.vioReturn 0) State.reset) (fun t => decide (t.vioOk 0 = true)) = true := by decide +kernel
theorem test_reprogrammed : answers (exec (.reprogrammingEnd 4) ((portly 1 5 0 { Cell.idle with commits := [early] }).setReg (Reg.cell 4 16) 0x200000))
    (fun t => decide (t.cellState 4 = 1 ∧ t.cellFunc 4 = 2 ∧ (t.cell 4).commits = [])) = true := by decide +kernel

/-! ### Device time -/

/-- The clock at elapsed `e` and time `t`, in units of 2⁻³² s. -/
def clocked (s : State) (t : Triple) (e : Triple) : State := { s with clock := ⟨t, 0, e, 0⟩ }
/-- The warden's request to a node. -/
def warden (n : Nat) : Req := ⟨n, 0, 0, 3, 0, 0x400000, 0⟩
/-- A step of `a` waits; the core is in standby and the seconds keeper runs; the keeper is in HOLDOVER beyond its limit. -/
def stepping (a : Int) (t : Triple) : State :=
  let s := clocked State.reset t 0x100000000
  { s with keeper := { s.keeper with steps := [a] } }
def standby : State :=
  let s := State.reset.setReg 0x004040 0x80FFFF |>.setReg 0x004041 0xFFFFFF
  { s with power := { s.power with core := false } }
def holding : State := (State.reset.setRegField 0x004001 21 3 3).setReg 0x004012 0xFFFFFF
/-- Source 0 is valid and was last heard at 0, with TMO_MS = 1; now is 2 ms. -/
def silent : State := clocked ((State.reset.setRegField 0x004001 0 1 1).setReg 0x004021 1) 0 8589935

theorem w_DeviceTime : (State.reset.power.core = true ∧ State.reset.keeper.steps = []) ∧
    ((stepping (-5) 5).power.core = true ∧ (stepping (-5) 5).keeper.steps = [-5] ∧
      0 ≤ ((stepping (-5) 5).clock.time.toNat : Int) + -5 ∧ ((stepping (-5) 5).clock.time.toNat : Int) + -5 + 8 < 2 ^ 72) ∧
    State.reset.regBit 0x004030 23 = false ∧ ((State.reset.setRegField 0x004030 23 1 1).regBit 0x004030 23 = true ∧
    (State.reset.setRegField 0x004030 23 1 1).power.core = true) ∧
    ((State.reset).reg (0x004020 + 8 + 2) = 0) ∧
    (Claims.reaches State.reset (warden nodeTime) ∧ (Claims.arrived State.reset (warden nodeTime) (.regwr 0x004023 7)).mayWarden (warden nodeTime)
      0x004023 = true) ∧
    ((Claims.arrived State.reset (warden nodeTime) (.regwr 0x00400A 7)).mayWarden (warden nodeTime) 0x00400A = true ∧
      (Claims.arrived State.reset (warden nodeTime) (.regwr 0x00400A 7)).stepEn = true ∧
      (Claims.arrived (State.reset.setRegField 0x004000 23 1 0) (warden nodeTime) (.regwr 0x00400A 7)).stepEn = false ∧
      (Claims.arrived (State.reset.setRegField 0x004000 23 1 0) (warden nodeTime) (.regwr 0x00400A 7)).mayWarden (warden nodeTime)
        0x00400A = true) ∧
    (silent.regBit 0x004001 0 = true ∧ silent.srcLast 0 + msTicks (silent.reg (0x004020 + 1)).toNat < silent.elapsed) ∧
    (holding.tkState = 3 ∧ holding.reg 0x004011 < holding.reg 0x004012) ∧
    (standby.power.core = false ∧ standby.regBit 0x004040 23 = true) := by
  refine ⟨by decide +kernel, by decide +kernel, by decide +kernel, by decide +kernel, by decide +kernel, ⟨⟨?_, ?_, ?_⟩, ?_⟩, by decide +kernel⟩ <;>
    decide +kernel

/-- One tick adds 18,446,744,074 units of 2⁻⁶⁴ s, which is 4 units of 2⁻³² s and a fraction. -/
theorem test_tick : answers (exec .tick State.reset) (fun t => decide (t.clock.time = 4 ∧ t.clock.timeExt = 1266874890)) = true ∧
    answers (exec .tick (stepping (-5) 5)) (fun t => decide (t.clock.time = 4)) = true ∧
    same (exec .tick standby) (.next standby) = true := by
  refine ⟨by decide +kernel, by decide +kernel, ?_⟩
  have : exec .tick standby = .next standby := by
    show execTick standby = _
    unfold execTick
    rw [if_pos (by decide +kernel)]
  rw [this]; simp [same, answers]
/-- The edge is 1 s and 2⁻²² s after the start: 238 ns late. -/
theorem test_pps : answers (exec .ppsEdge (clocked State.reset 0x100000400 0x100000400)) (fun t => decide (t.reg 0x00402B = 238)) = true ∧
    answers (exec .ppsEdge (clocked State.reset 0xFFFFFC00 0xFFFFFC00)) (fun t => decide (t.reg 0x00402B = BitVec.ofInt 24 (-238))) = true := by
  decide +kernel
theorem test_offset : answers (exec (.ptpOffset (warden nodeTime) 7) State.reset) (fun t => decide (t.reg 0x004023 = 7)) = true ∧
    answers (exec (.timeStep (warden nodeTime) 7) State.reset) (fun t => decide (t.keeper.steps = [7 * 2 ^ 48])) = true ∧
    answers (exec (.timeStep (warden nodeTime) 7) (State.reset.setRegField 0x004000 23 1 0)) (fun t => decide (t.keeper.steps = [] ∧
      t.reg 0x004035 = 1)) = true := by
  decide +kernel
theorem test_sources : answers (exec (.sourceTimeout 0) silent) (fun t => decide (t.regBit 0x004001 0 = false)) = true ∧
    answers (exec .holdLimitExceeded holding) (fun t => decide (t.tkState = 0)) = true ∧
    answers (exec .secondsKeeperSecond standby) (fun t => decide (t.secs = 0)) = true := by decide +kernel

/-! ### The Trellis -/

/-- The response to request 5 of context 0 of pavilion 0, from bank 0. -/
def reply (st : Nat) : Rsp := ⟨0, 0, 5, nodeBank 0, st, false, 0⟩
/-- Request 5 is outstanding since 0. -/
def pendingOp (s : State) (op : ReqOp) (held : Option Nat) (who : Requester) : State :=
  { s with net := { s.net with outst := [⟨⟨nodeBank 0, 0, 0, 5, 1, masterCtx 1 c0, 0⟩, op, 0x200000, 0, 50, held, who⟩] } }
def isolated (n : Nat) : State := State.reset.isolate n
/-- A response with data travels. -/
def travelling : State := { State.reset with flight := [.rdata (reply 0) [1, 2, 3]] }

theorem w_TrellisTrouble_1 : (unitPresent travelling.member .clusters 15 = true ∧ travelling.flight[0]? = some (.rdata (reply 0) [1, 2, 3]) ∧
      travelling.wire (.rdata (reply 0) [1, 2, 3]) = some (0, travelling.rspHeader (reply 0) 0x29, 1) ∧
      (Packet.rdata (reply 0) [1, 2, 3]).poisoned 1 = some (.rdata (markUnit (reply 0) 1) [1, 2, 3])) ∧
    (let s := pendingOp State.reset (.wrw 0x200000 [1]) none .dropped
     nodePresent s.member 0 = true ∧ (s.outstOf 0 5).map (fun o => (decide (o.who = .dropped), o.op.wantsData)) = some (true, false) ∧
      s.elapsed < 0 + usTicks (50 + 0) ∧
      0 + usTicks (50 + 0) ≤ (clocked s 0 (BitVec.ofNat 72 (usTicks s.onchipUs))).elapsed) ∧
    (let s := pendingOp State.reset (.rdw 0x200000 1) (some 9) .debug
     s.nodeState 0 ≠ 1 ∧ s.nodeState 0 ≠ 3 ∧ (s.outstOf 0 5).map (fun o => o.held.isSome) = some true) ∧
    (let s := pendingOp State.reset (.rdw 0x200000 1) none .debug
     s.nodeState 0 ≠ 1 ∧ s.nodeState 0 ≠ 3 ∧ (s.outstOf 0 5).map (fun o => o.held) = some none ∧ State.reset.outstOf 0 5 = none) := by
  decide +kernel

theorem w_TrellisTrouble_2 : Claims.reaches State.reset (warden nodeAon) ∧
    ((Claims.arrived State.reset (warden nodeAon) (.regwr (Reg.node 3) 0x200000)).mayWarden (warden nodeAon) (Reg.node 3) = true ∧
      nodePresent State.reset.member 3 = true ∧ (0x200000 : Word).bit 21 = true ∧ (0 : Word).bit 21 = false ∧
      (Claims.arrived State.reset (warden nodeAon) (.regwr (Reg.node 3) 0x200000)).nodeState 3 ≠ 3 ∧
      (Claims.arrived State.reset (warden nodeAon) (.regwr (Reg.node 3) 0)).nodeState 3 ≠ 3) ∧
    ((Claims.arrived (isolated 3) (warden nodeAon) (.regwr (Reg.node 3) 0)).nodeState 3 = 3 ∧
      3 ∉ (Claims.arrived (isolated 3) (warden nodeAon) (.regwr (Reg.node 3) 0)).power.beenOff) := by
  refine ⟨⟨by decide +kernel, by decide +kernel, by decide +kernel⟩, by decide +kernel⟩

theorem test_resend : answers (exec (.hopResend 0 0 4 0 1) travelling) (fun t => decide (t.flight[0]? = some (.rdata { reply 0 with poison := 1 } [1, 2, 3]) ∧
      t.reg (Reg.cluster 0 2) = 1)) = true ∧
    answers (exec (.hopResend 0 0 2 0 1) travelling) (fun t => decide (t.flight = travelling.flight ∧ t.reg (Reg.cluster 0 1) = 1)) = true := by
  decide +kernel
theorem test_timeout : answers (exec (.requestTimeout 0 5) (clocked (pendingOp State.reset (.wrw 0x200000 [1]) none .dropped) 0
    (BitVec.ofNat 72 (usTicks State.reset.onchipUs)))) (fun t => decide (t.net.outst = [] ∧ t.flight.length = 1)) = true := by decide +kernel
theorem test_hold : answers (exec (.holdRsp (reply 0)) (clocked (pendingOp State.reset (.rdw 0x200000 1) none .debug) 0 77))
    (fun t => decide (t.net.outst.map Outst.since = [77])) = true := by decide +kernel
theorem test_isolate : answers (exec (.nodeIso (warden nodeAon) 3 0x200000) State.reset) (fun t => decide (t.nodeState 3 = 3)) = true ∧
    answers (exec (.nodeIso (warden nodeAon) 3 0) (isolated 3)) (fun t => decide (t.nodeState 3 = 3)) = true := by decide +kernel

/-- Context 0 awaits request 5 for a load of W20 to W22, a store, or a queue's word. -/
def waiting (k : WaitKind) (op : ReqOp) : State := pendingOp (world { user with waits := [⟨5, k, false⟩] }) op none (.strand c0)
def loading : State := waiting (.load [20, 21, 22]) (.rdw 0x200000 3)
def storing : State := waiting .store (.wrw 0x200000 [1])
def getting : State := waiting (.qget 20) (.qget 9)

theorem w_ResponsesReachTheirStrand : (nodePresent loading.member (reply 0).node = true ∧ loading.nodeState (reply 0).node ≠ 1 ∧
      loading.nodeState (reply 0).node ≠ 3 ∧ (reply 0).poison = 0 ∧ (reply 0).dup = false) ∧
    (nodePresent (world user).member 0 = true ∧ (world user).nodeState 0 ≠ 1 ∧ (world user).nodeState 0 ≠ 3 ∧ (world user).outstOf 0 5 = none) ∧
    (∀ s ∈ [loading, storing, getting], (s.outstOf 0 5).map (fun o => (decide (o.who = .strand c0), o.q.rid)) = some (true, 5) ∧
      s.pairLead = false ∧ s.nodeState 0 ≠ 1 ∧ s.nodeState 0 ≠ 3 ∧ (s.ctx c0).lateErr = none) ∧
    (loading.ctx c0).waits.find? (fun w => decide (w.rid = (reply 1).rid)) = some ⟨5, .load [20, 21, 22], false⟩ ∧ (reply 1).status < 2 ∧
    (storing.ctx c0).waits.find? (fun w => decide (w.rid = (reply 2).rid)) = some ⟨5, .store, false⟩ ∧ 2 ≤ (reply 2).status ∧
    (getting.ctx c0).waits.find? (fun w => decide (w.rid = (reply 1).rid)) = some ⟨5, .qget 20, false⟩ := by decide +kernel

theorem test_data : answers (exec (.rdata (reply 0) [7, 8, 9]) loading) (fun t => decide ((t.ctx c0).waits = [] ∧
      Map.get (fun _ => 0) (t.ctx c0).ring 20 = 7 ∧ Map.get (fun _ => 0) (t.ctx c0).ring 22 = 9)) = true ∧
    answers (exec (.rrsp (reply 0) [7, 8, 9]) loading) (fun t => decide (Map.get (fun _ => 0) (t.ctx c0).ring 21 = 8)) = true ∧
    answers (exec (.rdata (reply 0) [7, 1]) getting) (fun t => decide (Map.get (fun _ => 0) (t.ctx c0).ring 20 = 7 ∧
      Fl.t (t.ctx c0).fl = true)) = true := by decide +kernel
theorem test_rsp : answers (exec (.rsp (reply 2)) storing) (fun t => decide ((t.ctx c0).lateErr = some (2, 0x200000))) = true ∧
    answers (exec (.rsp (reply 0)) State.reset) (fun t => decide (t.reg (Reg.cluster 0 6) = 1)) = true := by decide +kernel

/-! ### Coherent state memory -/

/-- Every slice gives 4,096 words to state memory; line 5, of words 40 to 47, stands as `e` at its home, slice 5. -/
def homeAt (e : DirEntry) : State := ((State.reset.setReg 0x008000 0x000080).setDir 5 e).setStWord 40 ⟨7, false⟩
def uncachedAt : State := homeAt DirEntry.idle
def sharedAt : State := homeAt { DirEntry.idle with st := .shared 1 }
def ownedAt (p : Nat) : State := homeAt { DirEntry.idle with st := .exclusive p }
/-- A request of pavilion 2 to slice 5. -/
def toHome : Req := ⟨nodeSlice 5, 2, 0, 9, 1, masterCtx 1 ⟨2, 0, 0⟩, 0⟩
/-- The line is busy with a request of pavilion 2 that awaits the pavilions `ps`. -/
def busyAt (op : ReqOp) (ps : List Nat) : State :=
  let s := homeAt { DirEntry.idle with st := .exclusive 3, busy := some ⟨toHome, op, ps, false, none⟩ }
  { s with net := { s.net with outst := [⟨⟨3, nodeSlice 5, 0, 5, 0, 0, 0⟩, .fwdS 5, 40, 0, 50, none, .home 5⟩] } }

theorem w_HomeRequests : (Claims.reaches uncachedAt toHome ∧ Claims.reaches sharedAt toHome ∧ Claims.reaches (ownedAt 2) toHome) ∧
    (toHome.dest = nodeSlice (uncachedAt.homeOf (47 / 8)) ∧ 8 * (47 / 8) < uncachedAt.stateSize) ∧
    ((busyAt (.rd 5) [3]).dirOf 5).busy.isSome = true ∧
    ((uncachedAt.dirOf 5).busy = none ∧ (uncachedAt.dirOf 5).st = .uncached ∧ (uncachedAt.stWord 40).bad = false) ∧
    ((sharedAt.dirOf 5).busy = none ∧ (sharedAt.dirOf 5).st = .shared 1 ∧
      (sharers sharedAt.member 1).filter (fun p => decide (p ≠ toHome.node)) ≠ []) ∧
    ((ownedAt 3).dirOf 5).st = .exclusive 3 ∧ ((ownedAt 2).dirOf 5).st = .exclusive toHome.node := by
  refine ⟨⟨⟨?_, ?_, ?_⟩, ⟨?_, ?_, ?_⟩, ⟨?_, ?_, ?_⟩⟩, ?_, ?_, ?_, ?_, ?_, ?_⟩ <;> decide +kernel

theorem test_rd : answers (exec (.rdLine toHome 5 .sound) uncachedAt) (fun t => decide ((t.dirOf 5).st = .exclusive 2 ∧
      t.flight = [.fill .exclusive (rspOf toHome 0) (uncachedAt.stLine 5)])) = true ∧
    answers (exec (.rdLine toHome 5 .sound) sharedAt) (fun t => decide ((t.dirOf 5).st = .shared 1)) = true := by decide +kernel
theorem test_rdx : answers (exec (.rdxLine toHome 5 .sound) (ownedAt 3)) (fun t => decide (((t.dirOf 5).busy.map Active.awaits) = some [3] ∧
    t.flight.length = 1)) = true := by decide +kernel
theorem test_rdu : answers (exec (.rduLine toHome 40 .sound) uncachedAt) (fun t => decide (t.flight = [.rdata (rspOf toHome 0) [7]])) = true ∧
    answers (exec (.wruLine toHome 47 8) uncachedAt) (fun t => decide (t.stWord 47 = ⟨8, false⟩ ∧ t.stWord 40 = ⟨7, false⟩)) = true := by
  decide +kernel
theorem test_notices : answers (exec (.evcLine toHome 5) (ownedAt 2)) (fun t => decide ((t.dirOf 5).st = .uncached ∧
      t.flight = [.wbAck (rspOf toHome 0) 5])) = true ∧
    answers (exec (.wbLine toHome 5 (List.replicate 8 ⟨6, false⟩)) (ownedAt 2)) (fun t => decide ((t.dirOf 5).st = .uncached ∧
      t.stWord 47 = ⟨6, false⟩)) = true := by decide +kernel

/-- Pavilion 3 holds line 5; a request of the home; an answer of pavilion 3 to it. -/
def holds (st : LineSt) : State := State.reset.setCache 3 (Cache.empty.put ⟨5, st, List.replicate 8 ⟨4, false⟩⟩)
def leaving : State := State.reset.setCache 3 { Cache.empty with victims := [⟨5, true, List.replicate 8 ⟨4, false⟩⟩] }
def fromHome : Req := ⟨3, nodeSlice 5, 0, 5, 0, 0, 0⟩
def fromCache : Rsp := ⟨nodeSlice 5, 0, 5, 3, 0, false, 0⟩
def line8 : List SWord := List.replicate 8 ⟨4, false⟩
/-- Pavilion 3 awaits a fill of line 5, or the acknowledgement of its notice. -/
def fills (excl : Bool) : State :=
  let s := State.reset.setCache 3 { Cache.empty with misses := [⟨5, excl, true, false, [], none⟩] }
  { s with net := { s.net with outst := [⟨⟨nodeSlice 5, 3, 0, 5, 0, 0, 0⟩, if excl then .rdx 5 else .rd 5, 40, 0, 50, none, .fill 3 5⟩] } }
def evicting : State :=
  { leaving with net := { leaving.net with outst := [⟨⟨nodeSlice 5, 3, 0, 5, 0, 0, 0⟩, .wb 5 line8, 40, 0, 50, none, .evict 3 5⟩] } }
def toCache : Rsp := ⟨3, 0, 5, nodeSlice 5, 0, false, 0⟩

theorem w_CacheMessages : (nodePresent State.reset.member fromHome.dest = true ∧ fromHome.poison = 0 ∧ (holds .mo).nodeState 3 = 0) ∧
    (((holds .mo).cache 3).find 5 = some ⟨5, .mo, line8⟩ ∧ ((holds .ex).cache 3).find 5 = some ⟨5, .ex, line8⟩ ∧
      ((holds .sh).cache 3).find 5 = some ⟨5, .sh, line8⟩ ∧ (leaving.cache 3).find 5 = none ∧ (leaving.cache 3).victim 5 = true) ∧
    (let s := busyAt (.rd 5) [3]
     nodePresent s.member fromCache.node = true ∧ s.nodeState fromCache.node ≠ 1 ∧ s.nodeState fromCache.node ≠ 3 ∧
      fromCache.dup = false ∧ fromCache.poison = 0 ∧ (s.outstOf fromCache.node fromCache.rid).map Outst.who = some (.home 5) ∧
      (s.dirOf 5).queue = [] ∧ (s.dirOf 5).busy = some ⟨toHome, .rd 5, [fromCache.src], false, none⟩ ∧ line8.length = 8 ∧
      ((busyAt (.rdx 5) [3]).dirOf 5).busy = some ⟨toHome, .rdx 5, [fromCache.src], false, none⟩ ∧
      ((busyAt (.rdx 5) [3, 4]).dirOf 5).busy = some ⟨toHome, .rdx 5, [fromCache.src, 4], false, none⟩ ∧ 4 ≠ fromCache.src) ∧
    (∀ b ∈ [false, true], ((fills b).outstOf toCache.node toCache.rid).map Outst.who = some (.fill 3 5) ∧ (fills b).nodeState 3 = 0 ∧
      ((fills b).cache 3).miss 5 = some ⟨5, b, true, false, [], none⟩ ∧ (((fills b).cache 3).set (5 % 256)).length < 4 ∧
      ((fills b).cache 3).buffer = [] ∧ ((fills b).cache 3).flushing = false) ∧
    ((evicting.outstOf toCache.node toCache.rid).map Outst.who = some (.evict 3 5) ∧ (evicting.cache 3).misses = [] ∧
      (evicting.cache 3).flushing = false) := by decide +kernel

theorem test_forwards : answers (exec (.fwdS fromHome 5 .sound) (holds .mo)) (fun t => decide (((t.cache 3).find 5).map CLine.st = some .sh ∧
      t.flight = [.fdata (rspOf fromHome 0) 5 line8 true])) = true ∧
    answers (exec (.fwdX fromHome 5 .sound) (holds .ex)) (fun t => decide ((t.cache 3).find 5 = none ∧
      t.flight = [.fdata (rspOf fromHome 0) 5 line8 false])) = true ∧
    answers (exec (.invLine fromHome 5) (holds .sh)) (fun t => decide ((t.cache 3).find 5 = none ∧ t.flight = [.ack (rspOf fromHome 0) 5])) = true := by
  decide +kernel
theorem test_answers : answers (exec (.fdata fromCache 5 line8 true) (busyAt (.rd 5) [3])) (fun t => decide ((t.dirOf 5).busy = none ∧
      t.stWord 47 = ⟨4, false⟩)) = true ∧
    answers (exec (.ackLine fromCache 5) (busyAt (.rdx 5) [3])) (fun t => decide ((t.dirOf 5).st = .exclusive 2)) = true ∧
    answers (exec (.goneLine fromCache 5) (busyAt (.rd 5) [3])) (fun t => decide ((t.dirOf 5).busy.map Active.gone = some true)) = true := by
  decide +kernel
theorem test_fills : answers (exec (.dataS toCache line8) (fills false)) (fun t => decide (((t.cache 3).find 5).map CLine.st = some .sh)) = true ∧
    answers (exec (.dataE toCache line8) (fills false)) (fun t => decide (((t.cache 3).find 5).map CLine.st = some .ex)) = true ∧
    answers (exec (.dataM toCache line8) (fills true)) (fun t => decide (((t.cache 3).find 5).map CLine.st = some .mo)) = true ∧
    answers (exec (.wbAck toCache 5) evicting) (fun t => decide ((t.cache 3).victim 5 = false)) = true := by decide +kernel

/-! ### Memories and device registers -/

/-- DDR channel 0 holds 2²⁵ words. -/
def ddred : State := State.reset.setReg (Reg.ddr 0 0) 0x800001
def toSpad : Req := ⟨3, 2, 0, 9, 1, masterCtx 1 ⟨2, 0, 0⟩, 0⟩
def toDdr : Req := { toSpad with dest := nodeDdr 0 }
def toLegacy : Req := { toSpad with dest := nodeLegacy }

theorem w_MemoryRequests : (Claims.reaches State.reset toSpad ∧ Claims.reaches ddred toDdr ∧ Claims.reaches State.reset toLegacy) ∧
    (toSpad.dest < 0x100 ∧ 65533 + 3 ≤ 65536 ∧ (∀ j, j < 3 → State.reset.spadBad toSpad.dest (65533 + j) = false) ∧ 65536 < 65534 + 3) ∧
    (∀ j, j < 3 → ddred.ddrPresent (13 + j) = true) ∧ (toLegacy.dest = nodeLegacy ∧ 32765 + 3 ≤ 32768) ∧ 16383 < 16384 ∧
    State.reset.pairShadow = false ∧ ([1, 2, 3] : List Word).length = 3 := by
  refine ⟨⟨⟨?_, ?_, ?_⟩, ⟨?_, ?_, ?_⟩, ⟨?_, ?_, ?_⟩⟩, ?_, ?_, ?_, ?_, ?_, ?_⟩ <;> decide +kernel

theorem test_writes : answers (exec (.wrw toSpad 65533 [1, 2, 3] 0 false) State.reset) (fun t => decide (t.spadRead 3 65535 = 3 ∧
      t.spadRead 3 65532 = 0 ∧ t.flight = [.rsp (rspOf toSpad 0)])) = true ∧
    answers (exec (.wrw toSpad 65534 [1, 2, 3] 0 false) State.reset) (fun t => decide (t.spadRead 3 65534 = 0 ∧
      t.flight = [.rsp (rspOf toSpad 2)])) = true ∧
    answers (exec (.wrw toDdr 13 [1, 2] 0 false) ddred) (fun t => decide (t.ddrRead 14 = 2)) = true ∧
    answers (exec (.wrw toLegacy 32767 [0x123456] 0 false) State.reset) (fun t => decide (t.legRead 32767 = 0x3456)) = true := by decide +kernel
theorem test_views : answers (exec (.setw toSpad 60000 [0x0F0F0F]) (State.reset.setSpadRaw 3 60000 0x00FF00)) (fun t => decide (t.spadRead 3 60000 = 0x0FFF0F)) = true ∧
    answers (exec (.clrw toSpad 60000 [0x0F0F0F]) (State.reset.setSpadRaw 3 60000 0x00FF00)) (fun t => decide (t.spadRead 3 60000 = 0x00F000)) = true := by
  decide +kernel
theorem test_reads : answers (exec (.rdw toSpad 60000 1 .sound 0 false) (State.reset.setSpadRaw 3 60000 5)) (fun t => decide (t.flight =
      [.rdata (rspOf toSpad 0) [5]])) = true ∧
    answers (exec (.rrd toSpad 60000 1 .sound 0 false) (State.reset.setSpadRaw 3 60000 5)) (fun t => decide (t.flight = [.rrsp (rspOf toSpad 0) [5]])) = true ∧
    answers (exec (.rwr toSpad 60000 [5] 0 false) State.reset) (fun t => decide (t.spadRead 3 60000 = 5 ∧ t.flight = [])) = true ∧
    answers (exec (.cwr toSpad 16383 5) State.reset) (fun t => decide (t.codeRead 3 16383 = 5)) = true := by decide +kernel

/-- A request of a strand of tenant 1 to the time keeper. -/
def stranger : Req := { toSpad with dest := nodeTime }
def tested (k : Tester) : State := (State.reset.setReg (pavBase 3 + 0x200) 0x800000).setTester 3 k

theorem w_RegisterRequests_1 : (Claims.reaches State.reset stranger ∧ Claims.reaches State.reset (warden nodeTime)) ∧
    ((Claims.arrived State.reset stranger (.regrd 0x00400D)).regMay stranger 0x00400D false = false ∧
      (Claims.arrived State.reset stranger (.regwr 0x00400D 5)).regMay stranger 0x00400D true = false ∧
      State.reset.writeAction stranger 0x00400D 5 = none) ∧
    (let r := Claims.arrived State.reset stranger (.regrd 0x7FFFFF)
     r.regMay stranger 0x7FFFFF false = true ∧ 0x7FFFFF < 0x1000000 ∧ r.codeWord 0x7FFFFF = none ∧ findReg State.reset.member 0x7FFFFF = none) ∧
    (let q := warden nodeTime
     let r := Claims.arrived State.reset q (.regrd 0x00400D)
     let u := Claims.arrived State.reset q (.regwr 0x00400D 5)
     r.regMay q 0x00400D false = true ∧ r.codeWord 0x00400D = none ∧ u.regMay q 0x00400D true = true ∧ u.codeWord 0x00400D = none ∧
      State.reset.writeAction q 0x00400D 5 = none ∧
      (findReg State.reset.member 0x00400D).map (fun e => (e.1.wide e.2 0x00400D, decide (e.1.base ≠ 0x018000))) = some (none, true)) := by
  refine ⟨⟨⟨?_, ?_, ?_⟩, ⟨?_, ?_, ?_⟩⟩, ?_, ?_, ?_⟩ <;> decide +kernel

theorem w_RegisterRequests_2 :
    (let q := { warden 0 with dest := 3 }
     let u := Claims.arrived State.reset q (.regwr 0x81FFFF 5)
     u.regMay q 0x81FFFF true = true ∧ u.codeWord 0x81FFFF = some (3, 0x3FFF) ∧ State.reset.writeAction q 0x81FFFF 5 = none) ∧
    (let s := tested ⟨8198, 5⟩
     unitPresent s.member .pavs 3 = true ∧ s.regBit (pavBase 3 + 0x200) 23 = true ∧ s.domainOn 3 = true ∧ (s.tester 3).op = 5 ∧
      (s.tester 3).row < 8199) ∧
    (((tested ⟨8191, 2⟩).tester 3).op = 2 ∧ ((tested ⟨8191, 2⟩).tester 3).row < 8192) ∧
    ((Claims.arrived State.reset (warden 3) (.regwr (pavBase 3 + 0x300) 0x800000)).mayWarden (warden 3) (pavBase 3 + 0x300) = true ∧
      (0x800000 : Word).bit 23 = true) := by decide +kernel

theorem test_registers : answers (exec (.registerWrite (warden nodeTime) 0x00400D 5) State.reset) (fun t => decide (t.reg 0x00400D = 5)) = true ∧
    answers (exec (.registerWrite stranger 0x00400D 5) State.reset) (fun t => decide (t.reg 0x00400D = State.reset.reg 0x00400D ∧
      .rsp (rspOf stranger 2) ∈ t.flight)) = true ∧
    answers (exec (.registerRead (warden nodeTime) 0x00400D) (State.reset.setReg 0x00400D 5)) (fun t => decide (t.flight =
      [.rdata (rspOf (warden nodeTime) 0) [5]])) = true := by decide +kernel
theorem test_tester : answers (exec (.testerOperation 3 false false) (tested ⟨8191, 2⟩)) (fun t => decide (t.tester 3 = ⟨8191, 5⟩ ∧
      t.reg (Reg.spadStat 3 3) = 1)) = true ∧
    answers (exec (.testerOperation 3 true false) (tested ⟨8199, 5⟩)) (fun t => decide (t.tester 3 = ⟨0, 0⟩)) = true := by decide +kernel
theorem test_flush : answers (exec (.stateFlush (warden 3) 3 0x800000) (holds .mo)) (fun t => decide ((t.cache 3).find 5 = none ∧
    (t.cache 3).victim 5 = true)) = true := by decide +kernel

/-! ### Queues and lockets -/

/-- A strand of tenant 1, and host function 1 of tenant 1, at the queues and lockets. -/
def mStrand : Word := masterCtx 1 ⟨2, 0, 0⟩
def mHost : Word := 0x801001
def toQueue (m : Word) : Req := ⟨nodeQueues, 2, 0, 9, 1, m, 0⟩
def toLocket (m : Word) : Req := ⟨nodeLockets, 2, 0, 9, 1, m, 0⟩
/-- Queue 9 with word 0 of its configuration, 64 words long. -/
def queueing (w0 : Word) (k : Queue) : State := (State.reset.setReg (Reg.que 9 0) w0).setQueue 9 k
/-- MODE 1, both sides for strands of tenant 1; both for function 1; strands put and function 1 gets; devices put. -/
def qStrand : Word := 0x400801
def hosted : Word := 0x500A01
def mixed : Word := 0x400A01
def recorded : Word := 0x700801
def opened (m : Word) : Queue := { Queue.empty with opened := true, putOwner := m, openW := [3] }
def loaded (ws : List Word) (m : Word) : Queue := { Queue.empty with packets := [⟨ws, false⟩], getOwner := m }
def long : Queue := { Queue.empty with opened := true, putOwner := mStrand, openW := List.replicate 63 3 }

theorem w_QueueCommands_1 : (Claims.reaches (queueing qStrand Queue.empty) (toQueue mStrand) ∧ Claims.reaches (queueing hosted Queue.empty) (toQueue mHost)) ∧
    (toQueue mStrand).dest = nodeQueues ∧ (toQueue mStrand).master ≠ 0 ∧
    (State.reset.qMode 9 = 0 ∧ (queueing hosted Queue.empty).onPut 9 mStrand = false) ∧
    (let s := queueing qStrand long
     s.qMode 9 = 1 ∧ s.onPut 9 mStrand = true ∧ (s.queue 9).putOwner = mStrand ∧ (s.queue 9).openW.length < 4032 ∧ 1 ≤ s.qFw 9 ∧
      (s.queue 9).openW ≠ []) ∧
    ((queueing qStrand Queue.empty).queue 9).opened = false ∧ 1 ≤ ((queueing qStrand Queue.empty).queue 9).fb ∧
    (let s := queueing qStrand (opened 5)
     s.qMode 9 ≠ 0 ∧ s.onPut 9 mStrand = true ∧ (s.queue 9).opened = true ∧ (s.queue 9).putOwner ≠ mStrand) := by
  refine ⟨⟨⟨?_, ?_, ?_⟩, ⟨?_, ?_, ?_⟩⟩, ?_, ?_, ?_, ?_, ?_, ?_, ?_⟩ <;> decide +kernel

theorem w_QueueCommands_2 :
    (let s := queueing 0x500801 (opened mHost)
     s.qMode 9 ≠ 0 ∧ s.onPut 9 mHost = true ∧ (s.queue 9).opened = true ∧ (s.queue 9).putOwner = mHost ∧ (s.queue 9).lost = false ∧
      s.duplex = false ∧ Master.kind mHost ≠ 1) ∧
    (let s := queueing qStrand (opened mStrand)
     (s.queue 9).opened = true ∧ (s.queue 9).putOwner = mStrand ∧ (s.queue 9).lost = false ∧ s.duplex = false ∧
      Master.kind mStrand = 1 ∧ s.nodeState nodeQueues = 0) ∧
    (∀ ws ∈ ([[3, 4], [3]] : List (List Word)), (let s := queueing qStrand (loaded ws 0)
      s.qMode 9 ≠ 0 ∧ s.onGet 9 mStrand = true ∧ (s.queue 9).getOwner = 0 ∧ (s.queue 9).packets = [⟨ws, false⟩])) ∧
    ((queueing qStrand Queue.empty).queue 9).packets = [] ∧ ((queueing qStrand (loaded [3] mStrand)).queue 9).getOwner = mStrand ∧
    ((queueing mixed Queue.empty).onPut 9 mStrand = true ∧ (queueing mixed Queue.empty).onGet 9 mStrand = false) ∧
    (let s := queueing recorded Queue.empty
     s.qPkind 9 = 3 ∧ s.qMode 9 = 1 ∧ (s.queue 9).opened = false ∧ ([1, 2, 3] : List Word).length ≤ s.qFw 9 ∧ 1 ≤ (s.queue 9).fb ∧
      0x200 ≤ 0x200) := by decide +kernel

theorem test_put : answers (exec (.queuePut (toQueue mStrand) 9 8) (queueing qStrand long)) (fun t => decide ((t.queue 9).openW.length = 64 ∧
      t.flight = [.rdata (rspOf (toQueue mStrand) 0) [1]])) = true ∧
    answers (exec (.queuePut (toQueue mStrand) 9 8) (queueing qStrand (opened 5))) (fun t => decide (t.flight =
      [.rdata (rspOf (toQueue mStrand) 0) [0]])) = true := by decide +kernel
theorem test_get : answers (exec (.queueGet (toQueue mStrand) 9 .sound) (queueing qStrand (loaded [3, 4] 0))) (fun t => decide ((t.queue 9).packets =
      [⟨[4], false⟩] ∧ t.flight = [.rdata (rspOf (toQueue mStrand) 0) [3, 1]])) = true ∧
    answers (exec (.queueDrop (toQueue mStrand) 9) (queueing qStrand (loaded [4] mStrand))) (fun t => decide (t.queue 9 = Queue.empty)) = true := by
  decide +kernel
theorem test_queueCommit : answers (exec (.queueCommit (toQueue mStrand) 9) (queueing qStrand (opened mStrand))) (fun t => decide ((t.queue 9).packets =
      [⟨[3], false⟩] ∧ (t.queue 9).opened = false)) = true ∧
    answers (exec (.queueRewind (toQueue mStrand) 9) (queueing qStrand (opened mStrand))) (fun t => decide (t.queue 9 = Queue.empty)) = true ∧
    answers (exec (.queueRecord 9 0x200 [1, 2]) (queueing recorded Queue.empty)) (fun t => decide ((t.queue 9).packets = [⟨[1, 2], false⟩])) = true := by
  decide +kernel
/-- Two words left of one packet, nobody reading: [18:12] = 1, [11:0] = 2. A producer of an empty queue of 64 words sees ROOM 64. -/
theorem test_status : answers (exec (.queueStatus (toQueue mStrand) 9) (queueing qStrand (loaded [3, 4] 0))) (fun t => decide (t.flight =
      [.rdata (rspOf (toQueue mStrand) 0) [0x001002]])) = true ∧
    answers (exec (.pstatus (toQueue mStrand) 9) (queueing qStrand Queue.empty)) (fun t => decide (t.flight.length = 1)) = true := by
  decide +kernel

/-- Locket 70, of group 1, as `k`; W of R392 is 1 µs. -/
def locked (k : Locket) : State := ((State.reset.setLocket 70 k).setRegField 0x028000 16 8 1).setReg (Reg.lktGrp 1 0) 0xE00001
def heldBy (m : Word) (ws : List Waiter) : Locket := ⟨1, m, 6, ws⟩
def waiterOf (m : Word) : Waiter := ⟨toLocket m, usTicks 1⟩

theorem w_LocketCommands_1 : (Claims.reaches (locked Locket.free) (toLocket mHost) ∧ Claims.reaches (locked (heldBy 5 [])) (toLocket mHost)) ∧
    (toLocket mHost).dest = nodeLockets ∧ unitPresent (locked Locket.free).member .lockets (70 / 64) = true ∧ (locked Locket.free).pairShadow = false ∧
    (Claims.arrived State.reset (toLocket mHost) (.lkTry 70)).lkMay 70 22 mHost = false ∧
    ((Claims.arrived (locked Locket.free) (toLocket mHost) (.lkTry 70)).lkMay 70 22 mHost = true ∧ ((locked Locket.free).locket 70).st = 0 ∧
      ((locked Locket.free).locket 70).waiters = [] ∧ (locked Locket.free).lkFull mHost = false ∧ Master.kind mHost ≠ 1) ∧
    ((Claims.arrived (locked (heldBy mHost [])) (toLocket mHost) (.lkTry 70)).lkMay 70 22 mHost = true ∧
      ((locked (heldBy mHost [])).locket 70).owner = mHost) ∧
    (let u := Claims.arrived (locked (heldBy 5 [])) (toLocket mHost) (.lkWait 70)
     u.lkMay 70 22 mHost = true ∧ ((locked (heldBy 5 [])).locket 70).owner ≠ mHost ∧ u.lkWait ≠ 0 ∧ (locked (heldBy 5 [])).lkWaiters (70 / 64) < 16) := by
  refine ⟨⟨⟨?_, ?_, ?_⟩, ⟨?_, ?_, ?_⟩⟩, ?_, ?_, ?_, ?_, ?_, ?_, ?_⟩ <;> decide +kernel

theorem w_LocketCommands_2 :
    (let s := clocked (locked (heldBy 5 [waiterOf mHost])) 0 (BitVec.ofNat 72 (usTicks 1))
     ((s.locket 70).waiters.find? (fun w => decide (w.q.master = mHost)) = some (waiterOf mHost)) ∧ (waiterOf mHost).due ≤ s.elapsed) ∧
    ((Claims.arrived (locked (heldBy 5 [])) (toLocket mHost) (.lkPeek 70)).lkMay 70 22 mHost = true) ∧
    ((Claims.arrived (locked (heldBy mHost [])) (toLocket mHost) (.lkRel 70)).lkMay 70 22 mHost = true ∧
      ((locked (heldBy mHost [])).locket 70).waiters = [] ∧ ((locked (heldBy mHost [waiterOf 0x801002])).locket 70).waiters = [waiterOf 0x801002]) ∧
    ((Claims.arrived (locked ⟨2, 5, 6, []⟩) (toLocket mHost) (.lkRec 70)).lkMay 70 21 mHost = true ∧ ((locked ⟨2, 5, 6, []⟩).locket 70).st = 2 ∧
      ((locked (heldBy 5 [])).locket 70).st ≠ 2) ∧
    ((Claims.arrived (locked (heldBy 5 [])) (warden nodeLockets) (.regwr (0x029001 + 2 * 70) 0x200000)).mayWarden (warden nodeLockets) (0x029001 + 2 * 70)
      = true ∧ (0x200000 : Word).bit 21 = true ∧ Claims.reaches (locked (heldBy 5 [])) (warden nodeLockets)) := by
  refine ⟨by decide +kernel, by decide +kernel, by decide +kernel, by decide +kernel, by decide +kernel, by decide +kernel, ?_, ?_, ?_⟩ <;> decide +kernel

theorem test_lock : answers (exec (.lockTry (toLocket mHost) 70) (locked Locket.free)) (fun t => decide (t.locket 70 = ⟨1, mHost, 1, []⟩)) = true ∧
    answers (exec (.lockWait (toLocket mHost) 70) (locked (heldBy 5 []))) (fun t => decide ((t.locket 70).waiters.map Waiter.q = [toLocket mHost] ∧ t.flight = [])) = true ∧
    answers (exec (.lockPeek (toLocket mHost) 70) (locked (heldBy 5 []))) (fun t => decide (t.flight = [.rdata (rspOf (toLocket mHost) 0) [5]])) = true := by
  decide +kernel
theorem test_unlock : answers (exec (.locketRelease (toLocket mHost) 70) (locked (heldBy mHost [waiterOf 0x801002]))) (fun t => decide (t.locket 70 =
      ⟨1, 0x801002, 7, []⟩)) = true ∧
    answers (exec (.locketRecovery (toLocket mHost) 70) (locked ⟨2, 5, 6, []⟩)) (fun t => decide ((t.locket 70).st = 0)) = true ∧
    answers (exec (.lockForce (warden nodeLockets) 70 0x200000) (locked (heldBy 5 []))) (fun t => decide ((t.locket 70).st = 0)) = true ∧
    answers (exec (.waitTimeout 70 mHost) (clocked (locked (heldBy 5 [waiterOf mHost])) 0 (BitVec.ofNat 72 (usTicks 1)))) (fun t => decide ((t.locket 70).waiters =
      [])) = true := by decide +kernel

/-! ### Finsuri links -/

/-- Link 3 with word 0 of its register and its data; device 0x0123 sends for tenant 9 under entry 4 of the source map, which gives it
local tenant 1. Now is 1 s. -/
def linked (w0 : Word) (k : Link) : State :=
  clocked ((((State.reset.setReg (Reg.fslLink 3 0) w0).setReg (0x0C2000 + 8) 0x801201).setReg (0x0C2001 + 8) 0x000123).setLink 3 k) 0x100000000 0x100000000
def upLink : Word := 0xA00007
def frameOf (seq : Nat) (ps : List LinkPkt) : LinkFrame := ⟨true, seq, 0, false, ps⟩
def sevHdr (d : Nat) : LinkHdr := ⟨0x123, 5, 0, 9, 0, 0, d⟩
def sentWord (n : Nat) : SentFrame := ⟨n, [.regrd (sevHdr 7) 1], 0⟩

theorem w_LinkFrames_1 : unitPresent (linked upLink Link.off).member .links 3 = true ∧ State.reset.linkState 3 ≠ 2 ∧
    (let s := linked upLink { Link.off with rxSeq := 2047 }
     s.linkState 3 = 2 ∧ (frameOf 2047 []).crcOk = true ∧ (frameOf 2047 []).nak = false ∧ (s.link 3).window = [] ∧ (s.link 3).txq = [] ∧
      (frameOf 2046 []).seq % 2048 ≠ (s.link 3).rxSeq ∧ (frameOf 2047 []).seq % 2048 = (s.link 3).rxSeq ∧ s.pairLead = false ∧
      (sevHdr s.deviceNo).ddev = s.deviceNo ∧ s.srcEntry 0x123 9 = some 4 ∧ s.held (nodeLink 3) 0 = [] ∧ s.ttx 3 = false) ∧
    (linked 0xB00007 Link.off).ttx 3 = true ∧
    (∀ b ∈ [false, true], (let s := linked upLink { Link.off with exchange := some 8, sender := b }
      (s.link 3).exchange = some 8 ∧ (s.link 3).sender = b ∧ s.regField (Reg.fslLink 3 5) 0 16 = 0 ∧ s.pairShadow = false)) := by decide +kernel

theorem w_LinkFrames_2 :
    (let s := linked upLink { Link.off with window := [sentWord 0], replays := 15 }
     (s.link 3).window = [sentWord 0] ∧ s.linkState 3 = 2 ∧ 0 + usTicks (max 1 (s.regField 0x0C0001 16 8)) ≤ s.elapsed ∧ (s.link 3).replays < 16) ∧
    State.reset.member ≠ .z256d ∧
    (let s := linked 0xE00007 { Link.off with downAt := 0x100000000 - msTicks 10 }
     s.linkState 3 = 3 ∧ s.regBit (Reg.fslLink 3 0) 21 = true ∧ (s.link 3).downAt + msTicks 10 ≤ s.elapsed) ∧
    (let s := linked 0x600007 Link.off
     s.linkState 3 = 1 ∧ 9 % 65536 ≠ s.deviceNo ∧ s.deviceNo % 65536 = s.deviceNo) ∧
    ((Claims.arrived (linked 0 Link.off) (warden nodeLog) (.regwr (Reg.fslLink 3 0) 0x200000)).mayWarden (warden nodeLog) (Reg.fslLink 3 0) = true ∧
      (0x200000 : Word).bit 21 = true ∧ (linked 0 Link.off).regBit (Reg.fslLink 3 0) 21 = false ∧
      (linked upLink Link.off).regBit (Reg.fslLink 3 0) 21 = true) ∧
    Claims.reaches (linked 0 Link.off) (warden nodeLog) ∧
    (let s := (linked 0xB00007 Link.off).setReg (Reg.fslLink 3 5) 5
     s.linkState 3 = 2 ∧ s.ttx 3 = true ∧ s.regField (Reg.fslLink 3 5) 0 16 ≠ 0 ∧ (s.link 3).nextAt ≤ s.elapsed) := by
  refine ⟨by decide +kernel, by decide +kernel, by decide +kernel, by decide +kernel, by decide +kernel, ⟨?_, ?_, ?_⟩, ?_⟩ <;> decide +kernel

theorem test_receive : answers (exec (.linkFrameReceive 3 (frameOf 2047 [.sev (sevHdr 0) 6 0x11])) (linked upLink { Link.off with rxSeq := 2047 }))
      (fun t => decide ((t.link 3).rxSeq = 0 ∧ t.flight = [.sev 6 0x11 (.master 1 0 (nodeLink 3))])) = true ∧
    answers (exec (.linkFrameReceive 3 (frameOf 5 [])) (linked upLink Link.off)) (fun t => decide ((t.link 3).rxSeq = 0 ∧
      (t.link 3).nakOut = true)) = true := by decide +kernel
theorem test_replay : answers (exec (.replayTimeout 3) (linked upLink { Link.off with window := [sentWord 0], replays := 15 })) (fun t => decide
      ((t.link 3).replays = 16 ∧ t.reg (Reg.fslLink 3 2) = 1)) = true ∧
    answers (exec (.replayTimeout 3) (linked upLink { Link.off with window := [sentWord 0], replays := 16 })) (fun t => decide
      (t.linkState 3 = 3)) = true := by decide +kernel
theorem test_down : answers (exec (.laneLockLoss 3) (linked upLink { Link.off with window := [sentWord 0] })) (fun t => decide (t.linkState 3 = 3 ∧
      (t.link 3).window = [])) = true ∧
    answers (exec (.linkRetrain 3) (linked 0xE00007 Link.off)) (fun t => decide (t.linkState 3 = 1)) = true ∧
    answers (exec (.linkUp 3 9) (linked 0x600007 { Link.off with txSeq := 6 })) (fun t => decide (t.linkState 3 = 2 ∧ t.linkPeer 3 = 9 ∧
      (t.link 3).txSeq = 0)) = true := by decide +kernel
theorem test_exchange : answers (exec (.syncFrame 3 (frameOf 0 []) 8) (linked upLink Link.off)) (fun t => decide ((t.link 3).ctl = some (.delreq 8) ∧
      (t.link 3).stampA = 0x100000000)) = true ∧
    answers (exec (.delreq 3 (frameOf 0 []) 8) (linked upLink { Link.off with exchange := some 8, sender := true, stampA := 4 })) (fun t => decide
      ((t.link 3).ctl = some (.times 8 4 0x100000000))) = true ∧
    answers (exec (.timeExchangeStart 3) ((linked 0xB00007 Link.off).setReg (Reg.fslLink 3 5) 5)) (fun t => decide ((t.link 3).ctl = some (.sync 1)))
      = true := by decide +kernel
/-- t2 − t1 is 2 s and t4 − t3 is 0: the receiver is 1 s ahead, beyond the range of a sample. -/
theorem test_times : answers (exec (.timesFrame 3 (frameOf 0 []) 8 0 7) (linked upLink { Link.off with exchange := some 8, stampA := 0x200000000, stampB := 7 }))
    (fun t => decide (t.reg 0x004027 = 0x7FFFFF ∧ t.regBit 0x004024 16 = true)) = true := by decide +kernel
theorem test_enable : answers (exec (.linkEnable (warden nodeLog) 3 0x300000) (linked 0 Link.off)) (fun t => decide (t.linkState 3 = 1 ∧ t.ttx 3 = true)) = true ∧
    answers (exec (.linkEnable (warden nodeLog) 3 0) (linked upLink Link.off)) (fun t => decide (t.linkState 3 = 0)) = true := by decide +kernel

/-! ### The duplex pair -/

/-- A die of a Z256-D as number `die`, with ROLE `r` of a running pair; links 14 and 15 are UP. -/
def paired (r : Nat) : State :=
  let s := ((State.reset.setReg (Reg.depPair 0) (BitVec.ofNat 24 (r * 0x80000))).setReg (Reg.fslLink 14 0) 0xA00001).setReg (Reg.fslLink 15 0) 0xA00001
  { s with member := .z256d }
def queueKey : PairKey := ⟨4, 9, 0⟩
def effect (b : Effect) (agreed differs : Bool) : HeldEffect := ⟨queueKey, b, 77, agreed, differs, 0⟩
/-- It holds one effect; queue 9 holds one packet for a host. -/
def effecting (r : Nat) (b : Effect) (differs : Bool) : State :=
  let s := (paired r).setQueue 9 { Queue.empty with held := [⟨[3], false⟩] }
  { s with pair := { s.pair with effects := [effect b false differs] } }
def inputs : State := { paired 0 with pair := { (paired 0).pair with inputs := [(6, .legWrite 4 5 false false)] } }
def okPair : LinkFrame := frameOf 0 []

theorem w_PairMessages : (∀ r, r < 2 → (paired r).duplex = true ∧ (paired r).linkState 14 = 2 ∧ (paired r).linkState 15 = 2 ∧ (paired r).pairRole = r ∧
      ((paired r).link 14).window = [] ∧ ((paired r).link 15).txq = []) ∧ okPair.crcOk = true ∧ okPair.nak = false ∧
    (paired 1).pair.effects.find? (fun e => decide (e.key = queueKey)) = none ∧
    ((effecting 1 (.queue 9) false).pair.effects.find? (fun e => decide (e.key = queueKey)) = some (effect (.queue 9) false false) ∧
      (effect (.queue 9) false false).crc = 77 ∧ (effect (.queue 9) false false).crc ≠ 78 ∧
      ((effecting 1 (.queue 9) false).queue 9).held = [⟨[3], false⟩]) ∧
    (inputs.pairRole = 0 ∧ inputs.duplex = true ∧ inputs.pair.inputs.find? (fun e => decide (e.1 = 6)) = some (6, .legWrite 4 5 false false)) ∧
    ((effecting 0 (.queue 9) false).pair.effects = [effect (.queue 9) false false] ∧ (effecting 0 (.queue 9) false).pairRole = 0 ∧
      (effect (.queue 9) false false).key = queueKey ∧ ((effecting 0 (.queue 9) false).queue 9).held = [⟨[3], false⟩] ∧
      (effecting 0 (.eth 1 [4] none) false).pair.effects = [effect (.eth 1 [4] none) false false]) := by decide +kernel

theorem test_intent : answers (exec (.pairIntent 14 okPair queueKey 77) (effecting 1 (.queue 9) false)) (fun t => decide (t.pair.effects =
      [effect (.queue 9) true false] ∧ (t.link 14).ctl = some (.agreement queueKey))) = true ∧
    answers (exec (.pairIntent 14 okPair queueKey 78) (effecting 1 (.queue 9) false)) (fun t => decide (t.pair.effects =
      [effect (.queue 9) false true])) = true ∧
    answers (exec (.pairIntent 14 okPair queueKey 78) (paired 1)) (fun t => decide (t.pair.intents = [(queueKey, 78)])) = true := by decide +kernel
theorem test_agreement : answers (exec (.pairAgreement 15 okPair queueKey) (effecting 0 (.queue 9) false)) (fun t => decide (t.pair.effects = [] ∧
      (t.queue 9).packets = [⟨[3], false⟩] ∧ (t.link 14).ctl = some (.finished queueKey))) = true ∧
    answers (exec (.pairDone 14 okPair queueKey) (effecting 1 (.queue 9) false)) (fun t => decide (t.pair.effects = [] ∧
      (t.queue 9).packets = [⟨[3], false⟩])) = true := by decide +kernel
theorem test_inputs : answers (exec (.pairInput 14 okPair 6 (.functionReset 1)) (paired 1)) (fun t => decide ((t.link 14).ctl =
      some (.acknowledge 6))) = true ∧
    answers (exec (.pairAcknowledgement 14 okPair 6) inputs) (fun t => decide (t.pair.inputs = [])) = true ∧
    answers (exec (.pairHeartbeat 14 okPair) inputs) (fun t => decide (t.pair = inputs.pair)) = true := by decide +kernel

/-- The die detected an error at ELAPSED 0; now is the end of DISWIN, or one unit later. -/
def detected (s : State) (late : Nat) : State :=
  clocked { s with pair := { s.pair with detected := some 0 } } 0 (BitVec.ofNat 72 (usTicks 100 + late))
def captureOf (differs : Bool) : PairCapture := ⟨4, false, 1, 5, 0, differs⟩
def comparing : State := { paired 1 with pair := { (paired 1).pair with captures := [captureOf true] } }

theorem w_PairDisagreements : (paired 0).duplex = true ∧ unitPresent (paired 0).member .cells 1023 = true ∧
    ((detected (paired 0) 0).pair.detected = some 0 ∧ (detected (paired 0) 0).elapsed ≤ 0 + usTicks ((detected (paired 0) 0).pairUs 3 0 24 100)) ∧
    ((detected (paired 0) 1).pair.detected = some 0 ∧
      ¬ (detected (paired 0) 1).elapsed ≤ 0 + usTicks ((detected (paired 0) 1).pairUs 3 0 24 100)) ∧ (paired 0).pairRole = 0 ∧
    (comparing.duplex = true ∧ ∃ e ∈ comparing.pair.captures, e.cell = 4 ∧ e.differs = true) ∧
    (let s := detected (effecting 0 (.queue 9) false) 0
     ∃ e ∈ s.pair.effects, e.key = queueKey ∧ e.agreed = false ∧ e.since + usTicks (s.pairUs 2 0 12 100) ≤ s.elapsed) ∧
    (∃ e ∈ (effecting 1 (.queue 9) true).pair.effects, e.key = queueKey ∧ e.differs = true) := by decide +kernel

theorem test_mismatch : answers (exec (.padMismatch 4 true) (paired 0)) (fun t => decide (t.pairState = 0 ∧ t.reg (Reg.depPair 4) = 1)) = true ∧
    answers (exec (.captureDisagreement 4 true) comparing) (fun t => decide (t.pair.captures = [] ∧ t.reg (Reg.depPair 5) = 1)) = true ∧
    answers (exec (.effectDisagreement queueKey true) (effecting 1 (.queue 9) true)) (fun t => decide (t.reg (Reg.depPair 6) = 1)) = true := by
  decide +kernel

/-- The digests are due, and the image in slot A has LENGTH 0. -/
def digesting : State :=
  let s := (((paired 0).setFlash 0x100006 0).setFlash 0x100007 0).setFlash 0x100008 0
  { s with fil := { s.fil with digestDue := true } }
def waitingLegacy : State := { paired 1 with pair := { (paired 1).pair with legWaits := [((5, 0), (toLegacy, .rdw 4 1))] } }

theorem w_PairStartsAndEnds : digesting.member = .z256d ∧ (paired 0).fil.digestDue = false ∧ digesting.fil.digestDue = true ∧
    ((digesting.slotImage (digesting.regField 0x003000 20 1)).digest 0 (digesting.slotImage (digesting.regField 0x003000 20 1)).length ≠ []) ∧
    (∃ d, (digesting.slotImage (digesting.regField 0x003000 20 1)).digest 0 (digesting.slotImage (digesting.regField 0x003000 20 1)).length = d) ∧
    ((paired 0).duplex = true ∧ (paired 0).pairRole = 0 ∧ (paired 0).pair.inputs = [] ∧ (paired 0).pair.effects = [] ∧
      (0x010000 : Word).bit 16 = true ∧
      (Claims.arrived (paired 0) (warden nodeLog) (.regwr (Reg.depPair 0) 0x010000)).mayWarden (warden nodeLog) (Reg.depPair 0) = true) ∧
    Claims.reaches (paired 0) (warden nodeLog) ∧ (inputs.pair.inputs = [(6, .legWrite 4 5 false false)] ∧ inputs.pair.effects = []) ∧
    (waitingLegacy.duplex = true ∧ waitingLegacy.pairRole = 1 ∧ waitingLegacy.pair.legWaits ≠ []) ∧ (paired 0).pairRole ≠ 1 ∧ (paired 1).pairRole ≠ 0 := by
  refine ⟨by decide +kernel, by decide +kernel, by decide +kernel, by decide +kernel, ⟨_, rfl⟩, by decide +kernel, ⟨?_, ?_, ?_⟩, ?_, ?_, ?_, ?_⟩ <;>
    decide +kernel

theorem test_pairEnds : answers (exec .leadSeesFenceNLow inputs) (fun t => decide (t.pairRole = 2 ∧ t.pairState = 1 ∧ t.pair.inputs = [])) = true := by decide +kernel
theorem test_digests : answers (exec (.digestExchange []) digesting) (fun t => decide (t.pairState = 3 ∧ t.fil.digestDue = false)) = true := by
  decide +kernel

/-! ### Inputs from outside -/

/-- Function 5 of tenant 1 is presented; its page asks words from 0x200000 on; entry 2 of DISP.BIND grants it flag 4 of task 7. -/
def hosting (k : HostFn) : State :=
  ((((State.reset.setReg 0x0D4005 0x800001).setReg (Reg.bind 2 0) 0xC05007).setReg (Reg.bind 2 1) 0x000010)).setHostFn 5 k
def page : HostFn := { HostFn.zero with rid := 6, addr := 0x200000, data := [1, 2, 3], width := 2, sevTask := 7 }
def fencedDie : State := { hosting page with pair := { (hosting page).pair with fenced := true } }
/-- A request over link 3 under management, of the source of entry 4. -/
def managed (rid : Nat) : Ingress := ⟨some (sevHdr 0), nodeLink 3, 4, rid, 2, 0x00400D, [5], 1⟩
def windowed (w : Window) : State :=
  let s := linked upLink Link.off
  { s.setWindow (windowKey true 4) w with flight := [.ingress (managed 3)] }

theorem w_HostFunctions_1 : State.reset.fnThere 5 = false ∧ (fencedDie.fnThere 5 = true ∧ fencedDie.pair.fenced = true ∧ 0x1000 ≤ 0x1000) ∧
    ((hosting page).fnThere 5 = true ∧ (hosting page).fnThere 0 = true ∧ (hosting page).pair.fenced = false ∧ (hosting page).member ≠ .z256d) ∧
    ((hosting { page with busy := true }).hostFn 5).busy = true ∧ ((hosting page).hostFn 5).busy = false ∧
    ((hosting { page with notices := [9], waiting := [8] }).hostFn 5).notices = [9] ∧ ((hosting page).hostFn 5).notices = [] ∧
    ((managed 3).link = some (sevHdr 0) ∧ ((windowed Window.new).window (windowKey true (managed 3).src)).newest = none) ∧
    (((windowed ⟨some 16383, []⟩).window (windowKey true 4)).newest = some 16383 ∧ 1 ≤ (3 + 16384 - 16383) % 16384 ∧
      (3 + 16384 - 16383) % 16384 ≤ 8191) ∧
    (((windowed ⟨some 258, [(3, none)]⟩).window (windowKey true 4)).newest = some 258 ∧ (258 + 16384 - 3) % 16384 ≤ 255 ∧
      ¬ (1 ≤ (3 + 16384 - 258) % 16384 ∧ (3 + 16384 - 258) % 16384 ≤ 8191)) ∧
    (((windowed ⟨some 259, []⟩).window (windowKey true 4)).newest = some 259 ∧ 255 < (259 + 16384 - 3) % 16384) := by decide +kernel

theorem w_HostFunctions_2 : ([(3, none)] : List (Nat × Option Nat)).find? (fun e => decide (e.1 = 3)) = some (3, none) ∧
    ([(3, some 0)] : List (Nat × Option Nat)).find? (fun e => decide (e.1 = 3)) = some (3, some 0) ∧
    (hosting page).bindFlags 3 5 7 1024 &&& 0x00001F ≠ 0 ∧ (hosting page).bindFlags 3 5 7 1024 &&& 0x00000F = 0 := by
  refine ⟨by decide +kernel, by decide +kernel, by decide +kernel, by decide +kernel⟩

theorem test_bar : answers (exec (.pcieBarRead 0 0 0x00400D 3) State.reset) (fun t => decide (t.flight.length = 1)) = true ∧
    answers (exec (.pcieBarWrite 5 4 1 7 true) (hosting page)) (fun t => decide ((t.hostFn 5).addr = 7)) = true ∧
    answers (exec (.pcieBarRead 5 4 1 3) (hosting page)) (fun t => decide ((t.hostFn 5).cpl = some ⟨3, false, 0x200000⟩)) = true := by decide +kernel
theorem test_mailbox : answers (exec (.mailboxWrite 5) (hosting page)) (fun t => decide (t.flight = [.ingress ⟨none, nodePcie 5, 5, 6, 2, 0x200000, [1, 2], 2⟩])) = true ∧
    answers (exec (.mailboxRead 5) (hosting { page with busy := true })) (fun t => decide ((t.hostFn 5).ovr = true ∧ t.flight = [])) = true ∧
    answers (exec (.mailboxSetWrite 5) (hosting page)) (fun t => decide ((t.hostFn 5).busy = true)) = true ∧
    answers (exec (.mailboxClearWrite 5) (hosting page)) (fun t => decide ((t.hostFn 5).busy = true)) = true := by decide +kernel
theorem test_notice : answers (exec (.noticeRead 5) (hosting { page with notices := [9], waiting := [8] })) (fun t => decide ((t.hostFn 5).notices = [8] ∧
      (t.hostFn 5).cpl = some ⟨0, false, 0x800009⟩)) = true ∧
    answers (exec (.sevflags 5 0x00001F) (hosting page)) (fun t => decide (t.flight = [.sev 7 0x10 (.bind 3 5)])) = true := by decide +kernel
theorem test_flr : answers (exec (.functionLevelReset 5) (hosting { page with notices := [9] })) (fun t => decide (t.hostFn 5 =
    { HostFn.zero with notices := [9] })) = true := by decide +kernel
theorem test_ingress : answers (exec (.ingressRequest (managed 3)) (windowed ⟨some 259, []⟩)) (fun t => decide (t.window (windowKey true 4) = ⟨some 259, []⟩)) = true ∧
    answers (exec (.ingressRequest (managed 3)) (windowed ⟨some 2, []⟩)) (fun t => decide (t.window (windowKey true 4) = ⟨some 3, [(3, none)]⟩ ∧
      t.flight.length = 1)) = true := by decide +kernel

/-- Ethernet port 1 is enabled with receive queue 8 and transmit queue 9, which holds the packet `p`. -/
def frame60 : List (BitVec 8) := List.replicate 60 0xFF
def ethernet (ws : List Word) : State :=
  ((State.reset.setReg (Reg.eth 1 0) 0x802009).setReg (Reg.que 9 0) 0x400600).setQueue 9 { Queue.empty with packets := [⟨ws, false⟩] }
def sixty : List Word := 60 :: List.replicate 20 0x040506
def good : EthFrame := ⟨true, frame60, 0x100000000⟩
/-- The legacy port of tenant 1 serves; its mailbox is queue 9, put by the legacy port. -/
def legacy : State := ((State.reset.setReg 0x0DC000 0x902401).setReg (Reg.que 9 0) 0x600001).setRegField (Reg.legStat 0) 22 1 0
def legacyLocket (k : Locket) : State := legacy.setLocket (legacy.legLock 7) k

theorem w_OutsidePorts_1 : State.reset.pairLead = false ∧ State.reset.pairShadow = false ∧ unitPresent State.reset.member .eths 1 = true ∧
    unitPresent State.reset.member .ddrs 0 = true ∧ State.reset.regBit (Reg.eth 1 0) 23 = false ∧
    (let s := ethernet sixty
     s.regBit (Reg.eth 1 0) 23 = true ∧ good.fcsOk = true ∧ 60 ≤ good.bytes.length ∧ good.bytes.length ≤ 9216 ∧ s.ethAccepts 1 (destMac good.bytes) = true ∧
      s.regField (Reg.eth 1 0) 0 10 = 9 ∧ s.qMode 9 ≠ 0 ∧ s.qCkind 9 = 3 ∧ (s.queue 9).packets = [⟨sixty, false⟩] ∧
      ((wordBytes (sixty.drop 1)).take ((sixty.headD 0).field 0 14)).length = (sixty.headD 0).field 0 14 ∧ 60 ≤ (sixty.headD 0).field 0 14 ∧
      (sixty.headD 0).field 0 14 ≤ 9216 ∧ s.duplex = false) ∧
    (let s := ddred.setRegField (Reg.ddr 0 3) 8 16 1
     s.regBit (Reg.ddr 0 0) 23 = true ∧ s.regField (Reg.ddr 0 3) 8 16 ≠ 0) := by decide +kernel

theorem w_OutsidePorts_2 : State.reset.legServes = false ∧ legacy.legServes = true ∧ (0x7FFE : BitVec 16).toNat < 0x7FFF ∧ (0x7FFD : BitVec 16).toNat < 0x7FFE ∧
    (legacy.regField 0x0DC000 10 10 = 9 ∧ legacy.qMode 9 = 1 ∧ legacy.onPut 9 legacy.legMaster = true ∧ legacy.queue 9 = Queue.empty ∧
      legacy.duplex = false ∧ 1 ≤ legacy.qFw 9) ∧
    (((legacyLocket Locket.free).locket (legacy.legLock 7)).st = 0 ∧ ((legacyLocket Locket.free).locket (legacy.legLock 7)).waiters = []) ∧
    (((legacyLocket (heldBy legacy.legMaster [])).locket (legacy.legLock 7)).st = 1 ∧
      ((legacyLocket (heldBy legacy.legMaster [])).locket (legacy.legLock 7)).owner = legacy.legMaster) ∧
    ((Claims.arrived State.reset (warden nodeLog) (.regwr 0x0DC000 0x800000)).mayWarden (warden nodeLog) 0x0DC000 = true ∧
      Claims.reaches State.reset (warden nodeLog)) := by
  refine ⟨by decide +kernel, by decide +kernel, by decide +kernel, by decide +kernel, by decide +kernel, by decide +kernel, by decide +kernel,
    ?_, ?_, ?_, ?_⟩ <;> decide +kernel

theorem test_ethernet : answers (exec (.ethFrameTransmit 1 .sound) (ethernet sixty)) (fun t => decide ((t.queue 9).packets = [] ∧
      (Map.get (fun _ => []) t.ethSent 1).length = 60 ∧ (Map.get (fun _ => []) t.ethSent 1).take 3 = [4, 5, 6])) = true ∧
    answers (exec (.ethFrameReceive 1 good) (ethernet sixty)) (fun t => decide (t.flight.length = 1)) = true ∧
    answers (exec (.ethFrameReceive 1 { good with fcsOk := false }) (ethernet sixty)) (fun t => decide (t.reg (Reg.eth 1 6) = 1 ∧ t.flight = [])) = true := by
  decide +kernel
theorem test_patrol : answers (exec (.patrolScrub 0 .sound) (ddred.setRegField (Reg.ddr 0 3) 8 16 1)) (fun t => decide (t.scrubAt 0 = 1)) = true := by
  decide +kernel
theorem test_legacyRam : answers (exec (.legacyWrite 0x7FFD 0xABCD false false) legacy) (fun t => decide (t.legRead 0x7FFD = 0xABCD)) = true ∧
    answers (exec (.legacyRead 0x7FFE false false) (legacy.legWrite 0x7FFE 0x1234)) (fun t => decide (t.leg.d = 0x1234)) = true ∧
    answers (exec (.legacyIntRead false false) (legacy.setRegField (Reg.legStat 0) 23 1 1)) (fun t => decide (t.legInt = false)) = true ∧
    answers (exec (.legacyMailboxWrite 5 false false) legacy) (fun t => decide ((t.queue 9).packets = [⟨[5], false⟩])) = true := by decide +kernel
theorem test_legacyLockets : answers (exec (.legacyLocketTry 7) (legacyLocket Locket.free)) (fun t => decide ((t.locket (legacy.legLock 7)).owner =
      legacy.legMaster ∧ t.leg.d.getLsbD 15 = true)) = true ∧
    answers (exec (.legacyLocketRelease 7) (legacyLocket (heldBy legacy.legMaster []))) (fun t => decide ((t.locket (legacy.legLock 7)).st = 0)) = true := by
  decide +kernel
theorem test_legacyPort : answers (exec (.legRstN true) legacy) (fun t => decide (t.legServes = false)) = true ∧
    answers (exec (.legRstN false) (legacy.setRegField (Reg.legStat 0) 22 1 1)) (fun t => decide (t.legServes = true)) = true ∧
    answers (exec (.legacyEnable (warden nodeLog) 0x800001) State.reset) (fun t => decide (t.legEnabled = true)) = true := by decide +kernel

/-- Cell 4 is a TSOUT cell in RUN whose output is high, in a bank whose supply stands. -/
def driving : State := (portly 2 1 0 { Cell.idle with out := 1, safeOut := false }).setRegField (Reg.bank 0 0) 22 1 1
theorem test_pins : driving.tsoutPin 4 = some true ∧ (driving.setRegField (Reg.bank 0 0) 22 1 0).tsoutPin 4 = none ∧
    driving.portFloats 5 = true ∧ (driving.setPower (nodeBank 0) 5).tsoutPin 4 = none ∧
    legacy.legIntPin = some true ∧ (legacy.setRegField (Reg.legStat 0) 23 1 1).legIntPin = some false ∧ State.reset.legIntPin = none ∧
    State.reset.faultPin = none ∧ (State.reset.setRegField 0x000002 8 1 1).faultPin = some false := by decide +kernel

/-! ### Debug port, event log, die faults -/

/-- The image permits debugging. -/
def permitted (x : Context) : State := (withCtx x).setRegField 0x003000 17 1 1
def halted : Context := { strand with state := .halted }
def unpowered : State := { State.reset with power := { State.reset.power with vaon := false, core := false } }
/-- The warden has written the lower word of the register at `base`. -/
def buffered (base : Nat) (ws : List (Nat × Word)) : State := State.reset.setWbuf 0x400000 base ws

theorem w_DebugPort : ctxPresent State.reset.member c0 = true ∧ State.reset.power.vaon = true ∧
    ((permitted strand).power.core = true ∧ (permitted strand).regBit 0x003000 17 = true ∧ (State.reset.setRegField 0x003000 21 3 3).regField 0x003000 21 3 = 3) ∧
    (¬ State.reset.regBit 0x003000 17 = true ∧ State.reset.regField 0x003000 21 3 ≠ 3) ∧
    (((permitted strand).ctx c0).micro = none ∧ ((permitted strand).ctx c0).state ∈ [CtxState.issuing, .ready, .longwait, .suspended]) ∧
    ((permitted halted).ctx c0).state = .halted ∧ unpowered.power.vaon = false := by decide +kernel

theorem test_scan : answers (exec .jtagIdcode State.reset) (fun t => decide (t.jtag.ir = .idcode ∧ t.jtag.dr.getLsbD 0 = true)) = true ∧
    answers (exec .jtagBypass State.reset) (fun t => decide (t.jtag.ir = .bypass)) = true ∧
    answers (exec (.jtagExtest [(6, true)]) State.reset) (fun t => decide (t.jtagDrives 6 = some (some true))) = true ∧
    answers (exec (.jtagSamplePreload [(6, true)]) State.reset) (fun t => decide (t.jtagDrives 6 = none)) = true ∧
    answers (exec .jtagClamp State.reset) (fun t => decide (t.jtagDrives 6 = some (some false))) = true ∧
    answers (exec .jtagHighz State.reset) (fun t => decide (t.jtagDrives 6 = some none)) = true := by decide +kernel
theorem test_dbgacc : answers (exec (.dbgacc 0x00400D none) State.reset) (fun t => decide (t.jtag.ir = .bypass ∧ t.flight = [])) = true ∧
    answers (exec (.dbgacc 0x00400D (some 5)) (permitted strand)) (fun t => decide (t.flight.length = 1 ∧ t.jtag.status = none)) = true := by decide +kernel
theorem test_dbgctx : answers (exec (.dbgctxHalt c0) (permitted strand)) (fun t => decide ((t.ctx c0).state = .halted)) = true ∧
    answers (exec (.dbgctxStep c0) (permitted halted)) (fun t => decide ((t.ctx c0).stepping = true)) = true ∧
    answers (exec (.dbgctxResume c0) (permitted halted)) (fun t => decide ((t.ctx c0).state ≠ .halted ∧ (t.ctx c0).stepping = false)) = true ∧
    answers (exec .dbgctxBrkEnable (permitted strand)) (fun t => decide (t.jtag.brk = true)) = true ∧
    answers (exec .dbgctxBrkDisable (permitted strand)) (fun t => decide (t.jtag.brk = false)) = true := by decide +kernel

theorem w_EventLogAndDieFaults : State.reset.evlog.length ≤ 1022 ∧ logSev 0x73 = 3 ∧ Claims.reaches State.reset (warden nodeLog) ∧
    Claims.reaches (buffered 0x000010 [(0, 0x800000)]) (warden nodeLog) ∧
    ((buffered 0x000010 [(0, 0x800000)]).wbuf (warden nodeLog).master 0x000010 = [(0, 0x800000)] ∧ (0x800000 : Word).bit 23 = true ∧
      (Claims.arrived (buffered 0x000010 [(0, 0x800000)]) (warden nodeLog) (.regwr 0x000011 5)).mayWarden (warden nodeLog) 0x000011 = true) ∧
    ((Claims.arrived State.reset (warden nodeLog) (.regwr 0x000003 0xD1E000)).mayWarden (warden nodeLog) 0x000003 = true ∧
      (0xD1E000 : Word).field 12 12 = 0xD1E ∧ (0xD1D000 : Word).field 12 12 ≠ 0xD1E ∧ (0x000100 : Word).bit 8 = true ∧
      (buffered 0x000002 [(0, 0x000100)]).wbuf (warden nodeLog).master 0x000002 = [(0, 0x000100)]) ∧
    State.reset.power.core = true ∧ unpowered.power.core = false := by
  refine ⟨by decide +kernel, by decide +kernel, ⟨?_, ?_, ?_⟩, ⟨?_, ?_, ?_⟩, ?_, ?_, ?_, ?_⟩ <;> decide +kernel

/-- A record of code 0x73 at node 5: SEV 3, so FAULT is set. -/
def record : LogRec := ⟨0x73, 5, 6, 7, 0x10, none⟩
theorem test_log : answers (exec (.evlog record) State.reset) (fun t => decide (t.evlog.map LogEntry.words = [[0x73C005, 6, 7, 0x10, 0, 0]] ∧
      t.regBit 0x000002 8 = true)) = true ∧
    answers (exec (.logNext (warden nodeLog) 5) { buffered 0x000010 [(0, 0x800000)] with evlog := [⟨[1], false⟩, ⟨[2], false⟩] }) (fun t => decide
      (t.evlog = [⟨[2], false⟩])) = true ∧
    answers (exec (.faultClear (warden nodeLog) 0) ((buffered 0x000002 [(0, 0x000100)]).setRegField 0x000002 8 1 1)) (fun t => decide
      (t.regBit 0x000002 8 = false)) = true ∧
    answers (exec .refclkLoss unpowered) (fun t => decide (t.pair.fenced = false)) = true := by decide +kernel

/-! ### Power, rails, standby and resets -/

/-- The domain of pavilion 3 as word `v` of PWR.DOM says; slice 6 likewise. -/
def domained (d : Nat) (v : Word) : State := State.reset.setReg (Reg.pwrDom d) v
/-- ENTERING with a target, drained; with a context that is occupied. -/
def aiming (d k : Nat) : State := { domained d 0x600000 with power := { State.reset.power with target := [(d, k)] } }
def busied : State := (aiming 3 2).setCtx ⟨3, 0, 0⟩ strand
def pavState (k : Nat) : State := State.reset.setRegField (Reg.depPav 3) 22 2 k

theorem w_PowerDomainsAndFences_1 : domainPresent State.reset.member 3 = true ∧ unitPresent State.reset.member .pavs 3 = true ∧
    (let s := domained 3 0x080FFF
     s.power.core = true ∧ s.regBit 0x001000 23 = true ∧ s.regField (Reg.pwrDom 3) 0 12 ≠ 0 ∧ s.powerOf 3 = 0 ∧ s.deepest 3 = some 2) ∧
    (domained 3 0).regField (Reg.pwrDom 3) 0 12 = 0 ∧
    (∀ k, k ∈ [1, 2] → (let v : Word := BitVec.ofNat 24 (k * 0x10000)
      v.field 16 2 = k ∧ State.reset.powerOf 3 = 0 ∧ State.reset.pavOut 3 = false ∧
      (Claims.arrived State.reset (warden nodeLog) (.regwr (Reg.pwrDom 3) v)).mayWarden (warden nodeLog) (Reg.pwrDom 3) = true ∧
      ((Claims.arrived State.reset (warden nodeLog) (.regwr (Reg.pwrDom 3) v)).writeDom 3 v).mayLeave 3 k = true ∧
      ((Claims.arrived (withCtx strand) (warden nodeLog) (.regwr (Reg.pwrDom 0) v)).writeDom 0 v).mayLeave 0 k = false)) ∧
    Claims.reaches State.reset (warden nodeLog) ∧ Claims.reaches (withCtx strand) (warden nodeLog) ∧
    (∀ k, k ∈ [1, 2] → (domained 3 (BitVec.ofNat 24 (k * 0x200000))).powerOf 3 = k) ∧ domainOf 3 = 3 ∧ (0x030000 : Word).field 16 2 = 3 := by
  refine ⟨by decide +kernel, by decide +kernel, by decide +kernel, by decide +kernel, by decide +kernel, ⟨?_, ?_, ?_⟩, ⟨?_, ?_, ?_⟩, ?_, ?_, ?_⟩ <;>
    decide +kernel

theorem w_PowerDomainsAndFences_2 : State.reset.powerOf 3 ≠ 3 ∧ (busied.powerOf 3 = 3 ∧ busied.pavOut 3 = false ∧ busied.pavBusy 3 = true) ∧
    (∀ k, k ∈ [1, 2] → (aiming 3 k).powerOf 3 = 3 ∧ (aiming 3 k).pavOut 3 = false ∧ (aiming 3 k).pavBusy 3 = false ∧ (aiming 3 k).drained 3 = true ∧
      Map.get (fun _ => 0) (aiming 3 k).power.target 3 = k ∧ (aiming 3 k).regBit (Reg.pwrDom 3) 15 = false ∧
      (∀ e ∈ (aiming 3 k).net.parked, domainOf e.q.dest ≠ 3)) ∧
    ((domained 3 0x800000).powerOf 3 = 4 ∧ (domained 3 0x800000).railsReady 3 = true ∧
      Map.get (fun _ => 0) (domained 3 0x800000).power.later 3 = 0) ∧
    ((pavState 1).regField (Reg.depPav 3) 22 2 = 1 ∧ (pavState 2).regField (Reg.depPav 3) 22 2 = 2 ∧ (0x100000 : Word).bit 20 = true ∧
      (Claims.arrived (pavState 1) (warden nodeLog) (.regwr (Reg.depPav 3) 0x100000)).mayWarden (warden nodeLog) (Reg.depPav 3) = true) ∧
    Claims.reaches (pavState 1) (warden nodeLog) ∧ Claims.reaches (pavState 2) (warden nodeLog) ∧
    ((pavState 2).regField (Reg.depPav 3) 8 8 < (pavState 2).regField 0x000002 16 4 ∧
      ((pavState 2).setRegField (Reg.depPav 3) 8 8 2).regField 0x000002 16 4 ≤ ((pavState 2).setRegField (Reg.depPav 3) 8 8 2).regField (Reg.depPav 3) 8 8) := by
  refine ⟨by decide +kernel, by decide +kernel, by decide +kernel, by decide +kernel, by decide +kernel, ⟨?_, ?_, ?_⟩, ⟨?_, ?_, ?_⟩, ?_⟩ <;>
    decide +kernel

/-- More pavilions than the die has must stay in service; no pavilion must. -/
def tight : State := State.reset.setReg 0x000004 511
theorem w_PowerDomainsAndFences_3 : (State.reset.regField (Reg.depPav 3) 22 2 = 0 ∧ tight.canSpare 3 = false) ∧ State.reset.canSpare 3 = true ∧
    (State.reset.powerOf 3 = 0 ∧ (∀ k, k < 16 → (State.reset.ctx ⟨3, k / 4, k % 4⟩).state = .free) ∧ State.reset.pq 3 = [] ∧ State.reset.homedAt 3 = []) := by
  decide +kernel

theorem test_entry : answers (exec (.domainIdleEntry 3) (domained 3 0x080FFF)) (fun t => decide (t.powerOf 3 = 3 ∧ t.power.target = [(3, 2)])) = true ∧
    answers (exec (.domainEntryComplete 3 false) (aiming 3 2)) (fun t => decide (t.powerOf 3 = 3 ∧ t.nodeState 3 = 1)) = true ∧
    answers (exec (.domainEntryComplete 3 true) (aiming 3 2)) (fun t => decide (t.powerOf 3 = 2)) = true ∧
    answers (exec (.domainEntryComplete 3 true) busied) (fun t => decide (t.powerOf 3 = 0)) = true ∧
    answers (exec (.domainWakeComplete 3) (domained 3 0x800000)) (fun t => decide (t.powerOf 3 = 0)) = true := by decide +kernel
theorem test_req : answers (exec (.reqOff (warden nodeLog) 3 0x020000) State.reset) (fun t => decide (t.powerOf 3 = 3)) = true ∧
    answers (exec (.reqRet (warden nodeLog) 0 0x010000) (withCtx strand)) (fun t => decide (t.powerOf 0 = 0 ∧ t.reg (Reg.pwrStat 4) = 1)) = true ∧
    answers (exec (.reqWake (warden nodeLog) 3 0x030000) (domained 3 0x400000)) (fun t => decide (t.powerOf 3 = 4)) = true := by decide +kernel
theorem test_fence : answers (exec (.pavilionFence 3 .residue []) State.reset) (fun t => decide (t.regField (Reg.depPav 3) 22 2 = 1 ∧ t.powerOf 3 = 3)) = true ∧
    answers (exec (.pavRetire (warden nodeLog) 3 0x100000 []) (pavState 2)) (fun t => decide (t.regField (Reg.depPav 3) 22 2 = 3)) = true ∧
    answers (exec (.selfTestDone 3 false) (pavState 2)) (fun t => decide (t.regField (Reg.depPav 3) 22 2 = 3)) = true := by decide +kernel

/-- Rail 9 of DDR channel 0 in RSTATE `st` after `n` attempts. -/
def railed (st n : Nat) : State :=
  ((State.reset.setReg (Reg.rail 9 0) 0xC00000).setReg (Reg.rail 9 1) 0x000100).setReg (Reg.rail 9 3) (BitVec.ofNat 24 (st * 0x200000 + n * 0x80000))
def sleeping1 (k : Nat) : State :=
  ((State.reset.setReg 0x002000 0xA1C05A).setReg 0x004040 0x800000).setReg 0x004041 0 |> fun s => { s with power := { s.power with standby := k, core := false } }
/-- The governor runs: every task slack is 0, THRESH is -1, 0 or 1. -/
def governed (th : Word) : State :=
  { State.reset with regs := [(0x001010, 0x800000), (0x001011, th)] ++ (List.range 512).map (fun t => (Reg.tslack t, 0)) }

theorem w_RailsStandbyAndResets_1 : 15 < 16 ∧ ((railed 1 2).railState 9 = 1 ∧ (railed 1 2).regField (Reg.rail 9 3) 19 2 < 3) ∧
    (railed 1 1).power.seq = none ∧ ((railed 3 2).railState 9 = 3 ∧ (railed 3 2).regField (Reg.rail 9 3) 19 2 < 3) ∧
    ((railed 2 1).railState 9 = 2 ∧ (railed 2 1).spineRail 9 = false ∧ (railed 2 1).regField (Reg.rail 9 1) 8 4 ≠ 15) ∧
    ((railed 4 3).railState 9 = 4 ∧ (0x008000 : Word).bit 15 = true ∧ (railed 4 3).wbuf (warden nodeAon).master (Reg.rail 9 0) = [] ∧
      (Claims.arrived (railed 4 3) (warden nodeAon) (.regwr (Reg.rail 9 3) 0x008000)).mayWarden (warden nodeAon) (Reg.rail 9 3) = true) ∧
    Claims.reaches (railed 4 3) (warden nodeAon) ∧ State.reset.regBit 0x001010 23 = false ∧
    ((Claims.arrived State.reset (warden nodeAon) (.regwr 0x001013 0x000384)).mayWarden (warden nodeAon) 0x001013 = true ∧
      (Claims.arrived State.reset (warden nodeAon) (.regwr 0x002001 0xA5C000)).mayWarden (warden nodeAon) 0x002001 = true ∧
      (0xA5C000 : Word).field 12 12 = 0xA5C ∧
      (Claims.arrived State.reset (warden nodeAon) (.regwr 0x003002 0x5E7000)).mayWarden (warden nodeAon) 0x003002 = true ∧
      (0x5E7000 : Word).field 12 12 = 0x5E7) ∧ Claims.reaches State.reset (warden nodeAon) := by
  refine ⟨by decide +kernel, by decide +kernel, by decide +kernel, by decide +kernel, by decide +kernel, by decide +kernel, ⟨?_, ?_, ?_⟩, ?_, ?_,
    ⟨?_, ?_, ?_⟩⟩ <;> decide +kernel

theorem get_of_mem (d : Nat → Word) (v : Word) (k : Nat) (l : List Nat) (h : k ∈ l) :
    Map.get d (l.map (fun t => (Reg.tslack t, v))) (Reg.tslack k) = v := by
  induction l with
  | nil => cases h
  | cons x l ih =>
    simp only [List.map_cons, Map.get]
    split
    · rfl
    · next hne => exact ih ((List.mem_cons.mp h).resolve_left (fun e => hne (e ▸ rfl)))

theorem w_RailsStandbyAndResets_2 (th : Word) : (governed th).regBit 0x001010 23 = true ∧
    (∀ t, t < 512 → (governed th).reg (Reg.tslack t) = 0) ∧ (governed th).reg 0x001011 = th := by
  refine ⟨by show (0x800000 : Word).bit 23 = true; decide, fun t ht => ?_, rfl⟩
  have e : (governed th).regs = (0x001010, 0x800000) :: (0x001011, th) :: (List.range 512).map (fun t => (Reg.tslack t, 0)) := by
    simp only [governed, List.cons_append, List.nil_append]
  rw [State.reg, e, Map.get, if_neg (by unfold Reg.tslack; omega), Map.get, if_neg (by unfold Reg.tslack; omega)]
  exact get_of_mem _ 0 t _ (List.mem_range.mpr ht)

theorem w_RailsStandbyAndResets_3 : ((sleeping1 1).power.standby = 1 ∧ (sleeping1 1).power.latched = none ∧ (sleeping1 2).power.standby = 2 ∧
      (sleeping1 2).power.stopped = false ∧ (sleeping1 0).power.standby = 0) ∧
    (∀ k, k ∈ [0, 1, 2] → (sleeping1 k).regBit 0x002000 15 = true ∧ (sleeping1 k).regBit 0x002000 14 = true ∧ (sleeping1 k).regBit 0x004040 23 = true ∧
      (sleeping1 k).secs = (sleeping1 k).regField 0x002006 0 16 * 16777216 + ((sleeping1 k).reg 0x002007).toNat ∧
      (sleeping1 k).regBit 0x002000 23 = true ∧ (sleeping1 k).regField 0x002000 16 7 = (0x21 : BitVec 7).toNat ∧
      (sleeping1 k).regField 0x002000 16 7 ≠ (0x20 : BitVec 7).toNat) ∧
    State.reset.power.core = true ∧ (sleeping1 1).power.core = false ∧
    (let s := { State.reset with fil := { State.reset.fil with trialEnd := some 0 } }
     s.fil.trialEnd = some 0 ∧ 0 ≤ s.elapsed) ∧
    (let s := { State.reset with fil := { State.reset.fil with trialEnd := some 1 } }
     s.fil.trialEnd = some 1 ∧ s.elapsed < 1) := by decide +kernel

theorem test_rail : answers (exec (.railPoll 9 true false false false 0) (railed 1 2)) (fun t => decide (t.railState 9 = 3 ∧
      t.regField (Reg.rail 9 3) 16 3 = 1)) = true ∧
    answers (exec (.railPoll 9 false false true true 0) (railed 1 2)) (fun t => decide (t.railState 9 = 2)) = true ∧
    answers (exec (.railTimeout 9) (railed 1 2)) (fun t => decide (t.railState 9 = 3 ∧ t.regField (Reg.rail 9 3) 16 3 = 3)) = true ∧
    answers (exec (.railPauseEnd 9) (railed 3 2)) (fun t => decide (t.railState 9 = 1 ∧ t.regField (Reg.rail 9 3) 19 2 = 3)) = true := by decide +kernel
theorem test_railFails : answers (exec (.pgoodFall 9) (railed 2 1)) (fun t => decide (t.railState 9 = 3 ∧ t.powerOf (nodeDdr 0) = 5)) = true ∧
    answers (exec (.pmbAlert [(9, false, true)]) (railed 2 1)) (fun t => decide (t.regField (Reg.rail 9 3) 16 3 = 2)) = true ∧
    answers (exec (.railClr (warden nodeAon) 9 0x008000) (railed 4 3)) (fun t => decide (t.railState 9 = 1)) = true := by decide +kernel
theorem test_vset : answers (exec (.vsetMv (warden nodeAon) 0x0007FF) State.reset) (fun t => decide (t.regField 0x001013 0 11 = 900 ∧ (t.rail 0).vout = 900)) = true := by
  decide +kernel
theorem test_wake : answers (exec .wakeN (sleeping1 1)) (fun t => decide (t.power.latched = some (2, 0))) = true ∧
    answers (exec .secondsAlarm (sleeping1 1)) (fun t => decide (t.power.latched = some (3, 0))) = true ∧
    answers (exec (.i2cWake 0x21 0x44) (sleeping1 1)) (fun t => decide (t.power.latched = some (1, 0x44))) = true ∧
    answers (exec (.i2cStatusRead 0x21) (sleeping1 1)) (fun t => decide (t.i2cOut = some 0x5A)) = true := by decide +kernel
theorem test_reset : answers (exec .rstN ((filled.legWrite 3 7).setReg 0x002000 0x00005A)) (fun t => decide (t.memory.spad = [] ∧ t.legRead 3 = 7 ∧
      t.reg 0x002000 = 0x00005A)) = true ∧
    answers (exec .vaonLoss filled) (fun t => decide (t.power.vaon = false ∧ t.memory.spad = [])) = true ∧
    answers (exec .trialExpiry { State.reset with fil := { State.reset.fil with trialEnd := some 1 } }) (fun t => decide (t.fil.trialEnd = some 1)) = true ∧
    answers (exec (.wardenReset (warden nodeAon) 0x5E7000) filled) (fun t => decide (t.memory.spad = [])) = true := by decide +kernel
theorem test_standby : answers (exec (.standbyEntry (warden nodeAon) 0xA5C000) filled) (fun t => decide (t.power.standby = 1 ∧ t.power.core = false)) = true ∧
    answers (exec .standbyComplete (sleeping1 1)) (fun t => decide (t.power.standby = 2 ∧ (t.rail 0).on = false)) = true ∧
    answers (exec .vaonApplied filled) (fun t => decide (t.power.vaon = true ∧ t.memory.spad = [])) = true := by decide +kernel

/-! ### Boot, update, flash, fuses, tenants -/

/-- A full image of 105 words in slot A whose one section, of TYPE 1, sets FLOOR_MV to 720: words 0 to 5 and their complements,
the section table and its complement, one register record. Words that are not listed read as the erased flash: 0xFFFFFF. -/
def imageWords : List (Nat × Word) :=
  [(0, 0x46494C), (1, 0x010002), (2, 105), (3, 1), (4, 0), (5, 0), (16, ~~~0x46494C), (17, ~~~0x010002), (18, ~~~105), (19, ~~~1)]
    ++ (List.range 10).map (fun i => (6 + i, 0)) ++ [(32, 0x010000), (33, 38), (34, 3), (35, ~~~0x010000), (36, ~~~38), (37, ~~~3)]
    ++ [(38, 0x001010), (39, 1), (40, 0x2D0000)]
def wordFlash (a : Nat) (ws : List (Nat × Word)) : Map (BitVec 8) :=
  ws.flatMap (fun e => [(a + 3 * e.1, e.2.extractLsb' 16 8), (a + 3 * e.1 + 1, e.2.extractLsb' 8 8), (a + 3 * e.1 + 2, e.2.extractLsb' 0 8)])
/-- A record of R559 with the states of slots A and B, SEQ 5 and TRIALMAX 3; its copy. -/
def recordOf (a b : Nat) : List Word := (List.replicate 16 0).set 0 0x5A0001 |>.set 1 5 |>.set 2 (BitVec.ofNat 24 (a * 0x200000 + b * 0x40000 + 3))
def copyOf (r : List Word) : List (Nat × Word) := (r ++ r.map (fun w => ~~~w)).zipIdx.map (fun e => (e.2, e.1))
/-- The flash holds the record in copy 0, and the image in slot A. -/
def flashed (a b : Nat) : State :=
  { State.reset with fil := { State.reset.fil with flash := wordFlash 0 (copyOf (recordOf a b)) ++ wordFlash 0x100000 imageWords } }
def job (passed trial : Bool) : BootJob := ⟨0, trial, false, false, passed⟩
def booting (j : BootJob) : State := { flashed 5 2 with fil := { (flashed 5 2).fil with boot := some j } }
def blank : State := { State.reset with fil := { State.reset.fil with boot := some (job false false) } }

theorem w_Boot_records : (flashed 5 2).newestRecord = some (recordOf 5 2) ∧ (flashed 5 2).flashRecord = some (recordOf 5 2) ∧
    recNewer (recordOf 5 2) (recordOf 5 2) = false ∧ recState (recordOf 5 2) 0 = 5 ∧ recState (recordOf 5 2) 1 = 2 ∧
    State.reset.newestRecord = none := by decide +kernel
theorem w_Boot_bad : blank.firstPass (blank.slotImage 0) = some ⟨1, 0, 0⟩ := by decide +kernel
theorem w_Boot_check : (flashed 1 5).blankDie.checkImage ((flashed 1 5).slotImage 0) none = none := by decide +kernel
theorem w_Boot_good : (flashed 1 5).firstPass ((flashed 1 5).slotImage 0) = none := by decide +kernel

theorem w_BootFlashAndFuses_1 : (State.reset.power.core = true ∧ State.reset.power.seq = none ∧ State.reset.fil.boot = none ∧
      State.reset.regField 0x003000 21 3 = 0 ∧ (flashed 5 2).regField 0x003000 21 3 = 0 ∧ (flashed 5 2).fil.boot = none) ∧
    (recState (recordOf 2 5) 0 ≠ 3 ∧ recState (recordOf 2 5) 1 = 5 ∧ (flashed 2 5).newestRecord = some (recordOf 2 5) ∧
      (flashed 2 5).flashRecord = some (recordOf 2 5)) ∧
    (State.reset.setRegField 0x003000 21 3 2).regField 0x003000 21 3 ≠ 0 ∧
    (blank.fil.boot = some (job false false) ∧ blank.power.core = true ∧ blank.fil.upd = none ∧ (job false false).passed = false) ∧
    (∀ b ∈ [false, true], (booting (job true b)).fil.boot = some (job true b) ∧ (booting (job true b)).fil.upd = none) := by decide +kernel

/-- A command of FIL.UPDCMD for slot A on a die whose record gives the slot states `a` and `b`, and whether Table 17-10 allows it. -/
def command (cmd : Nat) : Word := BitVec.ofNat 24 (cmd * 0x200000 + 0x300)
def allowed (a b cmd : Nat) : Bool :=
  let s := (flashed a b).setRegField 0x003000 16 1 1
  decide (s.newestRecord = some (recordOf a b) ∧ s.wbuf (warden nodeLoader).master 0x003020 = [] ∧ s.updBusy = false ∧ (command cmd).bit 7 = false ∧
    (command cmd).field 20 1 = 0 ∧ (command cmd).field 21 3 = cmd) &&
  (recCommand (recordOf a b) cmd 0 ((command cmd).field 8 8) (s.reg 0x003020) (s.regBit 0x003000 16)).isSome
theorem w_BootFlashAndFuses_2 : allowed 0 5 1 = true ∧ allowed 1 5 2 = true ∧ allowed 2 5 3 = true ∧ allowed 3 5 4 = true ∧ allowed 4 6 5 = true ∧
    allowed 4 6 6 = true ∧ allowed 2 5 7 = true := by decide +kernel
/-- The same die with a command that is not allowed: slot A CONFIRMED. -/
theorem w_BootFlashAndFuses_3 : (∀ cmd, 1 ≤ cmd ∧ cmd < 8 → recCommand (recordOf 5 2) cmd 0 3 0 false = none) ∧
    (flashed 5 2).newestRecord = some (recordOf 5 2) ∧ Claims.reaches (flashed 5 2) (warden nodeLoader) ∧
    (Claims.arrived (flashed 5 2) (warden nodeLoader) (.regwr 0x003021 (command 1))).mayWarden (warden nodeLoader) 0x003021 = true ∧
    ((0x000080 : Word).bit 7 = true ∧ (0x000080 : Word).field 21 3 = 0) := by
  refine ⟨fun cmd h => ?_, by decide +kernel, ⟨by decide +kernel, by decide +kernel, by decide +kernel⟩, by decide +kernel, by decide⟩
  obtain ⟨h1, h2⟩ := h
  have : cmd = 1 ∨ cmd = 2 ∨ cmd = 3 ∨ cmd = 4 ∨ cmd = 5 ∨ cmd = 6 ∨ cmd = 7 := by omega
  rcases this with rfl | rfl | rfl | rfl | rfl | rfl | rfl <;> decide +kernel

/-- A record write is under way; a flash operation is. -/
def updating (j : UpdJob) : State :=
  let s := (flashed 5 2).setRegField 0x003021 19 1 1
  { s with fil := { s.fil with upd := some j } }
def newCopy : List Word := (copyOf (recordOf 5 1)).map Prod.snd
def flashing (j : FlashJob) : State := { flashed 5 1 with fil := { (flashed 5 1).fil with flashOp := some j } }
/-- The warden has written the address, the DDR block and the length of a flash operation. -/
def flashAsked (a k : Word) : State :=
  { (flashed 5 1).setWbuf 0x400000 0x003024 [(0, a), (1, 0x000010), (2, k)] with power := State.reset.power }
/-- Slot 2 of the keys is programmed; slot 3 too. -/
def keyed (w : Word) : State := State.reset.setReg 0x003080 w

theorem w_BootFlashAndFuses_4 : State.reset.fil.upd = none ∧
    (let j : UpdJob := ⟨0, some (1, newCopy), false, none⟩
     (updating j).fil.upd = some j ∧ (updating j).updBusy = true ∧ newCopy.length = 32) ∧
    (let s := flashAsked 0x080000 0x005555
     s.wbuf (warden nodeLoader).master 0x003024 = [(0, 0x080000), (1, 0x000010), (2, 0x005555)] ∧ s.fil.flashOp = none ∧
      16 * 0x080000 + 3 * 0x005555 ≤ s.fil.flashSize ∧ s.flashMay (16 * 0x080000) (3 * 0x005555) = true ∧
      s.fil.flashSize < 16 * 0x0FFFFF + 3 * 0x000006) ∧
    (∀ op ∈ [1, 2, 3], Word.field (BitVec.ofNat 24 (op * 0x400000)) 22 2 = op ∧ Word.bit (BitVec.ofNat 24 (op * 0x400000)) 18 = false) ∧
    ((flashing ⟨3, 0x100000, 1, none⟩).fil.flashOp = some ⟨3, 0x100000, 1, none⟩ ∧ 0x810000 % 65536 = 0) ∧
    (∀ op ∈ [1, 2, 3], Word.field (BitVec.ofNat 24 (0xF05000 + op * 0x400 + 0x200)) 12 12 = 0xF05 ∧
      Word.field (BitVec.ofNat 24 (0xF05000 + op * 0x400 + 0x200)) 10 2 = op ∧ Word.field (BitVec.ofNat 24 (0xF05000 + op * 0x400 + 0x200)) 8 2 = 2) ∧
    ((keyed 0x400000).liveKeys = [2] ∧ (keyed 0xC00000).liveKeys ≠ [2]) ∧ Claims.reaches (keyed 0xC00000) (warden nodeLoader) ∧
    Claims.reaches (flashAsked 0x080000 0x005555) (warden nodeLoader) ∧
    (Claims.arrived (keyed 0xC00000) (warden nodeLoader) (.regwr 0x0030C1 0xF05600)).mayWarden (warden nodeLoader) 0x0030C1 = true ∧
    (Claims.arrived (flashAsked 0x080000 0x005555) (warden nodeLoader) (.regwr 0x003027 0x400000)).mayWarden (warden nodeLoader) 0x003027 = true := by
  refine ⟨by decide +kernel, by decide +kernel, by decide +kernel, by decide +kernel, by decide +kernel, by decide +kernel, by decide +kernel,
    ⟨?_, ?_, ?_⟩, ⟨?_, ?_, ?_⟩, ?_, ?_⟩ <;> decide +kernel

theorem test_choose : answers (exec (.bootChoose true) State.reset) (fun t => decide (t.regField 0x003000 21 3 = 3)) = true ∧
    answers (exec (.bootChoose false) State.reset) (fun t => decide (t.regField 0x003000 21 3 = 1 ∧ t.fil.boot = some ⟨0, false, false, true, false⟩)) = true := by
  decide +kernel
theorem test_badImage : answers (exec (.imageLoad false false [] []) blank) (fun t => decide (t.regField 0x003000 8 8 = 1 ∧ t.regField 0x003000 21 3 = 3)) = true := by
  decide +kernel
theorem test_flash : answers (exec (.flashOpDone true) (flashing ⟨3, 0x100000, 1, none⟩)) (fun t => decide (t.reg 0x003100 = 0x46494C)) = true ∧
    answers (exec (.flashOpDone true) (flashing ⟨1, 0x100000, 1, none⟩)) (fun t => decide (t.flashAt 0x100000 = 0xFF ∧ t.flashAt 0 = 0x5A)) = true ∧
    answers (exec (.flashRead (warden nodeLoader) 0xC00000) (flashAsked 0x080000 0x005555)) (fun t => decide (t.regBit 0x003027 21 = true)) = true ∧
    answers (exec (.flashErase (warden nodeLoader) 0x400000) (flashAsked 0x080000 0x005555)) (fun t => decide (t.regBit 0x003027 21 = true)) = true ∧
    answers (exec (.flashProgram (warden nodeLoader) 0x800000) (flashAsked 0x0FFFFF 0x000006)) (fun t => decide (t.regField 0x003027 19 2 = 1)) = true := by
  decide +kernel
theorem test_fuses : answers (exec (.fuseBurn (warden nodeLoader) 0xF05600) State.reset) (fun t => decide (t.regBit 0x003080 22 = true)) = true ∧
    answers (exec (.fuseRevoke (warden nodeLoader) 0xF05A00) (keyed 0x400000)) (fun t => decide (t.regBit 0x003080 18 = false)) = true ∧
    answers (exec (.fuseRaiseSvn (warden nodeLoader) 0xF05C09) (keyed 0x000004)) (fun t => decide (t.regField 0x003080 0 8 = 9)) = true := by
  decide +kernel
theorem test_update : answers (exec (.updBegin (warden nodeLoader) (command 1)) (flashed 5 2)) (fun t => decide ((t.fil.upd.map UpdJob.result) = some 1)) = true ∧
    answers (exec (.updErase (warden nodeLoader) (command 7)) (flashed 2 5)) (fun t => decide ((t.fil.upd.map UpdJob.result) = some 0)) = true ∧
    answers (exec (.clrc (warden nodeLoader) 0x000080) (State.reset.setReg 0x002085 7)) (fun t => decide (t.reg 0x002085 = 0)) = true ∧
    answers (exec (.recordCommandEnd true) (updating ⟨0, some (1, newCopy), false, none⟩)) (fun t => decide (t.updBusy = false ∧
      t.flashCopy 1 = newCopy)) = true := by decide +kernel

/-- Tenant 5 is in state `st`, and the warden has written word 0 of FIL.TEN[5]. -/
def tenanted (st : Nat) (w : Word) : State := ((State.reset.setTenState 5 st).setWbuf 0x400000 (Reg.filTen 5 0) [(0, w)])
def started : State := { tenanted 1 0x040000 with fil := { (tenanted 1 0x040000).fil with started := [5] } }
/-- A tenant image of tenant 5 in DDR from word 4,096 on: an empty section of TYPE 0x0D. -/
def tenantImage : Map Word :=
  let h : List Word := [0x46494C, 0x010102, 102, 1, 0, 5] ++ List.replicate 10 0
  let t : List Word := [0x0D0000, 38, 0]
  (h ++ h.map (fun w => ~~~w) ++ t ++ t.map (fun w => ~~~w)).zipIdx.map (fun e => (4096 + e.2, e.1))
def exchanging (st : Nat) (tsw : Triple) : State :=
  let s := (((State.reset.setReg 0x003040 1).setReg 0x003045 9).setReg (Reg.que 9 0) recorded).setXState st
  { s with
    memory := { s.memory with ddr := tenantImage }
    fil := { s.fil with exchange := some ⟨5, tsw, 1000, true, [], [], [], [], [], [], []⟩ } }

theorem w_TenantsAndExchange_1 : 5 < 512 ∧
    (started.wbuf (warden nodeLoader).master (Reg.filTen 5 0) = [(0, 0x040000)] ∧ (0x040000 : Word).bit 18 = true ∧ (0x040000 : Word).bit 17 = false ∧
      started.tenState 5 = 1 ∧ 5 ∈ started.fil.started) ∧
    (let s := tenanted 1 0x040000
     5 ∉ s.fil.started ∧ s.tenantCells 5 = [] ∧ s.imageTasks 5 = [] ∧ s.initOf 5 = []) ∧
    ((tenanted 2 0x020000).tenState 5 = 2 ∧ (0x020000 : Word).bit 18 = false ∧ (0x020000 : Word).bit 17 = true) ∧
    (∀ st ∈ [0, 4, 5, 1, 2, 3], (State.reset.setXState st).xState = st) ∧ (0x800005 : Word).bit 23 = true ∧ (0x800005 : Word).field 0 9 = 5 ∧
    State.reset.wbuf (warden nodeLoader).master 0x003040 = [] ∧ ((0x400000 : Word).bit 23 = false ∧ (0x400000 : Word).bit 22 = true) ∧
    State.reset.fil.exchange = none ∧ Claims.reaches started (warden nodeLoader) ∧
    (Claims.arrived started (warden nodeLoader) (.regwr (Reg.filTen 5 1) 0)).mayWarden (warden nodeLoader) (Reg.filTen 5 1) = true ∧
    (Claims.arrived State.reset (warden nodeLoader) (.regwr 0x003046 0x800005)).mayWarden (warden nodeLoader) 0x003046 = true := by
  refine ⟨by decide +kernel, by decide +kernel, by decide +kernel, by decide +kernel, by decide +kernel, by decide +kernel, by decide +kernel,
    by decide +kernel, by decide +kernel, by decide +kernel, ⟨?_, ?_, ?_⟩, ?_, ?_⟩ <;> decide +kernel

theorem w_TenantsAndExchange_2 :
    (let s := exchanging 1 (BitVec.ofNat 72 (usTicks 100))
     let m := s.ddrImage (4096 * (s.reg 0x003040).toNat)
     s.xState = 1 ∧ s.checkImage m (some 5) = none ∧ s.time.toNat + usTicks 100 ≤ usTicks 100) ∧
    (let s := { exchanging 1 0 with memory := State.reset.memory }
     s.checkImage (s.ddrImage (4096 * (s.reg 0x003040).toNat)) (some 5) = some ⟨1, 0, 0⟩) ∧
    ((exchanging 2 0).xState = 2 ∧ (0 : Triple) ≤ (exchanging 2 0).time ∧ ¬ (1 : Triple) ≤ (exchanging 2 1).time) ∧
    ((exchanging 3 0).xState = 3 ∧ (exchanging 3 0).oldContexts 5 = [] ∧
      0 + usTicks 1000 ≤ (clocked (exchanging 3 0) (BitVec.ofNat 72 (usTicks 1000)) 0).time.toNat) := by decide +kernel

theorem w_TenantsAndExchange_3 :
    let s := exchanging 1 (BitVec.ofNat 72 (usTicks 100))
    let m := s.ddrImage (4096 * (s.reg 0x003040).toNat)
    s.exchangeOk (s.placeAll ⟨5, BitVec.ofNat 72 (usTicks 100), 1000, true, [], [], [], [], [], [], s.oldRegs 5⟩ m).1 m 5 = true := by decide +kernel

theorem test_start : answers (exec (.tenantStart (warden nodeLoader) 5 0) started) (fun t => decide (t.tenState 5 = 2)) = true ∧
    answers (exec (.tenantStart (warden nodeLoader) 5 0) (tenanted 1 0x040000)) (fun t => decide (t.tenState 5 = 2)) = true := by decide +kernel
theorem test_go : answers (exec (.exchangeGo (warden nodeLoader) 0x800005) (State.reset.setTenState 5 2)) (fun t => decide (t.xState = 1 ∧ t.tenState 5 = 3)) = true ∧
    answers (exec (.exchangeAbort (warden nodeLoader) 0x400000) (exchanging 1 0)) (fun t => decide (t.xState = 5 ∧ t.tenState 5 = 2)) = true ∧
    answers (exec .exchangeLoaded { exchanging 1 0 with memory := State.reset.memory }) (fun t => decide (t.xState = 5)) = true := by decide +kernel

/-! ### The block as a whole -/

/-- The state after reset with two commands that wait. -/
def commanded : State := { State.reset with pending := [.tick, .govern] }

theorem w_StepRunsTheFrontCommand : State.reset.pending = [] ∧ commanded.pending = .tick :: [.govern] := by decide

theorem w_StepKeepsTheInvariant : commanded.wf ∧ ∃ t, step commanded = .next t := by
  refine ⟨by unfold State.wf; decide +kernel, ?_⟩
  show ∃ t, execTick { commanded with pending := [.govern] } = .next t
  unfold execTick
  split
  · exact ⟨_, rfl⟩
  · exact ⟨_, rfl⟩

/-- The second command still waits. -/
theorem test_step : answers (step commanded) (fun t => decide (t.pending.length = 1 ∧ t.clock.elapsed = 4)) = true := by decide +kernel

end Sys2Proof.Tests
end

/-! Every command keeps the waiting commands, the member, the die and the canonical form of the memories: the lemmas of
Laws/Keep* about each meaning, put together over the commands, and the step that follows. -/

namespace Sys2Proof.Machine

/-- Every command keeps what `Keep` says, by the lemma about its meaning. -/
theorem exec_keeps {o s : State} (i : Instr) (h : Keep o s) : KeepX o (exec i s) :=
  match i with
  | .nop .. => execNop_keeps _ _ _ _ _ h
  | .sync .. => execSync_keeps _ _ _ _ _ h
  | .syncI .. => execSyncI_keeps _ _ _ _ _ h
  | .endStrand .. => execEndStrand_keeps _ _ _ _ _ _ h
  | .fence .. => execFence_keeps _ _ _ _ _ h
  | .fenceWrites .. => execFenceWrites_keeps _ _ _ _ h
  | .aret .. => execAret_keeps _ _ _ _ _ h
  | .brk .. => execBrk_keeps _ _ _ _ _ h
  | .lpop .. => execLpop_keeps _ _ _ _ _ h
  | .mcommit .. => execMcommit_keeps _ _ _ _ _ h
  | .add .. => execAdd_keeps _ _ _ _ _ h
  | .adc .. => execAdc_keeps _ _ _ _ _ h
  | .sub .. => execSub_keeps _ _ _ _ _ h
  | .sbc .. => execSbc_keeps _ _ _ _ _ h
  | .andW .. => execAndW_keeps _ _ _ _ _ h
  | .orW .. => execOrW_keeps _ _ _ _ _ h
  | .xorW .. => execXorW_keeps _ _ _ _ _ h
  | .andn .. => execAndn_keeps _ _ _ _ _ h
  | .shl .. => execShl_keeps _ _ _ _ _ h
  | .shr .. => execShr_keeps _ _ _ _ _ h
  | .sar .. => execSar_keeps _ _ _ _ _ h
  | .rol .. => execRol_keeps _ _ _ _ _ h
  | .minW .. => execMinW_keeps _ _ _ _ _ h
  | .maxW .. => execMaxW_keeps _ _ _ _ _ h
  | .minu .. => execMinu_keeps _ _ _ _ _ h
  | .maxu .. => execMaxu_keeps _ _ _ _ _ h
  | .cmp .. => execCmp_keeps _ _ _ _ _ h
  | .tst .. => execTst_keeps _ _ _ _ _ h
  | .slt .. => execSlt_keeps _ _ _ _ _ h
  | .sltu .. => execSltu_keeps _ _ _ _ _ h
  | .seq .. => execSeq_keeps _ _ _ _ _ h
  | .addi .. => execAddi_keeps _ _ _ _ _ h
  | .andi .. => execAndi_keeps _ _ _ _ _ h
  | .ori .. => execOri_keeps _ _ _ _ _ h
  | .xori .. => execXori_keeps _ _ _ _ _ h
  | .shli .. => execShli_keeps _ _ _ _ _ h
  | .shri .. => execShri_keeps _ _ _ _ _ h
  | .sari .. => execSari_keeps _ _ _ _ _ h
  | .cmpi .. => execCmpi_keeps _ _ _ _ _ h
  | .movi .. => execMovi_keeps _ _ _ _ h
  | .movh .. => execMovh_keeps _ _ _ _ h
  | .mov .. => execMov_keeps _ _ _ _ _ h
  | .movp .. => execMovp_keeps _ _ _ _ _ h
  | .movt .. => execMovt_keeps _ _ _ _ _ h
  | .notW .. => execNotW_keeps _ _ _ _ _ h
  | .neg .. => execNeg_keeps _ _ _ _ _ h
  | .clz .. => execClz_keeps _ _ _ _ _ h
  | .popc .. => execPopc_keeps _ _ _ _ _ h
  | .mfs .. => execMfs_keeps _ _ _ _ _ h
  | .mts .. => execMts_keeps _ _ _ _ _ h
  | .ld .. => execLd_keeps _ _ _ _ _ _ _ h
  | .ldp .. => execLdp_keeps _ _ _ _ _ _ _ h
  | .ldt .. => execLdt_keeps _ _ _ _ _ _ _ h
  | .st .. => execSt_keeps _ _ _ _ _ _ h
  | .stp .. => execStp_keeps _ _ _ _ _ _ h
  | .stt .. => execStt_keeps _ _ _ _ _ _ h
  | .lds .. => execLds_keeps _ _ _ _ _ h
  | .sts .. => execSts_keeps _ _ _ _ _ h
  | .mul .. => execMul_keeps _ _ _ _ _ h
  | .mulu .. => execMulu_keeps _ _ _ _ _ h
  | .mac .. => execMac_keeps _ _ _ _ _ h
  | .macu .. => execMacu_keeps _ _ _ _ _ h
  | .msu .. => execMsu_keeps _ _ _ _ _ h
  | .msuu .. => execMsuu_keeps _ _ _ _ _ h
  | .mulw .. => execMulw_keeps _ _ _ _ _ h
  | .div .. => execDiv_keeps _ _ _ _ _ h
  | .divu .. => execDivu_keeps _ _ _ _ _ h
  | .clracc .. => execClracc_keeps _ _ _ _ _ h
  | .accsr .. => execAccsr_keeps _ _ _ _ _ h
  | .accsat .. => execAccsat_keeps _ _ _ _ _ h
  | .faddD .. => execFaddD_keeps _ _ _ _ _ h
  | .fsubD .. => execFsubD_keeps _ _ _ _ _ h
  | .fmulD .. => execFmulD_keeps _ _ _ _ _ h
  | .fdivD .. => execFdivD_keeps _ _ _ _ _ h
  | .faddS .. => execFaddS_keeps _ _ _ _ _ h
  | .fsubS .. => execFsubS_keeps _ _ _ _ _ h
  | .fmulS .. => execFmulS_keeps _ _ _ _ _ h
  | .fdivS .. => execFdivS_keeps _ _ _ _ _ h
  | .fmaD .. => execFmaD_keeps _ _ _ _ _ h
  | .fmsD .. => execFmsD_keeps _ _ _ _ _ h
  | .fmaS .. => execFmaS_keeps _ _ _ _ _ h
  | .fmsS .. => execFmsS_keeps _ _ _ _ _ h
  | .fsqrtD .. => execFsqrtD_keeps _ _ _ _ _ h
  | .fsqrtS .. => execFsqrtS_keeps _ _ _ _ _ h
  | .fminD .. => execFminD_keeps _ _ _ _ _ h
  | .fmaxD .. => execFmaxD_keeps _ _ _ _ _ h
  | .fcmpD .. => execFcmpD_keeps _ _ _ _ _ h
  | .fcmpS .. => execFcmpS_keeps _ _ _ _ _ h
  | .fnegD .. => execFnegD_keeps _ _ _ _ _ h
  | .fabsD .. => execFabsD_keeps _ _ _ _ _ h
  | .fcvtSd .. => execFcvtSd_keeps _ _ _ _ _ h
  | .fcvtDs .. => execFcvtDs_keeps _ _ _ _ _ h
  | .fitofD .. => execFitofD_keeps _ _ _ _ _ h
  | .fftoiD .. => execFftoiD_keeps _ _ _ _ _ h
  | .fmvwD .. => execFmvwD_keeps _ _ _ _ _ h
  | .fmvwS .. => execFmvwS_keeps _ _ _ _ _ h
  | .wmvfD .. => execWmvfD_keeps _ _ _ _ _ h
  | .wmvfS .. => execWmvfS_keeps _ _ _ _ _ h
  | .bCond .. => execBCond_keeps _ _ _ _ h
  | .bra .. => execBra_keeps _ _ _ h
  | .call .. => execCall_keeps _ _ _ h
  | .jr .. => execJr_keeps _ _ _ _ _ h
  | .callr .. => execCallr_keeps _ _ _ _ _ h
  | .ret .. => execRet_keeps _ _ _ _ _ h
  | .loop .. => execLoop_keeps _ _ _ _ h
  | .loopi .. => execLoopi_keeps _ _ _ _ h
  | .send .. => execSend_keeps _ _ _ _ _ _ h
  | .sendC .. => execSendC_keeps _ _ _ _ _ _ h
  | .sendc .. => execSendc_keeps _ _ _ _ _ h
  | .sendcC .. => execSendcC_keeps _ _ _ _ _ h
  | .sendp .. => execSendp_keeps _ _ _ _ _ h
  | .sendpC .. => execSendpC_keeps _ _ _ _ _ h
  | .alloc .. => execAlloc_keeps _ _ _ _ _ h
  | .allocw .. => execAllocw_keeps _ _ _ _ _ _ h
  | .freeF .. => execFreeF_keeps _ _ _ _ _ h
  | .spawn .. => execSpawn_keeps _ _ _ _ _ h
  | .sev .. => execSev_keeps _ _ _ _ _ h
  | .wfe .. => execWfe_keeps _ _ _ _ _ _ h
  | .waitt .. => execWaitt_keeps _ _ _ _ _ _ h
  | .gett .. => execGett_keeps _ _ _ _ _ h
  | .qput .. => execQput_keeps _ _ _ _ _ h
  | .qget .. => execQget_keeps _ _ _ _ _ h
  | .qcmt .. => execQcmt_keeps _ _ _ _ _ h
  | .qrwd .. => execQrwd_keeps _ _ _ _ _ h
  | .qdrop .. => execQdrop_keeps _ _ _ _ _ h
  | .qstat .. => execQstat_keeps _ _ _ _ _ h
  | .customInstruction .. => execCustomInstruction_keeps _ _ _ _ h
  | .longOpComplete .. => execLongOpComplete_keeps _ _ _ h
  | .timeSliceExpiry .. => execTimeSliceExpiry_keeps _ _ h
  | .preloadComplete .. => execPreloadComplete_keeps _ _ _ _ _ h
  | .preemption .. => execPreemption_keeps _ _ h
  | .taskSaveComplete .. => execTaskSaveComplete_keeps _ _ h
  | .taskRestoreComplete .. => execTaskRestoreComplete_keeps _ _ h
  | .budgetAlert .. => execBudgetAlert_keeps _ _ h
  | .alertEntry .. => execAlertEntry_keeps _ _ h
  | .ftok .. => execFtok_keeps _ _ h
  | .fireNotice .. => execFireNotice_keeps _ _ h
  | .handOver .. => execHandOver_keeps _ _ h
  | .dispatchDecision .. => execDispatchDecision_keeps _ _ h
  | .pavilionQueueBind .. => execPavilionQueueBind_keeps _ _ h
  | .recallAnswer .. => execRecallAnswer_keeps _ _ h
  | .land .. => execLand_keeps _ _ _ _ _ h
  | .paceTimeout .. => execPaceTimeout_keeps _ _ _ _ h
  | .wakeRequest .. => execWakeRequest_keeps _ _ _ h
  | .slotRelease .. => execSlotRelease_keeps _ _ h
  | .freePacket .. => execFreePacket_keeps _ _ h
  | .allocRequest .. => execAllocRequest_keeps _ _ h
  | .allocReply .. => execAllocReply_keeps _ _ _ _ _ h
  | .allocwRerun .. => execAllocwRerun_keeps _ h
  | .genQuarantineEnd .. => execGenQuarantineEnd_keeps _ _ h
  | .sevArrival .. => execSevArrival_keeps _ _ _ _ h
  | .spres .. => execSpres_keeps _ _ h
  | .spawnRelease .. => execSpawnRelease_keeps _ _ _ _ _ _ _ h
  | .waittTargetReached .. => execWaittTargetReached_keeps _ _ h
  | .domainVisit .. => execDomainVisit_keeps _ _ h
  | .flowhang .. => execFlowhang_keeps _ _ h
  | .taskKill .. => execTaskKill_keeps _ _ _ _ h
  | .evfWrite .. => execEvfWrite_keeps _ _ _ _ h
  | .ptok .. => execPtok_keeps _ _ _ h
  | .portCommit .. => execPortCommit_keeps _ _ h
  | .portArm .. => execPortArm_keeps _ _ h
  | .portDisarm .. => execPortDisarm_keeps _ _ h
  | .commitAct .. => execCommitAct_keeps _ _ h
  | .expectDeadline .. => execExpectDeadline_keeps _ _ h
  | .scheduleInstant .. => execScheduleInstant_keeps _ _ h
  | .inputEdge .. => execInputEdge_keeps _ _ _ h
  | .quadTransition .. => execQuadTransition_keeps _ _ _ _ h
  | .pulseEdge .. => execPulseEdge_keeps _ _ h
  | .ssiTransferDone .. => execSsiTransferDone_keeps _ _ _ h
  | .uartRxCharacter .. => execUartRxCharacter_keeps _ _ _ _ _ _ h
  | .spiTransferDone .. => execSpiTransferDone_keeps _ _ _ h
  | .captureInject .. => execCaptureInject_keeps _ _ h
  | .cellResume .. => execCellResume_keeps _ _ _ h
  | .cellFlush .. => execCellFlush_keeps _ _ _ h
  | .cellPop .. => execCellPop_keeps _ _ _ h
  | .cellRecover .. => execCellRecover_keeps _ _ _ _ h
  | .calgo .. => execCalgo_keeps _ _ _ _ h
  | .calibrationDone .. => execCalibrationDone_keeps _ _ h
  | .vioLoss .. => execVioLoss_keeps _ _ h
  | .vioReturn .. => execVioReturn_keeps _ _ h
  | .tick .. => execTick_keeps _ h
  | .ppsEdge .. => execPpsEdge_keeps _ h
  | .ptpOffset .. => execPtpOffset_keeps _ _ _ h
  | .sourceTimeout .. => execSourceTimeout_keeps _ _ h
  | .holdLimitExceeded .. => execHoldLimitExceeded_keeps _ h
  | .timeStep .. => execTimeStep_keeps _ _ _ h
  | .secondsKeeperSecond .. => execSecondsKeeperSecond_keeps _ h
  | .hopResend .. => execHopResend_keeps _ _ _ _ _ _ h
  | .requestTimeout .. => execRequestTimeout_keeps _ _ _ h
  | .ingressRequest .. => execIngressRequest_keeps _ _ h
  | .holdRsp .. => execHoldRsp_keeps _ _ h
  | .rdLine .. => execRdLine_keeps _ _ _ _ h
  | .rdxLine .. => execRdxLine_keeps _ _ _ _ h
  | .rduLine .. => execRduLine_keeps _ _ _ _ h
  | .wruLine .. => execWruLine_keeps _ _ _ _ h
  | .wbLine .. => execWbLine_keeps _ _ _ _ h
  | .evcLine .. => execEvcLine_keeps _ _ _ h
  | .fwdS .. => execFwdS_keeps _ _ _ _ h
  | .fwdX .. => execFwdX_keeps _ _ _ _ h
  | .invLine .. => execInvLine_keeps _ _ _ h
  | .fdata .. => execFdata_keeps _ _ _ _ _ h
  | .ackLine .. => execAckLine_keeps _ _ _ h
  | .goneLine .. => execGoneLine_keeps _ _ _ h
  | .dataS .. => execDataS_keeps _ _ _ h
  | .dataE .. => execDataE_keeps _ _ _ h
  | .dataM .. => execDataM_keeps _ _ _ h
  | .wbAck .. => execWbAck_keeps _ _ _ h
  | .rdata .. => execRdata_keeps _ _ _ h
  | .rsp .. => execRsp_keeps _ _ h
  | .rdw .. => execRdw_keeps _ _ _ _ _ _ _ h
  | .wrw .. => execWrw_keeps _ _ _ _ _ _ h
  | .setw .. => execSetw_keeps _ _ _ _ h
  | .clrw .. => execClrw_keeps _ _ _ _ h
  | .cwr .. => execCwr_keeps _ _ _ _ h
  | .rrd .. => execRrd_keeps _ _ _ _ _ _ _ h
  | .rwr .. => execRwr_keeps _ _ _ _ _ _ h
  | .rrsp .. => execRrsp_keeps _ _ _ h
  | .registerWrite .. => execRegisterWrite_keeps _ _ _ _ h
  | .evlog .. => execEvlog_keeps _ _ h
  | .testerOperation .. => execTesterOperation_keeps _ _ _ _ h
  | .stateFlush .. => execStateFlush_keeps _ _ _ _ h
  | .queuePut .. => execQueuePut_keeps _ _ _ _ h
  | .queueGet .. => execQueueGet_keeps _ _ _ _ h
  | .queueCommit .. => execQueueCommit_keeps _ _ _ h
  | .queueRewind .. => execQueueRewind_keeps _ _ _ h
  | .queueDrop .. => execQueueDrop_keeps _ _ _ h
  | .queueStatus .. => execQueueStatus_keeps _ _ _ h
  | .pstatus .. => execPstatus_keeps _ _ _ h
  | .queueRecord .. => execQueueRecord_keeps _ _ _ _ h
  | .lockTry .. => execLockTry_keeps _ _ _ h
  | .lockWait .. => execLockWait_keeps _ _ _ h
  | .waitTimeout .. => execWaitTimeout_keeps _ _ _ h
  | .lockPeek .. => execLockPeek_keeps _ _ _ h
  | .locketRelease .. => execLocketRelease_keeps _ _ _ h
  | .locketRecovery .. => execLocketRecovery_keeps _ _ _ h
  | .lockForce .. => execLockForce_keeps _ _ _ _ h
  | .nodeIso .. => execNodeIso_keeps _ _ _ _ h
  | .alertRequest .. => execAlertRequest_keeps _ _ _ _ h
  | .linkFrameReceive .. => execLinkFrameReceive_keeps _ _ _ h
  | .replayTimeout .. => execReplayTimeout_keeps _ _ h
  | .laneLockLoss .. => execLaneLockLoss_keeps _ _ h
  | .linkRetrain .. => execLinkRetrain_keeps _ _ h
  | .linkUp .. => execLinkUp_keeps _ _ _ h
  | .linkEnable .. => execLinkEnable_keeps _ _ _ _ h
  | .timeExchangeStart .. => execTimeExchangeStart_keeps _ _ h
  | .syncFrame .. => execSyncFrame_keeps _ _ _ _ h
  | .delreq .. => execDelreq_keeps _ _ _ _ h
  | .timesFrame .. => execTimesFrame_keeps _ _ _ _ _ _ h
  | .pairInput .. => execPairInput_keeps _ _ _ _ _ h
  | .pairAcknowledgement .. => execPairAcknowledgement_keeps _ _ _ _ h
  | .pairIntent .. => execPairIntent_keeps _ _ _ _ _ h
  | .pairAgreement .. => execPairAgreement_keeps _ _ _ _ h
  | .pairDone .. => execPairDone_keeps _ _ _ _ h
  | .pairHeartbeat .. => execPairHeartbeat_keeps _ _ _ h
  | .pcieBarRead .. => execPcieBarRead_keeps _ _ _ _ _ h
  | .pcieBarWrite .. => execPcieBarWrite_keeps _ _ _ _ _ _ h
  | .mailboxRead .. => execMailboxRead_keeps _ _ h
  | .mailboxWrite .. => execMailboxWrite_keeps _ _ h
  | .mailboxSetWrite .. => execMailboxSetWrite_keeps _ _ h
  | .mailboxClearWrite .. => execMailboxClearWrite_keeps _ _ h
  | .noticeRead .. => execNoticeRead_keeps _ _ h
  | .sevflags .. => execSevflags_keeps _ _ _ h
  | .functionLevelReset .. => execFunctionLevelReset_keeps _ _ h
  | .ethFrameReceive .. => execEthFrameReceive_keeps _ _ _ h
  | .ethFrameTransmit .. => execEthFrameTransmit_keeps _ _ _ h
  | .patrolScrub .. => execPatrolScrub_keeps _ _ _ h
  | .legacyRead .. => execLegacyRead_keeps _ _ _ _ h
  | .legacyWrite .. => execLegacyWrite_keeps _ _ _ _ _ h
  | .legacyMailboxWrite .. => execLegacyMailboxWrite_keeps _ _ _ _ h
  | .legacyIntRead .. => execLegacyIntRead_keeps _ _ _ h
  | .legacyLocketTry .. => execLegacyLocketTry_keeps _ _ h
  | .legacyLocketRelease .. => execLegacyLocketRelease_keeps _ _ h
  | .legRstN .. => execLegRstN_keeps _ _ h
  | .legacyEnable .. => execLegacyEnable_keeps _ _ _ h
  | .i2cWake .. => execI2cWake_keeps _ _ _ h
  | .i2cStatusRead .. => execI2cStatusRead_keeps _ _ h
  | .jtagBypass .. => execJtagBypass_keeps _ h
  | .jtagIdcode .. => execJtagIdcode_keeps _ h
  | .jtagSamplePreload .. => execJtagSamplePreload_keeps _ _ h
  | .jtagExtest .. => execJtagExtest_keeps _ _ h
  | .jtagClamp .. => execJtagClamp_keeps _ h
  | .jtagHighz .. => execJtagHighz_keeps _ h
  | .dbgacc .. => execDbgacc_keeps _ _ _ h
  | .dbgctxHalt .. => execDbgctxHalt_keeps _ _ h
  | .dbgctxStep .. => execDbgctxStep_keeps _ _ h
  | .dbgctxResume .. => execDbgctxResume_keeps _ _ h
  | .dbgctxBrkEnable .. => execDbgctxBrkEnable_keeps _ h
  | .dbgctxBrkDisable .. => execDbgctxBrkDisable_keeps _ h
  | .domainIdleEntry .. => execDomainIdleEntry_keeps _ _ h
  | .reqRet .. => execReqRet_keeps _ _ _ _ h
  | .reqOff .. => execReqOff_keeps _ _ _ _ h
  | .reqWake .. => execReqWake_keeps _ _ _ _ h
  | .domainEntryComplete .. => execDomainEntryComplete_keeps _ _ _ h
  | .domainWakeComplete .. => execDomainWakeComplete_keeps _ _ h
  | .railPoll .. => execRailPoll_keeps _ _ _ _ _ _ _ h
  | .railTimeout .. => execRailTimeout_keeps _ _ h
  | .railPauseEnd .. => execRailPauseEnd_keeps _ _ h
  | .pgoodFall .. => execPgoodFall_keeps _ _ h
  | .pmbAlert .. => execPmbAlert_keeps _ _ h
  | .railClr .. => execRailClr_keeps _ _ _ _ h
  | .govern .. => execGovern_keeps _ h
  | .vsetMv .. => execVsetMv_keeps _ _ _ h
  | .standbyEntry .. => execStandbyEntry_keeps _ _ _ h
  | .standbyComplete .. => execStandbyComplete_keeps _ h
  | .wakeN .. => execWakeN_keeps _ h
  | .secondsAlarm .. => execSecondsAlarm_keeps _ h
  | .vaonApplied .. => execVaonApplied_keeps _ h
  | .vaonLoss .. => execVaonLoss_keeps _ h
  | .rstN .. => execRstN_keeps _ h
  | .wardenReset .. => execWardenReset_keeps _ _ _ h
  | .trialExpiry .. => execTrialExpiry_keeps _ h
  | .bootChoose .. => execBootChoose_keeps _ _ h
  | .imageLoad .. => execImageLoad_keeps _ _ _ _ _ h
  | .digestExchange .. => execDigestExchange_keeps _ _ h
  | .updBegin .. => execUpdBegin_keeps _ _ _ h
  | .updVerify .. => execUpdVerify_keeps _ _ _ h
  | .updArm .. => execUpdArm_keeps _ _ _ h
  | .updDisarm .. => execUpdDisarm_keeps _ _ _ h
  | .updConfirm .. => execUpdConfirm_keeps _ _ _ h
  | .updReject .. => execUpdReject_keeps _ _ _ h
  | .updErase .. => execUpdErase_keeps _ _ _ h
  | .clrc .. => execClrc_keeps _ _ _ h
  | .flashErase .. => execFlashErase_keeps _ _ _ h
  | .flashProgram .. => execFlashProgram_keeps _ _ _ h
  | .flashRead .. => execFlashRead_keeps _ _ _ h
  | .flashOpDone .. => execFlashOpDone_keeps _ _ h
  | .exchangeGo .. => execExchangeGo_keeps _ _ _ h
  | .exchangeLoaded .. => execExchangeLoaded_keeps _ h
  | .exchangeAbort .. => execExchangeAbort_keeps _ _ _ h
  | .tSwitch .. => execTSwitch_keeps _ h
  | .reprogrammingEnd .. => execReprogrammingEnd_keeps _ _ h
  | .drainEnd .. => execDrainEnd_keeps _ h
  | .tenantStart .. => execTenantStart_keeps _ _ _ _ h
  | .tenantStop .. => execTenantStop_keeps _ _ _ _ h
  | .fuseBurn .. => execFuseBurn_keeps _ _ _ h
  | .fuseRevoke .. => execFuseRevoke_keeps _ _ _ h
  | .fuseRaiseSvn .. => execFuseRaiseSvn_keeps _ _ _ h
  | .pavilionFence .. => execPavilionFence_keeps _ _ _ _ h
  | .pavRetire .. => execPavRetire_keeps _ _ _ _ _ h
  | .selfTestDone .. => execSelfTestDone_keeps _ _ _ h
  | .dieFault .. => execDieFault_keeps _ _ _ h
  | .refclkLoss .. => execRefclkLoss_keeps _ h
  | .takeover .. => execTakeover_keeps _ _ h
  | .padMismatch .. => execPadMismatch_keeps _ _ _ h
  | .captureDisagreement .. => execCaptureDisagreement_keeps _ _ _ h
  | .effectDisagreement .. => execEffectDisagreement_keeps _ _ _ h
  | .pairSimplex .. => execPairSimplex_keeps _ _ _ h
  | .logNext .. => execLogNext_keeps _ _ _ h
  | .faultClear .. => execFaultClear_keeps _ _ _ h
  | .leadSeesFenceNLow .. => execLeadSeesFenceNLow_keeps _ h
  | .recordCommandEnd .. => execRecordCommandEnd_keeps _ _ h
  | .registerRead .. => execRegisterRead_keeps _ _ _ h

/-- Settles O60: the step takes the front command off the queue, and the command keeps the rest (`exec_keeps`). -/
theorem stepKeepsTheInvariant : Obligations.StepKeepsTheInvariant := by
  intro s t hwf hstep
  unfold step at hstep
  split at hstep
  case h_1 hp =>
    cases hstep
    exact ⟨hwf, rfl, rfl, by rw [hp]; rfl⟩
  case h_2 c cs hp =>
    have h : Keep { s with pending := cs } { s with pending := cs } := ⟨rfl, rfl, rfl, hwf⟩
    obtain ⟨hpending, hmember, hdie, hmem⟩ := keep_ofX (exec_keeps c h) hstep
    exact ⟨hmem, hmember, hdie, by rw [hpending, hp]; rfl⟩

end Sys2Proof.Machine

/-! Requests that reach their node, and reads and writes of device registers there (R15, R16, R278, Table 11-8). -/

namespace Sys2Proof.Machine

section
variable {s : State}

/-! ### What the Belvedere filters leave alone -/

/-- A filter counts and sends: it touches the registers and the packets on their way. -/
theorem State.filterSees_frame (s : State) (c k port : Nat) (h : Triple) (retry poison : Bool) :
    ∃ r f, s.filterSees c k port h retry poison = { s with regs := r, flight := f } := by
  unfold State.filterSees
  dsimp only
  split
  · split
    · exact ⟨_, _, rfl⟩
    · exact ⟨_, _, rfl⟩
  · exact ⟨_, _, rfl⟩

theorem State.clusterSees_frame (s : State) (c port : Nat) (h : Triple) (retry poison : Bool) :
    ∃ r f, s.clusterSees c port h retry poison = { s with regs := r, flight := f } := by
  unfold State.clusterSees
  obtain ⟨r0, f0, h0⟩ := s.filterSees_frame c 0 port h retry poison
  obtain ⟨r1, f1, h1⟩ := State.filterSees_frame { s with regs := r0, flight := f0 } c 1 port h retry poison
  obtain ⟨r2, f2, h2⟩ := State.filterSees_frame { s with regs := r1, flight := f1 } c 2 port h retry poison
  obtain ⟨r3, f3, h3⟩ := State.filterSees_frame { s with regs := r2, flight := f2 } c 3 port h retry poison
  exact ⟨r3, f3, by rw [h0, h1, h2, h3]⟩

/-- A packet on its way changes nothing but the filters' counts and what they send (R361, R362). -/
theorem State.passes_frame (s : State) (src dst : Nat) (h : Triple) (poison : Bool) :
    ∃ r f, s.passes src dst h poison = { s with regs := r, flight := f } := by
  unfold State.passes
  generalize route s.member src dst = l
  induction l generalizing s with
  | nil => exact ⟨_, _, rfl⟩
  | cons e l ih =>
    obtain ⟨r, f, he⟩ := s.clusterSees_frame e.1 e.2 h false poison
    obtain ⟨r', f', hl⟩ := ih { s with regs := r, flight := f }
    exact ⟨r', f', by rw [List.foldl_cons, he, hl]⟩

@[simp] theorem State.passes_member (s : State) (src dst : Nat) (h : Triple) (poison : Bool) :
    (s.passes src dst h poison).member = s.member := by
  obtain ⟨r, f, e⟩ := s.passes_frame src dst h poison
  rw [e]

/-! ### Requests that reach their node -/

@[simp] theorem arrived_member (s : State) (q : Req) (op : ReqOp) : (Claims.arrived s q op).member = s.member :=
  State.passes_member ..

/-- A request that reaches its node on VC0 is served in the state in which it arrived. -/
theorem arriveReq_of_reaches {q : Req} {op : ReqOp} (h : Claims.reaches s q) (hvc : op.vc4 = false) (own : Bool)
    (serve : State → Out) : s.arriveReq q op own serve = serve (Claims.arrived s q op) := by
  obtain ⟨hnode, hpoison, hstate⟩ := h
  simp [State.arriveReq, Claims.arrived, hnode, hpoison, hstate, hvc]

/-- A warden write that asks its action and reaches its node as the warden's is carried out and answered. -/
theorem wardenWrite_of_reaches {q : Req} {a : Nat} {v : Word} {act : State → State} (h : Claims.reaches s q)
    (hmay : (Claims.arrived s q (.regwr a v)).mayWarden q a = true) :
    s.wardenWrite q a v true act = .next ((act (Claims.arrived s q (.regwr a v))).answer q 0) := by
  unfold State.wardenWrite
  rw [if_neg (by decide), arriveReq_of_reaches h rfl, if_pos hmay]

/-! ### Reads and writes of words at their node -/

/-- A word that no map names reads as 0. -/
theorem regRead_unmapped {q : Req} {a : Nat} (hcode : s.codeWord a = none) (hreg : findReg s.member a = none) :
    s.regRead q a = (0, s) := by
  simp only [State.regRead, hcode, hreg]

/-- A word of a register that is not wide reads as it is now, and nothing changes. -/
theorem regRead_plain {q : Req} {a k : Nat} {b : RegBlock} (hcode : s.codeWord a = none)
    (hreg : findReg s.member a = some (b, k)) (hwide : b.wide k a = none) : s.regRead q a = (s.readWord a, s) := by
  simp only [State.regRead, hcode, hreg, hwide]

/-- A write of a word of a register that is not wide, outside the task table, sets that word. -/
theorem regWrite_plain {q : Req} {a k : Nat} {b : RegBlock} (v : Word) (hreg : findReg s.member a = some (b, k))
    (hwide : b.wide k a = none) (htask : b.base ≠ 0x018000) : s.regWrite q a v = s.writeWord b k a v false (writerOf q) := by
  simp only [State.regWrite, hreg, hwide, State.writeWords, if_neg htask, List.foldl_cons, List.foldl_nil, Nat.add_zero]

section
variable {q : Req} {a : Nat} {v : Word} (h : Claims.reaches s q)
include h

theorem execRegisterRead_refused (hmay : (Claims.arrived s q (.regrd a)).regMay q a false = false) :
    execRegisterRead q a s = .next ((Claims.arrived s q (.regrd a)).refuseDomain q (.regrd a) a) := by
  unfold execRegisterRead
  rw [arriveReq_of_reaches h rfl, hmay, if_neg (by decide)]

theorem execRegisterRead_granted {u : Word} {t : State} (hmay : (Claims.arrived s q (.regrd a)).regMay q a false = true)
    (ha : a < 0x1000000) (hread : (Claims.arrived s q (.regrd a)).regRead q a = (u, t)) :
    execRegisterRead q a s = .next (t.answerData q [u]) := by
  unfold execRegisterRead
  rw [arriveReq_of_reaches h rfl, if_pos hmay]
  simp only [Nat.mod_eq_of_lt ha, hread]

variable (hplain : s.writeAction q a v = none)
include hplain

theorem execRegisterWrite_refused (hmay : (Claims.arrived s q (.regwr a v)).regMay q a true = false) :
    execRegisterWrite q a v s = .next ((Claims.arrived s q (.regwr a v)).refuseDomain q (.regwr a v) a) := by
  simp only [execRegisterWrite, hplain]
  rw [arriveReq_of_reaches h rfl, hmay, if_neg (by decide)]

theorem execRegisterWrite_register (hmay : (Claims.arrived s q (.regwr a v)).regMay q a true = true) (ha : a < 0x1000000)
    (hcode : (Claims.arrived s q (.regwr a v)).codeWord a = none) :
    execRegisterWrite q a v s = .next (((Claims.arrived s q (.regwr a v)).regWrite q a v).answer q 0) := by
  simp only [execRegisterWrite, hplain]
  rw [arriveReq_of_reaches h rfl, if_pos hmay]
  simp only [Nat.mod_eq_of_lt ha, hcode]

theorem execRegisterWrite_code {p i : Nat} (hmay : (Claims.arrived s q (.regwr a v)).regMay q a true = true) (ha : a < 0x1000000)
    (hcode : (Claims.arrived s q (.regwr a v)).codeWord a = some (p, i)) :
    execRegisterWrite q a v s = .next (((Claims.arrived s q (.regwr a v)).codeStore p i v).answer q 0) := by
  simp only [execRegisterWrite, hplain]
  rw [arriveReq_of_reaches h rfl, if_pos hmay]
  simp only [Nat.mod_eq_of_lt ha, hcode]
end

/-! ### Steps of the background tester (R289 to R291) -/

section
variable {p : Nat} {ok : Bool} (hpav : unitPresent s.member .pavs p = true) (hon : s.regBit (pavBase p + 0x200) 23 = true)
  (hdom : s.domainOn p = true)
include hpav hon hdom

/-- A step within a row goes on to the next operation, unless a comparison failed. -/
theorem execTesterOperation_goes (hop : (s.tester p).op ≠ 5)
    (hok : ¬ (((s.tester p).op = 2 ∨ (s.tester p).op = 4) ∧ ok = false)) : execTesterOperation p ok false s =
      .next (s.setTester p { s.tester p with op := (s.tester p).op + 1 }) := by
  simp only [execTesterOperation, hpav, hon, hdom, Bool.true_eq_false, or_self, if_false, Bool.false_eq_true]
  split
  case h_1 h0 => rw [h0]
  case h_2 h5 => exact absurd h5 hop
  case h_3 => rw [if_neg hok]

/-- The last step of a row before the last one goes on to the next row. -/
theorem execTesterOperation_nextRow (hop : (s.tester p).op = 5) (hrow : (s.tester p).row < 8199) :
    execTesterOperation p ok false s = .next (s.setTester p ⟨(s.tester p).row + 1, 0⟩) := by
  simp only [execTesterOperation, hpav, hon, hdom, hop, Bool.true_eq_false, or_self, if_false, Bool.false_eq_true]
  rw [if_neg (by omega)]

/-- A comparison that fails in a row of the scratchpad remaps the row and goes on to its restore. -/
theorem execTesterOperation_fails (hop : (s.tester p).op = 2) (hrow : (s.tester p).row < 8192) :
    execTesterOperation p false false s =
      .next (((s.bump (Reg.spadStat p 3)).remapRow p (s.tester p).row).setTester p { s.tester p with op := 5 }) := by
  simp [execTesterOperation, State.testFailed, hpav, hon, hdom, hop, hrow]
end
end

/-- Settles O43: a request that reaches its node is served in the state in which it arrived (`arriveReq_of_reaches`), where
the register's map decides what a read or write does; the tester and the flush follow their own lemmas. -/
theorem registerRequests : Obligations.RegisterRequests := by
  intro s q a p v hs r w
  have hr : findReg r.member a = findReg s.member a := by rw [arrived_member]
  have hw : findReg w.member a = findReg s.member a := by rw [arrived_member]
  refine ⟨?_, ?_, ?_, ?_, ?_, ?_, ?_, ?_⟩
  case refine_1 => exact execRegisterRead_refused hs
  case refine_2 => exact fun hmay hplain => execRegisterWrite_refused hs hplain hmay
  case refine_3 =>
    intro hmay ha hcode hreg
    exact execRegisterRead_granted hs hmay ha (regRead_unmapped hcode (hr.trans hreg))
  case refine_4 =>
    intro b k hmay ha hcode hreg hwide
    exact execRegisterRead_granted hs hmay ha (regRead_plain hcode (hr.trans hreg) hwide)
  case refine_5 =>
    intro b k hmay ha hcode hreg hwide hplain htask
    rw [← regWrite_plain (s := w) v (hw.trans hreg) hwide htask]
    exact execRegisterWrite_register hs hplain hmay ha hcode
  case refine_6 =>
    intro i hmay ha hcode hplain
    exact execRegisterWrite_code hs hplain hmay ha hcode
  case refine_7 =>
    intro ok hpav hon hdom t
    exact ⟨execTesterOperation_goes hpav hon hdom, execTesterOperation_nextRow hpav hon hdom,
      execTesterOperation_fails hpav hon hdom⟩
  case refine_8 =>
    intro x hpav hmay hv
    show execStateFlush q p v s = _
    unfold execStateFlush
    rw [if_neg (by simp [hpav]), hv]
    exact wardenWrite_of_reaches hs hmay

end Sys2Proof.Machine

/-! A frame token at its slice: its arrival, its discards, and what matching it writes to the central store (R72, R90 to R92). -/

namespace Sys2Proof.Machine

section
variable (s : State) (t : Token)

/-! ### What leaves the central store alone -/

@[simp] theorem State.landReply_store : (s.landReply t).store = s.store := by
  unfold State.landReply
  split
  · exact State.send_store ..
  · rfl

@[simp] theorem State.discardToken_store (sl : Nat) (c : TokenCause) : (s.discardToken sl t c).store = s.store := by
  unfold State.discardToken
  dsimp only
  split <;> rfl

@[simp] theorem State.activity_store (n : Nat) : (s.activity n).store = s.store := by
  unfold State.activity
  dsimp only
  split
  · rfl
  · split <;> rfl

theorem State.clearIndl1_store (d a : Nat) : (State.clearIndl1 d s a).store = s.store := by
  unfold State.clearIndl1
  split
  · exact State.setRegField_store ..
  · rfl

theorem State.clearIndl_store (d : Nat) : (s.clearIndl d).store = s.store := by
  unfold State.clearIndl
  generalize s.regs.map Prod.fst = l
  induction l generalizing s with
  | nil => rfl
  | cons a l ih => rw [List.foldl_cons, ih, State.clearIndl1_store]

@[simp] theorem State.endEpisode_store (n : Nat) : (s.endEpisode n).store = s.store := by
  unfold State.endEpisode
  split
  · rfl
  · exact s.clearIndl_store _

/-! ### Arrival (Table 11-8) -/

/-- A packet that has left the Trellis and passed its filters changed nothing but registers and packets on their way. -/
theorem carried_frame (p : Packet) (src dst : Nat) (h : Triple) (poison : Bool) :
    ∃ r f, Claims.carried s p src dst h poison = { s with regs := r, flight := f } :=
  (s.take p).passes_frame src dst h poison

/-- A node in ON or FENCING serves a posted packet in the state in which it arrived. -/
theorem arrivePosted_of_on {dst : Nat} (hon : s.nodeState dst = 0 ∨ s.nodeState dst = 2) (src : Nat) (p : Packet) (h : Triple)
    (poison : Bool) (serve : State → Out) :
    s.arrivePosted src dst p h poison serve = serve (Claims.carried s p src dst h poison) :=
  if_pos hon

/-- The state in which a frame token's slice takes it. -/
def State.tokenArrived : State :=
  let node := nodeSlice (s.sliceOf (Tag.frame t.tag))
  Claims.carried s (.ftok t) t.node node
    (mkHeader t.vc 1 node t.node (if t.node < 256 then t.unit else 0) t.tenant 0 (Tag.device t.tag)) t.poison

theorem State.tokenArrived_frame : ∃ r f, s.tokenArrived t = { s with regs := r, flight := f } := carried_frame ..

variable {s t}

/-- A token of this device on VC2 or VC3 is accepted by a slice that takes packets. -/
theorem exec_ftok_of_on (hvc : t.vc = 2 ∨ t.vc = 3) (hdev : Tag.device t.tag = s.deviceNo)
    (hon : s.nodeState (nodeSlice (s.sliceOf (Tag.frame t.tag))) = 0 ∨
      s.nodeState (nodeSlice (s.sliceOf (Tag.frame t.tag))) = 2) :
    exec (.ftok t) s = .next ((s.tokenArrived t).acceptToken t) := by
  show execFtok t s = _
  unfold execFtok
  rw [if_neg (by omega), if_neg (not_not_intro hdev), arrivePosted_of_on s hon]
  rfl

theorem acceptToken_of_check_some {c : TokenCause} (h : s.checkToken t = some c) :
    s.acceptToken t = (s.discardToken (s.sliceOf (Tag.frame t.tag)) t c).landReply t := by
  simp only [State.acceptToken, h]

theorem acceptToken_of_check_none (h : s.checkToken t = none) : s.acceptToken t = s.matchToken t := by
  simp only [State.acceptToken, h]

/-! ### Writing the token's slots (R64, R87, R90) -/

variable (s t)

/-- Key of the slot that a token names. -/
def State.tokenKey : Nat := s.slotKey (Tag.frame t.tag) (Tag.slot t.tag)

/-- The token's value and control word in its slot. -/
def State.putToken : State := s.putSlot (Tag.frame t.tag) (Tag.slot t.tag) t.value (Tag.ty t.tag) (Tag.crit t.tag)

/-- The token's value in its slot, and the complement of a critical one above it. -/
def State.storeToken : State :=
  if Tag.crit t.tag then (s.putToken t).putCpl (Tag.frame t.tag) (Tag.slot t.tag + 1) t.comp else s.putToken t

/-- The slots of `v` are those of `s` with the token `t` stored. -/
def TokenStored (v : State) : Prop :=
  let k := s.tokenKey t
  (v.slot k).val = t.value ∧ (v.slot k).pres = true ∧ (v.slot k).ty = Tag.ty t.tag ∧ (v.slot k).crit = Tag.crit t.tag ∧
    (Tag.crit t.tag = true → (v.slot (k + 1)).cpl = true ∧ (v.slot (k + 1)).val = t.comp) ∧
    (∀ j, j ≠ k → j ≠ k + 1 → v.slot j = s.slot j)

variable {s t}

theorem TokenStored.of_slots {v w : State} (h : TokenStored s t w) (e : v.store.slots = w.store.slots) : TokenStored s t v := by
  have hslot : v.slot = w.slot := by
    funext j
    rw [State.slot, State.slot, e]
  simpa only [TokenStored, hslot] using h

/-- A token is stored once its own slot is written, whatever became of the slot above, if that holds a critical token's
complement. -/
theorem tokenStored_of_putToken {v : State} (hv : ∀ j, j ≠ s.tokenKey t + 1 → v.slot j = (s.putToken t).slot j)
    (hcrit : Tag.crit t.tag = true → (v.slot (s.tokenKey t + 1)).cpl = true ∧ (v.slot (s.tokenKey t + 1)).val = t.comp) :
    TokenStored s t v := by
  have hself : v.slot (s.tokenKey t) = (s.putToken t).slot (s.tokenKey t) := hv _ (by omega)
  have hput : (s.putToken t).slot (s.tokenKey t) = _ := s.slot_setSlot (s.tokenKey t) _
  rw [hput] at hself
  refine ⟨?_, ?_, ?_, ?_, hcrit, fun j hj hj1 => (hv j hj1).trans (s.slot_setSlot_other _ hj)⟩ <;> rw [hself]

theorem storeToken_stored : TokenStored s t (s.storeToken t) := by
  unfold State.storeToken
  split
  case isTrue hc =>
    refine tokenStored_of_putToken (fun j hj => State.slot_setSlot_other _ _ hj) fun _ => ?_
    have hput : ((s.putToken t).putCpl (Tag.frame t.tag) (Tag.slot t.tag + 1) t.comp).slot (s.tokenKey t + 1) = _ :=
      State.slot_setSlot _ (s.tokenKey t + 1) _
    rw [hput]
    exact ⟨rfl, rfl⟩
  case isFalse hc => exact tokenStored_of_putToken (fun _ _ => rfl) (absurd · hc)

/-- Storing a token changes slots alone. -/
theorem storeToken_frame (s : State) (t : Token) : ∃ m, s.storeToken t = { s with store := { s.store with slots := m } } := by
  unfold State.storeToken
  split <;> exact ⟨_, rfl⟩

/-! ### Matching (Table 3-7) -/

theorem matchToken_of_layout (h : s.matchRow (Tag.frame t.tag) (Tag.slot t.tag) (Tag.crit t.tag) = .layout) :
    s.matchToken t = ((s.bump (Reg.sliceStat (s.sliceOf (Tag.frame t.tag)) 6)).logDiscard
      (s.sliceOf (Tag.frame t.tag)) t 6).landReply t := by
  simp only [State.matchToken, h]

theorem matchToken_of_collision (h : s.matchRow (Tag.frame t.tag) (Tag.slot t.tag) (Tag.crit t.tag) = .collision) :
    s.matchToken t = ((s.bump (Reg.sliceStat (s.sliceOf (Tag.frame t.tag)) 5)).logDiscard
      (s.sliceOf (Tag.frame t.tag)) t 5).landReply t := by
  simp only [State.matchToken, h]

/-- A passive value is stored; below another slot, one that is not critical clears the complement mark above it. -/
theorem matchToken_of_passive (h : s.matchRow (Tag.frame t.tag) (Tag.slot t.tag) (Tag.crit t.tag) = .passive) :
    s.matchToken t = (if Tag.crit t.tag = false ∧ Tag.slot t.tag % 16 ≠ 15
      then (s.putToken t).clearCpl (Tag.frame t.tag) (Tag.slot t.tag + 1) else s.storeToken t).landReply t := by
  simp only [State.matchToken, h, State.storeToken, State.putToken]
  cases Tag.crit t.tag
  case true => simp
  case false => by_cases h15 : Tag.slot t.tag % 16 = 15 <;> simp [h15]

theorem matchToken_passive_stored (h : s.matchRow (Tag.frame t.tag) (Tag.slot t.tag) (Tag.crit t.tag) = .passive) :
    TokenStored s t (s.matchToken t) := by
  rw [matchToken_of_passive h]
  refine TokenStored.of_slots ?_ (congrArg Store.slots (State.landReply_store ..))
  split
  case isTrue hc =>
    exact tokenStored_of_putToken (fun j hj => State.slot_setSlot_other _ _ hj) (by simp [hc.1])
  case isFalse => exact storeToken_stored

theorem matchToken_passive_frame (h : s.matchRow (Tag.frame t.tag) (Tag.slot t.tag) (Tag.crit t.tag) = .passive) :
    ∃ m, (s.matchToken t).store = { s.store with slots := m } := by
  rw [matchToken_of_passive h, State.landReply_store]
  split
  case isTrue => exact ⟨_, rfl⟩
  case isFalse =>
    obtain ⟨m, e⟩ := storeToken_frame s t
    exact ⟨m, by rw [e]⟩

/-! ### An operand joins its group, and the last one fires it (R91, R92) -/

variable (s t)

/-- Key of the group that a token's slot belongs to. -/
def State.tokenGroup : Nat := s.groupKey (Tag.frame t.tag) (Tag.slot t.tag / 16)

/-- The token is stored and counted in its group. -/
def State.joinToken : State :=
  let w := s.storeToken t
  w.setGroup (w.tokenGroup t) { w.group (w.tokenGroup t) with join := (w.group (w.tokenGroup t)).join + 1 }

/-- The activation that an entry puts into its fired queue. -/
def State.firedAct (f sl flow : Nat) : Activation :=
  let g := s.group (s.groupKey f (sl / 16))
  ⟨g.owner, Tag.mk s.deviceNo f (s.frame f).gen.toNat (16 * (sl / 16)) flow 0 0, g.entry, g.wgrp, flow, s.frameEpoch f g.owner, 0⟩

/-- Key of the fired queue that an entry's activation joins. -/
def State.firedKey (f sl : Nat) : Nat :=
  2 * s.sliceOf f + (if (s.group (s.groupKey f (sl / 16))).wgrp = 0 then 0 else 1)

/-- What firing writes to the store: the group's state, the fired queue and, for a flow, the slice's notices. -/
theorem fire_store (f sl flow node unit : Nat) (reply : Bool) :
    (s.fire f sl flow node unit reply).store =
      { s.store with
        groups := (s.setGroup (s.groupKey f (sl / 16)) { s.group (s.groupKey f (sl / 16)) with gst := .held }).store.groups
        notices := if flow = 0 then s.store.notices else (s.setNotices (s.sliceOf f)
          (s.notices (s.sliceOf f) ++ [⟨s.firedAct f sl flow, node, unit, reply⟩])).store.notices
        fired := (s.setFiredQ (s.firedKey f sl) (s.firedQ (s.firedKey f sl) ++ [s.firedAct f sl flow])).store.fired } := by
  unfold State.fire
  simp only [State.endEpisode_store, State.activity_store]
  by_cases h : flow = 0
  · simp only [if_pos h]
    rfl
  · simp only [if_neg h]
    rfl

theorem State.group_setGroup_other {k j : Nat} (v : Group) (h : j ≠ k) : (s.setGroup k v).group j = s.group j :=
  Map.get_set_other h

section
variable (f sl flow node unit : Nat) (reply : Bool)

theorem fire_group_self : (s.fire f sl flow node unit reply).group (s.groupKey f (sl / 16)) =
    { s.group (s.groupKey f (sl / 16)) with gst := .held } := by
  rw [State.group, fire_store]
  exact s.group_setGroup ..

theorem fire_group_other {j : Nat} (h : j ≠ s.groupKey f (sl / 16)) :
    (s.fire f sl flow node unit reply).group j = s.group j := by
  rw [State.group, fire_store]
  exact s.group_setGroup_other _ h

theorem fire_firedQ : (s.fire f sl flow node unit reply).firedQ (s.firedKey f sl) =
    s.firedQ (s.firedKey f sl) ++ [s.firedAct f sl flow] := by
  rw [State.firedQ, fire_store]
  exact s.firedQ_setFiredQ ..

/-- A flow's activation leaves one fire notice at its slice. -/
theorem fire_notices (h : flow ≠ 0) : (s.fire f sl flow node unit reply).notices (s.sliceOf f) =
    s.notices (s.sliceOf f) ++ [⟨s.firedAct f sl flow, node, unit, reply⟩] := by
  rw [State.notices, fire_store]
  simp only [if_neg h]
  exact s.notices_setNotices ..
end

/-- Joining changes slots and groups alone. -/
theorem joinToken_frame : ∃ m gs, s.joinToken t = { s with store := { s.store with slots := m, groups := gs } } := by
  obtain ⟨m, e⟩ := storeToken_frame s t
  exact ⟨m, _, by rw [State.joinToken, e]; rfl⟩

theorem joinToken_slots : (s.joinToken t).store.slots = (s.storeToken t).store.slots := rfl

theorem joinToken_tokenGroup : (s.joinToken t).tokenGroup t = s.tokenGroup t := by
  obtain ⟨m, gs, e⟩ := joinToken_frame s t
  rw [e]
  rfl

theorem joinToken_group_self : (s.joinToken t).group (s.tokenGroup t) =
    { s.group (s.tokenGroup t) with join := (s.group (s.tokenGroup t)).join + 1 } := by
  obtain ⟨m, e⟩ := storeToken_frame s t
  rw [State.joinToken, e]
  exact State.group_setGroup ..

theorem joinToken_group_other {j : Nat} (h : j ≠ s.tokenGroup t) : (s.joinToken t).group j = s.group j := by
  obtain ⟨m, e⟩ := storeToken_frame s t
  rw [State.joinToken, e]
  exact State.group_setGroup_other _ _ h

theorem joinToken_firedQ (q : Nat) : (s.joinToken t).firedQ q = s.firedQ q := by
  obtain ⟨m, gs, e⟩ := joinToken_frame s t
  rw [e]
  rfl

theorem joinToken_notices (n : Nat) : (s.joinToken t).notices n = s.notices n := by
  obtain ⟨m, gs, e⟩ := joinToken_frame s t
  rw [e]
  rfl

theorem joinToken_sliceOf (f : Nat) : (s.joinToken t).sliceOf f = s.sliceOf f := by
  obtain ⟨m, gs, e⟩ := joinToken_frame s t
  rw [e]
  rfl

/-- The token's group fires. -/
def State.fireToken : State :=
  (s.joinToken t).fire (Tag.frame t.tag) (Tag.slot t.tag) (Tag.flow t.tag) t.node t.unit (tokenPaced t)

variable {s t}

/-- An operand joins its group, which fires if that completes it; a landing reply changes nothing in the store. -/
theorem matchToken_operand_store (h : s.matchRow (Tag.frame t.tag) (Tag.slot t.tag) (Tag.crit t.tag) = .operand) :
    (s.matchToken t).store =
      if (s.group (s.tokenGroup t)).join + 1 = (s.group (s.tokenGroup t)).arity then (s.fireToken t).store
      else (s.joinToken t).store := by
  have hg : (s.storeToken t).group ((s.storeToken t).tokenGroup t) = s.group (s.tokenGroup t) := by
    obtain ⟨m, e⟩ := storeToken_frame s t
    rw [e]
    rfl
  have hmatch : s.matchToken t =
      if ((s.storeToken t).group ((s.storeToken t).tokenGroup t)).join + 1 =
        ((s.storeToken t).group ((s.storeToken t).tokenGroup t)).arity
      then if Tag.flow t.tag = 0 then (s.fireToken t).landReply t else s.fireToken t
      else (s.joinToken t).landReply t := by
    simp only [State.matchToken, h]
    rfl
  rw [hmatch, hg]
  split
  · split
    · exact State.landReply_store ..
    · rfl
  · exact State.landReply_store ..

section
variable (h : s.matchRow (Tag.frame t.tag) (Tag.slot t.tag) (Tag.crit t.tag) = .operand)
include h

theorem matchToken_operand_stored : TokenStored s t (s.matchToken t) := by
  refine storeToken_stored.of_slots ?_
  rw [matchToken_operand_store h]
  split
  · rw [State.fireToken, fire_store, joinToken_slots]
  · exact joinToken_slots s t

theorem matchToken_operand_frames : (s.matchToken t).store.frames = s.store.frames ∧
    (s.matchToken t).store.pools = s.store.pools := by
  obtain ⟨m, gs, e⟩ := joinToken_frame s t
  rw [matchToken_operand_store h]
  split
  · rw [State.fireToken, fire_store, e]
    exact ⟨rfl, rfl⟩
  · rw [e]
    exact ⟨rfl, rfl⟩

theorem matchToken_operand_group_other {j : Nat} (hj : j ≠ s.tokenGroup t) : (s.matchToken t).group j = s.group j := by
  rw [← joinToken_group_other s t hj, State.group, matchToken_operand_store h]
  split
  · exact fire_group_other _ _ _ _ _ _ _ (by rwa [← State.tokenGroup, joinToken_tokenGroup])
  · rfl

theorem matchToken_operand_joins (hj : (s.group (s.tokenGroup t)).join + 1 ≠ (s.group (s.tokenGroup t)).arity) :
    (s.matchToken t).group (s.tokenGroup t) =
      { s.group (s.tokenGroup t) with join := (s.group (s.tokenGroup t)).join + 1 } ∧
    ∀ q, (s.matchToken t).firedQ q = s.firedQ q := by
  have hstore := (matchToken_operand_store h).trans (if_neg hj)
  constructor
  · rw [← joinToken_group_self, State.group, hstore]
    rfl
  · intro q
    rw [← joinToken_firedQ s t, State.firedQ, hstore]
    rfl

/-- The last operand: its group is HELD, its activation joins the fired queue, and a flow's fire notice waits at the slice. -/
theorem matchToken_operand_fires (hj : (s.group (s.tokenGroup t)).join + 1 = (s.group (s.tokenGroup t)).arity) :
    let g := s.group (s.tokenGroup t)
    let q := 2 * s.sliceOf (Tag.frame t.tag) + (if g.wgrp = 0 then 0 else 1)
    (s.matchToken t).group (s.tokenGroup t) = { g with join := g.join + 1, gst := .held } ∧
    ∃ a, (s.matchToken t).firedQ q = s.firedQ q ++ [a] ∧
      a.tenant = g.owner ∧ a.entry = g.entry ∧ a.wgrp = g.wgrp ∧ a.flow = Tag.flow t.tag ∧
      (Tag.flow t.tag ≠ 0 → ((s.matchToken t).notices (s.sliceOf (Tag.frame t.tag))).length =
        (s.notices (s.sliceOf (Tag.frame t.tag))).length + 1) := by
  have hstore := (matchToken_operand_store h).trans (if_pos hj)
  intro g q
  have hkey := joinToken_tokenGroup s t
  have hjoined : (s.joinToken t).group ((s.joinToken t).tokenGroup t) = { g with join := g.join + 1 } := by
    rw [hkey]
    exact joinToken_group_self s t
  have hq : (s.joinToken t).firedKey (Tag.frame t.tag) (Tag.slot t.tag) = q := by
    rw [State.firedKey, ← State.tokenGroup, hjoined, joinToken_sliceOf]
  refine ⟨?_, (s.joinToken t).firedAct (Tag.frame t.tag) (Tag.slot t.tag) (Tag.flow t.tag), ?_, (congrArg Group.owner hjoined :),
    (congrArg Group.entry hjoined :), (congrArg Group.wgrp hjoined :), rfl, fun hflow => ?_⟩
  · rw [State.group, hstore, ← hkey]
    exact (fire_group_self ..).trans (congrArg (fun g : Group => { g with gst := .held }) hjoined)
  · rw [State.firedQ, hstore, ← hq, ← joinToken_firedQ s t]
    exact fire_firedQ ..
  · have hfire : (s.fireToken t).notices ((s.joinToken t).sliceOf (Tag.frame t.tag)) = _ := fire_notices _ _ _ _ _ _ _ hflow
    rw [joinToken_sliceOf, joinToken_notices] at hfire
    rw [State.notices, hstore, ← State.notices, hfire, List.length_append, List.length_singleton]
end

end

/-- Settles O30: the slice acts in the state in which the token arrived (`exec_ftok_of_on`), whose store and family member are
those of the state before; Table 3-7's rows then follow their own lemmas. -/
theorem tokensAtTheStore : Obligations.TokensAtTheStore := by
  intro s t hvc hdev f sl sc node u crit k gk g kept hon
  have hexec : exec (.ftok t) s = .next (u.acceptToken t) := exec_ftok_of_on hvc hdev hon
  obtain ⟨r, fl, hu⟩ : ∃ r fl, u = { s with regs := r, flight := fl } := s.tokenArrived_frame t
  have hcheck : u.checkToken t = s.checkToken t := by rw [hu]; rfl
  have hrow : u.matchRow f sl crit = s.matchRow f sl crit := by rw [hu]; rfl
  have hslice : u.sliceOf f = sc := by rw [hu]; rfl
  have hmatch (h : s.checkToken t = none) : exec (.ftok t) s = .next (u.matchToken t) := by
    rw [hexec, acceptToken_of_check_none (hcheck.trans h)]
  have hkept : ∀ v, TokenStored u t v → kept v := by
    rw [hu]
    exact fun _ h => h
  refine ⟨?discard, ?layout, ?collision, ?passive, ?operand⟩
  case discard =>
    intro w hw
    rw [acceptToken_of_check_some (hcheck.trans hw), hslice] at hexec
    refine ⟨_, hexec, ?_, rfl⟩
    rw [State.landReply_store, State.discardToken_store, hu]
  case layout =>
    intro hok hr
    rw [hmatch hok, matchToken_of_layout (hrow.trans hr), hslice]
  case collision =>
    intro hok hr
    rw [hmatch hok, matchToken_of_collision (hrow.trans hr), hslice]
  case passive =>
    intro hok hr
    replace hr := hrow.trans hr
    obtain ⟨m, e⟩ := matchToken_passive_frame hr
    refine ⟨_, hmatch hok, hkept _ (matchToken_passive_stored hr), ?_⟩
    simp only [State.group, State.firedQ, e]
    rw [hu]
    exact ⟨fun _ => rfl, fun _ => rfl, rfl, rfl⟩
  case operand =>
    intro hok hr
    replace hr := hrow.trans hr
    refine ⟨_, hmatch hok, hkept _ (matchToken_operand_stored hr), ?_⟩
    obtain ⟨hframes, hpools⟩ := matchToken_operand_frames hr
    have hother := fun j => matchToken_operand_group_other hr (j := j)
    have hjoins := matchToken_operand_joins hr
    have hfires := matchToken_operand_fires hr
    clear_value u
    subst hu
    exact ⟨hframes, hpools, hother, hjoins, hfires⟩

end Sys2Proof.Machine

/-! The state after reset (R162, R230, R401, R552), and a task's save whose record goes astray (R233). -/

namespace Sys2Proof.Machine

/-- Settles O59: the tables of the reset state are empty, so every entry reads as its default. -/
theorem resetMeetsTheInvariant : Obligations.ResetMeetsTheInvariant :=
  ⟨rfl, rfl, rfl, rfl, fun _ => rfl, fun _ => rfl, fun _ => rfl, fun _ => rfl, fun _ => ⟨rfl, rfl⟩, fun _ => rfl⟩

/-! ### A save that a switch of the pipeline loses

Nothing bounds HOMEPAV in `State`. With this one the word `DEP.PAV[HOMEPAV]`, which says whether the task's record was moved
(R585), is the register that counts the switches of pipeline 0 of pavilion 0 (R249). -/

/-- A HOMEPAV beyond every pavilion, whose word of DEP.PAV is a switch counter. -/
def strayHome : Nat := Reg.pipeStat 0 0 3 - Reg.depPav 0

/-- Context 0 saves task 5, whose W0 is 7 and whose HOMEPAV is `strayHome`; context 1 issued last and waits; context 2 is ready;
the count of switches is one below the ALT bit of DEP.PAV. -/
def straySave : State :=
  let s : State := { State.reset with
    regs := [(Reg.pipeStat 0 0 3, 0x07FFFF)]
    strands := { State.reset.strands with lastIssued := [(0, 1)] } }
  (((s.setTask 5 { Task.zero with homepav := strayHome }).setCtx ⟨0, 0, 0⟩
    { Context.idle with state := .saving, isTask := true, task := 5, ring := [(0, 7)] }).setCtx ⟨0, 0, 1⟩
    { Context.idle with state := .longwait }).setCtx ⟨0, 0, 2⟩ { Context.idle with state := .ready }

/-- The state after the save: the record was written for `strayHome`, the context became FREE, and the pipeline switched. -/
def straySaved : State := straySave.saveEnds ⟨0, 0, 0⟩

theorem straySave_exec : exec (.taskSaveComplete ⟨0, 0, 0⟩) straySave = .next straySaved := by
  show execTaskSaveComplete ⟨0, 0, 0⟩ straySave = _
  unfold execTaskSaveComplete
  rw [if_neg (by decide), if_neg (by decide)]
  rfl

/-- The switch counts, and the count reads as a move of the record to pavilion 0. -/
theorem straySaved_homePav : straySaved.homePav 5 = 0 := by decide +kernel

/-- Pavilion 0 holds nothing where the record is now read. -/
theorem straySaved_recRead : straySaved.recRead 5 0 = 0 := by
  have hspad : straySaved.recRead 5 0 = straySaved.spadRead (straySaved.homePav 5) 0 := by decide +kernel
  rw [hspad, straySaved_homePav]
  decide +kernel

/-- Refutes O28: its clause about TASK_SAVE_COMPLETE has no premise that the task's HOMEPAV is a pavilion (below 256). In
`straySave` the switch that follows the save changes where the record is read (`straySaved_homePav`). -/
theorem not_pipelineEvents : ¬ Obligations.PipelineEvents := by
  intro h
  obtain ⟨-, -, -, -, hsave, -⟩ := h straySave ⟨0, 0, 0⟩ ⟨0, 0, 0, 0, 0, 0, 0⟩ 0 (by decide) (by decide)
  obtain ⟨t, ht, -, -, hrec⟩ := hsave (by decide) (by decide)
  obtain rfl : straySaved = t := Host.Outcome.next.inj (straySave_exec.symm.trans ht)
  have h7 : straySaved.recRead 5 0 = 7 := (hrec 0 (by decide)).trans (by decide +kernel)
  exact absurd (straySaved_recRead.symm.trans h7) (by decide)

end Sys2Proof.Machine

/-! Events of tasks and flows at the hub (R142, R145, R146, R148, R162, R168, R177): what a change of a task's state touches,
how each event leaves the task, and the meanings of the commands. -/

namespace Sys2Proof.Machine

section
variable (s : State)

/-! ### What marks and counts leave alone -/

/-- Activity marks a domain and touches nothing else. -/
theorem State.activity_frame (t : Nat) : ∃ a, s.activity t = { s with hub := { s.hub with active := a } } := by
  unfold State.activity
  dsimp only
  split
  · exact ⟨_, rfl⟩
  · split <;> exact ⟨_, rfl⟩

theorem State.clearIndl1_frame (d a : Nat) : ∃ r, State.clearIndl1 d s a = { s with regs := r } := by
  unfold State.clearIndl1
  split <;> exact ⟨_, rfl⟩

theorem State.clearIndl_frame (d : Nat) : ∃ r, s.clearIndl d = { s with regs := r } := by
  unfold State.clearIndl
  generalize s.regs.map Prod.fst = l
  induction l generalizing s with
  | nil => exact ⟨_, rfl⟩
  | cons a l ih =>
    obtain ⟨r, h⟩ := s.clearIndl1_frame d a
    rw [List.foldl_cons, h]
    exact ih { s with regs := r }

theorem State.endEpisode_frame (t : Nat) : ∃ r, s.endEpisode t = { s with regs := r } := by
  unfold State.endEpisode
  split
  · exact ⟨_, rfl⟩
  · exact s.clearIndl_frame _

/-- The change of a task's state is activity and may end an episode (R167, R175). -/
theorem State.taskChanged_frame (n : Nat) :
    ∃ r a, s.taskChanged n = { s with regs := r, hub := { s.hub with active := a } } := by
  unfold State.taskChanged
  dsimp only
  obtain ⟨a, ha⟩ := s.activity_frame (s.task n).owner
  split
  · exact ⟨_, a, ha⟩
  · obtain ⟨r, hr⟩ := (s.activity (s.task n).owner).endEpisode_frame (s.task n).owner
    exact ⟨r, a, by rw [hr, ha]⟩

@[simp] theorem State.task_taskChanged (n m : Nat) : (s.taskChanged n).task m = s.task m := by
  obtain ⟨r, a, h⟩ := s.taskChanged_frame n
  rw [h]
  rfl

@[simp] theorem State.flight_taskChanged (n : Nat) : (s.taskChanged n).flight = s.flight := by
  obtain ⟨r, a, h⟩ := s.taskChanged_frame n
  rw [h]

/-- The SEV of a master on its way changes nothing but the filters' counts and what they send. -/
theorem State.sevPasses_frame (src : SevSource) : ∃ r f, s.sevPasses src = { s with regs := r, flight := f } := by
  unfold State.sevPasses
  split
  · exact s.passes_frame ..
  · exact ⟨_, _, rfl⟩

@[simp] theorem State.task_sevPasses (src : SevSource) (n : Nat) : (s.sevPasses src).task n = s.task n := by
  obtain ⟨r, f, h⟩ := s.sevPasses_frame src
  rw [h]
  rfl

/-- What is in flight stays in flight when the device raises a flag. -/
theorem State.mem_flight_sevFlag {p : Packet} (task fl : Nat) (h : p ∈ s.flight) : p ∈ (s.sevFlag task fl).flight := by
  unfold State.sevFlag
  split
  · exact List.mem_append_left _ h
  · exact h

@[simp] theorem State.hub_sevFlag (task fl : Nat) : (s.sevFlag task fl).hub = s.hub := by
  unfold State.sevFlag
  split <;> rfl

/-! ### Records of tasks (R283) -/

theorem State.zeroRow_frame (p row n : Nat) : ∃ m, s.zeroRow p row n = { s with memory := m } := by
  induction n with
  | zero => exact ⟨_, rfl⟩
  | succ n ih =>
    obtain ⟨m, h⟩ := ih
    exact ⟨_, by rw [State.zeroRow, h]; rfl⟩

theorem State.spadWrite_frame (p a : Nat) (v : Word) : ∃ m, s.spadWrite p a v = { s with memory := m } := by
  unfold State.spadWrite
  dsimp only
  split
  · obtain ⟨m, h⟩ := s.zeroRow_frame p (a / 8) 8
    exact ⟨_, by rw [h]; rfl⟩
  · exact ⟨_, rfl⟩

theorem State.recWrite_frame (n k : Nat) (v : Word) : ∃ m, s.recWrite n k v = { s with memory := m } := by
  unfold State.recWrite
  split
  · exact ⟨_, rfl⟩
  · exact s.spadWrite_frame ..

/-- Clearing a task's record writes memory alone. -/
theorem State.recClear_frame (n : Nat) : ∃ m, s.recClear n = { s with memory := m } := by
  unfold State.recClear
  generalize List.range _ = l
  induction l generalizing s with
  | nil => exact ⟨_, rfl⟩
  | cons k l ih =>
    obtain ⟨m, h⟩ := s.recWrite_frame n k 0
    rw [List.foldl_cons, h]
    exact ih { s with memory := m }

@[simp] theorem State.task_recClear (n m : Nat) : (s.recClear n).task m = s.task m := by
  obtain ⟨m', h⟩ := s.recClear_frame n
  rw [h]
  rfl

/-! ### Views of a task -/

@[simp] theorem State.task_send (p : Packet) (n : Nat) : (s.send p).task n = s.task n := rfl
@[simp] theorem State.task_setRl (r g : Nat) (l : List Entry) (n : Nat) : (s.setRl r g l).task n = s.task n := rfl

/-! ### A task becomes READY, takes flags, or goes (R144, R145, Table 4-5) -/

@[simp] theorem State.task_taskReady (n : Nat) : (s.taskReady n).task n = { s.task n with st := .ready } := by
  unfold State.taskReady
  dsimp only
  rw [State.task_taskChanged, State.task_setRl, State.task_setTask]

@[simp] theorem State.st_taskFree (n : Nat) : ((s.taskFree n).task n).st = .free := by
  unfold State.taskFree
  dsimp only
  rw [State.task_taskChanged, State.task_setTask]

variable {s} {n : Nat}

/-- A task that does not wait for one of its flags goes on as it was. -/
theorem State.wakeOnFlags_stays (h : (s.task n).st ≠ .waitEv ∨ (s.task n).evf &&& (s.task n).evm = 0) :
    s.wakeOnFlags n = s :=
  if_neg fun ⟨hwait, hhit⟩ => h.elim (· hwait) hhit

/-- A waiting task takes the flags that it waits for and becomes READY. -/
theorem State.wakeOnFlags_wakes (hwait : (s.task n).st = .waitEv) (hhit : (s.task n).evf &&& (s.task n).evm ≠ 0) :
    ((s.wakeOnFlags n).task n).st = .ready ∧
      ((s.wakeOnFlags n).task n).evf = (s.task n).evf &&& ~~~((s.task n).evf &&& (s.task n).evm) := by
  unfold State.wakeOnFlags
  dsimp only
  rw [if_pos ⟨hwait, hhit⟩, State.task_taskReady, State.task_setTask]
  exact ⟨rfl, rfl⟩

theorem State.orFlags_lost (fl : Word) (h : (s.task n).st = .free ∨ (s.task n).st = .reserved) :
    s.orFlags n fl = s.bump (Reg.dispStat 1) :=
  if_pos h

section
variable {fl : Word} (hfree : (s.task n).st ≠ .free) (hres : (s.task n).st ≠ .reserved)
include hfree hres

/-- Flags reach the EVF of a task that is neither FREE nor RESERVED. -/
theorem State.orFlags_awake :
    s.orFlags n fl = (s.setTask n { s.task n with evf := (s.task n).evf ||| fl }).wakeOnFlags n :=
  if_neg fun h => h.elim hfree hres

/-- Unless the task waits for one of its flags, they are kept for it. -/
theorem State.orFlags_stays (h : (s.task n).st ≠ .waitEv ∨ ((s.task n).evf ||| fl) &&& (s.task n).evm = 0) :
    (s.orFlags n fl).task n = { s.task n with evf := (s.task n).evf ||| fl } := by
  rw [State.orFlags_awake hfree hres, State.wakeOnFlags_stays (by rwa [State.task_setTask]), State.task_setTask]

/-- A task that waits for one of the flags becomes READY without it. -/
theorem State.orFlags_wakes (hwait : (s.task n).st = .waitEv) (hhit : ((s.task n).evf ||| fl) &&& (s.task n).evm ≠ 0) :
    ((s.orFlags n fl).task n).st = .ready ∧ ((s.orFlags n fl).task n).evf =
      ((s.task n).evf ||| fl) &&& ~~~(((s.task n).evf ||| fl) &&& (s.task n).evm) := by
  rw [State.orFlags_awake hfree hres]
  have hwakes := State.wakeOnFlags_wakes (s := s.setTask n { s.task n with evf := (s.task n).evf ||| fl }) (n := n)
    (by rwa [State.task_setTask]) (by rwa [State.task_setTask])
  rwa [State.task_setTask] at hwakes
end

/-! ### SEVs arrive (R145, R160) -/

theorem exec_sevArrival_device (s : State) (n : Nat) (fl : Word) :
    exec (.sevArrival n fl .device) s = .next ((s.take (.sev n fl .device)).orFlags n fl) := rfl

theorem exec_sevArrival_master (s : State) (n : Nat) (fl : Word) (tenant : Nat) (m : Word) (node : Nat) :
    exec (.sevArrival n fl (.master tenant m node)) s = .next (((s.take (.sev n fl (.master tenant m node))).sevPasses
      (.master tenant m node)).sevArrive n fl (.master tenant m node)) := rfl

/-- A master that is neither tenant 0 nor the owner, and that no DISP.BIND entry entitles, sets no flag. -/
theorem State.sevArrive_refused {fl m : Word} {tenant node : Nat} (htenant : tenant ≠ 0) (howner : (s.task n).owner ≠ tenant)
    (hfl : fl ≠ 0) (hbind : s.bindFlags 0 tenant n 1024 = 0) :
    s.sevArrive n fl (.master tenant m node) = (s.bump (Reg.dispStat 0)).log 0x21 nodeHub m (BitVec.ofNat 24 n) none := by
  unfold State.sevArrive
  dsimp only
  have hallowed : fl &&& (0 : Word) = 0 := BitVec.and_zero
  rw [if_neg (not_or.mpr ⟨htenant, howner⟩), hbind, hallowed, if_pos ⟨rfl, hfl⟩, if_neg hfl.symm]

/-! ### SPRES (R142) -/

/-- Which number SPRES picks does not depend on registers and packets on their way. -/
theorem State.spawnPick_frame (g : Map Word) (f : List Packet) (tenant wgrp k : Nat) :
    ({ s with regs := g, flight := f } : State).spawnPick tenant wgrp k = s.spawnPick tenant wgrp k := by
  induction k with
  | zero => rfl
  | succ k ih =>
    simp only [State.spawnPick, ih]
    rfl

/-- The state in which the hub takes a request for a task number. -/
def State.spresArrived (s : State) (r : SpawnReq) : State :=
  (s.take (.spres r)).passes r.c.pav nodeHub (mkHeader 0 0x21 nodeHub r.c.pav (slotOf r.c) r.tenant r.rid s.deviceNo) false

theorem State.spresArrived_frame (s : State) (r : SpawnReq) : ∃ g f, s.spresArrived r = { s with regs := g, flight := f } :=
  State.passes_frame ..

theorem State.spawnPick_spresArrived (r : SpawnReq) (tenant wgrp k : Nat) :
    (s.spresArrived r).spawnPick tenant wgrp k = s.spawnPick tenant wgrp k := by
  obtain ⟨g, f, h⟩ := s.spresArrived_frame r
  rw [h, State.spawnPick_frame]

section
variable {r : SpawnReq} (hctx : ctxPresent s.member r.c = true)
include hctx

/-- The lowest free number is reserved, and the answer names it. -/
theorem execSpres_picks {j : Nat} (hpick : s.spawnPick r.tenant r.wgrp 4096 = some j) :
    exec (.spres r) s = .next ((((s.spresArrived r).setTask j { (s.spresArrived r).task j with st := .reserved }).taskChanged j).send
      (.rdata ⟨r.c.pav, slotOf r.c, r.rid, nodeHub, 0, false, 0⟩ [BitVec.ofNat 24 j, 1])) := by
  rw [← State.spawnPick_spresArrived r, State.spresArrived] at hpick
  show execSpres r s = _
  unfold execSpres
  rw [if_neg (by simp [hctx])]
  dsimp only
  rw [hpick]
  rfl

/-- With no free number the answer is none. -/
theorem execSpres_none (hpick : s.spawnPick r.tenant r.wgrp 4096 = none) :
    exec (.spres r) s =
      .next ((s.spresArrived r).send (.rdata ⟨r.c.pav, slotOf r.c, r.rid, nodeHub, 0, false, 0⟩ [0, 0])) := by
  rw [← State.spawnPick_spresArrived r, State.spresArrived] at hpick
  show execSpres r s = _
  unfold execSpres
  rw [if_neg (by simp [hctx])]
  dsimp only
  rw [hpick]
  rfl
end

theorem State.mem_flight_send (s : State) (p : Packet) : p ∈ (s.send p).flight :=
  List.mem_append_right _ (List.mem_singleton_self _)

/-- The reserved task starts with a cleared record and joins its ready list. -/
theorem execSpawnRelease_reserved (h : (s.task n).st = .reserved) (entry g : Nat) (c : CtxId) (tenant : Nat) (arg : Triple) :
    ∃ t, exec (.spawnRelease n entry g c tenant arg) s = .next t ∧ t.task n = { s.task n with
      st := .ready, evf := 0, evm := 0, lastpav := c.pav, entry := entry, arg := arg, saved := false, target := 0,
      result := none, epoch := Map.get (fun _ => 0) s.hub.epoch tenant } := by
  obtain ⟨r, f, e⟩ := (s.take (.spawn n entry g c tenant arg)).passes_frame c.pav nodeHub
    (mkHeader 2 6 nodeHub c.pav (slotOf c) tenant 0 s.deviceNo) false
  refine ⟨_, if_neg (not_not_intro h), ?_⟩
  rw [State.task_taskReady, State.task_setTask, State.task_recClear, e]
  rfl

/-! ### WAITT's target (R146) -/

theorem execWaittTargetReached_reached (hwait : (s.task n).st = .waitTime) (htime : (s.task n).target ≤ s.time) :
    exec (.waittTargetReached n) s = .next ((s.setTask n { s.task n with target := 0 }).taskReady n) :=
  if_neg (not_or.mpr ⟨not_not_intro hwait, BitVec.not_lt.mpr htime⟩)

theorem execWaittTargetReached_early (htime : s.time < (s.task n).target) : exec (.waittTargetReached n) s = .next s :=
  if_pos (.inr htime)

/-! ### The warden's writes (R148, R162) -/

/-- A warden write of a register's highest word that asks its action acts on the words written and clears the buffer. -/
theorem wardenWhole_of_reaches {q : Req} {base k : Nat} {v : Word} {asked : List (Nat × Word) → Bool}
    {act : State → List (Nat × Word) → State} (hs : Claims.reaches s q)
    (hmay : (Claims.arrived s q (.regwr (base + k - 1) v)).mayWarden q (base + k - 1) = true)
    (hasked : asked (s.written q.master base k v) = true) :
    s.wardenWhole q base k v asked act = .next (((act (Claims.arrived s q (.regwr (base + k - 1) v))
      (s.written q.master base k v)).setWbuf q.master base []).answer q 0) := by
  unfold State.wardenWhole
  dsimp only
  rw [hasked]
  exact wardenWrite_of_reaches hs hmay

section
variable {q : Req} {v : Word} (hs : Claims.reaches s q)
  (hmay : (Claims.arrived s q (.regwr (0x018000 + 4 * n + 4 - 1) v)).mayWarden q (0x018000 + 4 * n + 4 - 1) = true)
include hs hmay

/-- A KILL that reaches the hub as the warden's writes the task and is answered. -/
theorem execTaskKill_of_reaches (hkill : (wrote (s.written q.master (0x018000 + 4 * n) 4 v) 3).bit 1 = true) :
    exec (.taskKill q n v) s = .next ((((Claims.arrived s q (.regwr (0x018000 + 4 * n + 4 - 1) v)).taskWrite n
      (s.written q.master (0x018000 + 4 * n) 4 v)).setWbuf q.master (0x018000 + 4 * n) []).answer q 0) :=
  wardenWhole_of_reaches (asked := fun ws => (wrote ws 3).bit 1) (act := (State.taskWrite · n ·)) hs hmay hkill

theorem execEvfWrite_of_reaches (hflags : wrote (s.written q.master (0x018000 + 4 * n) 4 v) 1 ≠ 0) :
    exec (.evfWrite q n v) s = .next ((((Claims.arrived s q (.regwr (0x018000 + 4 * n + 4 - 1) v)).taskWrite n
      (s.written q.master (0x018000 + 4 * n) 4 v)).setWbuf q.master (0x018000 + 4 * n) []).answer q 0) :=
  wardenWhole_of_reaches (asked := fun ws => decide (wrote ws 1 ≠ 0)) (act := (State.taskWrite · n ·)) hs hmay
    (decide_eq_true hflags)
end

/-- A task that runs in no context goes at once when a warden ends it. -/
theorem State.killTask_waiting (hwait : (s.task n).st = .waitEv) (hctx : s.ctxOfTask n = none) :
    ((s.killTask n).task n).st = .free := by
  unfold State.killTask
  dsimp only
  have hun : (s.unlistTask n).ctxOfTask n = none := hctx
  rw [if_neg (by simp [hwait]), hun]
  exact State.st_taskFree ..

/-! ### Hung flows (R177) -/

/-- A flow that has been busy beyond its limit while another activation waits is reported once. -/
theorem execFlowhang_reports (hlimit : (s.reg 0x00C012).toNat ≠ 0) (hbusy : (s.flow n).busy = true)
    (hnew : (s.flow n).hangReported = false) (hwaits : s.flowWaits n = true)
    (hlate : (s.flow n).busySince + usTicks (s.reg 0x00C012).toNat < s.elapsed) :
    ∃ t, exec (.flowhang n) s = .next t ∧ t.flow n = { s.flow n with hangReported := true } ∧
      .evlog ⟨0x23, nodeHub, 0, BitVec.ofNat 24 (n * 512 + (s.flow n).owner % 512), s.time,
        some (Triple.ofWords (BitVec.ofNat 24 (s.flow n).lastpav) 0 0)⟩ ∈ t.flight := by
  refine ⟨_, if_neg (by simp [hlimit, hbusy, hnew, hwaits, hlate]), ?_, ?_⟩
  · split
    · exact s.flow_setFlow n _
    · rw [State.flow, State.hub_sevFlag]
      exact s.flow_setFlow n _
  · split
    · exact State.mem_flight_send ..
    · exact State.mem_flight_sevFlag _ _ _ (State.mem_flight_send ..)

/-! ### Visits of the deadlock detector (R168) -/

section
variable (hn : n ≠ 0) (hn' : n ≤ 511) (hdom : s.domain n = n) (hen : s.regBit 0x00C010 23 = true)
include hn hn' hdom hen

/-- A domain that is not deadlocked, or had activity since its last visit, starts a new quiet window. -/
theorem execDomainVisit_restarts (h : s.deadlocked n = false ∨ n ∈ s.hub.active) :
    ∃ t, exec (.domainVisit n) s = .next t ∧ n ∉ t.hub.active ∧ Map.get (fun _ => 0) t.hub.qstart n = s.elapsed := by
  show ∃ t, execDomainVisit n s = .next t ∧ _
  unfold execDomainVisit
  rw [if_neg (by simp [hn, hdom, hen]; omega)]
  dsimp only
  rw [if_pos h]
  exact ⟨_, rfl, by simp, Map.get_set_self⟩

/-- A domain that was deadlocked for a whole quiet window and has no report yet is reported. -/
theorem execDomainVisit_reports (hdead : s.deadlocked n = true) (hquiet : n ∉ s.hub.active)
    (hlong : Map.get (fun _ => 0) s.hub.qstart n + s.quietTicks ≤ s.elapsed) (hindl : s.regBit (Reg.dlkTen n 0) 22 = false)
    (hnone : s.hub.reports.any (fun r => decide (r.domain = n)) = false) : exec (.domainVisit n) s =
      .next (State.report { s with hub := { s.hub with active := s.hub.active.filter (fun x => decide (x ≠ n)) } } n) := by
  show execDomainVisit n s = _
  unfold execDomainVisit
  rw [if_neg (by simp [hn, hdom, hen]; omega)]
  dsimp only
  rw [if_neg (by simp [hdead, hquiet]), if_neg (by simp only [hindl, hnone]; simp; omega)]
end
end

/-- Settles O34: each event leaves the task as the lemma about its operation says; the marks and counts that go with it touch no
task (`State.taskChanged_frame`). -/
theorem taskEvents : Obligations.TaskEvents := by
  intro s n fl q v k awake
  refine ⟨?device, ?lost, ?refused, ?spres, ?release, ?target, ?early, ?warden, ?kill, ?hang, ?visit⟩
  case device =>
    intro ⟨hfree, hres⟩
    exact ⟨_, exec_sevArrival_device s n fl, State.orFlags_stays (s := s.take _) hfree hres,
      State.orFlags_wakes (s := s.take _) hfree hres⟩
  case lost =>
    intro h
    rw [exec_sevArrival_device, State.orFlags_lost (s := s.take _) fl h]
  case refused =>
    intro tenant m node htenant howner hfl hbind
    have htask : ((s.take (.sev n fl (.master tenant m node))).sevPasses (.master tenant m node)).task n = k :=
      State.task_sevPasses ..
    refine ⟨_, exec_sevArrival_master .., ?_⟩
    rw [State.sevArrive_refused htenant (by rwa [htask]) hfl hbind]
    exact htask
  case spres =>
    intro r hctx rsp
    obtain ⟨g, f, hu⟩ := s.spresArrived_frame r
    refine ⟨fun j hpick => ⟨_, execSpres_picks hctx hpick, ?_, State.mem_flight_send .., fun i hi => ?_⟩,
      fun hpick => ⟨_, execSpres_none hctx hpick, State.mem_flight_send .., ?_⟩⟩
    · rw [State.task_send, State.task_taskChanged, State.task_setTask]
    · rw [State.task_send, State.task_taskChanged, State.task_setTask_other _ _ hi, hu]
      rfl
    · rw [hu]
      rfl
  case release =>
    intro entry g c tenant arg hres
    obtain ⟨t, ht, htask⟩ := execSpawnRelease_reserved hres entry g c tenant arg
    refine ⟨t, ht, ?_⟩
    rw [htask]
    exact ⟨rfl, rfl, rfl, rfl, rfl, rfl, rfl⟩
  case target =>
    intro hwait htime
    refine ⟨_, execWaittTargetReached_reached hwait htime, ?_⟩
    rw [State.task_taskReady, State.task_setTask]
    exact ⟨rfl, rfl⟩
  case early => exact fun _ => execWaittTargetReached_early
  case warden =>
    intro a ws u hs hmay
    exact ⟨execTaskKill_of_reaches hs hmay, execEvfWrite_of_reaches hs hmay⟩
  case kill => exact State.killTask_waiting
  case hang => exact fun hlimit hbusy hnew hwaits hlate => execFlowhang_reports hlimit hbusy hnew hwaits hlate
  case visit =>
    intro hn hn' hdom hen
    exact ⟨execDomainVisit_restarts hn hn' hdom hen, fun hdead hquiet hlong hindl hnone =>
      ⟨_, execDomainVisit_reports hn hn' hdom hen hdead hquiet hlong hindl hnone, rfl⟩⟩

end Sys2Proof.Machine

/-! A long operation completes (R226, R227, R260): its results, its turn at its unit, its flags. -/

namespace Sys2Proof.Machine

section
variable {s : State} {c : CtxId} {n : Nat} {o : LongOp}

/-- Outside a custom instruction nothing is staged: the registers take the writes at once. -/
theorem Context.landWrites_of_plain {x : Context} (h : x.micro = none) (micro : Bool) (ws : List RegWrite) :
    x.landWrites micro ws = x.applyAll ws := by
  simp only [Context.landWrites, h]

/-- Only an operation of the multiplier waits for earlier ones (log 23): with none of that unit in `ops`, nothing holds `o` back. -/
theorem none_ahead_on_unit {ops : List LongOp} (hfirst : o.unit = .mult → ∀ p ∈ ops, p.unit ≠ .mult) :
    ops.any (fun p => decide (p.unit = o.unit) && decide (o.unit = .mult)) = false := by
  rw [List.any_eq_false]
  intro p hp hblocks
  obtain ⟨hsame, hmult⟩ : p.unit = o.unit ∧ o.unit = .mult := by simpa using hblocks
  exact hfirst hmult p hp (hsame.trans hmult)

/-- Flags without an enabled one among them are only recorded (R260). -/
theorem State.landFlags_quiet {y : Context} {flags : Word} (h : flags &&& 0x00001F &&& (y.fpsc >>> 8) = 0) (addr : Nat) :
    (s.setCtx c y).landFlags c flags addr = s.setCtx c { y with fpsc := y.fpsc ||| (flags &&& 0x00001F) } := by
  simp only [State.landFlags, State.ctx_setCtx, State.setCtx_setCtx, if_neg (not_not_intro h)]

/-- An enabled flag is recorded and raises FPTRAP (R260). -/
theorem State.landFlags_trap {y : Context} {flags : Word} (h : flags &&& 0x00001F &&& (y.fpsc >>> 8) ≠ 0) (addr : Nat) :
    (s.setCtx c y).landFlags c flags addr =
      (s.setCtx c { y with fpsc := y.fpsc ||| (flags &&& 0x00001F) }).raiseAlert c 1 addr := by
  simp only [State.landFlags, State.ctx_setCtx, State.setCtx_setCtx, if_pos h]

/-- An operation whose turn it is leaves the list; its results are written before its flags land. -/
theorem execLongOpComplete_of_turn (hc : ctxPresent s.member c = true) (hplain : (s.ctx c).micro = none)
    (hmicro : o.micro = false) (hget : (s.ctx c).longOps[n]? = some o)
    (hfirst : o.unit = .mult → ∀ p ∈ (s.ctx c).longOps.take n, p.unit ≠ .mult) :
    let s1 := s.setCtx c ({ s.ctx c with longOps := (s.ctx c).longOps.eraseIdx n }.applyAll o.writes)
    exec (.longOpComplete c n) s = .next (if o.fpFlags = 0 then s1 else s1.landFlags c o.fpFlags o.addr) := by
  intro s1
  show execLongOpComplete c n s = _
  unfold execLongOpComplete
  rw [if_neg (by simp [hc])]
  have hland := Context.landWrites_of_plain (x := { s.ctx c with longOps := (s.ctx c).longOps.eraseIdx n }) hplain
  simp only [hget, none_ahead_on_unit hfirst, hland, hmicro, Bool.false_and, Bool.false_eq_true, if_false]
  exact (apply_ite Host.Outcome.next (o.fpFlags = 0) s1 _).symm
end

/-- Settles O11: the results land (`execLongOpComplete_of_turn`); then the flags are recorded, and an enabled one traps. -/
theorem longOperationCompletes : Obligations.LongOperationCompletes := by
  intro s c n o hc x y z hplain hmicro hget hfirst
  rw [execLongOpComplete_of_turn hc hplain hmicro hget hfirst]
  refine ⟨fun hnone => ?_, fun hsome hquiet => ?_, fun htrap => ?_⟩
  · rw [if_pos hnone]
  · rw [if_neg hsome, State.landFlags_quiet hquiet]
  · have hsome : o.fpFlags ≠ 0 := fun hnone => htrap (by simp [hnone])
    rw [if_neg hsome, State.landFlags_trap htrap]

end Sys2Proof.Machine

/-! What the units of integer and floating-point arithmetic owe (R202, R203, R254 to R256, R268), and moves between the window and
the F registers (R203, Table 2-2). -/

namespace Sys2Proof.Machine

/-! ### Field checks (R190, R191) -/

theorem nz_of_ne {bw : Nat} {r : BitVec bw} (h : r ≠ 0) : nz r = true := bne_iff_ne.2 h

theorem fOut_of_lt {r : Reg} (h : r.toNat < 16) : fOut r = false := Nat.testBit_lt_two_pow h

theorem tripleOut_of_le {r : Reg} (h : r.toNat ≤ 29) : tripleOut r = false := decide_eq_false (by omega)

theorem pairOut_of_le {r : Reg} (h : r.toNat ≤ 30) : pairOut r = false := decide_eq_false (by omega)

/-! ### Instructions whose result comes later -/

section
variable {s : State} {c : CtxId} {b : Context → BodyOut} {u : LongUnit} {ws : List RegWrite}

theorem runBody_longInt (h : Issues s c) {mac : Bool} (hb : b (s.ctx c) = longInt u mac (s.ctx c).ip ws)
    (hu : s.unitBusy c u = false) : runBody s c b = .next (s.issued c (Claims.owesLong (s.ctx c) u mac ws)) :=
  runBody_long h hb hu rfl

theorem runBody_fpPipe (h : Issues s c) {flags : Nat} (hb : b (s.ctx c) = longFp .fpPipe (s.ctx c).ip ws flags) :
    runBody s c b = .next (s.issued c (Claims.owesFp (s.ctx c) .fpPipe ws flags)) :=
  runBody_long h hb rfl rfl

/-- The unit that the operation needs is held, so it does not issue (R227). -/
theorem runBody_unitBusy (h : Issues s c) {op : LongOp} (hb : b (s.ctx c) = .long op) (hu : s.unitBusy c op.unit = true) :
    runBody s c b = .next (s.stallCtx c false) := by
  unfold runBody
  rw [runStrand_issues h, hb]
  simp only [bodyAct, hu, if_true]
  rfl
end

/-! ### Products (R254, R255) -/

theorem product_signed (a b : Word) : product true a b = BitVec.ofInt 48 (a.toInt * b.toInt) := (BitVec.ofInt_mul ..).symm

theorem product_unsigned (a b : Word) : product false a b = BitVec.ofNat 48 (a.toNat * b.toNat) := by
  rw [BitVec.ofNat_mul]
  simp [product]

/-- The product of two signed words fits 48 bits. -/
theorem toInt_product_signed (a b : Word) : (product true a b).toInt = a.toInt * b.toInt := by
  have hlow : -(2 ^ 46) ≤ a.toInt * b.toInt := BitVec.le_toInt_mul_toInt
  have hhigh : a.toInt * b.toInt ≤ 2 ^ 46 := BitVec.toInt_mul_toInt_le
  rw [product_signed, BitVec.toInt_ofInt_eq_self] <;> omega

/-- The product of two unsigned words fits 48 bits. -/
theorem toNat_product_unsigned (a b : Word) : (product false a b).toNat = a.toNat * b.toNat := by
  have hfits : a.toNat * b.toNat < 2 ^ 24 * 2 ^ 24 := Nat.mul_lt_mul'' a.isLt b.isLt
  rw [product_unsigned, BitVec.toNat_ofNat]
  exact Nat.mod_eq_of_lt hfits

theorem productExt_signed (a b : Word) : productExt true a b = BitVec.ofInt 72 (a.toInt * b.toInt) :=
  congrArg (BitVec.ofInt 72) (toInt_product_signed a b)

theorem productExt_unsigned (a b : Word) : productExt false a b = BitVec.ofNat 72 (a.toNat * b.toNat) := by
  rw [← toNat_product_unsigned]
  exact (BitVec.ofNat_toNat 72 (product false a b)).symm

/-- The low word of a product is the product modulo 2²⁴ (R254). -/
theorem product_low (a b : Word) : (product false a b).extractLsb' 0 24 = a * b := by
  rw [← BitVec.setWidth_eq_extractLsb' (by decide)]
  simp [product, BitVec.setWidth_mul]

section
variable {s : State} {c : CtxId} {a b : Reg}

theorem runBody_mul (h : Issues s c)
    (hfree : (s.ctx c).owes ((s.ctx c).wRefs a 1 ++ (s.ctx c).wRefs b 1 ++ [.pl, .ph]) = false) (signed : Bool) :
    runBody s c (fun x => bodyMul signed x 0 a b) = .next (s.issued c (Claims.owesLong (s.ctx c) .mult false
      (Claims.productWrites (product signed ((s.ctx c).w a.toNat) ((s.ctx c).w b.toNat))))) :=
  runBody_longInt h (gate_pass rfl rfl hfree) rfl

theorem runBody_mulw {d : Reg} (h : Issues s c)
    (hfree : (s.ctx c).owes ((s.ctx c).wRefs a 1 ++ (s.ctx c).wRefs b 1 ++ (s.ctx c).wRefs d 1) = false) :
    runBody s c (fun x => bodyMulw x d a b) = .next (s.issued c (Claims.owesLong (s.ctx c) .mult false
      [(s.ctx c).wr d ((s.ctx c).w a.toNat * (s.ctx c).w b.toNat)])) := by
  rw [← product_low]
  exact runBody_longInt h (gate_pass rfl rfl hfree) rfl

theorem runBody_mac (h : Issues s c) (hfree : (s.ctx c).owes ((s.ctx c).wRefs a 1 ++ (s.ctx c).wRefs b 1) = false)
    (hacc : (s.ctx c).accHeld = false) (signed sub : Bool) :
    let p := productExt signed ((s.ctx c).w a.toNat) ((s.ctx c).w b.toNat)
    runBody s c (fun x => bodyMac signed sub x 0 a b) = .next (s.issued c (Claims.owesLong (s.ctx c) .mult true
      [.acc (if sub then (s.ctx c).accNow - p else (s.ctx c).accNow + p)])) :=
  runBody_longInt h ((gate_pass rfl rfl hfree).trans (if_neg (by simp [hacc]))) rfl
end

/-- Settles O8: the operation goes to the multiplier with the product that `product` or `productExt` forms, and that product is exact
(`product_signed`, `productExt_signed` and their unsigned companions). -/
theorem multiplyResults : Obligations.MultiplyResults := by
  intro s c d a b h x u v
  refine ⟨fun hfree => ?product, fun hfree => runBody_mulw h hfree, fun hfree hacc => ?accumulate, fun hd => ?illegal⟩
  case product =>
    rw [← product_signed, ← product_unsigned]
    exact ⟨runBody_mul h hfree true, runBody_mul h hfree false⟩
  case accumulate =>
    rw [← productExt_signed, ← productExt_unsigned]
    have owes := runBody_mac h hfree hacc
    exact ⟨owes true false, owes false false, owes true true, owes false true⟩
  case illegal =>
    have hmul := fun signed => runBody_raise (b := fun x => bodyMul signed x d a b) h (gate_ill (nz_of_ne hd))
    have hmac := fun signed sub => runBody_raise (b := fun x => bodyMac signed sub x d a b) h (gate_ill (nz_of_ne hd))
    exact ⟨hmul true, hmul false, hmac true false, hmac false false, hmac true true, hmac false true⟩

/-! ### Quotients and remainders (R256) -/

theorem divide_zero (signed : Bool) (a : Word) : divide signed a 0 = (0xFFFFFF, a) := if_pos rfl

theorem divide_unsigned {b : Word} (h : b ≠ 0) (a : Word) : divide false a b = (a / b, a % b) := if_neg h

theorem divide_signed {b : Word} (h : b ≠ 0) (a : Word) :
    divide true a b = (BitVec.ofInt 24 (a.toInt.tdiv b.toInt), a.srem b) := by
  rw [← BitVec.ofInt_toInt (x := a.srem b), BitVec.toInt_srem]
  exact if_neg h

/-- Only the quotient of −2²³ by −1 does not fit a word. -/
theorem toInt_quotient {a b : Word} (h : ¬(a = 0x800000 ∧ b = 0xFFFFFF)) :
    (BitVec.ofInt 24 (a.toInt.tdiv b.toInt)).toInt = a.toInt.tdiv b.toInt := by
  rw [← BitVec.toInt_sdiv_of_ne_or_ne a b (Decidable.not_and_iff_not_or_not.1 h), BitVec.ofInt_toInt]

/-- A remainder rounded toward zero has the sign of the dividend, or is 0. -/
theorem tmod_sign (m n : Int) : m.tmod n = 0 ∨ (m.tmod n < 0 ↔ m < 0) := by
  have hsign := Int.sign_tmod m n
  split at hsign
  · exact .inl (Int.sign_eq_zero_iff_zero.1 hsign)
  · exact .inr (by rw [← Int.sign_eq_neg_one_iff_neg, hsign, Int.sign_eq_neg_one_iff_neg])

theorem divide_signed_spec {a b : Word} (hb : b ≠ 0) (hfits : ¬(a = 0x800000 ∧ b = 0xFFFFFF)) :
    (divide true a b).1.toInt * b.toInt + (divide true a b).2.toInt = a.toInt ∧
      (divide true a b).2.toInt.natAbs < b.toInt.natAbs ∧
      ((divide true a b).2.toInt = 0 ∨ ((divide true a b).2.toInt < 0 ↔ a.toInt < 0)) := by
  rw [divide_signed hb, toInt_quotient hfits, BitVec.toInt_srem]
  refine ⟨Int.tdiv_mul_add_tmod .., ?_, tmod_sign ..⟩
  rw [Int.natAbs_tmod]
  exact Nat.mod_lt _ (Int.natAbs_pos.2 fun hzero => hb (BitVec.eq_of_toInt_eq hzero))

theorem divide_unsigned_spec {b : Word} (hb : b ≠ 0) (a : Word) :
    (divide false a b).1.toNat * b.toNat + (divide false a b).2.toNat = a.toNat ∧ (divide false a b).2.toNat < b.toNat := by
  rw [divide_unsigned hb, BitVec.toNat_udiv, BitVec.toNat_umod]
  exact ⟨Nat.div_add_mod' .., Nat.mod_lt _ (Nat.pos_of_ne_zero fun hzero => hb (BitVec.eq_of_toNat_eq hzero))⟩

section
variable {s : State} {c : CtxId} {a b : Reg} (h : Issues s c)
  (hfree : (s.ctx c).owes ((s.ctx c).wRefs a 1 ++ (s.ctx c).wRefs b 1 ++ [.pl, .ph]) = false) (signed : Bool)
include h hfree

theorem runBody_div (hidle : s.unitBusy c .divider = false) :
    let r := divide signed ((s.ctx c).w a.toNat) ((s.ctx c).w b.toNat)
    runBody s c (fun x => bodyDiv signed x 0 a b) =
      .next (s.issued c (Claims.owesLong (s.ctx c) .divider false [.pl r.1, .ph r.2])) :=
  runBody_longInt h (gate_pass rfl rfl hfree) hidle

theorem runBody_div_busy (hbusy : s.unitBusy c .divider = true) :
    runBody s c (fun x => bodyDiv signed x 0 a b) = .next (s.stallCtx c false) :=
  runBody_unitBusy h (gate_pass rfl rfl hfree) hbusy
end

/-- Settles O9: a free divider owes what `divide` answers (`runBody_div`), which obeys the laws of division (`divide_signed_spec`,
`divide_unsigned_spec`) outside its two edges; a busy divider stalls. -/
theorem divideResults : Obligations.DivideResults := by
  intro s c a b h x u v hfree
  refine ⟨fun hidle => ⟨?signed, ?unsigned⟩, fun hbusy => ?stall⟩
  case signed =>
    refine ⟨_, _, runBody_div h hfree true hidle, fun hzero => ?_, fun hu hv => ?_, divide_signed_spec⟩
    · exact Prod.ext_iff.1 (hzero ▸ divide_zero true u)
    · exact Prod.ext_iff.1 (show divide true u v = (0x800000, 0) by rw [hu, hv]; decide)
  case unsigned =>
    refine ⟨_, _, runBody_div h hfree false hidle, fun hzero => ?_, fun hv => divide_unsigned_spec hv u⟩
    exact Prod.ext_iff.1 (hzero ▸ divide_zero false u)
  case stall => exact ⟨runBody_div_busy h hfree true hbusy, runBody_div_busy h hfree false hbusy⟩

/-! ### The bits of an F register in the window (Table 2-2) -/

theorem toNat_append_eq_add {m n : Nat} (p : BitVec m) (q : BitVec n) : (p ++ q).toNat = p.toNat * 2 ^ n + q.toNat := by
  rw [BitVec.toNat_append, ← Nat.shiftLeft_add_eq_or_of_lt q.isLt, Nat.shiftLeft_eq]

/-- Three words make a double: all of the lower two, and bits [15:0] of the upper one. -/
theorem doubleOfWords_eq (lo mid hi : Word) : hi.extractLsb' 0 16 ++ mid ++ lo =
    BitVec.ofNat 64 (hi.toNat % 2 ^ 16 * 2 ^ 48 + mid.toNat * 2 ^ 24 + lo.toNat) := by
  refine BitVec.eq_of_toNat_eq ?_
  rw [toNat_append_eq_add, toNat_append_eq_add, BitVec.extractLsb'_toNat, BitVec.toNat_ofNat]
  omega

/-- Two words make a single: all of the lower one, and bits [7:0] of the upper one. -/
theorem singleOfWords_eq (lo hi : Word) : (0 : BitVec 32) ++ (hi.extractLsb' 0 8 ++ lo) =
    BitVec.ofNat 64 (hi.toNat % 2 ^ 8 * 2 ^ 24 + lo.toNat) := by
  refine BitVec.eq_of_toNat_eq ?_
  rw [toNat_append_eq_add, toNat_append_eq_add, BitVec.extractLsb'_toNat, BitVec.toNat_ofNat]
  simp
  omega

theorem extractLsb'_eq_ofNat_div {w : Nat} (v : BitVec w) (i n : Nat) : v.extractLsb' i n = BitVec.ofNat n (v.toNat / 2 ^ i) :=
  congrArg (BitVec.ofNat n) (Nat.shiftRight_eq_div_pow ..)

theorem zeroExtend_extractLsb'_eq_ofNat {w : Nat} (v : BitVec w) (i n m : Nat) :
    (v.extractLsb' i n).zeroExtend m = BitVec.ofNat m (v.toNat / 2 ^ i % 2 ^ n) := by
  rw [BitVec.zeroExtend_eq_setWidth, ← BitVec.ofNat_toNat, BitVec.extractLsb'_toNat, Nat.shiftRight_eq_div_pow]

section
variable {x : Context} {d a b : Reg}

theorem bodyFmvwD_free (hd : d.toNat < 16) (ha : a.toNat ≤ 29) (hfree : x.owes (.freg d.toNat :: x.wRefs a 3) = false) :
    bodyFmvwD x d a b = .ok [.freg d.toNat (BitVec.ofNat 64 ((x.w (a.toNat + 2)).toNat % 2 ^ 16 * 2 ^ 48
      + (x.w (a.toNat + 1)).toNat * 2 ^ 24 + (x.w a.toNat).toNat))] := by
  rw [← doubleOfWords_eq]
  exact gate_pass (fOut_of_lt hd) (tripleOut_of_le ha) hfree

theorem bodyFmvwS_free (hd : d.toNat < 16) (ha : a.toNat ≤ 30) (hfree : x.owes (.freg d.toNat :: x.wRefs a 2) = false) :
    bodyFmvwS x d a b = .ok [.freg d.toNat (BitVec.ofNat 64 ((x.w (a.toNat + 1)).toNat % 2 ^ 8 * 2 ^ 24
      + (x.w a.toNat).toNat))] := by
  rw [← singleOfWords_eq]
  exact gate_pass (fOut_of_lt hd) (pairOut_of_le ha) hfree

theorem bodyWmvfD_free (ha : a.toNat < 16) (hd : d.toNat ≤ 29) (hfree : x.owes (.freg a.toNat :: x.wRefs d 3) = false) :
    bodyWmvfD x d a b = .ok [.ring (x.wi d.toNat) (BitVec.ofNat 24 (x.fr a.toNat).toNat),
      .ring (x.wi (d.toNat + 1)) (BitVec.ofNat 24 ((x.fr a.toNat).toNat / 2 ^ 24)),
      .ring (x.wi (d.toNat + 2)) (BitVec.ofNat 24 ((x.fr a.toNat).toNat / 2 ^ 48))] := by
  have htop : (x.fr a.toNat).toNat / 2 ^ 48 < 2 ^ 16 := by omega
  rw [← extractLsb'_eq_ofNat_div, ← Nat.mod_eq_of_lt htop, ← zeroExtend_extractLsb'_eq_ofNat]
  exact gate_pass (fOut_of_lt ha) (tripleOut_of_le hd) hfree

theorem bodyWmvfS_free (ha : a.toNat < 16) (hd : d.toNat ≤ 30) (hfree : x.owes (.freg a.toNat :: x.wRefs d 2) = false) :
    bodyWmvfS x d a b = .ok [.ring (x.wi d.toNat) (BitVec.ofNat 24 (x.fr a.toNat).toNat),
      .ring (x.wi (d.toNat + 1)) (BitVec.ofNat 24 ((x.fr a.toNat).toNat / 2 ^ 24 % 2 ^ 8))] := by
  rw [← zeroExtend_extractLsb'_eq_ofNat]
  exact gate_pass (fOut_of_lt ha) (pairOut_of_le hd) hfree
end

/-- Settles O14: a conversion goes to the FP pipe, which is never held (R227); a move writes at once the bits that its `_free` lemma
names. -/
theorem convertAndMoveFpResults : Obligations.ConvertAndMoveFpResults := by
  intro s c d a b h x u owing fr
  refine ⟨fun hd ha hfree => ?float, fun hd hfree => ?ofInt, fun ha hfree => ?toInt, fun hd ha hfree => ?toDouble,
    fun hd ha hfree => ?toSingle, fun ha hd hfree => ?ofDouble, fun ha hd hfree => ?ofSingle⟩
  case float =>
    have hfields : (fOut d || fOut a) = false := Bool.or_eq_false_iff.2 ⟨fOut_of_lt hd, fOut_of_lt ha⟩
    exact ⟨runBody_fpPipe (b := fun x => bodyFcvtSD x d a b) h (gate_pass hfields rfl hfree),
      runBody_fpPipe (b := fun x => bodyFcvtDS x d a b) h (gate_pass hfields rfl hfree)⟩
  case ofInt => exact runBody_fpPipe (b := fun x => bodyFitof x d a b) h (gate_pass (fOut_of_lt hd) rfl hfree)
  case toInt => exact runBody_fpPipe (b := fun x => bodyFftoi x d a b) h (gate_pass (fOut_of_lt ha) rfl hfree)
  case toDouble => exact runBody_ok (b := fun x => bodyFmvwD x d a b) h (bodyFmvwD_free hd ha hfree) rfl
  case toSingle => exact runBody_ok (b := fun x => bodyFmvwS x d a b) h (bodyFmvwS_free hd ha hfree) rfl
  case ofDouble => exact runBody_ok (b := fun x => bodyWmvfD x d a b) h (bodyWmvfD_free ha hd hfree) rfl
  case ofSingle => exact runBody_ok (b := fun x => bodyWmvfS x d a b) h (bodyWmvfS_free ha hd hfree) rfl

end Sys2Proof.Machine

/-! Requests at scratchpads, DDR, legacy RAM and code stores (R282, R287, R288, R294, R297, R343, R344, R486, R489): what a request
on its way leaves alone, what a run of writes leaves in its memory, and the answers of the node that it reaches. -/

namespace Sys2Proof.Machine

section
variable {s t : State}

/-! ### Registers that a request's way leaves alone

The filters of a cluster count in word 7 of their 16 words (R361); no register that places words in a memory has such an
address. -/

theorem State.filterSees_reg (s : State) (c k port : Nat) (h : Triple) (retry poison : Bool) {a : Nat} (ha : a % 16 ≠ 7) :
    (s.filterSees c k port h retry poison).reg a = s.reg a := by
  have hbump : (s.bump (Reg.blv c k 7)).reg a = s.reg a :=
    s.reg_bump_other fun e => ha (by rw [e, Reg.blv]; omega)
  unfold State.filterSees
  dsimp only
  split
  · split
    · exact hbump
    · exact hbump
  · rfl

theorem State.passes_reg (s : State) (src dst : Nat) (h : Triple) (poison : Bool) {a : Nat} (ha : a % 16 ≠ 7) :
    (s.passes src dst h poison).reg a = s.reg a := by
  unfold State.passes
  generalize route s.member src dst = l
  induction l generalizing s with
  | nil => rfl
  | cons e l ih =>
    rw [List.foldl_cons, ih]
    simp only [State.clusterSees, State.filterSees_reg _ _ _ _ _ _ _ ha]

section
variable (s : State) (q : Req) (op : ReqOp)

theorem arrived_frame : ∃ r f, Claims.arrived s q op = { s with regs := r, flight := f } :=
  (s.take (.req q op)).passes_frame ..

theorem arrived_reg {a : Nat} (ha : a % 16 ≠ 7) : (Claims.arrived s q op).reg a = s.reg a :=
  State.passes_reg _ _ _ _ _ ha

@[simp] theorem arrived_memory : (Claims.arrived s q op).memory = s.memory := by
  obtain ⟨r, f, e⟩ := arrived_frame s q op
  rw [e]

theorem arrived_ddrRead (k : Nat) : (Claims.arrived s q op).ddrRead k = s.ddrRead k := by
  rw [State.ddrRead, arrived_memory, State.ddrRead]

theorem arrived_legRead (k : Nat) : (Claims.arrived s q op).legRead k = s.legRead k := by
  rw [State.legRead, arrived_memory, State.legRead]

@[simp] theorem arrived_strands : (Claims.arrived s q op).strands = s.strands := by
  obtain ⟨r, f, e⟩ := arrived_frame s q op
  rw [e]

theorem arrived_codeRead (p k : Nat) : (Claims.arrived s q op).codeRead p k = s.codeRead p k := by
  rw [State.codeRead, arrived_strands, State.codeRead]

@[simp] theorem arrived_pair : (Claims.arrived s q op).pair = s.pair := by
  obtain ⟨r, f, e⟩ := arrived_frame s q op
  rw [e]

@[simp] theorem arrived_pairShadow : (Claims.arrived s q op).pairShadow = s.pairShadow := by
  have hreg := arrived_reg s q op (a := Reg.depPair 0) (by decide)
  unfold State.pairShadow State.pairState State.pairRole State.regField
  rw [hreg, arrived_member, arrived_pair]

@[simp] theorem arrived_ddrPresent (d : Nat) : (Claims.arrived s q op).ddrPresent d = s.ddrPresent d := by
  have hreg (c : Nat) := arrived_reg s q op (a := Reg.ddr c 0) (by rw [Reg.ddr]; omega)
  unfold State.ddrPresent State.ddrChannel State.ddrIndex State.regBit State.regField
  dsimp only
  rw [arrived_member, hreg]
end

/-! ### Words of a scratchpad (R282) -/

/-- `t` holds the memories of `s` and lays its scratchpads out in the same context areas. -/
structure SameSpads (s t : State) : Prop where
  memory : t.memory = s.memory
  ctxs : ∀ p, t.ctxs p = s.ctxs p

theorem SameSpads.inCtxArea (h : SameSpads s t) (p k : Nat) : t.inCtxArea p k = s.inCtxArea p k := by
  rw [State.inCtxArea, State.blockSize, h.ctxs, State.inCtxArea, State.blockSize]

theorem SameSpads.spadRead (h : SameSpads s t) (p k : Nat) : t.spadRead p k = s.spadRead p k := by
  unfold State.spadRead State.rowWritten State.spadRaw
  rw [h.inCtxArea, h.memory]

theorem SameSpads.spadLoad (h : SameSpads s t) (p a n : Nat) : t.spadLoad p a n = s.spadLoad p a n := by
  simp only [State.spadLoad, h.spadRead]

/-- A request on its way and the count of its accesses change no word of a scratchpad. -/
theorem arrived_sameSpads (s : State) (q : Req) (op : ReqOp) (a n : Nat) :
    SameSpads s ((Claims.arrived s q op).countRemote q.dest a n) where
  memory := by rw [State.countRemote, State.bumpBy_memory, arrived_memory]
  ctxs p := by
    have hcount : pavBase p + 0x201 ≠ Reg.spadStat q.dest 6 := by simp only [Reg.spadStat, pavBase]; omega
    have hway : (pavBase p + 0x201) % 16 ≠ 7 := by rw [pavBase]; omega
    simp only [State.ctxs, State.regField, State.countRemote, State.bumpBy, State.reg_setReg_other _ _ hcount,
      arrived_reg s q op hway]

theorem spadKey_inj {p a p' k : Nat} (ha : a < 65536) (hk : k < 65536) : spadKey p' k = spadKey p a ↔ p' = p ∧ k = a := by
  simp only [spadKey]
  omega

theorem State.spadRaw_setSpadRaw (s : State) {p a p' k : Nat} (v : Word) (ha : a < 65536) (hk : k < 65536) :
    (s.setSpadRaw p a v).spadRaw p' k = if p' = p ∧ k = a then v else s.spadRaw p' k := by
  simp only [State.spadRaw, State.setSpadRaw, Map.get_set, spadKey_inj ha hk]

theorem State.spadRaw_zeroRow (s : State) {p row p' k n : Nat} (hn : 8 * row + n ≤ 65536) (hk : k < 65536) :
    (s.zeroRow p row n).spadRaw p' k = if p' = p ∧ 8 * row ≤ k ∧ k < 8 * row + n then 0 else s.spadRaw p' k := by
  induction n with
  | zero => rw [if_neg (by omega)]; rfl
  | succ n ih =>
    rw [State.zeroRow, State.spadRaw_setSpadRaw _ _ (by omega) hk, ih (by omega)]
    by_cases hlast : p' = p ∧ k = 8 * row + n
    · rw [if_pos hlast, if_pos (by omega)]
    · rw [if_neg hlast]
      exact ite_congr (propext (by omega)) (fun _ => rfl) (fun _ => rfl)

/-- Zeroing a row writes words of the array alone. -/
theorem State.zeroRow_spad (s : State) (p row n : Nat) :
    ∃ m, s.zeroRow p row n = { s with memory := { s.memory with spad := m } } := by
  induction n with
  | zero => exact ⟨_, rfl⟩
  | succ n ih =>
    obtain ⟨m, h⟩ := ih
    exact ⟨_, by rw [State.zeroRow, h]; rfl⟩

/-- The state in which a write of word `a` finds its row: the first write to a row of the context area fills it (R282). -/
def State.rowReady (s : State) (p a : Nat) : State :=
  if s.inCtxArea p a && !(s.rowWritten p (a / 8)) then (s.zeroRow p (a / 8) 8).setWritten p (a / 8) true else s

theorem State.spadWrite_eq (s : State) (p a : Nat) (v : Word) :
    s.spadWrite p a v = ((s.rowReady p a).setSpadRaw p a v).setSpadBad p a false := rfl

theorem State.rowReady_frame (s : State) (p a : Nat) :
    ∃ m w, s.rowReady p a = { s with memory := { s.memory with spad := m, written := w } } := by
  obtain ⟨m, h⟩ := s.zeroRow_spad p (a / 8) 8
  unfold State.rowReady
  split
  · exact ⟨m, _, by rw [h]; rfl⟩
  · exact ⟨_, _, rfl⟩

/-- A write touches the words, the written bits and the poison of the scratchpads. -/
theorem State.spadWrite_spad (s : State) (p a : Nat) (v : Word) : ∃ m w b,
    s.spadWrite p a v = { s with memory := { s.memory with spad := m, written := w, poisoned := b } } := by
  obtain ⟨m, w, h⟩ := s.rowReady_frame p a
  exact ⟨_, w, _, by rw [State.spadWrite_eq, h]; rfl⟩

@[simp] theorem State.inCtxArea_rowReady (s : State) (p a p' k : Nat) : (s.rowReady p a).inCtxArea p' k = s.inCtxArea p' k := by
  obtain ⟨m, w, h⟩ := s.rowReady_frame p a
  rw [h]
  rfl

/-- A context area ends with a whole row. -/
theorem State.inCtxArea_of_row (s : State) (p : Nat) {a k : Nat} (h : k / 8 = a / 8) : s.inCtxArea p k = s.inCtxArea p a :=
  decide_eq_decide.2 (by omega)

theorem State.rowWritten_setWritten (s : State) {p row p' row' : Nat} (b : Bool) (hr : row < 8192) (hr' : row' < 8192) :
    (s.setWritten p row b).rowWritten p' row' = if p' = p ∧ row' = row then b else s.rowWritten p' row' := by
  have hkey : rowKey p' row' = rowKey p row ↔ p' = p ∧ row' = row := by simp only [rowKey]; omega
  simp only [State.rowWritten, State.setWritten, Map.get_set, hkey]

theorem State.spadRaw_setWritten (s : State) (p row p' k : Nat) (b : Bool) :
    (s.setWritten p row b).spadRaw p' k = s.spadRaw p' k := rfl

theorem State.rowWritten_zeroRow (s : State) (p row n p' row' : Nat) :
    (s.zeroRow p row n).rowWritten p' row' = s.rowWritten p' row' := by
  obtain ⟨m, h⟩ := s.zeroRow_spad p row n
  rw [h]
  rfl

/-- Filling a row with zeros changes no word that is read: the unwritten row read as zero (R282). -/
theorem State.spadRead_rowReady (s : State) {p a p' k : Nat} (ha : a < 65536) (hk : k < 65536) :
    (s.rowReady p a).spadRead p' k = s.spadRead p' k := by
  unfold State.spadRead
  rw [State.inCtxArea_rowReady]
  unfold State.rowReady
  split
  case isFalse => rfl
  case isTrue hnew =>
    rw [State.spadRaw_setWritten, State.spadRaw_zeroRow s (by omega) hk, State.rowWritten_setWritten _ _ (by omega) (by omega),
      State.rowWritten_zeroRow]
    by_cases hrow : p' = p ∧ k / 8 = a / 8
    · have hzero : p' = p ∧ 8 * (a / 8) ≤ k ∧ k < 8 * (a / 8) + 8 := by omega
      obtain ⟨rfl, hka⟩ := hrow
      rw [if_pos hzero, ite_self, s.inCtxArea_of_row p' hka, hka, hnew, if_pos rfl]
    · rw [if_neg hrow, if_neg (show ¬ (p' = p ∧ 8 * (a / 8) ≤ k ∧ k < 8 * (a / 8) + 8) by omega)]

/-- The row of a word that is being written counts as written, where that matters. -/
theorem State.rowReady_written (s : State) {p a : Nat} (ha : a < 65536) :
    (s.inCtxArea p a && !((s.rowReady p a).rowWritten p (a / 8))) = false := by
  unfold State.rowReady
  split
  case isFalse h => exact Bool.eq_false_iff.2 h
  case isTrue => simp [State.rowWritten_setWritten _ _ (show a / 8 < 8192 by omega) (show a / 8 < 8192 by omega)]

/-- A word put in the array reads as put where its row counts as written, and nothing else reads otherwise. -/
theorem State.spadRead_put (s : State) {p a p' k : Nat} (v : Word) (ha : a < 65536) (hk : k < 65536) :
    ((s.setSpadRaw p a v).setSpadBad p a false).spadRead p' k =
      if s.inCtxArea p' k && !(s.rowWritten p' (k / 8)) then 0 else if p' = p ∧ k = a then v else s.spadRaw p' k := by
  rw [← State.spadRaw_setSpadRaw _ _ ha hk]
  rfl

/-- A word reads as written, and every other word of every scratchpad as before (R282). -/
theorem State.spadRead_spadWrite (s : State) {p a p' k : Nat} (v : Word) (ha : a < 65536) (hk : k < 65536) :
    (s.spadWrite p a v).spadRead p' k = if p' = p ∧ k = a then v else s.spadRead p' k := by
  rw [State.spadWrite_eq, State.spadRead_put _ v ha hk, State.inCtxArea_rowReady]
  by_cases hself : p' = p ∧ k = a
  · obtain ⟨rfl, rfl⟩ := hself
    rw [s.rowReady_written ha]
    simp
  · rw [if_neg hself, if_neg hself, ← s.spadRead_rowReady ha hk, State.spadRead, State.inCtxArea_rowReady]

/-! ### Runs of writes

The memories store a run word by word, each through its own write; what holds of the writes gives what the run leaves. -/

section
variable {β : Type} {write : State → Nat → Word → State} {f : State → β}

/-- Write words from an address on. -/
def storeRun (write : State → Nat → Word → State) (s : State) (a : Nat) : List Word → State
  | [] => s
  | w :: ws => storeRun write (write s a w) (a + 1) ws

/-- What no write of the run changes, the run does not change. -/
theorem storeRun_keeps {ws : List Word} {a : Nat}
    (h : ∀ s i v, a ≤ i → i < a + ws.length → f (write s i v) = f s) (s : State) : f (storeRun write s a ws) = f s := by
  induction ws generalizing s a with
  | nil => rfl
  | cons w ws ih =>
    rw [List.length_cons] at h
    rw [storeRun, ih fun s i v hi hlt => h s i v (by omega) (by omega)]
    exact h s a w (by omega) (by omega)

/-- What only the write of word `j` of the run changes is as that write leaves it. -/
theorem storeRun_at {g : β → Word → β} {ws : List Word} {a j : Nat} (hj : j < ws.length)
    (hself : ∀ s v, f (write s (a + j) v) = g (f s) v)
    (hother : ∀ s i v, a ≤ i → i < a + ws.length → i ≠ a + j → f (write s i v) = f s) (s : State) :
    f (storeRun write s a ws) = g (f s) (ws[j]?.getD 0) := by
  induction ws generalizing s a j with
  | nil => exact absurd hj (Nat.not_lt_zero _)
  | cons w ws ih =>
    rw [List.length_cons] at hj hother
    rw [storeRun]
    cases j with
    | zero =>
      rw [storeRun_keeps fun s i v hi hlt => hother s i v (by omega) (by omega) (by omega)]
      exact hself s w
    | succ j =>
      have hstep : a + (j + 1) = a + 1 + j := by omega
      rw [hstep] at hself
      rw [ih (by omega) hself fun s i v hi hlt hne => hother s i v (by omega) (by omega) (by omega),
        hother s a w (by omega) (by omega) (by omega)]
      rfl
end

/-- The write of a scratchpad word through a view. -/
def State.spadPut (p view : Nat) (s : State) (a : Nat) (v : Word) : State :=
  s.spadWrite p a (viewWrite view (s.spadRead p a) v)

theorem State.spadStore_eq (s : State) (p a view : Nat) (ws : List Word) :
    s.spadStore p a view ws = storeRun (State.spadPut p view) s a ws := by
  induction ws generalizing s a with
  | nil => rfl
  | cons w ws ih => exact ih ..

theorem State.writeDdr_eq (s : State) (a : Nat) (ws : List Word) : s.writeDdr a ws = storeRun State.ddrWrite s a ws := by
  induction ws generalizing s a with
  | nil => rfl
  | cons w ws ih => exact ih ..

/-- The device's write of a legacy word; word 0x7FFF sets INTPEND (R490). -/
def State.legPut (s : State) (a : Nat) (v : Word) : State :=
  if a = 0x7FFF then (s.legWrite a v).setRegField (Reg.legStat 0) 23 1 1 else s.legWrite a v

theorem State.writeLegacy_eq (s : State) (a : Nat) (ws : List Word) : s.writeLegacy a ws = storeRun State.legPut s a ws := by
  induction ws generalizing s a with
  | nil => rfl
  | cons w ws ih => exact ih ..

theorem State.legPut_memory (s : State) (a : Nat) (v : Word) : (s.legPut a v).memory = (s.legWrite a v).memory := by
  unfold State.legPut
  split <;> rfl

theorem State.legRead_legPut (s : State) (a k : Nat) (v : Word) :
    (s.legPut a v).legRead k = if k = a then v &&& 0x00FFFF else s.legRead k := by
  unfold State.legRead
  rw [State.legPut_memory]
  exact Map.get_set

theorem State.ddrRead_ddrWrite (s : State) (a k : Nat) (v : Word) :
    (s.ddrWrite a v).ddrRead k = if k = a then v else s.ddrRead k := Map.get_set

/-- In `t` the run `ws` from word `a` of scratchpad `p` on is stored over the words of `s` through a view (R288), and every other
word of the scratchpads, DDR and legacy RAM is as in `s`. -/
def SpadStored (s t : State) (p a view : Nat) (ws : List Word) : Prop :=
  (∀ j, j < ws.length → t.spadRead p (a + j) = viewWrite view (s.spadRead p (a + j)) (ws[j]?.getD 0)) ∧
  (∀ p' k, k < 65536 → ¬ (p' = p ∧ a ≤ k ∧ k < a + ws.length) → t.spadRead p' k = s.spadRead p' k) ∧
  t.memory.ddr = s.memory.ddr ∧ t.memory.legacy = s.memory.legacy

theorem spadStore_stored (s : State) {p a : Nat} {ws : List Word} (view : Nat) (hrun : a + ws.length ≤ 65536) :
    SpadStored s (s.spadStore p a view ws) p a view ws := by
  have hframe (s : State) (i : Nat) (v : Word) := s.spadWrite_spad p i (viewWrite view (s.spadRead p i) v)
  rw [State.spadStore_eq]
  refine ⟨fun j hj => ?words, fun p' k hk hout => ?others, ?ddr, ?legacy⟩
  case words =>
    refine storeRun_at (f := (State.spadRead · p (a + j))) hj (fun s v => ?_) (fun s i v _ hlt hne => ?_) s
    · exact (s.spadRead_spadWrite _ (by omega) (by omega)).trans (if_pos ⟨rfl, rfl⟩)
    · exact (s.spadRead_spadWrite _ (by omega) (by omega)).trans (if_neg fun h => hne h.2.symm)
  case others =>
    refine storeRun_keeps (f := (State.spadRead · p' k)) (fun s i v hi hlt => ?_) s
    exact (s.spadRead_spadWrite _ (by omega) hk).trans (if_neg fun ⟨hp, hki⟩ => hout ⟨hp, by omega, by omega⟩)
  case ddr =>
    refine storeRun_keeps (f := fun s => s.memory.ddr) (fun s i v _ _ => ?_) s
    obtain ⟨m, w, b, h⟩ := hframe s i v
    rw [State.spadPut, h]
  case legacy =>
    refine storeRun_keeps (f := fun s => s.memory.legacy) (fun s i v _ _ => ?_) s
    obtain ⟨m, w, b, h⟩ := hframe s i v
    rw [State.spadPut, h]

/-- What is stored over a state that reads as `s` does is stored over `s`. -/
theorem SameSpads.stored {u : State} {p a view : Nat} {ws : List Word} (h : SameSpads s u)
    (hst : SpadStored u t p a view ws) : SpadStored s t p a view ws := by
  obtain ⟨hwords, hothers, hddr, hleg⟩ := hst
  refine ⟨fun j hj => ?_, fun p' k hk hout => ?_, by rw [hddr, h.memory], by rw [hleg, h.memory]⟩
  · rw [hwords j hj, h.spadRead]
  · rw [hothers p' k hk hout, h.spadRead]

/-- A packet that leaves changes nothing stored. -/
theorem SpadStored.send {p a view : Nat} {ws : List Word} (hst : SpadStored s t p a view ws) (k : Packet) :
    SpadStored s (t.send k) p a view ws := hst

theorem ddrRead_writeDdr_run (s : State) (a : Nat) {ws : List Word} {j : Nat} (hj : j < ws.length) :
    (s.writeDdr a ws).ddrRead (a + j) = ws[j]?.getD 0 := by
  rw [State.writeDdr_eq]
  exact storeRun_at (f := (State.ddrRead · (a + j))) (g := fun _ v => v) hj
    (fun s v => (s.ddrRead_ddrWrite ..).trans (if_pos rfl))
    (fun s i v _ _ hne => (s.ddrRead_ddrWrite ..).trans (if_neg hne.symm)) s

theorem ddrRead_writeDdr_other (s : State) {a k : Nat} {ws : List Word} (hk : ¬ (a ≤ k ∧ k < a + ws.length)) :
    (s.writeDdr a ws).ddrRead k = s.ddrRead k := by
  rw [State.writeDdr_eq]
  exact storeRun_keeps (f := (State.ddrRead · k))
    (fun s i v _ _ => (s.ddrRead_ddrWrite ..).trans (if_neg (by omega))) s

theorem writeDdr_spad (s : State) (a : Nat) (ws : List Word) : (s.writeDdr a ws).memory.spad = s.memory.spad := by
  rw [State.writeDdr_eq]
  exact storeRun_keeps (write := State.ddrWrite) (f := fun s => s.memory.spad) (fun _ _ _ _ _ => rfl) s

theorem legRead_writeLegacy_run (s : State) (a : Nat) {ws : List Word} {j : Nat} (hj : j < ws.length) :
    (s.writeLegacy a ws).legRead (a + j) = ws[j]?.getD 0 &&& 0x00FFFF := by
  rw [State.writeLegacy_eq]
  exact storeRun_at (f := (State.legRead · (a + j))) (g := fun _ v => v &&& 0x00FFFF) hj
    (fun s v => (s.legRead_legPut ..).trans (if_pos rfl))
    (fun s i v _ _ hne => (s.legRead_legPut ..).trans (if_neg hne.symm)) s

theorem legRead_writeLegacy_other (s : State) {a k : Nat} {ws : List Word} (hk : ¬ (a ≤ k ∧ k < a + ws.length)) :
    (s.writeLegacy a ws).legRead k = s.legRead k := by
  rw [State.writeLegacy_eq]
  exact storeRun_keeps (f := (State.legRead · k))
    (fun s i v _ _ => (s.legRead_legPut ..).trans (if_neg (by omega))) s

/-! ### What a memory answers (R287, R486, R489) -/

section
variable {q : Req} {a n : Nat} {ws : List Word}

theorem not_badLength (h0 : 0 < n) (h3 : n ≤ 3) : ¬ (n = 0 ∨ n > 3) := by omega

@[simp] theorem State.countRemote_memory (s : State) (p a n : Nat) : (s.countRemote p a n).memory = s.memory :=
  State.bumpBy_memory ..

theorem State.spadBad_countRemote (s : State) (p a n p' k : Nat) : (s.countRemote p a n).spadBad p' k = s.spadBad p' k := by
  rw [State.spadBad, State.countRemote_memory, State.spadBad]

theorem State.spadAnyBad_countRemote (s : State) (p a n p' k m : Nat) :
    (s.countRemote p a n).spadAnyBad p' k m = s.spadAnyBad p' k m := by
  simp only [State.spadAnyBad, State.spadBad_countRemote]

/-- A sound read of words that are not poisoned gives them. -/
theorem readAt_spad (hd : q.dest < 0x100) (h0 : 0 < n) (h3 : n ≤ 3) (hrun : a + n ≤ 65536)
    (hgood : ∀ j, j < n → s.spadBad q.dest (a + j) = false) (coll : Nat) (late : Bool) :
    s.readAt q a n .sound coll late =
      (s.countRemote q.dest a n, 0, (s.countRemote q.dest a n).spadLoad q.dest a n) := by
  have hfirst : s.spadBad q.dest a = false := hgood 0 h0
  have hany : s.spadAnyBad q.dest a n = false :=
    List.any_eq_false.2 fun j hj => Bool.eq_false_iff.1 (hgood j (List.mem_range.1 hj))
  unfold State.readAt State.readSpad
  rw [if_neg (not_badLength h0 h3), if_pos hd, if_neg (by omega)]
  simp only [State.spadCheck, State.spadBad_countRemote, State.spadAnyBad_countRemote, hfirst, hany, Bool.or_self,
    Bool.false_eq_true, if_false]

theorem ddr_words_present (h : ∀ j, j < n → s.ddrPresent (a + j) = true) :
    ¬ (List.range n).any (fun k => !(s.ddrPresent (a + k))) = true := by
  simpa using h

theorem readAt_ddr (hd : q.dest = nodeDdr 0) (h0 : 0 < n) (h3 : n ≤ 3)
    (hpresent : ∀ j, j < n → s.ddrPresent (a + j) = true) (coll : Nat) (late : Bool) :
    s.readAt q a n .sound coll late = (s, 0, (List.range n).map (fun j => s.ddrRead (a + j))) := by
  unfold State.readAt State.readDdr
  rw [if_neg (not_badLength h0 h3), if_neg (by rw [hd]; decide), if_pos (.inl hd), if_neg (ddr_words_present hpresent)]
  rfl

/-- Without a collision a run of legacy words reads as it stands. -/
theorem legWords_quiet (s : State) (a n : Nat) : s.legWords a 0 n = (s, (List.range n).map (fun j => s.legRead (a + j))) := by
  induction n with
  | zero => rfl
  | succ n ih => simp [State.legWords, ih, List.range_succ]

theorem readAt_legacy (hd : q.dest = nodeLegacy) (h0 : 0 < n) (h3 : n ≤ 3) (hrun : a + n ≤ 32768) (ecc : Ecc) (late : Bool) :
    s.readAt q a n ecc 0 late = (s, 0, (List.range n).map (fun j => s.legRead (a + j))) := by
  unfold State.readAt State.readLegacy
  rw [if_neg (not_badLength h0 h3), if_neg (by rw [hd]; decide), if_neg (by rw [hd]; decide), if_pos hd, if_neg (by omega),
    legWords_quiet]
  simp

section
variable (h0 : 0 < ws.length) (h3 : ws.length ≤ 3)
include h0 h3

theorem writeAt_spad (hd : q.dest < 0x100) (hrun : a + ws.length ≤ 65536) (view coll : Nat) (late : Bool) :
    s.writeAt q a view ws coll late = ((s.countRemote q.dest a ws.length).spadStore q.dest a view ws, 0) := by
  unfold State.writeAt
  dsimp only
  rw [if_neg (not_badLength h0 h3), if_pos hd, if_neg (by omega)]

/-- A run that leaves its scratchpad gets STATUS 2 (R287). -/
theorem writeAt_spad_past (hd : q.dest < 0x100) (hrun : 65536 < a + ws.length) (view coll : Nat) (late : Bool) :
    s.writeAt q a view ws coll late = (s, 2) := by
  unfold State.writeAt
  dsimp only
  rw [if_neg (not_badLength h0 h3), if_pos hd, if_pos hrun]

theorem writeAt_ddr (hd : q.dest = nodeDdr 0) (hpresent : ∀ j, j < ws.length → s.ddrPresent (a + j) = true) (coll : Nat)
    (late : Bool) : s.writeAt q a 0 ws coll late = (s.writeDdr a ws, 0) := by
  unfold State.writeAt
  dsimp only
  rw [if_neg (not_badLength h0 h3), if_neg (by rw [hd]; decide), if_neg (not_not_intro rfl), if_pos (.inl hd),
    if_neg (ddr_words_present hpresent)]

theorem writeAt_legacy (hd : q.dest = nodeLegacy) (hrun : a + ws.length ≤ 32768) (late : Bool) :
    s.writeAt q a 0 ws 0 late = (s.writeLegacy a ws, 0) := by
  unfold State.writeAt
  dsimp only
  rw [if_neg (not_badLength h0 h3), if_neg (by rw [hd]; decide), if_neg (not_not_intro rfl), if_neg (by rw [hd]; decide),
    if_pos hd, if_neg (by omega)]
  simp
end

/-! ### The commands of a request that reaches its memory -/

variable (h : Claims.reaches s q)
include h

theorem execRdw_of_reaches {u : State} {vs : List Word} {ecc : Ecc} {coll : Nat} {late : Bool} (hpair : s.pairShadow = false)
    (hread : (Claims.arrived s q (.rdw a n)).readAt q a n ecc coll late = (u, 0, vs)) :
    exec (.rdw q a n ecc coll late) s = .next (u.send (.rdata (rspOf q 0) vs)) := by
  show execRdw q a n ecc coll late s = _
  unfold execRdw
  rw [arriveReq_of_reaches h rfl]
  simp only [arrived_pairShadow, hpair, Bool.false_and, Bool.false_eq_true, if_false, hread, Nat.zero_le, if_true]

theorem execRrd_of_reaches {u : State} {vs : List Word} {ecc : Ecc} {coll : Nat} {late : Bool}
    (hread : (Claims.arrived s q (.rrd a n)).readAt q a n ecc coll late = (u, 0, vs)) :
    exec (.rrd q a n ecc coll late) s = .next (u.send (.rrsp (rspOf q 0) vs)) := by
  show execRrd q a n ecc coll late s = _
  unfold execRrd
  rw [arriveReq_of_reaches h rfl]
  simp only [hread]

theorem execWrw_of_reaches {u : State} {status coll : Nat} {late : Bool} (hpair : s.pairShadow = false)
    (hwrite : (Claims.arrived s q (.wrw a ws)).writeAt q a 0 ws coll late = (u, status)) :
    exec (.wrw q a ws coll late) s = .next (u.answer q status) := by
  show execWrw q a ws coll late s = _
  unfold execWrw
  rw [arriveReq_of_reaches h rfl]
  simp only [arrived_pairShadow, hpair, Bool.false_and, Bool.false_eq_true, if_false, hwrite]

theorem execSetw_of_reaches {u : State} {status : Nat}
    (hwrite : (Claims.arrived s q (.setw a ws)).writeAt q a 1 ws 0 false = (u, status)) :
    exec (.setw q a ws) s = .next (u.answer q status) := by
  show execSetw q a ws s = _
  unfold execSetw
  rw [arriveReq_of_reaches h rfl]
  simp only [hwrite]

theorem execClrw_of_reaches {u : State} {status : Nat}
    (hwrite : (Claims.arrived s q (.clrw a ws)).writeAt q a 2 ws 0 false = (u, status)) :
    exec (.clrw q a ws) s = .next (u.answer q status) := by
  show execClrw q a ws s = _
  unfold execClrw
  rw [arriveReq_of_reaches h rfl]
  simp only [hwrite]

/-- A Rolvia write that its target takes is posted: nothing answers it (R344). -/
theorem execRwr_of_reaches {u : State} {coll : Nat} {late : Bool}
    (hwrite : (Claims.arrived s q (.rwr a ws)).writeAt q a 0 ws coll late = (u, 0)) :
    exec (.rwr q a ws coll late) s = .next u := by
  show execRwr q a ws coll late s = _
  unfold execRwr
  rw [arriveReq_of_reaches h rfl]
  simp [hwrite]

theorem execCwr_of_reaches (hd : q.dest < 0x100) (ha : a < 16384) (v : Word) :
    exec (.cwr q a v) s = .next (((Claims.arrived s q (.cwr a v)).codeWrite q.dest a v).answer q 0) := by
  show execCwr q a v s = _
  unfold execCwr
  rw [arriveReq_of_reaches h rfl, if_pos ⟨hd, ha⟩]

end

theorem codeRead_codeWrite (s : State) {p a k : Nat} (v : Word) :
    (s.codeWrite p a v).codeRead p k = if k = a then v else s.codeRead p k := by
  have hkey : codeKey p k = codeKey p a ↔ k = a := by simp only [codeKey]; omega
  simp only [State.codeRead, State.codeWrite, Map.get_set, hkey]

/-! ### Reads and writes at their memories -/

section
variable {q : Req} {a : Nat} {ws : List Word} (h : Claims.reaches s q) (h0 : 0 < ws.length) (h3 : ws.length ≤ 3)
include h h0 h3

/-- A sound read of a scratchpad answers the words as they stand, in either mode (R287, R343). -/
theorem spad_reads (hpair : s.pairShadow = false) (hd : q.dest < 0x100) (hrun : a + ws.length ≤ 65536)
    (hgood : ∀ j, j < ws.length → s.spadBad q.dest (a + j) = false) :
    (∃ t, exec (.rdw q a ws.length .sound 0 false) s = .next t ∧
      .rdata (rspOf q 0) (s.spadLoad q.dest a ws.length) ∈ t.flight ∧ t.memory = s.memory) ∧
    (∃ t, exec (.rrd q a ws.length .sound 0 false) s = .next t ∧
      .rrsp (rspOf q 0) (s.spadLoad q.dest a ws.length) ∈ t.flight ∧ t.memory = s.memory) := by
  have hsame (op : ReqOp) := arrived_sameSpads s q op a ws.length
  have hgood' (op : ReqOp) (j : Nat) (hj : j < ws.length) : (Claims.arrived s q op).spadBad q.dest (a + j) = false := by
    rw [← hgood j hj, State.spadBad, State.spadBad, arrived_memory]
  have hread (op : ReqOp) := readAt_spad hd h0 h3 hrun (hgood' op) 0 false
  simp only [(hsame _).spadLoad] at hread
  exact ⟨⟨_, execRdw_of_reaches h hpair (hread _), State.mem_flight_send .., (State.send_memory ..).trans (hsame _).memory⟩,
    ⟨_, execRrd_of_reaches h (hread _), State.mem_flight_send .., (State.send_memory ..).trans (hsame _).memory⟩⟩

/-- Each write of a scratchpad stores its run through its view; all but the Rolvia write are answered (R287, R288, R344). -/
theorem spad_writes (hpair : s.pairShadow = false) (hd : q.dest < 0x100) (hrun : a + ws.length ≤ 65536) :
    (∃ t, exec (.wrw q a ws 0 false) s = .next t ∧ SpadStored s t q.dest a 0 ws ∧ .rsp (rspOf q 0) ∈ t.flight) ∧
    (∃ t, exec (.setw q a ws) s = .next t ∧ SpadStored s t q.dest a 1 ws ∧ .rsp (rspOf q 0) ∈ t.flight) ∧
    (∃ t, exec (.clrw q a ws) s = .next t ∧ SpadStored s t q.dest a 2 ws ∧ .rsp (rspOf q 0) ∈ t.flight) ∧
    (∃ t, exec (.rwr q a ws 0 false) s = .next t ∧ SpadStored s t q.dest a 0 ws) := by
  have hwrite (op : ReqOp) (view : Nat) := writeAt_spad (s := Claims.arrived s q op) h0 h3 hd hrun view 0 false
  have hst (op : ReqOp) (view : Nat) := (arrived_sameSpads s q op a ws.length).stored (spadStore_stored (p := q.dest) _ view hrun)
  exact ⟨⟨_, execWrw_of_reaches h hpair (hwrite _ 0), (hst _ 0).send _, State.mem_flight_send ..⟩,
    ⟨_, execSetw_of_reaches h (hwrite _ 1), (hst _ 1).send _, State.mem_flight_send ..⟩,
    ⟨_, execClrw_of_reaches h (hwrite _ 2), (hst _ 2).send _, State.mem_flight_send ..⟩,
    ⟨_, execRwr_of_reaches h (hwrite _ 0), hst _ 0⟩⟩

/-- A read of trained DDR answers the words, a write stores them there and nowhere else (R294, R486). -/
theorem ddr_requests (hpair : s.pairShadow = false) (hd : q.dest = nodeDdr 0)
    (hpresent : ∀ j, j < ws.length → s.ddrPresent (a + j) = true) :
    (∃ t, exec (.rdw q a ws.length .sound 0 false) s = .next t ∧
      .rdata (rspOf q 0) ((List.range ws.length).map (fun j => s.ddrRead (a + j))) ∈ t.flight) ∧
    (∃ t, exec (.wrw q a ws 0 false) s = .next t ∧ (∀ j, j < ws.length → t.ddrRead (a + j) = ws[j]?.getD 0) ∧
      (∀ k, ¬ (a ≤ k ∧ k < a + ws.length) → t.ddrRead k = s.ddrRead k) ∧ t.memory.spad = s.memory.spad) := by
  have hhere (op : ReqOp) (j : Nat) (hj : j < ws.length) : (Claims.arrived s q op).ddrPresent (a + j) = true :=
    (arrived_ddrPresent ..).trans (hpresent j hj)
  have hread := readAt_ddr hd h0 h3 (hhere (.rdw a ws.length)) 0 false
  have hwrite := writeAt_ddr h0 h3 hd (hhere (.wrw a ws)) 0 false
  simp only [arrived_ddrRead] at hread
  refine ⟨⟨_, execRdw_of_reaches h hpair hread, State.mem_flight_send ..⟩,
    ⟨_, execWrw_of_reaches h hpair hwrite, fun j hj => ddrRead_writeDdr_run _ a hj, fun k hk => ?_, ?_⟩⟩
  · exact (ddrRead_writeDdr_other _ hk).trans (arrived_ddrRead ..)
  · exact (writeDdr_spad ..).trans (congrArg Memory.spad (arrived_memory ..))

/-- A read of legacy RAM answers the words, a write stores their low 16 bits there and nowhere else (R489). -/
theorem legacy_requests (hpair : s.pairShadow = false) (hd : q.dest = nodeLegacy) (hrun : a + ws.length ≤ 32768) :
    (∃ t, exec (.rdw q a ws.length .sound 0 false) s = .next t ∧
      .rdata (rspOf q 0) ((List.range ws.length).map (fun j => s.legRead (a + j))) ∈ t.flight) ∧
    (∃ t, exec (.wrw q a ws 0 false) s = .next t ∧
      (∀ j, j < ws.length → t.legRead (a + j) = ws[j]?.getD 0 &&& 0x00FFFF) ∧
      (∀ k, ¬ (a ≤ k ∧ k < a + ws.length) → t.legRead k = s.legRead k)) := by
  have hread := readAt_legacy (s := Claims.arrived s q (.rdw a ws.length)) hd h0 h3 hrun .sound false
  have hwrite := writeAt_legacy (s := Claims.arrived s q (.wrw a ws)) h0 h3 hd hrun false
  simp only [arrived_legRead] at hread
  exact ⟨⟨_, execRdw_of_reaches h hpair hread, State.mem_flight_send ..⟩,
    ⟨_, execWrw_of_reaches h hpair hwrite, fun j hj => legRead_writeLegacy_run _ a hj,
      fun k hk => (legRead_writeLegacy_other _ hk).trans (arrived_legRead ..)⟩⟩
end

/-- A code word of another pavilion is stored alone and answered (R297). -/
theorem code_write {q : Req} {a : Nat} (h : Claims.reaches s q) (hd : q.dest < 0x100) (ha : a < 16384) (v : Word) :
    ∃ t, exec (.cwr q a v) s = .next t ∧ t.codeRead q.dest a = v ∧
      (∀ k, k < 16384 → k ≠ a → t.codeRead q.dest k = s.codeRead q.dest k) ∧ .rsp (rspOf q 0) ∈ t.flight := by
  refine ⟨_, execCwr_of_reaches h hd ha v, ?_, fun k _ hk => ?_, State.mem_flight_send ..⟩
  · exact (codeRead_codeWrite ..).trans (if_pos rfl)
  · exact (codeRead_codeWrite ..).trans ((if_neg hk).trans (arrived_codeRead ..))

end

/-- Settles O42: a request finds its memory as it was when it set out (the `arrived_` lemmas), the node answers with what `readAt`
and `writeAt` give, and a run leaves what its writes leave, word by word (`storeRun_at`, `storeRun_keeps`). -/
theorem memoryRequests : Obligations.MemoryRequests := by
  intro s q a ws v h h0 h3 hpair n data
  refine ⟨fun hd hrun => ⟨fun hgood => ?reads, ?writes⟩, fun hd hpast => ?past, fun hd hpresent => ?ddr, fun hd hrun => ?legacy,
    fun hd ha => ?code⟩
  case reads => exact spad_reads h h0 h3 hpair hd hrun hgood
  case writes => exact spad_writes h h0 h3 hpair hd hrun
  case past =>
    exact ⟨_, execWrw_of_reaches h hpair (writeAt_spad_past h0 h3 hd hpast 0 0 false), arrived_memory .., State.mem_flight_send ..⟩
  case ddr => exact ddr_requests h h0 h3 hpair hd hpresent
  case legacy => exact legacy_requests h h0 h3 hpair hd hrun
  case code => exact code_write h hd ha v

end Sys2Proof.Machine

/-! State memory (10_coherent_state_memory): the views of its store, its directory and its caches after an update, and the commands
of a request at the home of its line (R314, R315, Table 10-3). -/

namespace Sys2Proof.Machine

section
variable {s t u : State}

/-! ### Views of state memory -/

@[simp] theorem State.dirOf_setDir (s : State) (l : Nat) (d : DirEntry) : (s.setDir l d).dirOf l = d := Map.get_set_self
theorem State.dirOf_setDir_other (s : State) {l k : Nat} (d : DirEntry) (h : k ≠ l) : (s.setDir l d).dirOf k = s.dirOf k :=
  Map.get_set_other h
@[simp] theorem State.dirOf_bump (s : State) (a l : Nat) : (s.bump a).dirOf l = s.dirOf l := rfl
@[simp] theorem State.dirOf_send (s : State) (p : Packet) (l : Nat) : (s.send p).dirOf l = s.dirOf l := rfl
@[simp] theorem State.dirOf_setStWord (s : State) (w : Nat) (v : SWord) (l : Nat) : (s.setStWord w v).dirOf l = s.dirOf l := rfl
@[simp] theorem State.stWord_setStWord (s : State) (w : Nat) (v : SWord) : (s.setStWord w v).stWord w = v := Map.get_set_self
theorem State.stWord_setStWord_other (s : State) {w k : Nat} (v : SWord) (h : k ≠ w) : (s.setStWord w v).stWord k = s.stWord k :=
  Map.get_set_other h
@[simp] theorem State.stWord_bump (s : State) (a w : Nat) : (s.bump a).stWord w = s.stWord w := rfl
@[simp] theorem State.stWord_setDir (s : State) (l : Nat) (d : DirEntry) (w : Nat) : (s.setDir l d).stWord w = s.stWord w := rfl
@[simp] theorem State.stWord_send (s : State) (p : Packet) (w : Nat) : (s.send p).stWord w = s.stWord w := rfl
@[simp] theorem State.stLine_bump (s : State) (a l : Nat) : (s.bump a).stLine l = s.stLine l := rfl
@[simp] theorem State.stLine_setDir (s : State) (k : Nat) (d : DirEntry) (l : Nat) : (s.setDir k d).stLine l = s.stLine l := rfl
@[simp] theorem State.stLine_send (s : State) (p : Packet) (l : Nat) : (s.send p).stLine l = s.stLine l := rfl
@[simp] theorem State.cache_setCache (s : State) (p : Nat) (k : Cache) : (s.setCache p k).cache p = k := Map.get_set_self
@[simp] theorem State.cache_bump (s : State) (a p : Nat) : (s.bump a).cache p = s.cache p := rfl
@[simp] theorem State.cache_send (s : State) (x : Packet) (p : Nat) : (s.send x).cache p = s.cache p := rfl

theorem State.dirOf_of_coh (h : t.coh = s.coh) (l : Nat) : t.dirOf l = s.dirOf l := by rw [State.dirOf, h, State.dirOf]
theorem State.stWord_of_coh (h : t.coh = s.coh) (w : Nat) : t.stWord w = s.stWord w := by rw [State.stWord, h, State.stWord]
theorem State.stLine_of_coh (h : t.coh = s.coh) (l : Nat) : t.stLine l = s.stLine l := by
  simp only [State.stLine, State.stWord_of_coh h]
theorem State.cache_of_coh (h : t.coh = s.coh) (p : Nat) : t.cache p = s.cache p := by rw [State.cache, h, State.cache]

/-! ### A line written to the store (R314) -/

/-- Writing a run of state words leaves everything but the store alone. -/
theorem State.setStLine_frame (s : State) (w : Nat) (vs : List SWord) :
    ∃ m, s.setStLine w vs = { s with coh := { s.coh with mem := m } } := by
  induction vs generalizing s w with
  | nil => exact ⟨_, rfl⟩
  | cons v vs ih =>
    obtain ⟨m, h⟩ := ih (s.setStWord w v) (w + 1)
    exact ⟨m, h⟩

@[simp] theorem State.dirOf_setStLine (s : State) (w : Nat) (vs : List SWord) (l : Nat) :
    (s.setStLine w vs).dirOf l = s.dirOf l := by
  obtain ⟨m, h⟩ := s.setStLine_frame w vs
  rw [h]
  rfl

@[simp] theorem State.setStLine_member (s : State) (w : Nat) (vs : List SWord) : (s.setStLine w vs).member = s.member := by
  obtain ⟨m, h⟩ := s.setStLine_frame w vs
  rw [h]

theorem State.stWord_setStLine (s : State) (w k : Nat) (vs : List SWord) :
    (s.setStLine w vs).stWord k = if k < w then s.stWord k else (vs[k - w]?).getD (s.stWord k) := by
  induction vs generalizing s w with
  | nil => simp [State.setStLine]
  | cons v vs ih =>
    rw [State.setStLine, ih]
    rcases Nat.lt_trichotomy k w with hlt | rfl | hgt
    · rw [if_pos (by omega), if_pos hlt, s.stWord_setStWord_other v (by omega)]
    · simp
    · have hstep : k - w = k - (w + 1) + 1 := by omega
      rw [if_neg (by omega), if_neg (by omega), s.stWord_setStWord_other v (by omega), hstep, List.getElem?_cons_succ]

/-- A line reads as it was written. -/
@[simp] theorem State.stLine_setStLine (s : State) (l : Nat) {vs : List SWord} (h : vs.length = 8) :
    (s.setStLine (8 * l) vs).stLine l = vs := by
  refine List.ext_getElem (by simp [State.stLine, h]) fun k _ hk => ?_
  have hin : ¬ 8 * l + k < 8 * l := by omega
  simp only [State.stLine, List.getElem_map, List.getElem_range, State.stWord_setStLine, if_neg hin, Nat.add_sub_cancel_left,
    List.getElem?_eq_getElem hk, Option.getD_some]

/-- Without a poisoned unit a message's words are as they were sent (R347). -/
@[simp] theorem markBad_zero (k : Nat) (vs : List SWord) : markBad 0 k vs = vs := by
  induction vs generalizing k with
  | nil => rfl
  | cons v vs ih => simp [markBad, ih]

/-! ### How a service of the home ends -/

/-- The line's request has ended with `p` on its way: its directory entry is in state `st` and not BUSY; the store and the other
entries are as in `s`. -/
def Settled (s t : State) (l : Nat) (st : DState) (p : Packet) : Prop :=
  t.dirOf l = { s.dirOf l with st := st, busy := none } ∧ p ∈ t.flight ∧ (∀ k, t.stWord k = s.stWord k) ∧
    ∀ k, k ≠ l → t.dirOf k = s.dirOf k

/-- The line is BUSY with a request that waits for the pavilions `ps`, which `msg` asks; the store is as in `s`. -/
def Asked (s t : State) (l : Nat) (q : Req) (op msg : ReqOp) (ps : List Nat) : Prop :=
  t.dirOf l = { s.dirOf l with busy := some ⟨q, op, ps, false, none⟩ } ∧
    (∀ p ∈ ps, ∃ rid, .req ⟨p, q.dest, 0, rid, 0, 0, 0⟩ msg ∈ t.flight) ∧ ∀ k, t.stWord k = s.stWord k

theorem Settled.of_coh {l : Nat} {st : DState} {p : Packet} (hcoh : u.coh = s.coh) (h : Settled u t l st p) :
    Settled s t l st p := by
  simpa only [Settled, State.dirOf_of_coh hcoh, State.stWord_of_coh hcoh] using h

theorem Asked.of_coh {l : Nat} {q : Req} {op msg : ReqOp} {ps : List Nat} (hcoh : u.coh = s.coh) (h : Asked u t l q op msg ps) :
    Asked s t l q op msg ps := by
  simpa only [Asked, State.dirOf_of_coh hcoh, State.stWord_of_coh hcoh] using h

theorem settled_setDir_send (hcoh : u.coh = s.coh) {l : Nat} {st : DState} {d : DirEntry}
    (hd : d = { s.dirOf l with st := st, busy := none }) (p : Packet) : Settled s ((u.setDir l d).send p) l st p :=
  ⟨(State.dirOf_setDir ..).trans hd, State.mem_flight_send .., fun k => State.stWord_of_coh hcoh k,
    fun k hk => (u.dirOf_setDir_other d hk).trans (State.dirOf_of_coh hcoh k)⟩

/-- An answer that leaves a free line's directory entry alone. -/
theorem settled_send (hcoh : u.coh = s.coh) {l : Nat} (hfree : (s.dirOf l).busy = none) (p : Packet) :
    Settled s (u.send p) l (s.dirOf l).st p :=
  ⟨by rw [State.dirOf_send, State.dirOf_of_coh hcoh, ← hfree], State.mem_flight_send .., fun k => State.stWord_of_coh hcoh k,
    fun k _ => State.dirOf_of_coh hcoh k⟩

/-! ### Forwards and INVs leave the home -/

/-- The home sends `msg` about line `l` to one pavilion and counts it. -/
def State.askOne (l sl counter : Nat) (msg : ReqOp) (s : State) (p : Nat) : State :=
  ((s.request (nodeSlice sl) 0 0 0 p msg (BitVec.ofNat 24 (8 * l)) (.home l)).2).bump (Reg.stHome sl counter)

theorem State.homeAsk_eq (s : State) (l : Nat) (q : Req) (op msg : ReqOp) (ps : List Nat) (counter : Nat) :
    s.homeAsk l q op msg ps counter =
      let v := ps.foldl (State.askOne l (s.homeOf l) counter msg) s
      v.setDir l { v.dirOf l with busy := some ⟨q, op, ps, false, none⟩ } := rfl

section
variable (s : State) (l sl counter : Nat) (msg : ReqOp) (ps : List Nat)

theorem State.askAll_coh : (ps.foldl (State.askOne l sl counter msg) s).coh = s.coh := by
  induction ps generalizing s with
  | nil => rfl
  | cons p ps ih => exact ih (State.askOne l sl counter msg s p)

theorem State.mem_flight_askAll {x : Packet} (h : x ∈ s.flight) : x ∈ (ps.foldl (State.askOne l sl counter msg) s).flight := by
  induction ps generalizing s with
  | nil => exact h
  | cons p ps ih => exact ih _ (List.mem_append_left _ h)

theorem State.askAll_asks {p : Nat} (h : p ∈ ps) :
    ∃ rid, .req ⟨p, nodeSlice sl, 0, rid, 0, 0, 0⟩ msg ∈ (ps.foldl (State.askOne l sl counter msg) s).flight := by
  induction ps generalizing s with
  | nil => exact absurd h List.not_mem_nil
  | cons r ps ih =>
    rcases List.mem_cons.1 h with rfl | htail
    · exact ⟨_, State.mem_flight_askAll _ l sl counter msg ps (State.mem_flight_send ..)⟩
    · exact ih _ htail
end

theorem homeAsk_asked (hcoh : u.coh = s.coh) {l : Nat} {q : Req} (hd : q.dest = nodeSlice (u.homeOf l)) (op msg : ReqOp)
    (ps : List Nat) (counter : Nat) : Asked s (u.homeAsk l q op msg ps counter) l q op msg ps := by
  have hall := (u.askAll_coh l (u.homeOf l) counter msg ps).trans hcoh
  rw [State.homeAsk_eq]
  refine ⟨?_, fun p hp => ?_, fun k => State.stWord_of_coh hall k⟩
  · simp only [State.dirOf_setDir, State.dirOf_of_coh hall]
  · rw [hd]
    exact u.askAll_asks l (u.homeOf l) counter msg ps hp

/-- The requests that a home serves (Table 10-3); eviction notices never wait for one. -/
def ReqOp.served : ReqOp → Bool
  | .rd _ | .rdx _ | .rdu _ | .wru _ _ => true
  | _ => false

/-- The forward that asks the owner of line `l` for it: a read leaves the owner a copy (Table 10-3). -/
def ReqOp.forward (l : Nat) : ReqOp → ReqOp
  | .rd _ | .rdu _ => .fwdS l
  | _ => .fwdX l

/-! ### What the home does for a request on a line that is not BUSY (Table 10-3) -/

section
variable {l : Nat} {q : Req}

theorem homeServe_rd_uncached (hst : (s.dirOf l).st = .uncached) (n : Nat) :
    Settled s (s.homeServe l q (.rd n)) l (.exclusive q.node) (.fill .exclusive (rspOf q 0) (s.stLine l)) := by
  simp only [State.homeServe, hst]
  exact settled_setDir_send (u := s.bump _) rfl rfl _

theorem homeServe_rdx_uncached (hst : (s.dirOf l).st = .uncached) (n : Nat) :
    Settled s (s.homeServe l q (.rdx n)) l (.exclusive q.node) (.fill .modified (rspOf q 0) (s.stLine l)) := by
  simp only [State.homeServe, hst]
  exact settled_setDir_send (u := s.bump _) rfl rfl _

theorem homeServe_wru_uncached (hst : (s.dirOf l).st = .uncached) (w : Nat) (v : Word) :
    let t := s.homeServe l q (.wru w v)
    t.stWord w = ⟨v, false⟩ ∧ (∀ k, k ≠ w → t.stWord k = s.stWord k) ∧ .rsp (rspOf q 0) ∈ t.flight := by
  simp only [State.homeServe, hst, State.homeFinish, State.answer]
  refine ⟨?_, fun k hk => ?_, State.mem_flight_send ..⟩
  · rw [State.stWord_send, State.stWord_setDir, State.stWord_setStWord]
  · rw [State.stWord_send, State.stWord_setDir, State.stWord_setStWord_other _ _ hk, State.stWord_bump]

theorem homeServe_rd_shared (hfree : (s.dirOf l).busy = none) {mask : BitVec 16} (hst : (s.dirOf l).st = .shared mask) (n : Nat) :
    Settled s (s.homeServe l q (.rd n)) l (.shared (mask ||| shareBit s.member q.node))
      (.fill .shared (rspOf q 0) (s.stLine l)) := by
  simp only [State.homeServe, hst]
  exact settled_setDir_send (u := s.bump _) rfl (by rw [← hfree]; rfl) _

/-- A sound word of a line that no cache owns is read in the store. -/
theorem homeServe_rdu_unowned (hfree : (s.dirOf l).busy = none) (hst : ∀ o, (s.dirOf l).st ≠ .exclusive o) {w : Nat}
    (hgood : (s.stWord w).bad = false) :
    Settled s (s.homeServe l q (.rdu w)) l (s.dirOf l).st (.rdata (rspOf q 0) [(s.stWord w).v]) := by
  have hread : s.homeServe l q (.rdu w) = (s.bump (Reg.stHome (s.homeOf l) 2)).send (.rdata (rspOf q 0) [(s.stWord w).v]) := by
    cases hs : (s.dirOf l).st with
    | exclusive o => exact absurd hs (hst o)
    | uncached => simp [State.homeServe, hs, State.answerWord, State.answerData, hgood]
    | shared mask => simp [State.homeServe, hs, State.answerWord, State.answerData, hgood]
  rw [hread]
  exact settled_send rfl hfree _

section
variable (hd : q.dest = nodeSlice (s.homeOf l))
include hd

/-- An RDX of a line that others share invalidates their copies. -/
theorem homeServe_rdx_shared {mask : BitVec 16} (hst : (s.dirOf l).st = .shared mask)
    (hps : (sharers s.member mask).filter (fun p => decide (p ≠ q.node)) ≠ []) (n : Nat) :
    Asked s (s.homeServe l q (.rdx n)) l q (.rdx n) (.inv l)
      ((sharers s.member mask).filter (fun p => decide (p ≠ q.node))) := by
  simp only [State.homeServe, hst, List.isEmpty_iff]
  rw [if_neg hps]
  exact homeAsk_asked (u := s.bump _) rfl hd ..

/-- A request for a line that a cache owns asks the owner. -/
theorem homeServe_exclusive {o : Nat} (hst : (s.dirOf l).st = .exclusive o) {op : ReqOp} (hop : op.served = true) :
    Asked s (s.homeServe l q op) l q op (op.forward l) [o] := by
  cases op with
  | rd n | rdx n | rdu w | wru w v =>
    simp only [State.homeServe, hst]
    exact homeAsk_asked (u := s.bump _) rfl hd ..
  | _ => cases hop
end

/-! ### The owner's notice (R314) -/

theorem homeNotice_owner (hfree : (s.dirOf l).busy = none) (hst : (s.dirOf l).st = .exclusive q.node) :
    Settled s (s.homeNotice l q none) l .uncached (.wbAck (rspOf q 0) l) := by
  simp only [State.homeNotice, hfree, hst, if_true]
  exact settled_setDir_send rfl (by rw [← hfree]) _

/-- A WB's data is in the store when the line is given back. -/
theorem homeNotice_owner_data (hfree : (s.dirOf l).busy = none) (hst : (s.dirOf l).st = .exclusive q.node) {ws : List SWord}
    (hlen : ws.length = 8) :
    let t := s.homeNotice l q (some ws)
    (t.dirOf l).st = .uncached ∧ .wbAck (rspOf q 0) l ∈ t.flight ∧ t.stLine l = ws := by
  simp only [State.homeNotice, State.dirOf_setStLine, hfree, hst, if_true]
  exact ⟨by simp, State.mem_flight_send .., by simp [hlen]⟩
end

/-! ### The commands of requests and notices that reach the home of their line -/

theorem arrived_coh (s : State) (q : Req) (op : ReqOp) : (Claims.arrived s q op).coh = s.coh := by
  obtain ⟨r, f, e⟩ := arrived_frame s q op
  rw [e]

@[simp] theorem arrived_dirOf (s : State) (q : Req) (op : ReqOp) (l : Nat) : (Claims.arrived s q op).dirOf l = s.dirOf l :=
  State.dirOf_of_coh (arrived_coh ..) l

@[simp] theorem arrived_stWord (s : State) (q : Req) (op : ReqOp) (w : Nat) : (Claims.arrived s q op).stWord w = s.stWord w :=
  State.stWord_of_coh (arrived_coh ..) w

@[simp] theorem arrived_stLine (s : State) (q : Req) (op : ReqOp) (l : Nat) : (Claims.arrived s q op).stLine l = s.stLine l :=
  State.stLine_of_coh (arrived_coh ..) l

@[simp] theorem arrived_homeOf (s : State) (q : Req) (op : ReqOp) (l : Nat) : (Claims.arrived s q op).homeOf l = s.homeOf l := by
  rw [State.homeOf, arrived_member, State.homeOf]

@[simp] theorem arrived_stateSize (s : State) (q : Req) (op : ReqOp) : (Claims.arrived s q op).stateSize = s.stateSize := by
  rw [State.stateSize, State.regField, arrived_member, arrived_reg s q op (by decide), State.stateSize, State.regField]

section
variable {q : Req} {l : Nat} (h : Claims.reaches s q) (hd : q.dest = nodeSlice (s.homeOf l)) (hin : 8 * l < s.stateSize)

/-- The command `i` hands the request `op` about line `l` to its home. -/
def RequestsAtHome (s : State) (q : Req) (l : Nat) (op : ReqOp) (i : Instr) : Prop :=
  exec i s = .next ((Claims.arrived s q op).homeRequest l q op)

include hd hin in
theorem arrived_homed (op : ReqOp) : (Claims.arrived s q op).homed q l = true := by
  simp only [State.homed, arrived_homeOf, arrived_stateSize]
  exact decide_eq_true ⟨hd, hin⟩

section
include h hd hin

theorem requestsAtHome_of_arrives {op : ReqOp} {i : Instr} {w : Nat}
    (hexec : exec i s = s.arriveReq q op false (fun s => s.atHome q op w .sound)) (hvc : op.vc4 = false) (hw : w / 8 = l) :
    RequestsAtHome s q l op i := by
  rw [RequestsAtHome, hexec, arriveReq_of_reaches h hvc, State.atHome, hw, if_pos (arrived_homed hd hin op)]
  rfl

theorem rdLine_requests : RequestsAtHome s q l (.rd l) (.rdLine q l .sound) :=
  requestsAtHome_of_arrives h hd hin rfl rfl (by omega)

theorem rdxLine_requests : RequestsAtHome s q l (.rdx l) (.rdxLine q l .sound) :=
  requestsAtHome_of_arrives h hd hin rfl rfl (by omega)

theorem rduLine_requests {w : Nat} (hw : w / 8 = l) : RequestsAtHome s q l (.rdu w) (.rduLine q w .sound) :=
  requestsAtHome_of_arrives h hd hin rfl rfl hw

theorem wruLine_requests {w : Nat} (hw : w / 8 = l) (v : Word) : RequestsAtHome s q l (.wru w v) (.wruLine q w v) :=
  requestsAtHome_of_arrives h hd hin rfl rfl hw

theorem execEvcLine_of_reaches : exec (.evcLine q l) s = .next ((Claims.arrived s q (.evc l)).homeNotice l q none) := by
  show execEvcLine q l s = _
  unfold execEvcLine
  rw [arriveReq_of_reaches h rfl, if_pos (arrived_homed hd hin _)]

theorem execWbLine_of_reaches (ws : List SWord) :
    exec (.wbLine q l ws) s = .next ((Claims.arrived s q (.wb l ws)).homeNotice l q (some ws)) := by
  show execWbLine q l ws s = _
  unfold execWbLine
  rw [arriveReq_of_reaches h rfl, if_pos (arrived_homed hd hin _)]
  obtain ⟨-, hpoison, -⟩ := h
  rw [hpoison, markBad_zero]
end

/-- A request that finds its line BUSY waits behind those that came before it (R314). -/
theorem RequestsAtHome.queues {op : ReqOp} {i : Instr} (hi : RequestsAtHome s q l op i) (hbusy : (s.dirOf l).busy.isSome = true) :
    ∃ t, exec i s = .next t ∧ t.dirOf l = { s.dirOf l with queue := (s.dirOf l).queue ++ [(q, op)] } := by
  refine ⟨_, hi, ?_⟩
  simp only [State.homeRequest, arrived_dirOf, hbusy, if_true, State.dirOf_setDir]

theorem RequestsAtHome.serves {op : ReqOp} {i : Instr} (hi : RequestsAtHome s q l op i) (hfree : (s.dirOf l).busy = none) :
    exec i s = .next ((Claims.arrived s q op).homeServe l q op) := by
  rw [hi]
  simp only [State.homeRequest, arrived_dirOf, hfree, Option.isSome_none, Bool.false_eq_true, if_false]

/-- A request that finds its line free settles, in the state that it found, as its service does. -/
theorem RequestsAtHome.settles {op : ReqOp} {i : Instr} (hi : RequestsAtHome s q l op i) (hfree : (s.dirOf l).busy = none)
    {st : DState} {p : Packet}
    (hserve : Settled (Claims.arrived s q op) ((Claims.arrived s q op).homeServe l q op) l st p) :
    ∃ t, exec i s = .next t ∧ Settled s t l st p :=
  ⟨_, hi.serves hfree, hserve.of_coh (arrived_coh s q op)⟩

theorem RequestsAtHome.asks {op msg : ReqOp} {i : Instr} (hi : RequestsAtHome s q l op i) (hfree : (s.dirOf l).busy = none)
    {ps : List Nat} (hserve : Asked (Claims.arrived s q op) ((Claims.arrived s q op).homeServe l q op) l q op msg ps) :
    ∃ t, exec i s = .next t ∧ Asked s t l q op msg ps :=
  ⟨_, hi.serves hfree, hserve.of_coh (arrived_coh s q op)⟩
end
end

/-! ### The commands, state by state of the line (Table 10-3) -/

section
variable {s : State} {q : Req} {l : Nat} (h : Claims.reaches s q) (hd : q.dest = nodeSlice (s.homeOf l))
  (hin : 8 * l < s.stateSize) (hfree : (s.dirOf l).busy = none)
include h hd hin hfree

theorem rdu_at_unowned (hst : ∀ o, (s.dirOf l).st ≠ .exclusive o) {w : Nat} (hw : w / 8 = l)
    (hgood : (s.stWord w).bad = false) :
    ∃ t, exec (.rduLine q w .sound) s = .next t ∧ Settled s t l (s.dirOf l).st (.rdata (rspOf q 0) [(s.stWord w).v]) := by
  refine (rduLine_requests h hd hin hw).settles hfree ?_
  rw [← arrived_dirOf s q (.rdu w)] at hfree hst ⊢
  rw [← arrived_stWord s q (.rdu w)] at hgood ⊢
  exact homeServe_rdu_unowned hfree hst hgood

theorem requests_at_uncached (hst : (s.dirOf l).st = .uncached) {w : Nat} (hw : w / 8 = l) (v : Word) :
    (∃ t, exec (.rdLine q l .sound) s = .next t ∧
      Settled s t l (.exclusive q.node) (.fill .exclusive (rspOf q 0) (s.stLine l))) ∧
    (∃ t, exec (.rdxLine q l .sound) s = .next t ∧
      Settled s t l (.exclusive q.node) (.fill .modified (rspOf q 0) (s.stLine l))) ∧
    ((s.stWord w).bad = false → ∃ t, exec (.rduLine q w .sound) s = .next t ∧
      Settled s t l .uncached (.rdata (rspOf q 0) [(s.stWord w).v])) ∧
    (∃ t, exec (.wruLine q w v) s = .next t ∧ t.stWord w = ⟨v, false⟩ ∧ (∀ k, k ≠ w → t.stWord k = s.stWord k) ∧
      .rsp (rspOf q 0) ∈ t.flight) := by
  have hst' (op : ReqOp) : ((Claims.arrived s q op).dirOf l).st = .uncached := by rw [arrived_dirOf, hst]
  refine ⟨?rd, ?rdx, fun hgood => ?rdu, ?wru⟩
  case rd => exact (rdLine_requests h hd hin).settles hfree (by simpa using homeServe_rd_uncached (hst' _) l)
  case rdx => exact (rdxLine_requests h hd hin).settles hfree (by simpa using homeServe_rdx_uncached (hst' _) l)
  case rdu => exact hst ▸ rdu_at_unowned h hd hin hfree (by simp [hst]) hw hgood
  case wru =>
    exact ⟨_, (wruLine_requests h hd hin hw v).serves hfree,
      by simpa using homeServe_wru_uncached (q := q) (hst' (.wru w v)) w v⟩

theorem requests_at_shared {mask : BitVec 16} (hst : (s.dirOf l).st = .shared mask) {w : Nat} (hw : w / 8 = l) :
    (∃ t, exec (.rdLine q l .sound) s = .next t ∧
      Settled s t l (.shared (mask ||| shareBit s.member q.node)) (.fill .shared (rspOf q 0) (s.stLine l))) ∧
    ((s.stWord w).bad = false → ∃ t, exec (.rduLine q w .sound) s = .next t ∧
      Settled s t l (.shared mask) (.rdata (rspOf q 0) [(s.stWord w).v])) ∧
    ((sharers s.member mask).filter (fun p => decide (p ≠ q.node)) ≠ [] → ∃ t, exec (.rdxLine q l .sound) s = .next t ∧
      Asked s t l q (.rdx l) (.inv l) ((sharers s.member mask).filter (fun p => decide (p ≠ q.node)))) := by
  have hst' (op : ReqOp) : ((Claims.arrived s q op).dirOf l).st = .shared mask := by rw [arrived_dirOf, hst]
  refine ⟨?rd, fun hgood => ?rdu, fun hps => ?rdx⟩
  case rd =>
    exact (rdLine_requests h hd hin).settles hfree
      (by simpa using homeServe_rd_shared (q := q) (by simpa using hfree) (hst' (.rd l)) l)
  case rdu => exact hst ▸ rdu_at_unowned h hd hin hfree (by simp [hst]) hw hgood
  case rdx =>
    refine (rdxLine_requests h hd hin).asks hfree ?_
    have hserve := homeServe_rdx_shared (q := q) (by simpa using hd) (hst' (.rdx l)) (by rwa [arrived_member]) l
    rwa [arrived_member] at hserve

theorem requests_at_exclusive {o : Nat} (hst : (s.dirOf l).st = .exclusive o) {w : Nat} (hw : w / 8 = l) (v : Word) :
    (∃ t, exec (.rdLine q l .sound) s = .next t ∧ Asked s t l q (.rd l) (.fwdS l) [o]) ∧
    (∃ t, exec (.rdxLine q l .sound) s = .next t ∧ Asked s t l q (.rdx l) (.fwdX l) [o]) ∧
    (∃ t, exec (.rduLine q w .sound) s = .next t ∧ Asked s t l q (.rdu w) (.fwdS l) [o]) ∧
    (∃ t, exec (.wruLine q w v) s = .next t ∧ Asked s t l q (.wru w v) (.fwdX l) [o]) := by
  have hst' (op : ReqOp) : ((Claims.arrived s q op).dirOf l).st = .exclusive o := by rw [arrived_dirOf, hst]
  have hd' (op : ReqOp) : q.dest = nodeSlice ((Claims.arrived s q op).homeOf l) := by rw [arrived_homeOf, hd]
  exact ⟨(rdLine_requests h hd hin).asks hfree (homeServe_exclusive (hd' _) (hst' _) rfl),
    (rdxLine_requests h hd hin).asks hfree (homeServe_exclusive (hd' _) (hst' _) rfl),
    (rduLine_requests h hd hin hw).asks hfree (homeServe_exclusive (hd' _) (hst' _) rfl),
    (wruLine_requests h hd hin hw v).asks hfree (homeServe_exclusive (hd' _) (hst' _) rfl)⟩

/-- The owner's notice gives the line back, and a WB brings its words. -/
theorem notices_of_owner (hst : (s.dirOf l).st = .exclusive q.node) :
    (∃ t, exec (.evcLine q l) s = .next t ∧ Settled s t l .uncached (.wbAck (rspOf q 0) l)) ∧
    ∀ ws : List SWord, ws.length = 8 → ∃ t, exec (.wbLine q l ws) s = .next t ∧ (t.dirOf l).st = .uncached ∧
      .wbAck (rspOf q 0) l ∈ t.flight ∧ t.stLine l = ws := by
  have hfree' (op : ReqOp) : ((Claims.arrived s q op).dirOf l).busy = none := by rw [arrived_dirOf, hfree]
  have hst' (op : ReqOp) : ((Claims.arrived s q op).dirOf l).st = .exclusive q.node := by rw [arrived_dirOf, hst]
  exact ⟨⟨_, execEvcLine_of_reaches h hd hin, (homeNotice_owner (hfree' _) (hst' _)).of_coh (arrived_coh ..)⟩, fun ws hlen =>
    ⟨_, execWbLine_of_reaches h hd hin ws, homeNotice_owner_data (hfree' _) (hst' _) hlen⟩⟩
end

/-- Settles O40: a request at its home is queued while the line is BUSY (`RequestsAtHome.queues`), and on a free line served as the
line's state says (`requests_at_uncached`, `requests_at_shared`, `requests_at_exclusive`, `notices_of_owner`). -/
theorem homeRequests : Obligations.HomeRequests := by
  intro s q w v h l m hd hin e line became asks
  refine ⟨fun op i hop hbusy => ?busy, fun hfree => ⟨fun hst => ?uncached, fun mask hst => ?shared, fun o hst => ?exclusive,
    fun hst => ?notices⟩⟩
  case busy =>
    have hreq : RequestsAtHome s q l op i := by
      rcases hop with ⟨rfl, rfl⟩ | ⟨rfl, rfl⟩ | ⟨rfl, rfl⟩ | ⟨rfl, rfl⟩
      · exact rdLine_requests h hd hin
      · exact rdxLine_requests h hd hin
      · exact rduLine_requests h hd hin rfl
      · exact wruLine_requests h hd hin rfl v
    exact hreq.queues hbusy
  case uncached => exact requests_at_uncached h hd hin hfree hst rfl v
  case shared => exact requests_at_shared h hd hin hfree hst rfl
  case exclusive => exact requests_at_exclusive h hd hin hfree hst rfl v
  case notices => exact notices_of_owner h hd hin hfree hst

end Sys2Proof.Machine

/-! Messages at state caches and answers at homes (R311, R315 to R317, Table 10-4): lines of a cache, what a forward, an INV, an
answer, a fill or a WB_ACK leaves. -/

namespace Sys2Proof.Machine

/-! ### Lines, victims and misses of a cache (R311) -/

section
variable {k : Cache} {l : Nat} {e : CLine}

theorem Cache.line_of_find (h : k.find l = some e) : e.line = l := by
  simpa using List.find?_some h

@[simp] theorem Cache.set_putSet (k : Cache) (i : Nat) (v : List CLine) : (k.putSet i v).set i = v := Map.get_set_self

/-- A line marked in its place is found as it was marked. -/
theorem Cache.find_mark {e' : CLine} (h : k.find e.line = some e') : (k.mark e).find e.line = some e := by
  rw [Cache.find] at h
  rw [Cache.find, Cache.mark, Cache.set_putSet]
  generalize k.set (e.line % 256) = ways at h
  induction ways with
  | nil => simp at h
  | cons x xs ih =>
    by_cases hx : x.line = e.line
    · simp [hx]
    · simpa [hx] using ih (by simpa [hx] using h)

@[simp] theorem Cache.find_drop (k : Cache) (l : Nat) : (k.drop l).find l = none := by
  rw [Cache.find, Cache.drop, Cache.set_putSet]
  simp

@[simp] theorem Cache.find_put (k : Cache) (e : CLine) : (k.put e).find e.line = some e := by
  rw [Cache.find, Cache.put, Cache.set_putSet]
  simp

@[simp] theorem Cache.miss_dropMiss (k : Cache) (l : Nat) : (k.dropMiss l).miss l = none := by
  simp [Cache.miss, Cache.dropMiss]

@[simp] theorem Cache.miss_put (k : Cache) (e : CLine) (l : Nat) : (k.put e).miss l = k.miss l := rfl
end

/-! ### Forwards and INVs at a cache (Table 10-4) -/

section
variable {s : State} {p l : Nat} {q : Req} {e : CLine}

theorem forwardAt_owned (hfind : (s.cache p).find l = some e) (hst : e.st ≠ .sh) (excl : Bool) :
    s.forwardAt p l excl q = s.answerFwd p excl q e := by
  simp only [State.forwardAt, hfind, if_neg hst]

/-- A line in the victim buffer is gone, and stays there (R317). -/
theorem forwardAt_victim (hfind : (s.cache p).find l = none) (hvictim : (s.cache p).victim l = true) (excl : Bool) :
    s.forwardAt p l excl q = ((s.send (.gone (rspOf q 0) l)).bump (Reg.cstat p 3)).bump (Reg.cstat p 4) := by
  simp only [State.forwardAt, hfind, hvictim, if_true]

theorem invAt_shared (hfind : (s.cache p).find l = some e) (hst : e.st = .sh) :
    s.invAt p l q = ((s.setCache p ((s.cache p).drop l)).send (.ack (rspOf q 0) l)).bump (Reg.cstat p 3) := by
  simp only [State.invAt, hfind, hst, if_true]

@[simp] theorem cache_answerFwd (s : State) (p : Nat) (excl : Bool) (q : Req) (e : CLine) :
    (s.answerFwd p excl q e).cache p = if excl then (s.cache p).drop e.line else (s.cache p).mark { e with st := .sh } := by
  simp [State.answerFwd]

theorem mem_flight_answerFwd (s : State) (p : Nat) (excl : Bool) (q : Req) (e : CLine) :
    .fdata (rspOf q 0) e.line e.ws (decide (e.st = .mo)) ∈ (s.answerFwd p excl q e).flight :=
  State.mem_flight_send ..
end

section
variable {s : State} {q : Req} {l : Nat}

@[simp] theorem arrived_cache (s : State) (q : Req) (op : ReqOp) (p : Nat) : (Claims.arrived s q op).cache p = s.cache p :=
  State.cache_of_coh (arrived_coh ..) p

/-- With a sound word a forward is answered as the line stands. -/
theorem checkedForward_sound (s : State) (q : Req) (l : Nat) (excl : Bool) :
    s.checkedForward q l excl .sound = s.forwardAt q.dest l excl q := by
  simp [State.checkedForward, State.cacheCheck]

section
variable (hnode : nodePresent s.member q.dest = true) (hpoison : q.poison = 0)
  (hon : s.nodeState q.dest = 0 ∨ s.nodeState q.dest = 2)
include hnode hpoison hon

/-- A node in ON or FENCING serves a message of VC4 in the state in which it arrived (Table 11-8). -/
theorem arriveReq_vc4 {op : ReqOp} (hvc : op.vc4 = true) (own : Bool) (serve : State → Out) :
    s.arriveReq q op own serve = serve (Claims.arrived s q op) := by
  simp [State.arriveReq, Claims.arrived, hnode, hpoison, hon, hvc]

theorem execFwdS_of_on : exec (.fwdS q l .sound) s = .next ((Claims.arrived s q (.fwdS l)).forwardAt q.dest l false q) := by
  show execFwdS q l .sound s = _
  rw [execFwdS, arriveReq_vc4 hnode hpoison hon rfl, checkedForward_sound]

theorem execFwdX_of_on : exec (.fwdX q l .sound) s = .next ((Claims.arrived s q (.fwdX l)).forwardAt q.dest l true q) := by
  show execFwdX q l .sound s = _
  rw [execFwdX, arriveReq_vc4 hnode hpoison hon rfl, checkedForward_sound]

theorem execInvLine_of_on : exec (.invLine q l) s = .next ((Claims.arrived s q (.inv l)).invAt q.dest l q) := by
  show execInvLine q l s = _
  rw [execInvLine, arriveReq_vc4 hnode hpoison hon rfl]

/-- An owner answers a forward with its line, and keeps it SHARED or gives it up. -/
theorem forwards_at_owner {e : CLine} (hfind : (s.cache q.dest).find l = some e) (hst : e.st ≠ .sh) :
    (∃ t, exec (.fwdS q l .sound) s = .next t ∧ (t.cache q.dest).find l = some { e with st := .sh } ∧
      .fdata (rspOf q 0) l e.ws (decide (e.st = .mo)) ∈ t.flight) ∧
    (∃ t, exec (.fwdX q l .sound) s = .next t ∧ (t.cache q.dest).find l = none ∧
      .fdata (rspOf q 0) l e.ws (decide (e.st = .mo)) ∈ t.flight) := by
  have hserve (op : ReqOp) (excl : Bool) :=
    forwardAt_owned (s := Claims.arrived s q op) (q := q) ((arrived_cache ..).symm ▸ hfind) hst excl
  obtain rfl : e.line = l := Cache.line_of_find hfind
  refine ⟨⟨_, (execFwdS_of_on hnode hpoison hon).trans (congrArg _ (hserve ..)), ?_, mem_flight_answerFwd ..⟩,
    ⟨_, (execFwdX_of_on hnode hpoison hon).trans (congrArg _ (hserve ..)), ?_, mem_flight_answerFwd ..⟩⟩
  · rw [cache_answerFwd, arrived_cache]
    exact Cache.find_mark (e := { e with st := .sh }) hfind
  · rw [cache_answerFwd, if_pos rfl, Cache.find_drop]

theorem fwdS_at_victim (hfind : (s.cache q.dest).find l = none) (hvictim : (s.cache q.dest).victim l = true) :
    ∃ t, exec (.fwdS q l .sound) s = .next t ∧ t.cache q.dest = s.cache q.dest ∧ .gone (rspOf q 0) l ∈ t.flight := by
  have hcache := arrived_cache s q (.fwdS l) q.dest
  refine ⟨_, (execFwdS_of_on hnode hpoison hon).trans
    (congrArg _ (forwardAt_victim (hcache ▸ hfind) (hcache ▸ hvictim) false)), ?_, State.mem_flight_send ..⟩
  rw [State.cache_bump, State.cache_bump, State.cache_send, hcache]

theorem inv_at_shared {e : CLine} (hfind : (s.cache q.dest).find l = some e) (hst : e.st = .sh) :
    ∃ t, exec (.invLine q l) s = .next t ∧ (t.cache q.dest).find l = none ∧ .ack (rspOf q 0) l ∈ t.flight := by
  refine ⟨_, (execInvLine_of_on hnode hpoison hon).trans
    (congrArg _ (invAt_shared ((arrived_cache ..).symm ▸ hfind) hst)), ?_, State.mem_flight_send ..⟩
  rw [State.cache_bump, State.cache_send, State.cache_setCache, Cache.find_drop]
end
end

/-! ### Answers end the home's request (R315, R317) -/

section
variable {s : State} {l p : Nat} {a : Active}

theorem homeNext_of_empty (h : (s.dirOf l).queue = []) (n : Nat) : s.homeNext l n = s := by
  cases n with
  | zero => rfl
  | succ n =>
    simp only [State.homeNext, h]
    cases (s.dirOf l).busy <;> rfl

/-- A request without a notice to acknowledge and without a successor ends with its response. -/
theorem homeEnd_quiet {how : HomeEnd} (hnotice : a.notice = none) (hqueue : ((s.homeFinish l a.q a.op how).dirOf l).queue = []) :
    s.homeEnd l a how = s.homeFinish l a.q a.op how := by
  simp only [State.homeEnd, hnotice]
  exact homeNext_of_empty hqueue _

theorem homeFinish_rd_data (s : State) (l : Nat) (q : Req) (n o : Nat) : s.homeFinish l q (.rd n) (.data o) =
    (s.setDir l { s.dirOf l with st := .shared (shareBit s.member o ||| shareBit s.member q.node), busy := none }).send
      (.fill .shared (rspOf q 0) (s.stLine l)) := rfl

theorem homeFinish_rdx (s : State) (l : Nat) (q : Req) (n : Nat) (how : HomeEnd) : s.homeFinish l q (.rdx n) how =
    (s.setDir l { s.dirOf l with st := .exclusive q.node, busy := none }).send (.fill .modified (rspOf q 0) (s.stLine l)) := rfl

section
variable (hbusy : (s.dirOf l).busy = some a)
include hbusy

/-- The owner's dirty line is written, the reader gets it, and both share it. -/
theorem homeData_rd (hqueue : (s.dirOf l).queue = []) (hnotice : a.notice = none) (hwaits : p ∈ a.awaits) {n : Nat}
    (hop : a.op = .rd n) {ws : List SWord} (hlen : ws.length = 8) :
    s.homeData l p ws true 0 = ((s.setStLine (8 * l) ws).setDir l { s.dirOf l with
      st := .shared (shareBit s.member p ||| shareBit s.member a.q.node), busy := none }).send
        (.fill .shared (rspOf a.q 0) ws) := by
  have hfinish := homeFinish_rd_data (s.setStLine (8 * l) ws) l a.q n p
  rw [State.dirOf_setStLine, State.setStLine_member, State.stLine_setStLine _ _ hlen] at hfinish
  simp only [State.homeData, hbusy, if_pos hwaits, markBad_zero, Bool.true_or, if_true]
  rw [homeEnd_quiet hnotice (by rw [hop, hfinish]; simp [hqueue]), hop, hfinish]

/-- The last ACK of an RDX makes its requester the owner. -/
theorem homeAck_rdx (hqueue : (s.dirOf l).queue = []) (hnotice : a.notice = none) (hwaits : a.awaits = [p]) {n : Nat}
    (hop : a.op = .rdx n) :
    s.homeAck l p = (s.setDir l { s.dirOf l with st := .exclusive a.q.node, busy := none }).send
      (.fill .modified (rspOf a.q 0) (s.stLine l)) := by
  have hleft : a.awaits.filter (fun x => decide (x ≠ p)) = [] := by simp [hwaits]
  simp only [State.homeAck, hbusy, hleft, List.isEmpty_nil, if_true]
  rw [homeEnd_quiet (a := { a with awaits := [] }) hnotice (by rw [hop, homeFinish_rdx]; simp [hqueue]), hop, homeFinish_rdx]

/-- An ACK that is not the last one leaves the others awaited. -/
theorem homeAck_left {r : Nat} (hwaits : a.awaits = [p, r]) (hr : r ≠ p) :
    s.homeAck l p = s.setDir l { s.dirOf l with busy := some { a with awaits := [r] } } := by
  have hleft : a.awaits.filter (fun x => decide (x ≠ p)) = [r] := by simp [hwaits, hr]
  simp only [State.homeAck, hbusy, hleft, List.isEmpty_cons, Bool.false_eq_true, if_false]

/-- Where GONE comes first, the home waits for the notice (R317 step 1). -/
theorem homeGone_first (hnotice : a.notice = none) (hwaits : p ∈ a.awaits) :
    s.homeGone l p = s.setDir l { s.dirOf l with busy := some { a with gone := true } } := by
  simp only [State.homeGone, hbusy, if_pos hwaits, hnotice]
end
end

/-! ### A fill takes its place, a victim entry is freed (R311, R312) -/

section
variable (s : State)

/-- Passing issue from one context to another touches no state memory. -/
theorem State.switchAway_coh {t : State} {p q : Nat} (h : s.switchAway p q = some t) : t.coh = s.coh := by
  unfold State.switchAway at h
  split at h
  · cases h
  · cases h
    split <;> rfl

theorem State.schedule_coh (p q : Nat) : (s.schedule p q).coh = s.coh := by
  unfold State.schedule
  split
  · rfl
  · split
    · cases h : s.switchAway p q with
      | none => rfl
      | some t => exact s.switchAway_coh h
    · split <;> rfl

theorem State.wakeCtx_coh (c : CtxId) : (s.wakeCtx c).coh = s.coh := by
  unfold State.wakeCtx
  dsimp only
  split
  · exact State.schedule_coh ..
  · rfl

theorem State.serveLoads_coh (p l : Nat) (ws : List SWord) (slot : Nat) : (s.serveLoads p l ws slot).coh = s.coh := by
  unfold State.serveLoads
  dsimp only
  split
  · rfl
  · exact State.wakeCtx_coh ..

/-- Loads that wait for a line are served in the contexts alone. -/
theorem State.serveAll_coh (p l : Nat) (ws : List SWord) : (s.serveAll p l ws).coh = s.coh := by
  unfold State.serveAll
  generalize List.range 16 = slots
  induction slots generalizing s with
  | nil => rfl
  | cons k slots ih => exact (ih _).trans (s.serveLoads_coh ..)

variable {s} {p l : Nat}

/-- A set with a free way has room as it is. -/
theorem makeRoom_free (h : ((s.cache p).set (l % 256)).length < 4) : s.makeRoom p l = some s := by
  have hways := Nat.lt_of_le_of_lt (List.length_filter_le (fun x => decide (x.line ≠ l)) ((s.cache p).set (l % 256))) h
  simp only [State.makeRoom, if_pos hways]

theorem bufferedFor_empty {k : Cache} (h : k.buffer = []) (l : Nat) : k.bufferedFor l = [] := by
  rw [Cache.bufferedFor, h]
  rfl

theorem applyStores_empty (h : (s.cache p).buffer = []) (l : Nat) : s.applyStores p l = s := by
  unfold State.applyStores
  simp only [bufferedFor_empty h]
  split <;> rfl

theorem flushStep_idle (h : (s.cache p).flushing = false) : s.flushStep p = s := by
  simp only [State.flushStep, h, Bool.false_and, Bool.false_eq_true, if_false]

/-- The state of a line that a fill brings (Table 10-2). -/
def FillKind.grants : FillKind → LineSt
  | .shared => .sh
  | .exclusive => .ex
  | .modified => .mo

/-- A cache after a fill that found a free way: the line is held, and no miss waits for it. -/
def Cache.filled (k : Cache) (l : Nat) (st : LineSt) (ws : List SWord) : Cache := (k.dropMiss l).put ⟨l, st, ws⟩

@[simp] theorem Cache.find_filled (k : Cache) (l : Nat) (st : LineSt) (ws : List SWord) :
    (k.filled l st ws).find l = some ⟨l, st, ws⟩ := Cache.find_put _ ⟨l, st, ws⟩

@[simp] theorem Cache.miss_filled (k : Cache) (l : Nat) (st : LineSt) (ws : List SWord) : (k.filled l st ws).miss l = none := by
  rw [Cache.filled, Cache.miss_put, Cache.miss_dropMiss]

/-- A fill that no INV and no forward met, in a cache without buffered stores, serves the waiting loads and stays. -/
theorem placeFill_plain {excl : Bool} (hmiss : (s.cache p).miss l = some ⟨l, excl, true, false, [], none⟩)
    (hway : ((s.cache p).set (l % 256)).length < 4) (hbuffer : (s.cache p).buffer = []) (kind : FillKind) (ws : List SWord) :
    s.placeFill p l kind ws = (s.setCache p ((s.cache p).filled l kind.grants ws)).serveAll p l ws := by
  have hquiet (st : LineSt) :
      (((s.setCache p (((s.cache p).dropMiss l).put ⟨l, st, ws⟩)).serveAll p l ws).cache p).buffer = [] := by
    rw [State.cache_of_coh (State.serveAll_coh ..), State.cache_setCache]
    exact hbuffer
  unfold State.placeFill Cache.filled FillKind.grants
  simp only [hmiss, Bool.and_false, Bool.false_eq_true, if_false, makeRoom_free hway, State.answerHeld, List.foldl_nil]
  cases kind with
  | shared => simp only [if_true, bufferedFor_empty (hquiet _), List.isEmpty_nil]
  | exclusive => simp only [reduceCtorEq, if_false, applyStores_empty (hquiet _)]
  | modified => simp only [reduceCtorEq, if_false, applyStores_empty (hquiet _)]

/-- When a victim entry is freed and nothing else waits, nothing else changes. -/
theorem victimFreed_quiet (hmisses : (s.cache p).misses = []) (hidle : (s.cache p).flushing = false) :
    s.victimFreed p l = s.setCache p { s.cache p with victims := (s.cache p).victims.filter (fun v => decide (v.line ≠ l)) } := by
  unfold State.victimFreed
  simp only [State.cache_setCache, hmisses, State.retryMisses]
  exact flushStep_idle (by simpa using hidle)
end

/-! ### Responses that reach who awaits them -/

/-- The state in which a response is handed on: it has passed its filters, and its request is awaited no more. -/
def State.responded (s : State) (p : Rsp) (pkt : Packet) (cmd : Nat) : State :=
  (Claims.carried s pkt p.src p.node (s.rspHeader p cmd) false).dropOutst p.node p.rid

section
variable (s : State) (p : Rsp) (pkt : Packet) (cmd : Nat)

theorem responded_frame : ∃ r f n, s.responded p pkt cmd = { s with regs := r, flight := f, net := n } := by
  obtain ⟨r, f, e⟩ := carried_frame s pkt p.src p.node (s.rspHeader p cmd) false
  exact ⟨r, f, _, by rw [State.responded, e]; rfl⟩

theorem responded_coh : (s.responded p pkt cmd).coh = s.coh := by
  obtain ⟨r, f, n, e⟩ := responded_frame s p pkt cmd
  rw [e]

@[simp] theorem responded_member : (s.responded p pkt cmd).member = s.member := by
  obtain ⟨r, f, n, e⟩ := responded_frame s p pkt cmd
  rw [e]

@[simp] theorem responded_dirOf (l : Nat) : (s.responded p pkt cmd).dirOf l = s.dirOf l :=
  State.dirOf_of_coh (responded_coh ..) l

@[simp] theorem responded_stLine (l : Nat) : (s.responded p pkt cmd).stLine l = s.stLine l :=
  State.stLine_of_coh (responded_coh ..) l

@[simp] theorem responded_cache (c : Nat) : (s.responded p pkt cmd).cache c = s.cache c :=
  State.cache_of_coh (responded_coh ..) c
end

section
variable {s : State} {p : Rsp} {o : Outst} {l : Nat} (hnode : nodePresent s.member p.node = true)
  (hoff : s.nodeState p.node ≠ 1) (hiso : s.nodeState p.node ≠ 3) (hdup : p.dup = false) (hpoison : p.poison = 0)
  (hout : s.outstOf p.node p.rid = some o)
include hoff hiso hdup hpoison hout

/-- A sound response that is awaited is handed on with its STATUS. -/
theorem arriveRsp_awaited (pkt : Packet) (cmd : Nat) (deliver : Outst → Nat → State → Out) :
    s.arriveRsp p pkt cmd deliver = deliver o p.status (s.responded p pkt cmd) := by
  simp [State.arriveRsp, State.responded, Claims.carried, hoff, hiso, hdup, hpoison, hout]

include hnode

theorem answerHome_awaited (hwho : o.who = .home l) (pkt : Packet) (cmd : Nat) (k : State → State) :
    s.answerHome p pkt cmd l k = .next (k (s.responded p pkt cmd)) := by
  simp [State.answerHome, hnode, arriveRsp_awaited hoff hiso hdup hpoison hout, hwho]

theorem execFdata_awaited (hwho : o.who = .home l) (ws : List SWord) (dirty : Bool) :
    exec (.fdata p l ws dirty) s = .next ((s.responded p (.fdata p l ws dirty) 0x2D).homeData l p.src ws dirty 0) := by
  show execFdata p l ws dirty s = _
  rw [execFdata, answerHome_awaited hnode hoff hiso hdup hpoison hout hwho, hpoison]

theorem execAckLine_awaited (hwho : o.who = .home l) :
    exec (.ackLine p l) s = .next ((s.responded p (.ack p l) 0x2E).homeAck l p.src) :=
  answerHome_awaited hnode hoff hiso hdup hpoison hout hwho ..

theorem execGoneLine_awaited (hwho : o.who = .home l) :
    exec (.goneLine p l) s = .next ((s.responded p (.gone p l) 0x2F).homeGone l p.src) :=
  answerHome_awaited hnode hoff hiso hdup hpoison hout hwho ..

/-- The answers that end a request at its home, or leave it to wait for more. -/
theorem answers_at_home (hwho : o.who = .home l) {a : Active} (hbusy : (s.dirOf l).busy = some a)
    (hqueue : (s.dirOf l).queue = []) (hnotice : a.notice = none) (ws : List SWord) :
    (a.awaits = [p.src] → a.op = .rd l → ws.length = 8 → ∃ t, exec (.fdata p l ws true) s = .next t ∧
      (t.dirOf l).busy = none ∧ (t.dirOf l).st = .shared (shareBit s.member p.src ||| shareBit s.member a.q.node) ∧
      t.stLine l = ws ∧ .fill .shared (rspOf a.q 0) ws ∈ t.flight) ∧
    (a.awaits = [p.src] → a.op = .rdx l → ∃ t, exec (.ackLine p l) s = .next t ∧ (t.dirOf l).busy = none ∧
      (t.dirOf l).st = .exclusive a.q.node ∧ .fill .modified (rspOf a.q 0) (s.stLine l) ∈ t.flight) ∧
    (∀ r, a.awaits = [p.src, r] → r ≠ p.src → ∃ t, exec (.ackLine p l) s = .next t ∧
      (t.dirOf l).busy = some { a with awaits := [r] }) ∧
    (p.src ∈ a.awaits → ∃ t, exec (.goneLine p l) s = .next t ∧ (t.dirOf l).busy = some { a with gone := true }) := by
  have hbusy' (pkt : Packet) (cmd : Nat) : ((s.responded p pkt cmd).dirOf l).busy = some a := by rw [responded_dirOf, hbusy]
  have hqueue' (pkt : Packet) (cmd : Nat) : ((s.responded p pkt cmd).dirOf l).queue = [] := by rw [responded_dirOf, hqueue]
  have hack := execAckLine_awaited hnode hoff hiso hdup hpoison hout hwho
  refine ⟨fun hwaits hop hlen => ?data, fun hwaits hop => ?last, fun r hwaits hr => ?more, fun hwaits => ?gone⟩
  case data =>
    refine ⟨_, execFdata_awaited hnode hoff hiso hdup hpoison hout hwho ws true, ?_⟩
    rw [homeData_rd (hbusy' ..) (hqueue' ..) hnotice (by simp [hwaits]) hop hlen]
    exact ⟨by simp, by simp, by simp [hlen], State.mem_flight_send ..⟩
  case last =>
    refine ⟨_, hack, ?_⟩
    rw [homeAck_rdx (hbusy' ..) (hqueue' ..) hnotice hwaits hop, responded_stLine]
    exact ⟨by simp, by simp, State.mem_flight_send ..⟩
  case more =>
    refine ⟨_, hack, ?_⟩
    rw [homeAck_left (hbusy' ..) hwaits hr, State.dirOf_setDir]
  case gone =>
    refine ⟨_, execGoneLine_awaited hnode hoff hiso hdup hpoison hout hwho, ?_⟩
    rw [homeGone_first (hbusy' ..) hnotice hwaits, State.dirOf_setDir]

/-- A fill that finds a free way and meets no flush enters its set and ends the miss. -/
theorem fill_enters {c n : Nat} (hwho : o.who = .fill c n) {excl : Bool}
    (hmiss : (s.cache c).miss n = some ⟨n, excl, true, false, [], none⟩) (hway : ((s.cache c).set (n % 256)).length < 4)
    (hbuffer : (s.cache c).buffer = []) (hidle : (s.cache c).flushing = false) (kind : FillKind) (ws : List SWord) :
    ∃ t, s.fillRow p kind ws = .next t ∧ (t.cache c).find n = some ⟨n, kind.grants, ws⟩ ∧ (t.cache c).miss n = none := by
  have hplaced : ((s.responded p (.fill kind p ws) kind.cmd).fillArrives c n kind 0 ws).cache c =
      (s.cache c).filled n kind.grants ws := by
    rw [State.fillArrives, if_pos rfl, placeFill_plain ((responded_cache ..).symm ▸ hmiss) ((responded_cache ..).symm ▸ hway)
      ((responded_cache ..).symm ▸ hbuffer), State.cache_of_coh (State.serveAll_coh ..), State.cache_setCache, responded_cache]
  have hexec : s.fillRow p kind ws =
      .next (((s.responded p (.fill kind p ws) kind.cmd).fillArrives c n kind 0 ws).flushStep c) := by
    simp [State.fillRow, hnode, arriveRsp_awaited hoff hiso hdup hpoison hout, hwho, hpoison]
  rw [flushStep_idle (by rw [hplaced]; exact hidle)] at hexec
  exact ⟨_, hexec, by rw [hplaced, Cache.find_filled], by rw [hplaced, Cache.miss_filled]⟩

/-- WB_ACK frees the victim entry and leaves the lines alone (R317 step 4). -/
theorem wbAck_frees {c n : Nat} (hwho : o.who = .evict c n) (hmisses : (s.cache c).misses = [])
    (hidle : (s.cache c).flushing = false) :
    ∃ t, exec (.wbAck p n) s = .next t ∧ (t.cache c).victim n = false ∧ (t.cache c).sets = (s.cache c).sets := by
  have hexec : exec (.wbAck p n) s = .next ((s.responded p (.wbAck p n) 0x30).victimFreed c n) := by
    show execWbAck p n s = _
    simp [execWbAck, hnode, arriveRsp_awaited hoff hiso hdup hpoison hout, hwho]
  rw [victimFreed_quiet ((responded_cache ..).symm ▸ hmisses) ((responded_cache ..).symm ▸ hidle), responded_cache] at hexec
  refine ⟨_, hexec, ?_, ?_⟩
  · rw [State.cache_setCache]
    simp [Cache.victim]
  · rw [State.cache_setCache]
end

/-- Settles O41: a forward and an INV act on the line as the cache holds it (`forwards_at_owner`, `fwdS_at_victim`,
`inv_at_shared`); a response is handed to the home (`answers_at_home`), the miss (`fill_enters`) or the victim entry
(`wbAck_frees`) that awaits it. -/
theorem cacheMessages : Obligations.CacheMessages := by
  intro s q l p ws k
  refine ⟨fun hnode hpoison hon => ⟨fun e hfind hst => ?forwards, fun hfind hvictim => ?victim, fun e hfind hst => ?inv⟩,
    fun hnode hoff hiso hdup hpoison o hout => ⟨fun hwho a hbusy hqueue hnotice => ?home,
      fun c n hwho hmiss hway hbuffer hidle _ => ?reads, fun c n hwho hmiss hway hbuffer hidle _ => ?stores,
      fun c n hwho hmisses hidle => ?frees⟩⟩
  case forwards => exact forwards_at_owner hnode hpoison hon hfind hst
  case victim => exact fwdS_at_victim hnode hpoison hon hfind hvictim
  case inv => exact inv_at_shared hnode hpoison hon hfind hst
  case home => exact answers_at_home hnode hoff hiso hdup hpoison hout hwho hbusy hqueue hnotice ws
  case reads =>
    have hfill := fill_enters hnode hoff hiso hdup hpoison hout hwho hmiss hway hbuffer hidle
    exact ⟨hfill .shared ws, hfill .exclusive ws⟩
  case stores => exact fill_enters hnode hoff hiso hdup hpoison hout hwho hmiss hway hbuffer hidle .modified ws
  case frees => exact wbAck_frees hnode hoff hiso hdup hpoison hout hwho hmisses hidle

end Sys2Proof.Machine

/-! Responses that reach the strand which awaits them (R276, R341, R350, R351): issue passes on, and the wait record of the
access is answered. -/

namespace Sys2Proof.Machine

/-! ### Waking a context -/

/-- `t` has the requests and the contexts of `s`; which context of a pipeline issues may differ. -/
structure SameButIssue (s t : State) : Prop where
  net : t.net = s.net
  ctx : ∀ d, ∃ st, t.ctx d = { s.ctx d with state := st }

namespace SameButIssue

variable {s t u : State}

theorem refl (s : State) : SameButIssue s s := ⟨rfl, fun _ => ⟨_, rfl⟩⟩

theorem trans (h : SameButIssue s t) (h' : SameButIssue t u) : SameButIssue s u where
  net := h'.net.trans h.net
  ctx d := by
    obtain ⟨st, hst⟩ := h.ctx d
    obtain ⟨st', hst'⟩ := h'.ctx d
    exact ⟨st', by rw [hst', hst]⟩

end SameButIssue

section
variable (s : State)

theorem setCtx_state_sameButIssue (c : CtxId) (st : CtxState) : SameButIssue s (s.setCtx c { s.ctx c with state := st }) where
  net := rfl
  ctx d := by
    by_cases hkey : ctxKey d = ctxKey c
    · have hctx (t : State) : t.ctx d = t.ctx c := by rw [State.ctx, hkey, State.ctx]
      exact ⟨st, by rw [hctx, State.ctx_setCtx, hctx]⟩
    · exact ⟨_, s.ctx_setCtx_other _ hkey⟩

theorem issueTo_sameButIssue (p q c : Nat) : SameButIssue s (s.issueTo p q c) :=
  (setCtx_state_sameButIssue s ⟨p, q, c⟩ .issuing).trans ⟨rfl, fun _ => ⟨_, rfl⟩⟩

theorem switchAway_sameButIssue {p q : Nat} {t : State} (h : s.switchAway p q = some t) : SameButIssue s t := by
  unfold State.switchAway at h
  split at h
  · cases h
  · cases h
    split
    · exact issueTo_sameButIssue s p q _
    · exact (issueTo_sameButIssue s p q _).trans ⟨rfl, fun _ => ⟨_, rfl⟩⟩

theorem schedule_sameButIssue (p q : Nat) : SameButIssue s (s.schedule p q) := by
  unfold State.schedule
  split
  · exact .refl s
  · split
    · cases h : s.switchAway p q with
      | none => exact .refl s
      | some t => exact switchAway_sameButIssue s h
    · split
      · exact .refl s
      · exact issueTo_sameButIssue s p q _

theorem wakeCtx_sameButIssue (c : CtxId) : SameButIssue s (s.wakeCtx c) := by
  unfold State.wakeCtx
  dsimp only
  split
  · exact (setCtx_state_sameButIssue s c .ready).trans (schedule_sameButIssue _ _ _)
  · exact .refl s

theorem wakeStores_sameButIssue (p : Nat) : SameButIssue s (s.wakeStores p) := by
  unfold State.wakeStores
  generalize List.range 16 = slots
  induction slots generalizing s with
  | nil => exact .refl s
  | cons k slots ih =>
    refine SameButIssue.trans ?_ (ih _)
    dsimp only
    split
    · exact wakeCtx_sameButIssue s _
    · exact .refl s
end

/-! ### What a response writes -/

section
variable (x : Context)

theorem Context.apply_setWaits (v : List WaitRec) (w : RegWrite) :
    ({ x with waits := v } : Context).apply w = { x.apply w with waits := v } := by
  cases w <;> rfl

theorem Context.applyAll_setWaits (v : List WaitRec) (ws : List RegWrite) :
    ({ x with waits := v } : Context).applyAll ws = { x.applyAll ws with waits := v } := by
  induction ws generalizing x with
  | nil => rfl
  | cons w ws ih => exact (congrArg (Context.applyAll · ws) (x.apply_setWaits v w)).trans (ih _)

theorem Context.apply_lateErr (w : RegWrite) : (x.apply w).lateErr = x.lateErr := by
  cases w <;> rfl

theorem Context.applyAll_lateErr (ws : List RegWrite) : (x.applyAll ws).lateErr = x.lateErr := by
  induction ws generalizing x with
  | nil => rfl
  | cons w ws ih => exact (ih _).trans (x.apply_lateErr w)

/-- What no micro-op asked for goes into the registers. -/
theorem Context.landWrites_plain (ws : List RegWrite) : x.landWrites false ws = x.applyAll ws := by
  unfold Context.landWrites
  split <;> rfl

theorem Context.landWrites_nil (micro : Bool) : x.landWrites micro [] = x := by
  unfold Context.landWrites
  split
  case h_1 m hm =>
    split
    · obtain ⟨⟩ := x
      cases hm
      simp [Context.applyAll]
    · rfl
  case h_2 => rfl

end

theorem Fl.t_flT (f : Fl) (b : Bool) : Fl.t (flT f b) = b := by
  unfold flT Fl.ofBools
  generalize f.n = n, f.z = z, f.c = c, f.v = v
  revert b n z c v
  decide

/-- An element that is the first with `p` and has `q` is the first with both. -/
theorem find?_and_of_find? {α : Type} {p q : α → Bool} {l : List α} {x : α} (h : l.find? p = some x) (hq : q x = true) :
    l.find? (fun y => p y && q y) = some x := by
  obtain ⟨hp, as, bs, rfl, has⟩ := List.find?_eq_some_iff_append.1 h
  refine List.find?_eq_some_iff_append.2 ⟨by simp [hp, hq], as, bs, rfl, fun a ha => ?_⟩
  rw [Bool.not_and, has a ha, Bool.true_or]

/-- The answer goes into the registers of its context, and nowhere else: a SPAWN goes on to stage its effect, and a state load is
served by its line. -/
def WaitKind.lands : WaitKind → Bool
  | .spawn _ _ _ _ | .state _ _ => false
  | _ => true

/-- The context after the answer `ws` to the access of `w`. -/
def Context.answered (x : Context) (w : WaitRec) (ws : List Word) : Context :=
  ({ x with waits := x.waits.erase w } : Context).landWrites w.micro (waitWrites (if w.micro then x.view else x) ws w.kind)

/-- The context after the refusal of the access of `w`: a bus error waits for its next instruction boundary. -/
def Context.refused (x : Context) (w : WaitRec) (status : Nat) (a : Word) : Context :=
  { x with waits := x.waits.erase w, lateErr := some (status, a) }

theorem Context.answered_plain {x : Context} {w : WaitRec} (h : w.micro = false) (ws : List Word) :
    x.answered w ws = { x.applyAll (waitWrites x ws w.kind) with waits := x.waits.erase w } := by
  rw [Context.answered, h, Context.landWrites_plain, Context.applyAll_setWaits, if_neg (by decide)]

/-- The answer to a store writes nothing. -/
theorem Context.answered_store {x : Context} {w : WaitRec} (h : w.kind = .store) (ws : List Word) :
    x.answered w ws = { x with waits := x.waits.erase w } := by
  rw [Context.answered, h]
  exact Context.landWrites_nil _ _

section
variable {s : State} {c : CtxId} {rid : Nat} {w : WaitRec} (hkind : w.kind.lands = true)
  (hfind : (s.ctx c).waits.find? (fun w => decide (w.rid = rid)) = some w)
include hkind hfind

/-- The first wait record of the response's number is answered or refused, and the context wakes. -/
theorem strandDone_eq (status : Nat) (a : Word) (ws : List Word) : s.strandDone c rid status a ws =
    if status ≥ 2 then (s.setCtx c { s.ctx c with waits := (s.ctx c).waits.erase w }).lateBus c status a
    else (s.setCtx c ((s.ctx c).answered w ws)).wakeCtx c := by
  unfold State.strandDone
  dsimp only
  rw [find?_and_of_find? hfind (by cases hk : w.kind <;> simp_all [WaitKind.lands])]
  refine ite_congr rfl (fun _ => rfl) fun _ => ?_
  split
  case h_1 d e g arg hspawn => simp [hspawn, WaitKind.lands] at hkind
  case h_2 =>
    rw [State.ctx_setCtx, State.setCtx_setCtx]
    rfl

/-- A response of STATUS 0 or 1 ends the wait and writes what the access asked for. -/
theorem strandDone_lands {status : Nat} (hok : status < 2) (a : Word) (ws : List Word) :
    SameButIssue (s.setCtx c ((s.ctx c).answered w ws)) (s.strandDone c rid status a ws) := by
  rw [strandDone_eq hkind hfind, if_neg (Nat.not_le.2 hok)]
  exact wakeCtx_sameButIssue _ _

/-- A response of STATUS 2 and above ends the wait with a bus error. -/
theorem strandDone_fails {status : Nat} (hbad : 2 ≤ status) (hlate : (s.ctx c).lateErr = none) (a : Word) (ws : List Word) :
    SameButIssue (s.setCtx c ((s.ctx c).refused w status a)) (s.strandDone c rid status a ws) := by
  rw [strandDone_eq hkind hfind, if_pos hbad, State.lateBus, State.ctx_setCtx, State.setCtx_setCtx]
  simp only [hlate]
  exact wakeCtx_sameButIssue _ _
end

/-! ### The state in which a response is handed on -/

section
variable (s : State) (p : Rsp) (pkt : Packet) (cmd : Nat)

theorem responded_ctx (c : CtxId) : (s.responded p pkt cmd).ctx c = s.ctx c := by
  obtain ⟨r, f, n, e⟩ := responded_frame s p pkt cmd
  rw [e]
  rfl

theorem responded_outst : (s.responded p pkt cmd).net.outst =
    s.net.outst.filter (fun o => !decide (o.q.node = p.node ∧ o.q.rid = p.rid)) := by
  obtain ⟨r, f, e⟩ := carried_frame s pkt p.src p.node (s.rspHeader p cmd) false
  rw [State.responded, e]
  rfl

theorem responded_pairLead : (s.responded p pkt cmd).pairLead = s.pairLead := by
  have hreg : (s.responded p pkt cmd).reg (Reg.depPair 0) = s.reg (Reg.depPair 0) := State.passes_reg _ _ _ _ _ (by decide)
  have hpair : (s.responded p pkt cmd).pair = s.pair := by
    obtain ⟨r, f, n, e⟩ := responded_frame s p pkt cmd
    rw [e]
  unfold State.pairLead State.duplex State.pairState State.pairRole State.regField
  rw [hreg, hpair, responded_member]
end

/-- A request of a strand completes in its context; the stores that waited for room go on. -/
theorem complete_strand {s : State} {o : Outst} {c : CtxId} (hwho : o.who = .strand c) (hlead : s.pairLead = false) (status : Nat)
    (ws : List Word) : SameButIssue (s.strandDone c o.q.rid status o.addr ws) (s.complete o status ws) := by
  have hat : s.completeAt o status ws = s.strandDone c o.q.rid status o.addr ws := by
    simp [State.completeAt, hwho, hlead]
  unfold State.complete
  rw [hat]
  split
  · dsimp only
    split
    · exact wakeStores_sameButIssue _ _
    · exact .refl _
  · exact .refl _

/-- The response `i` frees its request and leaves context `c` as `y`, but for whose turn it is to issue. -/
def Delivers (s : State) (p : Rsp) (c : CtxId) (i : Instr) (y : Context) : Prop :=
  ∃ t, exec i s = .next t ∧ t.net.outst = s.net.outst.filter (fun o => !decide (o.q.node = p.node ∧ o.q.rid = p.rid)) ∧
    ∃ st, t.ctx c = { y with state := st }

section
variable {s : State} {p : Rsp} (hnode : nodePresent s.member p.node = true) (hoff : s.nodeState p.node ≠ 1)
  (hiso : s.nodeState p.node ≠ 3) (hpoison : p.poison = 0)
include hnode

theorem exec_responses (ws : List Word) :
    exec (.rsp p) s = s.arriveRsp p (.rsp p) 0x28 (fun o st s => .next (s.complete o st [])) ∧
    exec (.rdata p ws) s = s.arriveRsp p (.rdata p ws) 0x29 (fun o st s => .next (s.complete o st ws)) ∧
    exec (.rrsp p ws) s = s.arriveRsp p (.rrsp p ws) 0x3E (fun o st s => .next (s.complete o st ws)) := by
  have hpresent : ¬ nodePresent s.member p.node = false := by simp [hnode]
  exact ⟨if_neg hpresent, if_neg hpresent, if_neg hpresent⟩

include hoff hiso hpoison

/-- A response that nothing awaits is counted by the cluster of its node (R351). -/
theorem responses_unawaited (hnone : s.outstOf p.node p.rid = none) (ws : List Word) :
    let came := fun (k : Packet) (cmd : Nat) => Claims.carried s k p.src p.node (s.rspHeader p cmd) false
    exec (.rsp p) s = .next ((came (.rsp p) 0x28).bumpCluster p.node 6) ∧
    exec (.rdata p ws) s = .next ((came (.rdata p ws) 0x29).bumpCluster p.node 6) ∧
    exec (.rrsp p ws) s = .next ((came (.rrsp p ws) 0x3E).bumpCluster p.node 6) := by
  have harrive (pkt : Packet) (cmd : Nat) (deliver : Outst → Nat → State → Out) : s.arriveRsp p pkt cmd deliver =
      .next ((Claims.carried s pkt p.src p.node (s.rspHeader p cmd) false).bumpCluster p.node 6) := by
    simp [State.arriveRsp, Claims.carried, hoff, hiso, hpoison, hnone]
  obtain ⟨hrsp, hrdata, hrrsp⟩ := exec_responses hnode ws
  exact ⟨hrsp.trans (harrive ..), hrdata.trans (harrive ..), hrrsp.trans (harrive ..)⟩

variable {o : Outst} {c : CtxId} {w : WaitRec} (hdup : p.dup = false) (hout : s.outstOf p.node p.rid = some o)
  (hwho : o.who = .strand c) (hrid : o.q.rid = p.rid) (hlead : s.pairLead = false)
include hdup hout hwho hrid hlead

omit hnode in
/-- What the strand does with a response is what the command of the response does. -/
theorem delivers_of_strandDone {i : Instr} {pkt : Packet} {cmd : Nat} {ws : List Word} {y : Context}
    (hexec : exec i s = s.arriveRsp p pkt cmd (fun o st s => .next (s.complete o st ws)))
    (hdone : SameButIssue ((s.responded p pkt cmd).setCtx c y) ((s.responded p pkt cmd).strandDone c p.rid p.status o.addr ws)) :
    Delivers s p c i y := by
  have hcomplete := complete_strand (s := s.responded p pkt cmd) hwho ((responded_pairLead ..).trans hlead) p.status ws
  rw [hrid] at hcomplete
  have hsame := hdone.trans hcomplete
  obtain ⟨st, hst⟩ := hsame.ctx c
  refine ⟨_, hexec.trans (arriveRsp_awaited hoff hiso hdup hpoison hout ..), ?_, st, ?_⟩
  · rw [hsame.net]
    exact responded_outst ..
  · rw [hst, State.ctx_setCtx]

variable (hkind : w.kind.lands = true) (hfind : (s.ctx c).waits.find? (fun w => decide (w.rid = p.rid)) = some w)
include hkind hfind

/-- Responses of STATUS 0 or 1 answer the access with the data they carry (R276). -/
theorem responses_land (hok : p.status < 2) (ws : List Word) :
    Delivers s p c (.rsp p) ((s.ctx c).answered w []) ∧ Delivers s p c (.rdata p ws) ((s.ctx c).answered w ws) ∧
    Delivers s p c (.rrsp p ws) ((s.ctx c).answered w ws) := by
  have hdone (pkt : Packet) (cmd : Nat) (vs : List Word) := responded_ctx s p pkt cmd c ▸
    strandDone_lands (s := s.responded p pkt cmd) hkind ((responded_ctx ..).symm ▸ hfind) hok o.addr vs
  have hdelivers := @delivers_of_strandDone s p hoff hiso hpoison o c hdup hout hwho hrid hlead
  obtain ⟨hrsp, hrdata, hrrsp⟩ := exec_responses hnode ws
  exact ⟨hdelivers hrsp (hdone ..), hdelivers hrdata (hdone ..), hdelivers hrrsp (hdone ..)⟩

/-- A response of STATUS 2 and above leaves a bus error for the next boundary (R350). -/
theorem rsp_refuses (hbad : 2 ≤ p.status) (hlate : (s.ctx c).lateErr = none) :
    Delivers s p c (.rsp p) ((s.ctx c).refused w p.status o.addr) := by
  have hdone := responded_ctx s p (.rsp p) 0x28 c ▸ strandDone_fails (s := s.responded p (.rsp p) 0x28) hkind
    ((responded_ctx ..).symm ▸ hfind) hbad ((responded_ctx ..).symm ▸ hlate) o.addr []
  exact delivers_of_strandDone hoff hiso hpoison hdup hout hwho hrid hlead (exec_responses hnode []).1 hdone
end

/-- Settles O39: a response that is awaited leaves the context as `Context.answered` or `Context.refused` says
(`responses_land`, `rsp_refuses`); one that is not is counted (`responses_unawaited`). -/
theorem responsesReachTheirStrand : Obligations.ResponsesReachTheirStrand := by
  intro s p ws hnode hoff hiso hpoison hdup came
  refine ⟨fun hnone => responses_unawaited hnode hoff hiso hpoison hnone ws, ?_⟩
  intro o c hout hwho hrid hlead x rest
  have hland {w : WaitRec} (hkind : w.kind.lands = true) :=
    responses_land hnode hoff hiso hpoison hdup hout hwho hrid hlead hkind
  refine ⟨fun w ds hfind hw hmicro hok => ?load, fun w hfind hw hlate => ⟨fun hok => ?stored, fun hbad => ?refused⟩,
    fun w d hfind hw hmicro hok => ?get⟩
  case load =>
    obtain ⟨-, ⟨t, hexec, hrest, st, hctx⟩, ⟨t', hexec', hrest', st', hctx'⟩⟩ := hland (by rw [hw]; rfl) hfind hok ws
    rw [Context.answered_plain hmicro, hw] at hctx hctx'
    exact ⟨⟨t, hexec, hrest, by rw [hctx], by rw [hctx]; rfl, by rw [hctx]; exact Context.applyAll_lateErr ..⟩,
      ⟨t', hexec', hrest', by rw [hctx'], by rw [hctx']; rfl⟩⟩
  case stored =>
    obtain ⟨⟨t, hexec, hrest, st, hctx⟩, -⟩ := hland (by rw [hw]; rfl) hfind hok ws
    rw [Context.answered_store hw] at hctx
    exact ⟨t, hexec, hrest, by rw [hctx], by rw [hctx], by rw [hctx]; exact hlate⟩
  case refused =>
    obtain ⟨t, hexec, hrest, st, hctx⟩ :=
      rsp_refuses hnode hoff hiso hpoison hdup hout hwho hrid hlead (by rw [hw]; rfl) hfind hbad hlate
    exact ⟨t, hexec, hrest, by rw [hctx]; rfl, by rw [hctx]; rfl, by rw [hctx]; rfl⟩
  case get =>
    obtain ⟨-, ⟨t, hexec, -, st, hctx⟩, -⟩ := hland (by rw [hw]; rfl) hfind hok ws
    rw [Context.answered_plain hmicro, hw] at hctx
    refine ⟨t, hexec, ?_, ?_⟩
    · rw [hctx]
      exact Map.get_set_self
    · rw [hctx]
      exact Fl.t_flT ..

end Sys2Proof.Machine

/-! Host functions and the duplicate windows of remote sources (R354, R355, R477 to R481, R588): who is answered at all, the
function page and its mailbox, what a function-level reset leaves, and what a window does with a request. -/

namespace Sys2Proof.Machine

section
variable {s : State}

/-! ### Views of pages and windows -/

@[simp] theorem State.hostFn_setHostFn (s : State) (f : Nat) (k : HostFn) : (s.setHostFn f k).hostFn f = k := Map.get_set_self
@[simp] theorem State.window_setWindow (s : State) (k : Nat) (w : Window) : (s.setWindow k w).window k = w := Map.get_set_self

theorem State.hostFn_of_host {t : State} (h : t.host = s.host) (f : Nat) : t.hostFn f = s.hostFn f := by
  rw [State.hostFn, h, State.hostFn]

theorem State.window_of_net {t : State} (h : t.net = s.net) (k : Nat) : t.window k = s.window k := by
  rw [State.window, h, State.window]

@[simp] theorem State.hostFn_barReply (s : State) (f tag : Nat) (abort : Bool) (v : Word) :
    (s.barReply f tag abort v).hostFn f = { s.hostFn f with cpl := some ⟨tag, abort, v⟩ } := State.hostFn_setHostFn ..

/-! ### Who is answered (R482, R588, R591) -/

section
variable {f : Nat} (hf : f < 64)
include hf

/-- A function that is not presented does not exist. -/
theorem hostAccess_absent (hthere : s.fnThere f = false) (x : ExtInput) (dep : Bool) (abort : State → State) :
    s.hostAccess f x dep abort = .next s := by
  rw [State.hostAccess, if_neg (Nat.not_le.2 hf), if_pos hthere]

/-- A fenced die serves nothing but reads of the DEP range. -/
theorem hostAccess_fenced (hthere : s.fnThere f = true) (hfenced : s.pair.fenced = true) (x : ExtInput)
    (abort : State → State) : s.hostAccess f x false abort = .next (abort s) := by
  simp [State.hostAccess, Nat.not_le.2 hf, hthere, hfenced]

variable (hthere : s.fnThere f = true) (hmember : s.member ≠ .z256d)
include hthere hmember

omit hf hthere in
/-- On a die that is no part of a pair an input acts at once. -/
theorem outsideInput_alone (x : ExtInput) : s.outsideInput x = s.applyInput x := by
  simp [State.outsideInput, State.pairLead, State.duplex, State.pairShadow, hmember]

theorem hostAccess_served (hfenced : s.pair.fenced = false) (x : ExtInput) (dep : Bool) (abort : State → State) :
    s.hostAccess f x dep abort = .next (s.applyInput x) := by
  have hshadow : s.pairShadow = false := by simp [State.pairShadow, hmember]
  simp [State.hostAccess, Nat.not_le.2 hf, hthere, hfenced, hshadow, outsideInput_alone hmember]

theorem execFunctionLevelReset_served : exec (.functionLevelReset f) s = .next (s.functionReset f) := by
  show execFunctionLevelReset f s = _
  simp [execFunctionLevelReset, Nat.not_le.2 hf, hthere, outsideInput_alone hmember, State.applyInput]
end

/-! ### Direct BAR accesses (R477, R478) -/

/-- BAR0 of the physical function spans the device registers. -/
theorem fnTargets_physical {a : Nat} (ha : a < 16777216) (write : Bool) :
    s.fnTargets 0 (BitVec.ofNat 24 a) write 1 = some [.device a] := by
  simp [State.fnTargets, Nat.mod_eq_of_lt ha]

/-- Function `f` has sent the request `op` for device register `a` to the node that serves it. -/
def AsksRegister (s : State) (f a : Nat) (op : ReqOp) (t : State) (q : Req) : Prop :=
  .req q op ∈ t.flight ∧ q.dest = s.servingNode a ∧ q.node = nodePcie f ∧ q.tenant = s.fnTenant f ∧ q.master = s.fnMaster f

theorem fnRequest_register (f a : Nat) (op : ReqOp) (who : Requester) :
    ∃ q, AsksRegister s f a op (s.fnRequest f (.device a) op who) q :=
  ⟨_, State.mem_flight_send .., rfl, rfl, rfl, rfl⟩

theorem barRead_register {a : Nat} (ha : a < 16777216) (tag : Nat) :
    ∃ q, AsksRegister s 0 a (.regrd a) (s.barRead 0 0 a tag) q := by
  simp only [State.barRead, fnTargets_physical ha]
  exact fnRequest_register ..

theorem barWrite_register {a : Nat} (ha : a < 16777216) (v : Word) :
    ∃ q, AsksRegister s 0 a (.regwr a v) (s.barWrite 0 0 a v true) q := by
  simp only [State.barWrite, fnTargets_physical ha, Bool.true_eq_false, if_false]
  exact fnRequest_register ..

/-! ### The mailbox (R479) -/

theorem mailSubmit_busy {f : Nat} (h : (s.hostFn f).busy = true) (cmd : Nat) :
    s.mailSubmit f cmd = s.setHostFn f { s.hostFn f with ovr := true } := by
  simp only [State.mailSubmit, h, if_true]

/-- A function's page once its mailbox has taken a command. -/
def HostFn.submitted (k : HostFn) : HostFn :=
  { k with busy := true, done := false, dup := false, status := 0, rrid := k.rid, rdata := [0, 0, 0], owed := 0 }

/-- The request that command `cmd` of the mailbox of function `f` makes of its page. -/
def HostFn.mailOf (k : HostFn) (f cmd : Nat) : Ingress :=
  ⟨none, nodePcie f, f, k.rid, cmd, k.addr, if cmd = 1 then [] else k.data.take (max 1 k.width), max 1 k.width⟩

theorem mailSubmit_idle {f cmd : Nat} (h : (s.hostFn f).busy = false) (hcmd : ¬ (cmd = 0 ∨ cmd > 4)) :
    (s.mailSubmit f cmd).hostFn f = (s.hostFn f).submitted ∧
      .ingress ((s.hostFn f).mailOf f cmd) ∈ (s.mailSubmit f cmd).flight := by
  simp only [State.mailSubmit, h, Bool.false_eq_true, if_false, if_neg hcmd]
  exact ⟨State.hostFn_setHostFn .., State.mem_flight_send ..⟩

/-! ### Notices (R481) -/

theorem takeNotice_none {f : Nat} (h : (s.hostFn f).notices = []) : s.takeNotice f = (0, s) := by
  simp only [State.takeNotice, h]

theorem takeNotice_cons {f n : Nat} {rest : List Nat} (h : (s.hostFn f).notices = n :: rest) :
    s.takeNotice f = (BitVec.ofNat 24 (0x800000 + n % 1024), s.setHostFn f { s.hostFn f with
      notices := rest ++ (s.hostFn f).waiting.take 1, waiting := (s.hostFn f).waiting.drop 1 }) := by
  simp only [State.takeNotice, h]

/-! ### Function-level reset (R480) -/

/-- `t` has the pages of the host functions, the requests and the windows of `s`. -/
structure SameHosts (s t : State) : Prop where
  host : t.host = s.host
  net : t.net = s.net

theorem SameHosts.refl (s : State) : SameHosts s s := ⟨rfl, rfl⟩

namespace SameHosts

variable {t : State} (h : SameHosts s t)
include h

theorem qRewind (n : Nat) (m : Word) : SameHosts s (t.qRewind n m) := by
  unfold State.qRewind
  dsimp only
  split
  · exact ⟨h.host, h.net⟩
  · exact h

theorem qDrop (n : Nat) (m : Word) : SameHosts s (t.qDrop n m) := by
  unfold State.qDrop
  dsimp only
  split
  · exact h
  · split
    · exact ⟨h.host, h.net⟩
    · exact h

theorem qLeave (m : Word) (keep : List Nat) : SameHosts s (t.qLeave m keep) :=
  List.foldlRecOn _ _ h fun u hu n _ => by
    unfold State.qLeave1
    split
    · exact hu.qDrop n m
    · exact (hu.qRewind n m).qDrop n m

theorem lkNote (l : Nat) (m : Word) (add : Bool) : SameHosts s (t.lkNote l m add) := by
  unfold State.lkNote
  dsimp only
  split
  · split
    · exact ⟨h.host, h.net⟩
    · exact h
  · exact h

theorem setLocket (l : Nat) (k : Locket) : SameHosts s (t.setLocket l k) := ⟨h.host, h.net⟩

theorem send (p : Packet) : SameHosts s (t.send p) := ⟨h.host, h.net⟩

theorem lkGive (l : Nat) (m : Word) : SameHosts s (t.lkGive l m) := (h.setLocket l _).lkNote l m true

/-- The locket goes to its oldest waiter, who is answered, or stays FREE. -/
theorem lkFree (l : Nat) : SameHosts s (t.lkFree l) := by
  have hnote := h.lkNote l (t.locket l).owner false
  unfold State.lkFree
  dsimp only
  split
  · exact hnote.setLocket ..
  · exact ((hnote.setLocket ..).lkGive ..).send _

theorem lkOrphan (l : Nat) : SameHosts s (t.lkOrphan l) := by
  have hlog (code node : Nat) (m detail : Word) : SameHosts s ((t.bump (Reg.lktGrp (l / 64) 5)).log code node m detail none) :=
    ⟨h.host, h.net⟩
  unfold State.lkOrphan
  dsimp only
  split
  · exact ((hlog ..).lkNote ..).setLocket ..
  · exact (hlog ..).lkFree l

theorem lkLeave (m : Word) : SameHosts s (t.lkLeave m) :=
  List.foldlRecOn _ _ (List.foldlRecOn _ _ h fun _ hu l _ => hu.setLocket l _) fun _ hu l _ => hu.lkOrphan l

theorem masterLeaves (m : Word) (keep : List Nat) : SameHosts s (t.masterLeaves m keep) := (h.qLeave m keep).lkLeave m

end SameHosts

/-- The page reads 0 but for its notices and its last completion, and the window is empty. -/
theorem functionReset_page (s : State) (f : Nat) : (s.functionReset f).window (windowKey false f) = Window.new ∧
    (s.functionReset f).hostFn f = { HostFn.zero with
      notices := (s.hostFn f).notices, waiting := (s.hostFn f).waiting, cpl := (s.hostFn f).cpl } := by
  have hleaves (t : State) := (SameHosts.refl t).masterLeaves (s.fnMaster f) []
  constructor
  · exact (State.window_of_net (hleaves _).net _).trans (State.window_setWindow ..)
  · exact (State.hostFn_of_host (hleaves _).host _).trans (State.hostFn_setHostFn ..)

/-! ### Duplicate windows (R355) -/

theorem execIngressRequest_of_meets {g : Ingress} {t : State} (h : (s.take (.ingress g)).meetWindow g = t) :
    exec (.ingressRequest g) s = .next t := congrArg Host.Outcome.next h

/-- A RID is newer than the window's newest: it is ahead by at most 8,191, or the window is empty. -/
def Window.newer (w : Window) (r : Nat) : Bool :=
  match w.newest with
  | none => true
  | some n => decide (1 ≤ (r + 16384 - n) % 16384 ∧ (r + 16384 - n) % 16384 ≤ 8191)

theorem Window.newer_of {w : Window} {r : Nat} (h : w.newest = none ∨ ∃ n, w.newest = some n ∧
    1 ≤ (r + 16384 - n) % 16384 ∧ (r + 16384 - n) % 16384 ≤ 8191) : w.newer r = true := by
  unfold Window.newer
  rcases h with hnone | ⟨n, hsome, hahead⟩
  · rw [hnone]
  · rw [hsome]
    exact decide_eq_true hahead

section
variable {g : Ingress} {h : LinkHdr} (hlink : g.link = some h)
include hlink

/-- A request of a link enters the Trellis as a register request of the warden. -/
theorem passOn_link : ∃ q, .req q (if g.cmd = 1 then .regrd g.addr.toNat else .regwr g.addr.toNat (g.data.headD 0)) ∈
    (s.passOn g).flight ∧ q.dest = s.servingNode g.addr.toNat ∧ q.tenant = 0 := by
  simp only [State.passOn, hlink]
  exact ⟨_, State.mem_flight_send .., rfl, rfl⟩

theorem passOn_link_window (k : Nat) : (s.passOn g).window k = s.window k := by
  simp only [State.passOn, hlink]
  rfl

theorem ingressAnswer_link (status : Nat) (dup : Bool) :
    s.ingressAnswer g status dup = s.linkReply g.node (.rsp (s.replyHdr h) status dup) := by
  simp only [State.ingressAnswer, hlink]

/-- A newer RID is recorded as the newest, and its request goes on. -/
theorem meetWindow_newer (hnew : (s.window (windowKey true g.src)).newer (g.rid % 16384) = true)
    (hroom : (s.window (windowKey true g.src)).recs.length < 256) : s.meetWindow g = (s.setWindow (windowKey true g.src)
      ⟨some (g.rid % 16384), (s.window (windowKey true g.src)).recs ++ [(g.rid % 16384, none)]⟩).passOn g := by
  have hkept : (s.window (windowKey true g.src)).recs.length + 1 - 256 = 0 := by omega
  unfold Window.newer at hnew
  simp only [State.meetWindow, hlink, Option.isSome_some, List.length_append, List.length_singleton, hkept, List.drop_zero]
  exact if_pos hnew

section
variable {n : Nat} (hnewest : (s.window (windowKey true g.src)).newest = some n)
  (hold : ¬ (1 ≤ (g.rid % 16384 + 16384 - n) % 16384 ∧ (g.rid % 16384 + 16384 - n) % 16384 ≤ 8191))
include hnewest hold

/-- A RID that is older, and is still in the window's record, is not passed on: it is dropped until its response has left, and
answered again after that. -/
theorem meetWindow_recorded (hnear : (n + 16384 - g.rid % 16384) % 16384 ≤ 255) {st : Option Nat}
    (hfind : (s.window (windowKey true g.src)).recs.find? (fun e => decide (e.1 = g.rid % 16384)) = some (g.rid % 16384, st)) :
    s.meetWindow g = st.elim (s.bumpCluster g.node 7) ((s.bumpCluster g.node 7).ingressAnswer g · true) := by
  simp only [State.meetWindow, hlink, Option.isSome_some, hnewest, hold, decide_false, Bool.false_eq_true, if_false,
    Option.getD_some, hnear, true_and, hfind]
  cases st <;> rfl

/-- A RID too old for the record gets STATUS 6. -/
theorem meetWindow_lost (hfar : 255 < (n + 16384 - g.rid % 16384) % 16384) :
    s.meetWindow g = (s.bumpCluster g.node 7).ingressAnswer g 6 false := by
  have hnone (l : List (Nat × Option Nat)) : l.find? (fun _ => false) = none := List.find?_eq_none.2 (by simp)
  simp only [State.meetWindow, hlink, Option.isSome_some, hnewest, hold, decide_false, Bool.false_eq_true, if_false,
    Option.getD_some, Nat.not_le.2 hfar, false_and, hnone]
end
end
end

/-! ### The commands of a function -/

section
variable {s : State} {f : Nat} (hf : f < 64)
include hf

theorem host_absent (hthere : s.fnThere f = false) (bar a tag : Nat) :
    exec (.pcieBarRead f bar a tag) s = .next s ∧ exec (.functionLevelReset f) s = .next s := by
  constructor
  · show execPcieBarRead f bar a tag s = _
    exact hostAccess_absent hf hthere ..
  · exact (if_neg (Nat.not_le.2 hf)).trans (if_pos hthere)

/-- Outside the DEP range a fenced die aborts the read (R588). -/
theorem execPcieBarRead_fenced (hthere : s.fnThere f = true) (hfenced : s.pair.fenced = true) {bar a : Nat}
    (hdep : ¬ (f = 0 ∧ bar = 0 ∧ a < 0x1000)) (tag : Nat) :
    exec (.pcieBarRead f bar a tag) s = .next (s.barReply f tag true 0) := by
  show execPcieBarRead f bar a tag s = _
  rw [execPcieBarRead, decide_eq_false hdep, hostAccess_fenced hf hthere hfenced]

variable (hthere : s.fnThere f = true) (hfenced : s.pair.fenced = false) (hmember : s.member ≠ .z256d)
include hthere hfenced hmember

theorem execPcieBarRead_served (bar a tag : Nat) : exec (.pcieBarRead f bar a tag) s = .next (s.barRead f bar a tag) := by
  show execPcieBarRead f bar a tag s = _
  exact hostAccess_served hf hthere hmember hfenced ..

theorem execPcieBarWrite_served (bar a : Nat) (v : Word) (whole : Bool) :
    exec (.pcieBarWrite f bar a v whole) s = .next (s.barWrite f bar a v whole) :=
  hostAccess_served hf hthere hmember hfenced ..

theorem execSevflags_served (v : Word) : exec (.sevflags f v) s = .next (s.doorbell f v) :=
  hostAccess_served hf hthere hmember hfenced ..

theorem execNoticeRead_served :
    exec (.noticeRead f) s = .next ((s.takeNotice f).2.barReply f 0 false (s.takeNotice f).1) := by
  show execNoticeRead f s = _
  exact hostAccess_served hf hthere hmember hfenced ..

omit hf hthere hfenced hmember in
/-- What the four commands of the mailbox have in common. -/
theorem mailbox_served {i : Instr} {cmd : Nat} (hexec : exec i s = .next (s.mailSubmit f cmd)) (hcmd : ¬ (cmd = 0 ∨ cmd > 4)) :
    let k := s.hostFn f
    (k.busy = true → exec i s = .next (s.setHostFn f { k with ovr := true })) ∧
    (k.busy = false → ∃ t, exec i s = .next t ∧ t.hostFn f = k.submitted ∧ .ingress (k.mailOf f cmd) ∈ t.flight) :=
  ⟨fun hbusy => hexec.trans (congrArg _ (mailSubmit_busy hbusy cmd)), fun hidle => ⟨_, hexec, mailSubmit_idle hidle hcmd⟩⟩

/-- A notice that is read leaves the FIFO, and the one that waits longest takes its room (R481). -/
theorem noticeRead_page : let k := s.hostFn f
    (∀ n rest, k.notices = n :: rest → ∃ t, exec (.noticeRead f) s = .next t ∧ t.hostFn f =
      { k with
        notices := rest ++ k.waiting.take 1
        waiting := k.waiting.drop 1
        cpl := some ⟨0, false, BitVec.ofNat 24 (0x800000 + n % 1024)⟩ }) ∧
    (k.notices = [] → ∃ t, exec (.noticeRead f) s = .next t ∧ t.hostFn f = { k with cpl := some ⟨0, false, 0⟩ }) := by
  refine ⟨fun n rest hcons => ⟨_, execNoticeRead_served hf hthere hfenced hmember, ?_⟩,
    fun hnil => ⟨_, execNoticeRead_served hf hthere hfenced hmember, ?_⟩⟩
  · rw [takeNotice_cons hcons, State.hostFn_barReply, State.hostFn_setHostFn]
  · rw [takeNotice_none hnil, State.hostFn_barReply]

/-- SEVFLAGS sends the flags that DISP.BIND grants the function in its task, if any (R481). -/
theorem sevflags_granted (v : Word) : let k := s.hostFn f
    (s.bindFlags 3 f k.sevTask 1024 &&& v ≠ 0 → ∃ t, exec (.sevflags f v) s = .next t ∧
      t.flight = s.flight ++ [.sev k.sevTask (s.bindFlags 3 f k.sevTask 1024 &&& v) (.bind 3 f)]) ∧
    (s.bindFlags 3 f k.sevTask 1024 &&& v = 0 → exec (.sevflags f v) s = .next s) := by
  rw [execSevflags_served hf hthere hfenced hmember]
  refine ⟨fun hsome => ⟨_, rfl, ?_⟩, fun hnone => congrArg _ (if_pos hnone)⟩
  rw [State.doorbell, if_neg hsome]
  rfl
end

/-- Settles O50: access by access, who is answered (`hostAccess_absent`, `hostAccess_fenced`, `hostAccess_served`) and what the
BARs, the mailbox, the page and the reset leave; `meetWindow_newer`, `meetWindow_recorded` and `meetWindow_lost` are the cases of
a request under management. -/
theorem hostFunctions : Obligations.HostFunctions := by
  intro s f bar a tag v g h hf k mail
  refine ⟨fun hthere => host_absent hf hthere bar a tag, fun hthere hfenced _ ha => ?fenced,
    fun hthere hfenced hmember => ?served, fun hlink => ?window⟩
  case fenced =>
    exact ⟨_, execPcieBarRead_fenced hf hthere hfenced (by omega) tag, State.hostFn_barReply ..⟩
  case served =>
    have hread := execPcieBarRead_served hf hthere hfenced hmember
    have hwrite := execPcieBarWrite_served hf hthere hfenced hmember
    have hmail {i : Instr} {cmd : Nat} (hexec : exec i s = s.hostAccess f (.mailbox f cmd) false id) :=
      mailbox_served (hexec.trans (hostAccess_served hf hthere hmember hfenced ..))
    obtain ⟨hnotice, hempty⟩ := noticeRead_page hf hthere hfenced hmember
    obtain ⟨hflags, hquiet⟩ := sevflags_granted hf hthere hfenced hmember v
    refine ⟨fun hzero ha => ?registers, ⟨_, hread .., State.hostFn_barReply ..⟩, ⟨_, hread .., State.hostFn_barReply ..⟩,
      ⟨_, hwrite .., State.hostFn_setHostFn ..⟩, hwrite .., hmail rfl (by decide), hmail rfl (by decide), hmail rfl (by decide),
      hmail rfl (by decide), hnotice, hempty, hflags, hquiet,
      ⟨_, execFunctionLevelReset_served hf hthere hmember, functionReset_page s f⟩⟩
    case registers =>
      subst hzero
      obtain ⟨q, hq⟩ := barRead_register (s := s) ha tag
      obtain ⟨q', hq'⟩ := barWrite_register (s := s) ha v
      exact ⟨⟨_, q, hread .., hq⟩, ⟨_, q', hwrite .., hq'⟩⟩
  case window =>
    intro key w m r again
    refine ⟨fun hnew hroom => ?newer, fun n hnewest _ hold => ⟨fun hnear st hfind => ?recorded, fun hfar => ?lost⟩⟩
    case newer =>
      obtain ⟨q, hsent, hdest, htenant⟩ := passOn_link (s := m.setWindow key ⟨some r, w.recs ++ [(r, none)]⟩) hlink
      exact ⟨_, execIngressRequest_of_meets (meetWindow_newer hlink (Window.newer_of hnew) hroom),
        (passOn_link_window hlink key).trans (State.window_setWindow ..), q, _, hsent, hdest, htenant, rfl⟩
    case recorded =>
      have hmeet := execIngressRequest_of_meets (meetWindow_recorded (s := m) hlink hnewest hold hnear hfind)
      refine ⟨fun hnone => ?_, fun b hsome => ?_⟩
      · rw [hmeet, hnone]
        rfl
      · rw [hmeet, hsome]
        exact congrArg _ (ingressAnswer_link hlink ..)
    case lost =>
      exact execIngressRequest_of_meets ((meetWindow_lost (s := m) hlink hnewest hold hfar).trans (ingressAnswer_link hlink ..))

end Sys2Proof.Machine

/-! Hardware queues (R371 to R385): what operations at queues and lockets leave alone, what puts, commits, gets, drops and
records do at the bank, and the commands that reach the queue node. -/

namespace Sys2Proof.Machine

section
variable {s t : State}

/-! ### Views of queues and lockets -/

@[simp] theorem State.queue_setQueue (s : State) (n : Nat) (k : Queue) : (s.setQueue n k).queue n = k := Map.get_set_self
@[simp] theorem State.locket_setLocket (s : State) (l : Nat) (k : Locket) : (s.setLocket l k).locket l = k := Map.get_set_self

theorem State.queue_setQueue_other (s : State) {n j : Nat} (k : Queue) (hj : j ≠ n) : (s.setQueue n k).queue j = s.queue j :=
  Map.get_set_other hj

theorem State.queue_of_banks (h : t.banks = s.banks) (n : Nat) : t.queue n = s.queue n := by
  rw [State.queue, h, State.queue]

theorem State.locket_of_banks (h : t.banks = s.banks) (l : Nat) : t.locket l = s.locket l := by
  rw [State.locket, h, State.locket]

@[simp] theorem arrived_banks (s : State) (q : Req) (op : ReqOp) : (Claims.arrived s q op).banks = s.banks := by
  obtain ⟨r, f, e⟩ := arrived_frame s q op
  rw [e]

@[simp] theorem arrived_queue (s : State) (q : Req) (op : ReqOp) (n : Nat) : (Claims.arrived s q op).queue n = s.queue n :=
  State.queue_of_banks (arrived_banks ..) n

@[simp] theorem arrived_locket (s : State) (q : Req) (op : ReqOp) (l : Nat) : (Claims.arrived s q op).locket l = s.locket l :=
  State.locket_of_banks (arrived_banks ..) l

/-! ### What operations of queues and lockets leave alone

The counters of the filters, the queues and the locket groups are words 5 to 15 of 16; words 0 to 4 configure. -/

/-- `t` has the memories and the configuration of `s`. -/
structure SameSetup (s t : State) : Prop where
  member : t.member = s.member
  fenced : t.pair.fenced = s.pair.fenced
  memory : t.memory = s.memory
  reg : ∀ a, a % 16 < 5 → t.reg a = s.reg a

theorem SameSetup.refl (s : State) : SameSetup s s := ⟨rfl, rfl, rfl, fun _ _ => rfl⟩

theorem arrived_sameSetup (s : State) (q : Req) (op : ReqOp) : SameSetup s (Claims.arrived s q op) :=
  ⟨arrived_member .., by rw [arrived_pair], arrived_memory .., fun _ ha => arrived_reg _ _ _ (by omega)⟩

/-- The counters of a queue. -/
theorem que_counter (n : Nat) {w : Nat} (hw : 5 ≤ w ∧ w < 16) : 5 ≤ Reg.que n w % 16 := by rw [Reg.que]; omega

/-- The counters of a locket group. -/
theorem lktGrp_counter (g : Nat) {w : Nat} (hw : 5 ≤ w ∧ w < 8) : 5 ≤ Reg.lktGrp g w % 16 := by rw [Reg.lktGrp]; omega

namespace SameSetup

variable (h : SameSetup s t)
include h

theorem regField {a : Nat} (ha : a % 16 < 5) (lo len : Nat) : t.regField a lo len = s.regField a lo len := by
  rw [State.regField, h.reg a ha, State.regField]

theorem queField (n lo len : Nat) : t.regField (Reg.que n 0) lo len = s.regField (Reg.que n 0) lo len :=
  h.regField (by rw [Reg.que]; omega) lo len

theorem qMode (n : Nat) : t.qMode n = s.qMode n := h.queField ..

theorem onPut (n : Nat) (m : Word) : t.onPut n m = s.onPut n m := by
  rw [State.onPut, State.qPkind, State.qPsrc, h.queField, h.queField]; rfl

theorem onGet (n : Nat) (m : Word) : t.onGet n m = s.onGet n m := by
  rw [State.onGet, State.qCkind, State.qCsrc, h.queField, h.queField]; rfl

theorem qFw {n : Nat} (hq : t.queue n = s.queue n) : t.qFw n = s.qFw n := by
  have hcap : t.qCap n = s.qCap n := by
    rw [State.qCap, h.regField (by rw [Reg.que]; omega), State.qCap]
  rw [State.qFw, hcap, hq, State.qFw]

theorem duplex : t.duplex = s.duplex := by
  have hstate : t.pairState = s.pairState := h.regField (by decide) 21 3
  rw [State.duplex, h.member, hstate, h.fenced, State.duplex]

theorem bump {a : Nat} (ha : 5 ≤ a % 16) : SameSetup s (t.bump a) :=
  ⟨h.member, h.fenced, h.memory, fun b hb => (t.reg_bump_other fun e => by omega).trans (h.reg b hb)⟩

theorem bumpBy {a : Nat} (n : Nat) (ha : 5 ≤ a % 16) : SameSetup s (t.bumpBy a n) :=
  ⟨h.member, h.fenced, h.memory, fun b hb => (t.reg_setReg_other _ fun e => by omega).trans (h.reg b hb)⟩

theorem send (p : Packet) : SameSetup s (t.send p) := ⟨h.member, h.fenced, h.memory, h.reg⟩
theorem setCtx (c : CtxId) (x : Context) : SameSetup s (t.setCtx c x) := ⟨h.member, h.fenced, h.memory, h.reg⟩
theorem setQueue (n : Nat) (k : Queue) : SameSetup s (t.setQueue n k) := ⟨h.member, h.fenced, h.memory, h.reg⟩
theorem setLocket (l : Nat) (k : Locket) : SameSetup s (t.setLocket l k) := ⟨h.member, h.fenced, h.memory, h.reg⟩
theorem sendPair (f : CtlFrame) : SameSetup s (t.sendPair f) := ⟨h.member, h.fenced, h.memory, h.reg⟩

end SameSetup

/-! ### Packets become readable (R375, R384) -/

theorem State.fireBinds_frame (s : State) (kind src : Nat) (mask : Word) :
    ∃ f, s.fireBinds kind src mask = { s with flight := f } := by
  unfold State.fireBinds
  generalize s.bindTargets kind src 1024 = l
  induction l generalizing s with
  | nil => exact ⟨_, rfl⟩
  | cons e l ih =>
    rw [List.foldl_cons]
    split
    · exact ih s
    · exact ih _

/-- The notice of a commit sends flags, and may enter a host function's page. -/
theorem State.notice_frame (s : State) (n : Nat) : ∃ f g, s.notice n = { s with flight := f, host := g } := by
  obtain ⟨f, e⟩ := s.fireBinds_frame 2 n 0xFFFFFF
  unfold State.notice
  dsimp only
  rw [e]
  split
  · exact ⟨_, _, rfl⟩
  · exact ⟨_, _, rfl⟩

@[simp] theorem State.queue_notice (s : State) (n j : Nat) : (s.notice n).queue j = s.queue j := by
  obtain ⟨f, g, e⟩ := s.notice_frame n
  rw [e]
  rfl

theorem SameSetup.notice (h : SameSetup s t) (n : Nat) : SameSetup s (t.notice n) := by
  obtain ⟨f, g, e⟩ := t.notice_frame n
  rw [e]
  exact ⟨h.member, h.fenced, h.memory, h.reg⟩

@[simp] theorem State.queue_readable (s : State) (n : Nat) (p : QPacket) :
    (s.readable n p).queue n = { s.queue n with packets := (s.queue n).packets ++ [p] } :=
  (State.queue_notice ..).trans (State.queue_setQueue ..)

/-- On a die that does not run duplex a committed packet is readable at once. -/
theorem commitPacket_alone (h : s.duplex = false) (n : Nat) (p : QPacket) : s.commitPacket n p = s.readable n p := by
  simp [State.commitPacket, h]

/-! ### Puts, commits and rewinds (R373 to R376) -/

/-- The queue after master `m` has put `v` into its packet. -/
def Queue.extended (k : Queue) (m v : Word) : Queue := { k with opened := true, putOwner := m, openW := k.openW ++ [v] }

section
variable {n : Nat} {m : Word}

/-- With room a put of the packet's producer opens the packet or extends it. -/
theorem qPut_room (v : Word) (hmode : s.qMode n = 1) (hown : (s.queue n).opened = false ∨ (s.queue n).putOwner = m)
    (hlen : (s.queue n).openW.length < 4032) (hfw : 1 ≤ s.qFw n) (hfb : (s.queue n).openW ≠ [] ∨ 1 ≤ (s.queue n).fb) :
    s.qPut n m v = (s.setQueue n ((s.queue n).extended m v), true) := by
  have hclaim : ¬ ((s.queue n).opened && decide ((s.queue n).putOwner ≠ m)) = true := by
    rcases hown with ho | hm
    · simp [ho]
    · simp [hm]
  unfold State.qPut
  dsimp only
  rw [if_neg hclaim, if_pos hmode, if_pos ⟨hlen, hfw, hfb⟩, Queue.extended]

/-- A put while another master's packet is open has no effect. -/
theorem qPut_foreign (v : Word) (hopen : (s.queue n).opened = true) (hown : (s.queue n).putOwner ≠ m) :
    s.qPut n m v = (s, false) := by
  simp [State.qPut, hopen, hown]

section
variable (hopen : (s.queue n).opened = true) (hown : (s.queue n).putOwner = m)
include hopen hown

theorem qCommit_own (hlost : (s.queue n).lost = false) (hduplex : s.duplex = false) :
    (s.qCommit n m).queue n =
      { (s.queue n).close with packets := (s.queue n).packets ++ [⟨(s.queue n).openW, false⟩] } := by
  have hsetup := ((SameSetup.refl s).setQueue n (s.queue n).close).bump (que_counter n (w := 8) (by decide))
  have hclosed : ((s.setQueue n (s.queue n).close).bump (Reg.que n 8)).queue n = (s.queue n).close := State.queue_setQueue ..
  unfold State.qCommit
  simp only [hopen, hown, hlost, decide_true, Bool.and_self, if_true, Bool.false_eq_true, if_false]
  rw [commitPacket_alone (hsetup.duplex.trans hduplex), State.queue_readable, hclosed]
  rfl

theorem qRewind_own : (s.qRewind n m).queue n = (s.queue n).close := by
  simp only [State.qRewind, hopen, hown, decide_true, Bool.and_self, if_true]
  exact State.queue_setQueue ..
end

/-! ### Gets and drops (R378 to R380) -/

theorem pull_next {k : Queue} {ps : List QPacket} {x y : Word} {ws : List Word} {g : Bool} (m : Word)
    (h : k.packets = ⟨x :: y :: ws, g⟩ :: ps) :
    k.pull m = (x, { k with packets := ⟨y :: ws, g⟩ :: ps, getOwner := m }) := by
  simp only [Queue.pull, h]

theorem pull_last {k : Queue} {ps : List QPacket} {x : Word} {g : Bool} (m : Word) (h : k.packets = ⟨[x], g⟩ :: ps) :
    k.pull m = (x, { k with packets := ps, getOwner := 0 }) := by
  simp only [Queue.pull, h]

theorem mayGet_of_packet {k : Queue} {p : QPacket} {ps : List QPacket} (h : k.packets = p :: ps)
    (hown : k.getOwner = 0 ∨ k.getOwner = m) : k.mayGet m = true := by
  unfold Queue.mayGet
  simpa [h] using hown

variable {q : Req}

/-- A sound word that the reader may take is delivered. -/
theorem qChecked_takes {x : Word} {k' : Queue} (hmay : (s.queue n).mayGet q.master = true)
    (hpull : (s.queue n).pull q.master = (x, k')) :
    s.qChecked q n .sound = (s.setQueue n k').answerData q [x, 1] := by
  simp only [State.qChecked, State.qGet, hmay, hpull, if_true, Bool.true_eq_false, if_false]

/-- A get that takes nothing leaves the queue as it is. -/
theorem qChecked_empty (h : (s.queue n).packets = []) : (s.qChecked q n .sound).queue n = s.queue n := by
  have hmay : (s.queue n).mayGet q.master = false := by simp [Queue.mayGet, h]
  simp only [State.qChecked, State.qGet, hmay, if_true, Bool.false_eq_true, if_false]
  rfl

theorem qDrop_claimed {p : QPacket} {ps : List QPacket} (h : (s.queue n).packets = p :: ps) (hown : (s.queue n).getOwner = m)
    (hm : m ≠ 0) : (s.qDrop n m).queue n = { s.queue n with packets := ps, getOwner := 0 } := by
  simp only [State.qDrop, h]
  rw [if_pos ⟨hown, hm⟩]
  exact State.queue_setQueue ..
end

/-! ### Device records (R385) -/

/-- A record that fits a queue of MODE 1 is one committed packet. -/
theorem qRecord_fits {n node : Nat} {ws : List Word} (hkind : s.qPkind n = 3) (hmode : s.qMode n = 1)
    (hfree : (s.queue n).opened = false) (hfw : ws.length ≤ s.qFw n) (hfb : 1 ≤ (s.queue n).fb) (hlen : ws.length ≤ 4032)
    (hduplex : s.duplex = false) :
    (s.qRecord n node ws).queue n = { s.queue n with packets := (s.queue n).packets ++ [⟨ws, false⟩] } := by
  have hsetup := (SameSetup.refl s).bump (que_counter n (w := 8) (by decide))
  unfold State.qRecord
  rw [if_neg (by simp [hkind, hmode]), if_pos hmode, if_pos ⟨hfree, hfw, hfb, hlen⟩,
    commitPacket_alone (hsetup.duplex.trans hduplex), State.queue_readable]
  rfl

/-! ### The commands that reach the queue node -/

section
variable {q : Req} {n : Nat} (h : Claims.reaches s q)
include h

/-- A queue in MODE 0, or a master of the wrong side, gets STATUS 2 (R371, R372). -/
theorem atQueue_refused {op : ReqOp} (hvc : op.vc4 = false) {side : State → Bool} {k : State → State}
    (hwrong : s.qMode n = 0 ∨ side (Claims.arrived s q op) = false) :
    s.atQueue q op n side k = .next ((Claims.arrived s q op).answer q 2) := by
  rw [State.atQueue, arriveReq_of_reaches h hvc, (arrived_sameSetup s q op).qMode]
  exact if_pos (or_assoc.1 (.inl hwrong))

variable (hdest : q.dest = nodeQueues)
include hdest

theorem atQueue_served {op : ReqOp} (hvc : op.vc4 = false) (hmode : s.qMode n ≠ 0) {side : State → Bool}
    (hside : side (Claims.arrived s q op) = true) (k : State → State) :
    s.atQueue q op n side k = .next (k (Claims.arrived s q op)) := by
  rw [State.atQueue, arriveReq_of_reaches h hvc, (arrived_sameSetup s q op).qMode]
  exact if_neg (by simp [hmode, hside, hdest])

variable (hmode : s.qMode n ≠ 0)
include hmode

section
variable (hput : s.onPut n q.master = true)
include hput

theorem atQueue_put {op : ReqOp} (hvc : op.vc4 = false) (k : State → State) :
    s.atQueue q op n (fun u => u.onPut n q.master) k = .next (k (Claims.arrived s q op)) :=
  atQueue_served h hdest hvc hmode (((arrived_sameSetup s q op).onPut ..).trans hput) k

theorem execQueuePut_served (v : Word) : exec (.queuePut q n v) s =
    .next (((Claims.arrived s q (.qput n v)).qPut n q.master v).1.answerData q
      [BitVec.ofNat 24 ((Claims.arrived s q (.qput n v)).qPut n q.master v).2.toNat]) := by
  show execQueuePut q n v s = _
  exact atQueue_put h hdest hmode hput rfl _

theorem execQueueCommit_answered (hkind : Master.kind q.master ≠ 1) : exec (.queueCommit q n) s =
    .next (((Claims.arrived s q (.qcommit n)).qCommit n q.master).answer q 0) :=
  (if_neg hkind).trans (atQueue_put h hdest hmode hput rfl _)

theorem execQueueRewind_served : exec (.queueRewind q n) s =
    .next (((Claims.arrived s q (.qrwd n)).qRewind n q.master).answer q 0) := by
  show execQueueRewind q n s = _
  exact atQueue_put h hdest hmode hput rfl _
end

section
variable (hget : s.onGet n q.master = true)
include hget

theorem atQueue_get {op : ReqOp} (hvc : op.vc4 = false) (k : State → State) :
    s.atQueue q op n (fun u => u.onGet n q.master) k = .next (k (Claims.arrived s q op)) :=
  atQueue_served h hdest hvc hmode (((arrived_sameSetup s q op).onGet ..).trans hget) k

theorem execQueueGet_served (ecc : Ecc) : exec (.queueGet q n ecc) s =
    .next ((Claims.arrived s q (.qget n)).qChecked q n ecc) := by
  show execQueueGet q n ecc s = _
  exact atQueue_get h hdest hmode hget rfl _

theorem execQueueDrop_served : exec (.queueDrop q n) s =
    .next (((Claims.arrived s q (.qdrop n)).qDrop n q.master).answer q 0) := by
  show execQueueDrop q n s = _
  exact atQueue_get h hdest hmode hget rfl _
end

section
variable (hside : s.onPut n q.master = true ∨ s.onGet n q.master = true)
include hside

theorem atQueue_either {op : ReqOp} (hvc : op.vc4 = false) (k : State → State) :
    s.atQueue q op n (fun u => u.onPut n q.master || u.onGet n q.master) k = .next (k (Claims.arrived s q op)) := by
  refine atQueue_served h hdest hvc hmode ?_ k
  rw [(arrived_sameSetup s q op).onPut, (arrived_sameSetup s q op).onGet]
  exact Bool.or_eq_true_iff.2 hside

theorem execQueueStatus_served : exec (.queueStatus q n) s = .next ((Claims.arrived s q (.qstat n)).answerData q
    [if s.onGet n q.master then (Claims.arrived s q (.qstat n)).qConsumer n q.master
      else (Claims.arrived s q (.qstat n)).qProducer n q.master]) := by
  rw [← (arrived_sameSetup s q (.qstat n)).onGet]
  show execQueueStatus q n s = _
  exact atQueue_either h hdest hmode hside rfl _

theorem execPstatus_served : exec (.pstatus q n) s =
    .next ((Claims.arrived s q (.qpstat n)).answerData q [(Claims.arrived s q (.qpstat n)).qProducer n q.master]) := by
  show execPstatus q n s = _
  exact atQueue_either h hdest hmode hside rfl _
end

/-! ### What the commands of a queue do -/

section
variable (hput : s.onPut n q.master = true)
include hput

/-- A put that finds room appends its word to the open packet and touches no other queue. -/
theorem queuePut_room (v : Word) (hmode1 : s.qMode n = 1)
    (hown : (s.queue n).opened = false ∨ (s.queue n).putOwner = q.master) (hlen : (s.queue n).openW.length < 4032)
    (hfw : 1 ≤ s.qFw n) (hfb : (s.queue n).openW ≠ [] ∨ 1 ≤ (s.queue n).fb) :
    ∃ t, exec (.queuePut q n v) s = .next t ∧
      t.queue n = (s.queue n).extended q.master v ∧
      .rdata (rspOf q 0) [1] ∈ t.flight ∧ ∀ j, j ≠ n → t.queue j = s.queue j := by
  have hset := arrived_sameSetup s q (.qput n v)
  have hq (j : Nat) := arrived_queue s q (.qput n v) j
  have hroom := qPut_room (s := Claims.arrived s q (.qput n v)) (m := q.master) v (by rwa [hset.qMode]) (by rwa [hq])
    (by rwa [hq]) (by rwa [hset.qFw (hq n)]) (by rwa [hq])
  rw [hq] at hroom
  refine ⟨_, execQueuePut_served h hdest hmode hput v, ?_, ?_, fun j hj => ?_⟩
  · rw [hroom]
    exact State.queue_setQueue ..
  · rw [hroom]
    exact State.mem_flight_send ..
  · rw [hroom]
    exact (State.queue_setQueue_other _ _ hj).trans (hq j)

section
variable (hopen : (s.queue n).opened = true)
include hopen

theorem queuePut_foreign (v : Word) (hown : (s.queue n).putOwner ≠ q.master) :
    ∃ t, exec (.queuePut q n v) s = .next t ∧ t.queue n = s.queue n ∧ .rdata (rspOf q 0) [0] ∈ t.flight := by
  have hq := arrived_queue s q (.qput n v) n
  have hkept := qPut_foreign (s := Claims.arrived s q (.qput n v)) (m := q.master) v (by rwa [hq]) (by rwa [hq])
  refine ⟨_, execQueuePut_served h hdest hmode hput v, ?_, ?_⟩
  · rw [hkept]
    exact hq
  · rw [hkept]
    exact State.mem_flight_send ..

variable (hown : (s.queue n).putOwner = q.master)
include hown

omit h hdest hmode hput in
/-- A commit of the own packet, as the state in which its request arrived serves it. -/
theorem qCommit_arrived (op : ReqOp) (hlost : (s.queue n).lost = false) (hduplex : s.duplex = false) :
    ((Claims.arrived s q op).qCommit n q.master).queue n =
      { (s.queue n).close with packets := (s.queue n).packets ++ [⟨(s.queue n).openW, false⟩] } := by
  have hq := arrived_queue s q op n
  rw [← hq]
  exact qCommit_own (by rwa [hq]) (by rwa [hq]) (by rwa [hq]) ((arrived_sameSetup ..).duplex.trans hduplex)

theorem queueRewind_own : ∃ t, exec (.queueRewind q n) s = .next t ∧ .rsp (rspOf q 0) ∈ t.flight ∧
    t.queue n = (s.queue n).close := by
  have hq := arrived_queue s q (.qrwd n) n
  refine ⟨_, execQueueRewind_served h hdest hmode hput, State.mem_flight_send .., ?_⟩
  rw [← hq]
  exact qRewind_own (by rwa [hq]) (by rwa [hq])
end
end

section
variable (hget : s.onGet n q.master = true)
include hget

/-- A sound get delivers what the reader may pull from the head packet. -/
theorem queueGet_takes {x : Word} {k' : Queue} (hmay : (s.queue n).mayGet q.master = true)
    (hpull : (s.queue n).pull q.master = (x, k')) :
    ∃ t, exec (.queueGet q n .sound) s = .next t ∧ .rdata (rspOf q 0) [x, 1] ∈ t.flight ∧ t.queue n = k' := by
  have hq := arrived_queue s q (.qget n) n
  have htakes := qChecked_takes (s := Claims.arrived s q (.qget n)) (k' := k') (x := x) (by rwa [hq]) (by rwa [hq])
  refine ⟨_, execQueueGet_served h hdest hmode hget .sound, ?_, ?_⟩
  · rw [htakes]
    exact State.mem_flight_send ..
  · rw [htakes]
    exact State.queue_setQueue ..

theorem queueGet_empty (hempty : (s.queue n).packets = []) :
    ∃ t, exec (.queueGet q n .sound) s = .next t ∧ t.queue n = s.queue n := by
  have hq := arrived_queue s q (.qget n) n
  exact ⟨_, execQueueGet_served h hdest hmode hget .sound, (qChecked_empty (by rwa [hq])).trans hq⟩

theorem queueDrop_claimed (hm : q.master ≠ 0) {p : QPacket} {ps : List QPacket} (hhead : (s.queue n).packets = p :: ps)
    (hown : (s.queue n).getOwner = q.master) :
    ∃ t, exec (.queueDrop q n) s = .next t ∧ .rsp (rspOf q 0) ∈ t.flight ∧
      t.queue n = { s.queue n with packets := ps, getOwner := 0 } := by
  have hq := arrived_queue s q (.qdrop n) n
  refine ⟨_, execQueueDrop_served h hdest hmode hget, State.mem_flight_send .., ?_⟩
  rw [← hq]
  exact qDrop_claimed (by rwa [hq]) (by rwa [hq]) hm
end

end

/-- A queue in MODE 0, or a master that may not put, gets STATUS 2. -/
theorem queuePut_refused {q : Req} {n : Nat} (h : Claims.reaches s q) (hwrong : s.qMode n = 0 ∨ s.onPut n q.master = false)
    (v : Word) : exec (.queuePut q n v) s = .next ((Claims.arrived s q (.qput n v)).answer q 2) ∧
      exec (.queueRewind q n) s = .next ((Claims.arrived s q (.qrwd n)).answer q 2) := by
  have hside (op : ReqOp) : s.qMode n = 0 ∨ (Claims.arrived s q op).onPut n q.master = false := by
    rwa [(arrived_sameSetup s q op).onPut]
  constructor
  · show execQueuePut q n v s = _
    exact atQueue_refused h rfl (hside _)
  · show execQueueRewind q n s = _
    exact atQueue_refused h rfl (hside _)

/-- The commit of a strand is posted: the node takes it from the packet's owner, whatever the sides of the queue (log 70). -/
theorem execQueueCommit_posted {q : Req} (n : Nat) (hdest : q.dest = nodeQueues) (hkind : Master.kind q.master = 1)
    (hnode : s.nodeState nodeQueues = 0) :
    exec (.queueCommit q n) s = .next ((Claims.arrived s q (.qcommit n)).qCommit n q.master) := by
  show execQueueCommit q n s = _
  rw [execQueueCommit, if_pos hkind, State.arrivePosted, if_pos (.inl hnode), Claims.arrived, hdest]

/-- A record of a source that is no Trellis node passes no router. -/
theorem execQueueRecord_outside {node : Nat} (hnode : 0x200 ≤ node) (n : Nat) (ws : List Word) :
    exec (.queueRecord n node ws) s = .next ((s.take (.queueRec n node ws)).qRecord n node ws) := by
  show execQueueRecord n node ws s = _
  unfold execQueueRecord
  dsimp only
  split
  · rw [if_neg (by omega)]
  · rfl
end

/-- Settles O44: a request acts on the queue as it stood when the request set out (`arrived_queue`, `arrived_sameSetup`), by the
lemma about its operation at the bank; a commit or a record becomes readable at once (`qCommit_own`, `qRecord_fits`). -/
theorem queueCommands : Obligations.QueueCommands := by
  intro s q n v h hdest hm k m mode put get answers done
  refine ⟨fun hwrong => queuePut_refused h hwrong v,
    fun hmode hput => queuePut_room h hdest (by omega) hput v hmode,
    fun hmode hput hopen => queuePut_foreign h hdest hmode hput hopen v,
    fun hmode hput hopen hown hlost hduplex => ⟨fun hkind => ?commit, queueRewind_own h hdest hmode hput hopen hown⟩,
    fun hopen hown hlost hduplex hkind hnode => ?posted,
    fun hmode hget hown => ⟨?next, ?last, queueGet_empty h hdest hmode hget⟩,
    fun hmode hget x ps => queueDrop_claimed h hdest hmode hget hm, fun hmode hget => ?consumer,
    fun hmode hput hget => ?producer, fun hmode hside => execPstatus_served h hdest hmode hside,
    fun node ws hkind hmode hfree hfw hfb hlen hduplex hnode => ?record⟩
  case commit =>
    exact ⟨_, execQueueCommit_answered h hdest hmode hput hkind, State.mem_flight_send ..,
      qCommit_arrived hopen hown _ hlost hduplex⟩
  case posted =>
    exact ⟨_, execQueueCommit_posted n hdest hkind hnode, qCommit_arrived hopen hown _ hlost hduplex⟩
  case next =>
    exact fun ps x y ws g hhead => queueGet_takes h hdest hmode hget (mayGet_of_packet hhead hown) (pull_next m hhead)
  case last =>
    exact fun ps x g hhead => queueGet_takes h hdest hmode hget (mayGet_of_packet hhead hown) (pull_last m hhead)
  case consumer => rw [execQueueStatus_served h hdest hmode (.inr hget), if_pos hget]
  case producer => rw [execQueueStatus_served h hdest hmode (.inl hput), if_neg (by rw [hget]; decide)]
  case record => exact ⟨_, execQueueRecord_outside hnode n ws, qRecord_fits hkind hmode hfree hfw hfb hlen hduplex⟩

end Sys2Proof.Machine

/-! Lockets (R390 to R394, R401): what an acquisition, a wait, a release and a recovery leave of the locket, and the commands that
reach the locket node. -/

namespace Sys2Proof.Machine

section
variable {s : State}

/-! ### Acquire result words (Table 12-9) -/

section
variable (got self orph full tmo : Bool) (c : BitVec 16)

theorem lkWord_bit (i : Nat) : (lkWord got self orph full tmo c).bit i = (BitVec.ofBool got ++ BitVec.ofBool self ++
    BitVec.ofBool orph ++ BitVec.ofBool full ++ BitVec.ofBool tmo ++ (0 : BitVec 3) ++ c).getLsbD i := rfl

@[simp] theorem lkWord_got : (lkWord got self orph full tmo c).bit 23 = got := by
  simp only [lkWord_bit, BitVec.getLsbD_append]
  simp

@[simp] theorem lkWord_self : (lkWord got self orph full tmo c).bit 22 = self := by
  simp only [lkWord_bit, BitVec.getLsbD_append]
  simp

@[simp] theorem lkWord_full : (lkWord got self orph full tmo c).bit 20 = full := by
  simp only [lkWord_bit, BitVec.getLsbD_append]
  simp
end

/-! ### Lockets change hands (R392, R393) -/

@[simp] theorem State.banks_lkNote (s : State) (l : Nat) (m : Word) (add : Bool) : (s.lkNote l m add).banks = s.banks := by
  unfold State.lkNote
  dsimp only
  split
  · split
    · rfl
    · rfl
  · rfl

@[simp] theorem State.locket_lkNote (s : State) (l : Nat) (m : Word) (add : Bool) (j : Nat) :
    (s.lkNote l m add).locket j = s.locket j := State.locket_of_banks (State.banks_lkNote ..) j

@[simp] theorem State.locket_lkGive (s : State) (l : Nat) (m : Word) :
    (s.lkGive l m).locket l = { s.locket l with st := 1, owner := m, hcount := (s.locket l).hcount + 1 } :=
  (State.locket_lkNote ..).trans (State.locket_setLocket ..)

section
variable {l : Nat} {m : Word} {q : Req}

theorem lkTry_free (hst : (s.locket l).st = 0) (hwait : (s.locket l).waiters = []) (hfull : s.lkFull m = false) :
    s.lkTry l m = (s.lkGive l m, lkWord true false false false false ((s.locket l).hcount + 1)) := by
  simp [State.lkTry, hst, hwait, hfull]

theorem lkTry_own (hst : (s.locket l).st = 1) (hown : (s.locket l).owner = m) :
    s.lkTry l m = (s, lkWord false true false false false (s.locket l).hcount) := by
  simp [State.lkTry, hst, hown]

theorem lkTry_held (hst : (s.locket l).st = 1) (hown : (s.locket l).owner ≠ m) :
    s.lkTry l m = (s, lkWord false false false false false (s.locket l).hcount) := by
  simp [State.lkTry, hst, hown]

/-- Only a strand can end before its request is served. -/
theorem askerGone_of_kind (hkind : Master.kind q.master ≠ 1) : s.askerGone q = false := by
  simp [State.askerGone, hkind]

theorem tryLocket_free (hst : (s.locket l).st = 0) (hwait : (s.locket l).waiters = []) (hfull : s.lkFull q.master = false)
    (hkind : Master.kind q.master ≠ 1) : s.tryLocket q l =
      (s.lkGive l q.master).answerData q [lkWord true false false false false ((s.locket l).hcount + 1)] := by
  simp [State.tryLocket, lkTry_free hst hwait hfull, askerGone_of_kind hkind]

theorem tryLocket_own (hst : (s.locket l).st = 1) (hown : (s.locket l).owner = q.master) :
    s.tryLocket q l = s.answerData q [lkWord false true false false false (s.locket l).hcount] := by
  simp [State.tryLocket, lkTry_own hst hown]

/-- A locket that is given up without a waiter is FREE. -/
theorem lkFree_unawaited (hwait : (s.locket l).waiters = []) :
    (s.lkFree l).locket l = { s.locket l with st := 0, owner := 0 } := by
  simp only [State.lkFree, hwait, State.locket_setLocket]

section
variable {w : Waiter} {ws : List Waiter} (hwait : (s.locket l).waiters = w :: ws)
include hwait

/-- A locket that is given up passes to its oldest waiter. -/
theorem lkFree_awaited : (s.lkFree l).locket l =
    { s.locket l with st := 1, waiters := ws, owner := w.q.master, hcount := (s.locket l).hcount + 1 } := by
  simp only [State.lkFree, hwait]
  exact (State.locket_lkGive ..).trans (by rw [State.locket_setLocket])

theorem lkFree_answers : .rdata (rspOf w.q 0) [lkWord true false false false false ((s.locket l).hcount + 1)] ∈
    (s.lkFree l).flight := by
  simp only [State.lkFree, hwait]
  exact State.mem_flight_send ..
end
end

/-! ### The commands that reach the locket node -/

theorem arrived_lkFull (s : State) (q : Req) (op : ReqOp) (m : Word) : (Claims.arrived s q op).lkFull m = s.lkFull m := by
  have hctx (c : CtxId) : (Claims.arrived s q op).ctx c = s.ctx c := by rw [State.ctx, arrived_strands, State.ctx]
  rw [State.lkFull, hctx, State.lkFull]

theorem arrived_elapsed (s : State) (q : Req) (op : ReqOp) : (Claims.arrived s q op).elapsed = s.elapsed := by
  obtain ⟨r, f, e⟩ := arrived_frame s q op
  rw [e]
  rfl

section
variable {q : Req} {l : Nat} (h : Claims.reaches s q)
include h

/-- A master without the right gets STATUS 2 (R390). -/
theorem atLocket_refused {op : ReqOp} (hvc : op.vc4 = false) {bit : Nat}
    (hright : (Claims.arrived s q op).lkMay l bit q.master = false) (k : State → State) :
    s.atLocket q op l bit k = .next ((Claims.arrived s q op).answer q 2) := by
  rw [State.atLocket, arriveReq_of_reaches h hvc]
  exact if_pos (.inr (.inl hright))

theorem execLockTry_refused (hright : (Claims.arrived s q (.lkTry l)).lkMay l 22 q.master = false) :
    exec (.lockTry q l) s = .next ((Claims.arrived s q (.lkTry l)).answer q 2) := by
  show execLockTry q l s = _
  exact atLocket_refused h rfl hright _

variable (hdest : q.dest = nodeLockets) (hunit : unitPresent s.member .lockets (l / 64) = true) (hpair : s.pairShadow = false)
include hdest hunit hpair

theorem atLocket_served {op : ReqOp} (hvc : op.vc4 = false) {bit : Nat}
    (hright : (Claims.arrived s q op).lkMay l bit q.master = true) (k : State → State) :
    s.atLocket q op l bit k = .next (k (Claims.arrived s q op)) := by
  rw [State.atLocket, arriveReq_of_reaches h hvc]
  simp only [arrived_member, hunit, hright, hdest, arrived_pairShadow, hpair, ne_eq, not_true_eq_false, or_self, if_false,
    Bool.true_eq_false, Bool.false_and, Bool.false_eq_true]

section
variable (hright : (Claims.arrived s q (.lkTry l)).lkMay l 22 q.master = true)
include hright

theorem execLockTry_served : exec (.lockTry q l) s = .next ((Claims.arrived s q (.lkTry l)).tryLocket q l) := by
  show execLockTry q l s = _
  exact atLocket_served h hdest hunit hpair rfl hright _

theorem lockTry_own (hst : (s.locket l).st = 1) (hown : (s.locket l).owner = q.master) : exec (.lockTry q l) s =
    .next ((Claims.arrived s q (.lkTry l)).answerData q [lkWord false true false false false (s.locket l).hcount]) := by
  have hl := arrived_locket s q (.lkTry l) l
  rw [execLockTry_served h hdest hunit hpair hright, tryLocket_own (by rwa [hl]) (by rwa [hl]), hl]
end

section
variable (hright : (Claims.arrived s q (.lkWait l)).lkMay l 22 q.master = true)
include hright

/-- A WAIT that TRY would grant acts as TRY. -/
theorem execLockWait_free (hst : (s.locket l).st = 0) (hwait : (s.locket l).waiters = []) (hfull : s.lkFull q.master = false) :
    exec (.lockWait q l) s = .next ((Claims.arrived s q (.lkWait l)).tryLocket q l) := by
  have hl := arrived_locket s q (.lkWait l) l
  have htry := lkTry_free (s := Claims.arrived s q (.lkWait l)) (m := q.master) (by rwa [hl]) (by rwa [hl])
    ((arrived_lkFull ..).trans hfull)
  show execLockWait q l s = _
  rw [execLockWait, atLocket_served h hdest hunit hpair rfl hright]
  simp only [htry, lkWord_got, Bool.true_or, if_true]

/-- A WAIT on a locket that another master holds parks behind its waiters. -/
theorem execLockWait_parks (hst : (s.locket l).st = 1) (hown : (s.locket l).owner ≠ q.master)
    (hlimit : (Claims.arrived s q (.lkWait l)).lkWait ≠ 0) (hroom : s.lkWaiters (l / 64) < 16)
    (hkind : Master.kind q.master ≠ 1) : exec (.lockWait q l) s =
      .next ((Claims.arrived s q (.lkWait l)).setLocket l { s.locket l with
        waiters := (s.locket l).waiters ++ [⟨q, s.elapsed + (Claims.arrived s q (.lkWait l)).lkWait⟩] }) := by
  have hl := arrived_locket s q (.lkWait l) l
  have htry := lkTry_held (s := Claims.arrived s q (.lkWait l)) (m := q.master) (by rwa [hl]) (by rwa [hl])
  have hslots : ¬ (Claims.arrived s q (.lkWait l)).lkWaiters (l / 64) ≥ 16 := by
    rw [State.lkWaiters, arrived_banks]
    exact Nat.not_le.2 hroom
  show execLockWait q l s = _
  rw [execLockWait, atLocket_served h hdest hunit hpair rfl hright]
  simp only [htry, lkWord_got, lkWord_self, lkWord_full, hlimit, hslots, askerGone_of_kind hkind, decide_false, Bool.or_self,
    Bool.false_eq_true, if_false, hl, arrived_elapsed]
end

theorem execLockPeek_served (hright : (Claims.arrived s q (.lkPeek l)).lkMay l 22 q.master = true) :
    exec (.lockPeek q l) s = .next ((Claims.arrived s q (.lkPeek l)).answerData q [(s.locket l).owner]) := by
  show execLockPeek q l s = _
  rw [← arrived_locket s q (.lkPeek l) l]
  exact atLocket_served h hdest hunit hpair rfl hright _

section
variable (hright : (Claims.arrived s q (.lkRel l)).lkMay l 22 q.master = true)
include hright

theorem execLocketRelease_owner (hst : (s.locket l).st = 1) (hown : (s.locket l).owner = q.master) :
    exec (.locketRelease q l) s = .next (((Claims.arrived s q (.lkRel l)).lkFree l).answer q 0) := by
  show execLocketRelease q l s = _
  rw [execLocketRelease, atLocket_served h hdest hunit hpair rfl hright]
  simp only [arrived_locket, hst, hown, and_self, if_true]

/-- A release by another master than the owner is counted and logged, and gets STATUS 2. -/
theorem execLocketRelease_foreign (hown : (s.locket l).owner ≠ q.master) :
    exec (.locketRelease q l) s = .next (((Claims.arrived s q (.lkRel l)).lkForeign l q.master).answer q 2) := by
  show execLocketRelease q l s = _
  rw [execLocketRelease, atLocket_served h hdest hunit hpair rfl hright]
  simp only [arrived_locket, hown, and_false, if_false]
end

section
variable (hright : (Claims.arrived s q (.lkRec l)).lkMay l 21 q.master = true)
include hright

theorem execLocketRecovery_orphan (hst : (s.locket l).st = 2) :
    exec (.locketRecovery q l) s = .next (((Claims.arrived s q (.lkRec l)).lkFree l).answer q 0) := by
  show execLocketRecovery q l s = _
  rw [execLocketRecovery, atLocket_served h hdest hunit hpair rfl hright]
  simp only [arrived_locket, hst, if_true]

theorem execLocketRecovery_refused (hst : (s.locket l).st ≠ 2) :
    exec (.locketRecovery q l) s = .next ((Claims.arrived s q (.lkRec l)).answer q 2) := by
  show execLocketRecovery q l s = _
  rw [execLocketRecovery, atLocket_served h hdest hunit hpair rfl hright]
  simp only [arrived_locket, hst, if_false]
end

omit hdest hpair in
/-- The warden's FORCE gives up a locket that is not FREE, as its owner would (R401). -/
theorem execLockForce_taken {v : Word}
    (hmay : (Claims.arrived s q (.regwr (0x029001 + 2 * l) v)).mayWarden q (0x029001 + 2 * l) = true) (hv : v.bit 21 = true)
    (hst : (s.locket l).st ≠ 0) : exec (.lockForce q l v) s =
      .next (((Claims.arrived s q (.regwr (0x029001 + 2 * l) v)).lkFree l).answer q 0) := by
  show execLockForce q l v s = _
  rw [execLockForce, if_neg (by rw [hunit]; decide), hv, wardenWrite_of_reaches h hmay, arrived_locket, if_neg hst]
end

/-! ### What they leave of the locket -/

section
variable {q : Req} {l : Nat} {op : ReqOp} {i : Instr}

/-- TRY and WAIT find a FREE locket: it becomes the master's, and GOT answers. -/
theorem tryLocket_acquires (hexec : exec i s = .next ((Claims.arrived s q op).tryLocket q l)) (hst : (s.locket l).st = 0)
    (hwait : (s.locket l).waiters = []) (hfull : s.lkFull q.master = false) (hkind : Master.kind q.master ≠ 1) :
    ∃ t, exec i s = .next t ∧
      t.locket l = { s.locket l with st := 1, owner := q.master, hcount := (s.locket l).hcount + 1 } ∧
      .rdata (rspOf q 0) [lkWord true false false false false ((s.locket l).hcount + 1)] ∈ t.flight := by
  have hl := arrived_locket s q op l
  rw [tryLocket_free (by rwa [hl]) (by rwa [hl]) ((arrived_lkFull ..).trans hfull) hkind, hl] at hexec
  refine ⟨_, hexec, ?_, State.mem_flight_send ..⟩
  rw [← hl]
  exact State.locket_lkGive ..

variable (hexec : exec i s = .next (((Claims.arrived s q op).lkFree l).answer q 0))
include hexec

/-- A locket given up without a waiter is FREE. -/
theorem lkFree_frees (hwait : (s.locket l).waiters = []) : ∃ t, exec i s = .next t ∧
    t.locket l = { s.locket l with st := 0, owner := 0 } ∧ .rsp (rspOf q 0) ∈ t.flight := by
  have hl := arrived_locket s q op l
  refine ⟨_, hexec, ?_, State.mem_flight_send ..⟩
  rw [← hl]
  exact lkFree_unawaited (by rwa [hl])

/-- A locket given up passes to its oldest waiter, who is answered with GOT. -/
theorem lkFree_passes {w : Waiter} {ws : List Waiter} (hst : (s.locket l).st = 1) (hwait : (s.locket l).waiters = w :: ws) :
    ∃ t, exec i s = .next t ∧
      t.locket l = { s.locket l with waiters := ws, owner := w.q.master, hcount := (s.locket l).hcount + 1 } ∧
      .rdata (rspOf w.q 0) [lkWord true false false false false ((s.locket l).hcount + 1)] ∈ t.flight := by
  have hl := arrived_locket s q op l
  refine ⟨_, hexec, ?_, List.mem_append_left _ ?_⟩
  · exact (lkFree_awaited (by rwa [hl])).trans (by rw [hl, ← hst])
  · rw [← hl]
    exact lkFree_answers (by rwa [hl])
end

/-- A wait that has come to its end leaves the FIFO with TMO (R392). -/
theorem execWaitTimeout_due {l : Nat} {v : Word} {w : Waiter}
    (hfind : (s.locket l).waiters.find? (fun w => decide (w.q.master = v)) = some w) (hdue : w.due ≤ s.elapsed) :
    exec (.waitTimeout l v) s =
      .next (((s.setLocket l { s.locket l with waiters := (s.locket l).waiters.erase w }).bump (Reg.lktGrp (l / 64) 7)).answerData
        w.q [lkWord false false (decide ((s.locket l).st = 2)) false true (s.locket l).hcount]) := by
  show execWaitTimeout l v s = _
  simp only [execWaitTimeout, hfind, Nat.not_lt.2 hdue, if_false]
end

/-- Settles O45: a request acts on the locket as it stood when the request set out (`arrived_locket`): TRY and WAIT as
`tryLocket_acquires` or `execLockWait_parks` says, a release, a recovery and FORCE as `lkFree_frees` and `lkFree_passes` do. -/
theorem locketCommands : Obligations.LocketCommands := by
  intro s q l v h hdest hunit hpair k m may a taken
  refine ⟨execLockTry_refused h, fun hright hst hwait hfull hkind => ?tryFree, lockTry_own h hdest hunit hpair,
    fun hright hst hwait hfull hkind => ?waitFree, execLockWait_parks h hdest hunit hpair, fun w hfind hdue => ?timeout,
    execLockPeek_served h hdest hunit hpair, fun hright hst hown => ?release, fun hright hst hown => ?foreign,
    fun hright hwait => ?recovery, fun hmay hv hst hwait => ?force⟩
  case tryFree => exact tryLocket_acquires (execLockTry_served h hdest hunit hpair hright) hst hwait hfull hkind
  case waitFree => exact tryLocket_acquires (execLockWait_free h hdest hunit hpair hright hst hwait hfull) hst hwait hfull hkind
  case timeout => exact ⟨_, execWaitTimeout_due hfind hdue, State.locket_setLocket .., State.mem_flight_send ..⟩
  case release =>
    have hexec := execLocketRelease_owner h hdest hunit hpair hright hst hown
    exact ⟨lkFree_frees hexec, fun w ws => lkFree_passes hexec hst⟩
  case foreign =>
    exact ⟨_, execLocketRelease_foreign h hdest hunit hpair hright hown, arrived_locket .., State.mem_flight_send ..⟩
  case recovery =>
    exact ⟨fun hst => lkFree_frees (execLocketRecovery_orphan h hdest hunit hpair hright hst) hwait,
      execLocketRecovery_refused h hdest hunit hpair hright⟩
  case force =>
    obtain ⟨t, hexec, hfree, _⟩ := lkFree_frees (execLockForce_taken h hunit hmay hv hst) hwait
    exact ⟨t, hexec, hfree⟩

end Sys2Proof.Machine

/-! Ethernet ports, the DDR patrol and the legacy port (R396, R483, R484, R486, R489, R490, R493): inputs of a die that is no
part of a running pair, what the legacy port does to its RAM, its mailbox queue and its lockets, and what its stop leaves alone. -/

namespace Sys2Proof.Machine

/-! ### Single bits of registers -/

/-- Bit `j` of a word that has bit `i` alone. -/
theorem getLsbD_oneBit {i : Nat} (hi : i < 24) (b : Bool) (j : Nat) :
    (BitVec.ofNat 24 (b.toNat <<< i)).getLsbD j = (decide (j = i) && b) := by
  cases b with
  | false => simp
  | true =>
    rw [BitVec.getLsbD_ofNat, Bool.toNat_true, Nat.shiftLeft_eq, Nat.one_mul, Nat.testBit_two_pow]
    by_cases hj : j = i
    · simp [hj, hi]
    · simp [hj, Ne.symm hj]

/-- A write of one bit leaves the others as they are. -/
theorem bit_setField (w : Word) {i : Nat} (hi : i < 24) (b : Bool) (j : Nat) :
    (w.setField i 1 b.toNat).bit j = if j = i then b else w.bit j := by
  have hmask := getLsbD_oneBit hi true j
  have hnew := getLsbD_oneBit hi b j
  have hb : b.toNat % 2 ^ 1 = b.toNat := Nat.mod_eq_of_lt b.toNat_lt
  have hw : w.getLsbD j = true → j < 24 := BitVec.lt_of_getLsbD
  simp only [Word.setField, Word.bit, hb, BitVec.getLsbD_or, BitVec.getLsbD_and, BitVec.getLsbD_not, hnew]
  rw [show 2 ^ 1 - 1 = true.toNat from rfl, hmask]
  by_cases hj : j = i
  · simp [hj, hi]
  · cases hwj : w.getLsbD j
    · simp [hj]
    · simp [hj, hw hwj]

section
variable {s t : State}

theorem State.regBit_setRegField (s : State) (a : Nat) {i : Nat} (hi : i < 24) (b : Bool) (j : Nat) :
    (s.setRegField a i 1 b.toNat).regBit a j = if j = i then b else s.regBit a j := by
  rw [State.regBit, State.setRegField, State.reg_setReg, bit_setField _ hi, State.regBit]

/-! ### Inputs of a die on its own (R591) -/

theorem outsideInput_unpaired (hlead : s.pairLead = false) (hshadow : s.pairShadow = false) (x : ExtInput) :
    s.outsideInput x = s.applyInput x := by
  simp [State.outsideInput, hlead, hshadow]

/-- An input that takes effect at once. -/
theorem nextInput (hlead : s.pairLead = false) (hshadow : s.pairShadow = false) {x : ExtInput} (hx : s.applyInput x = t) :
    (.next (s.outsideInput x) : Out) = .next t := congrArg _ ((outsideInput_unpaired hlead hshadow x).trans hx)

/-! ### Ethernet (R483, R484) -/

section
variable {e : Nat}

theorem ethReceive_disabled (hoff : s.regBit (Reg.eth e 0) 23 = false) (f : EthFrame) : s.ethReceive e f = s :=
  if_pos hoff

theorem ethTake_disabled (hoff : s.regBit (Reg.eth e 0) 23 = false) (ecc : Ecc) : s.ethTake e ecc = s :=
  if_pos (.inl hoff)

section
variable (hon : s.regBit (Reg.eth e 0) 23 = true)
include hon

theorem ethReceive_badFcs {f : EthFrame} (hfcs : f.fcsOk = false) : s.ethReceive e f = s.bump (Reg.eth e 6) := by
  rw [State.ethReceive, if_neg (by rw [hon]; decide), if_pos hfcs]

/-- A good frame to the port, of a size that is served, becomes a record of the receive queue. -/
theorem ethReceive_accepted {f : EthFrame} (hfcs : f.fcsOk = true) (hmin : 60 ≤ f.bytes.length) (hmax : f.bytes.length ≤ 9216)
    (hmac : s.ethAccepts e (destMac f.bytes) = true) :
    let t : Triple := f.stamp - BitVec.ofNat 72 (latTicks (s.regField (Reg.eth e 4) 12 12))
    s.ethReceive e f = s.send (.queueRec (s.regField (Reg.eth e 0) 10 10) (nodeEth e)
      ([BitVec.ofNat 24 f.bytes.length, t.word 0, t.word 1, t.word 2] ++ byteWords f.bytes)) := by
  have hsize : ¬ (f.bytes.length < 60 ∨ f.bytes.length > 9216 ∨ s.ethAccepts e (destMac f.bytes) = false) := by
    rw [hmac, not_or, not_or]
    exact ⟨by omega, by omega, by decide⟩
  rw [State.ethReceive, if_neg (by rw [hon]; decide), if_neg (by rw [hfcs]; decide), if_neg hsize]

/-- A packet that holds a frame leaves its queue for the port. -/
theorem ethTake_frame {p : QPacket} {rest : List QPacket} {n len : Nat} {bytes : List (BitVec 8)}
    (hn : s.regField (Reg.eth e 0) 0 10 = n) (hmode : s.qMode n ≠ 0) (hkind : s.qCkind n = 3)
    (hhead : (s.queue n).packets = p :: rest) (hgap : p.gap = false) (hlen : (p.words.headD 0).field 0 14 = len)
    (hbytes : (wordBytes (p.words.drop 1)).take len = bytes) (hfit : bytes.length = len) (hmin : 60 ≤ len) (hmax : len ≤ 9216)
    (hduplex : s.duplex = false) :
    s.ethTake e .sound = (s.setQueue n { s.queue n with packets := rest, getOwner := 0 }).ethSend e bytes
      (if (p.words.headD 0).bit 23 then some ((p.words.headD 0).field 14 9) else none) := by
  have hd (k : Queue) : (s.setQueue n k).duplex = false := hduplex
  unfold State.ethTake
  simp only [hn, hon, hkind, hhead, hlen, hbytes, hgap, hfit]
  simp [hmode, hd, Nat.not_lt.2 hmin, Nat.not_lt.2 hmax]
end

theorem ethSend_sent (s : State) (e : Nat) (bytes : List (BitVec 8)) (tag : Option Nat) :
    Map.get (fun _ => []) (s.ethSend e bytes tag).ethSent e = bytes := by
  unfold State.ethSend
  dsimp only
  split
  · exact Map.get_set_self
  · exact Map.get_set_self

theorem execEthFrameReceive_input (hlead : s.pairLead = false) (hshadow : s.pairShadow = false)
    (heth : unitPresent s.member .eths e = true) {f : EthFrame} (h : s.ethReceive e f = t) :
    exec (.ethFrameReceive e f) s = .next t :=
  (if_neg (by rw [heth]; decide)).trans (nextInput hlead hshadow (x := .eth e f) h)

theorem execEthFrameTransmit_present (heth : unitPresent s.member .eths e = true) {ecc : Ecc} (h : s.ethTake e ecc = t) :
    exec (.ethFrameTransmit e ecc) s = .next t := by
  rw [← h]
  exact if_pos heth

theorem queue_ethSend (s : State) (e : Nat) (bytes : List (BitVec 8)) (tag : Option Nat) (n : Nat) :
    (s.ethSend e bytes tag).queue n = s.queue n := by
  unfold State.ethSend
  dsimp only
  split
  · rfl
  · rfl
end

/-! ### The DDR patrol (R486) -/

/-- The patrol of a trained channel with a period reads its next line. -/
theorem execPatrolScrub_walks {d : Nat} (hddr : unitPresent s.member .ddrs d = true) (htrained : s.regBit (Reg.ddr d 0) 23 = true)
    (hperiod : s.regField (Reg.ddr d 3) 8 16 ≠ 0) (ecc : Ecc) : exec (.patrolScrub d ecc) s = .next (s.patrol d ecc) := by
  show execPatrolScrub d ecc s = _
  rw [execPatrolScrub, if_neg (by rw [hddr]; decide), if_neg (by simp [htrained, hperiod])]

/-- The walk goes on to the next line, and starts over at the channel's end. -/
theorem scrubAt_patrol (s : State) (d : Nat) : (s.patrol d .sound).scrubAt d =
    (if s.scrubAt d + 1 ≥ s.regField (Reg.ddr d 0) 0 8 * 33554432 / 16 then 0 else s.scrubAt d + 1) := by
  rw [State.scrubAt, State.patrol, Map.get_set_self]

/-- The patrol of sound lines moves its place alone. -/
theorem State.patrol_frame (s : State) (d : Nat) : ∃ m, s.patrol d .sound = { s with memory := { s.memory with scrub := m } } :=
  ⟨_, rfl⟩

theorem ddr_patrol (s : State) (d : Nat) : (s.patrol d .sound).memory.ddr = s.memory.ddr := by
  obtain ⟨m, e⟩ := s.patrol_frame d
  rw [e]

/-! ### What the mailbox and the stop of the legacy port leave alone -/

namespace SameSetup

variable (h : SameSetup s t)
include h

theorem pairLists (es : List HeldEffect) (is : List (PairKey × BitVec 32)) :
    SameSetup s { t with pair := { t.pair with effects := es, intents := is } } := ⟨h.member, h.fenced, h.memory, h.reg⟩

theorem holdEffect (k : PairKey) (b : Effect) (crc : BitVec 32) : SameSetup s (t.holdEffect k b crc) := by
  unfold State.holdEffect
  dsimp only
  split
  · split
    · exact h.pairLists ..
    · split
      · exact (h.pairLists ..).sendPair _
      · exact h.pairLists ..
  · exact (h.pairLists ..).sendPair _

theorem pairCount (kind strm : Nat) : SameSetup s (t.pairCount kind strm).2 := ⟨h.member, h.fenced, h.memory, h.reg⟩

theorem commitPacket (n : Nat) (p : QPacket) : SameSetup s (t.commitPacket n p) := by
  unfold State.commitPacket
  split
  · exact ((h.setQueue ..).pairCount ..).holdEffect ..
  · exact (h.setQueue ..).notice n

theorem gapMark (n : Nat) : SameSetup s (t.gapMark n) := by
  have hlost := h.bump (que_counter n (w := 10) (by decide))
  have hmarker := (hlost.bump (que_counter n (w := 11) (by decide))).commitPacket n ⟨[1], true⟩
  unfold State.gapMark
  dsimp only
  split
  · exact hlost.setQueue ..
  · split
    · split
      · exact hlost.setQueue ..
      · exact hmarker
    · exact hmarker

theorem qPut (n : Nat) (m v : Word) : SameSetup s (t.qPut n m v).1 := by
  unfold State.qPut
  dsimp only
  split
  · exact h
  · split
    · split
      · exact h.setQueue ..
      · exact h.bump (que_counter n (by decide))
    · split
      · exact h
      · generalize (if (t.queue n).openW.isEmpty then 1 else 0) = needB
        split
        · exact h.setQueue ..
        · exact h.setQueue ..

theorem qCommit (n : Nat) (m : Word) : SameSetup s (t.qCommit n m) := by
  unfold State.qCommit
  dsimp only
  split
  · split
    · exact (h.setQueue ..).gapMark n
    · exact ((h.setQueue ..).bump (que_counter n (by decide))).commitPacket ..
  · exact h

theorem qRewind (n : Nat) (m : Word) : SameSetup s (t.qRewind n m) := by
  unfold State.qRewind
  dsimp only
  split
  · exact (h.setQueue ..).bump (que_counter n (by decide))
  · exact h

theorem qDrop (n : Nat) (m : Word) : SameSetup s (t.qDrop n m) := by
  unfold State.qDrop
  dsimp only
  split
  · exact h
  · split
    · exact (h.setQueue ..).bumpBy _ (que_counter n (by decide))
    · exact h

theorem lkNote (l : Nat) (m : Word) (add : Bool) : SameSetup s (t.lkNote l m add) := by
  unfold State.lkNote
  dsimp only
  split
  · split
    · exact h.setCtx ..
    · exact h
  · exact h

theorem lkGive (l : Nat) (m : Word) : SameSetup s (t.lkGive l m) := (h.setLocket l _).lkNote l m true

theorem lkFree (l : Nat) : SameSetup s (t.lkFree l) := by
  have hnote := h.lkNote l (t.locket l).owner false
  unfold State.lkFree
  dsimp only
  split
  · exact hnote.setLocket ..
  · exact ((hnote.setLocket ..).lkGive ..).send _

theorem lkOrphan (l : Nat) : SameSetup s (t.lkOrphan l) := by
  have hlog := (h.bump (lktGrp_counter (l / 64) (w := 5) (by decide))).send
  unfold State.lkOrphan
  dsimp only
  split
  · exact ((hlog _).lkNote ..).setLocket ..
  · exact (hlog _).lkFree l

/-- A master that leaves touches the queues and the lockets, their counters and its waiters. -/
theorem masterLeaves (m : Word) (keep : List Nat) : SameSetup s (t.masterLeaves m keep) := by
  have hqueues : SameSetup s (t.qLeave m keep) := List.foldlRecOn _ _ h fun u hu n _ => by
    unfold State.qLeave1
    split
    · exact SameSetup.qDrop hu n m
    · exact (SameSetup.qRewind hu n m).qDrop n m
  have hfifos := List.foldlRecOn ((t.qLeave m keep).banks.lockets.map Prod.fst) (fun u l => u.lkWithdraw m l) hqueues
    fun _ hu l _ => SameSetup.setLocket hu l _
  exact List.foldlRecOn _ _ hfifos fun _ hu l _ => SameSetup.lkOrphan hu l

end SameSetup

/-- A stop clears INTPEND and leaves the rest of the configuration as it is. -/
theorem legacyStops_regBit (s : State) {a : Nat} (ha : a % 16 < 5) (i : Nat) :
    s.legacyStops.regBit a i = (s.setRegField (Reg.legStat 0) 23 1 0).regBit a i :=
  congrArg (Word.bit · i) (((SameSetup.refl _).masterLeaves ..).reg a ha)

/-- The mailbox puts into its queue, and counts; no memory changes. -/
theorem legMail_memory (s : State) (v : BitVec 16) : (s.legMail v).memory = s.memory := by
  have hmail (n : Nat) (m w : Word) := ((SameSetup.refl s).qPut n m w).qCommit n m
  unfold State.legMail
  dsimp only
  split
  · rfl
  · split
    · exact (hmail ..).memory
    · exact (hmail ..).memory

/-! ### The legacy port: RAM and mailbox (R489, R490) -/

theorem legInt_of_clear (h : s.regBit (Reg.legStat 0) 23 = false) : s.legInt = false := by
  rw [State.legInt, h, Bool.false_and]

theorem legServes_of_reset (h : s.regBit (Reg.legStat 0) 22 = true) : s.legServes = false := by
  simp [State.legServes, h]

theorem State.legRead_of_memory (h : t.memory = s.memory) (k : Nat) : t.legRead k = s.legRead k := by
  rw [State.legRead, h, State.legRead]

/-- Legacy RAM keeps the 16 bits that the port writes. -/
theorem legRead_legWrite (s : State) (a k : Nat) (v : BitVec 16) :
    (s.legWrite a (v.zeroExtend 24)).legRead k = if k = a then v.zeroExtend 24 else s.legRead k := by
  have hlow : v.zeroExtend 24 &&& 0x00FFFF = v.zeroExtend 24 := by
    refine BitVec.eq_of_toNat_eq ?_
    have hv : v.toNat % 2 ^ 16 = v.toNat := Nat.mod_eq_of_lt v.isLt
    rw [BitVec.toNat_and, BitVec.toNat_setWidth, Nat.mod_eq_of_lt (by omega)]
    exact (Nat.and_two_pow_sub_one_eq_mod v.toNat 16).trans hv
  show Map.get (fun _ => 0) (Map.set (fun _ => 0) s.memory.legacy a (v.zeroExtend 24 &&& 0x00FFFF)) k = _
  rw [Map.get_set, hlow, State.legRead]

/-- A word that the mailbox queue takes is a packet of its own. -/
theorem legMail_packet {n : Nat} (v : BitVec 16) (hn : s.regField 0x0DC000 10 10 = n) (hmode : s.qMode n = 1)
    (hput : s.onPut n s.legMaster = true) (hempty : s.queue n = Queue.empty) (hduplex : s.duplex = false) (hfw : 1 ≤ s.qFw n) :
    ((s.legMail v).queue n).packets = [⟨[v.zeroExtend 24], false⟩] := by
  have hroom := qPut_room (m := s.legMaster) (v.zeroExtend 24) hmode (by rw [hempty]; exact .inl rfl) (by rw [hempty]; decide) hfw
    (by rw [hempty]; exact .inr (by decide))
  have hq := State.queue_setQueue s n ((s.queue n).extended s.legMaster (v.zeroExtend 24))
  have hcommit := qCommit_own (m := s.legMaster) (n := n)
    (s := s.setQueue n ((s.queue n).extended s.legMaster (v.zeroExtend 24))) (by rw [hq]; rfl) (by rw [hq]; rfl)
    (by rw [hq, hempty]; rfl) hduplex
  unfold State.legMail
  dsimp only
  rw [hn, if_neg (by simp [hmode, hput]), hroom, if_pos rfl, hcommit, hq, hempty]
  rfl

section
variable (hlead : s.pairLead = false) (hshadow : s.pairShadow = false)
include hlead hshadow

/-- A port that does not serve takes no cycle. -/
theorem legacy_quiet (hserves : s.legServes = false) (a v : BitVec 16) (k : BitVec 3) (late : Bool) :
    exec (.legacyRead a false late) s = .next s ∧ exec (.legacyWrite a v false late) s = .next s ∧
      exec (.legacyMailboxWrite v false late) s = .next s ∧ exec (.legacyIntRead false late) s = .next s ∧
      exec (.legacyLocketTry k) s = .next s ∧ exec (.legacyLocketRelease k) s = .next s := by
  have hread (a : BitVec 16) : s.legReadCycle a false late = s := if_pos hserves
  have hwrite (a v : BitVec 16) : s.legWriteCycle a v false late = s := if_pos hserves
  have hlocket (t : State) : (if s.legServes then t else s) = s := if_neg (by rw [hserves]; decide)
  exact ⟨nextInput hlead hshadow (hread a), nextInput hlead hshadow (hwrite a v), nextInput hlead hshadow (hwrite 0x7FFE v),
    nextInput hlead hshadow (hread 0x7FFF), nextInput hlead hshadow (hlocket _), nextInput hlead hshadow (hlocket _)⟩

variable (hserves : s.legServes = true)
include hserves

theorem execLegacyRead_served {a : BitVec 16} (ha : a.toNat < 0x8000) (late : Bool) :
    exec (.legacyRead a false late) s = .next (s.legReadWord a.toNat false late) := by
  refine nextInput hlead hshadow ?_
  show s.legReadCycle a false late = _
  rw [State.legReadCycle, if_neg (by rw [hserves]; decide), if_pos ha]

theorem execLegacyWrite_served {a : BitVec 16} (ha : a.toNat < 0x8000) (v : BitVec 16) (late : Bool) :
    exec (.legacyWrite a v false late) s = .next (s.legWriteWord a.toNat v false late) := by
  refine nextInput hlead hshadow ?_
  show s.legWriteCycle a v false late = _
  rw [State.legWriteCycle, if_neg (by rw [hserves]; decide), if_pos ha]

theorem execLegacyLocketTry_served (k : BitVec 3) : exec (.legacyLocketTry k) s = .next (s.legTryLock k) :=
  nextInput hlead hshadow (x := .legTry k) (if_pos hserves)

theorem execLegacyLocketRelease_served (k : BitVec 3) : exec (.legacyLocketRelease k) s = .next (s.legReleaseLock k) :=
  nextInput hlead hshadow (x := .legRelease k) (if_pos hserves)

/-- A read of RAM drives the word and changes no memory. -/
theorem legacy_read {a : BitVec 16} (ha : a.toNat < 0x7FFF) (late : Bool) :
    ∃ t, exec (.legacyRead a false late) s = .next t ∧ t.leg = ⟨(s.legRead a.toNat).truncate 16, false⟩ ∧
      t.memory = s.memory := by
  have hword : s.legReadWord a.toNat false late = s.legDrive ((s.legRead a.toNat).truncate 16) false := if_neg (by omega)
  exact ⟨_, execLegacyRead_served hlead hshadow hserves (by omega) late, by rw [hword]; rfl, by rw [hword]; rfl⟩

/-- A read of 0x7FFF clears INTPEND. -/
theorem legacy_intRead (late : Bool) : ∃ t, exec (.legacyIntRead false late) s = .next t ∧
    t.leg = ⟨(s.legRead 0x7FFF).truncate 16, false⟩ ∧ t.legInt = false := by
  refine ⟨_, execLegacyRead_served (a := 0x7FFF) hlead hshadow hserves (by decide) late, rfl, legInt_of_clear ?_⟩
  exact State.regBit_setRegField (s.legDrive ((s.legRead 0x7FFF).truncate 16) false) (Reg.legStat 0) (by decide) false 23

/-- A write of RAM stores its word and no other. -/
theorem legacy_write {a : BitVec 16} (ha : a.toNat < 0x7FFE) (v : BitVec 16) (late : Bool) :
    ∃ t, exec (.legacyWrite a v false late) s = .next t ∧ t.legRead a.toNat = v.zeroExtend 24 ∧
      ∀ j, j ≠ a.toNat → t.legRead j = s.legRead j := by
  have hword : s.legWriteWord a.toNat v false late = (s.legWrite a.toNat (v.zeroExtend 24)).legDrive s.leg.d false :=
    if_neg (by omega)
  refine ⟨_, (execLegacyWrite_served hlead hshadow hserves (by omega) v late).trans (congrArg _ hword), ?_, fun j hj => ?_⟩
  · exact (legRead_legWrite ..).trans (if_pos rfl)
  · exact (legRead_legWrite ..).trans (if_neg hj)

/-- A write of 0x7FFE stores its word, and puts it into the mailbox queue. -/
theorem legacy_mail {n : Nat} (hn : s.regField 0x0DC000 10 10 = n) (v : BitVec 16) (late : Bool) :
    ∃ t, exec (.legacyMailboxWrite v false late) s = .next t ∧ t.legRead 0x7FFE = v.zeroExtend 24 ∧
      (s.qMode n = 1 → s.onPut n s.legMaster = true → s.queue n = Queue.empty → s.duplex = false → 1 ≤ s.qFw n →
        (t.queue n).packets = [⟨[v.zeroExtend 24], false⟩]) := by
  refine ⟨_, execLegacyWrite_served (a := 0x7FFE) hlead hshadow hserves (by decide) v late, ?_, ?_⟩
  · exact (State.legRead_of_memory (legMail_memory ..) _).trans ((legRead_legWrite ..).trans (if_pos rfl))
  · exact legMail_packet (s := (s.legWrite 0x7FFE (v.zeroExtend 24)).legDrive s.leg.d false) v hn

/-! ### The legacy port: lockets (R396) -/

omit hlead hshadow hserves in
theorem masterLegacy_kind (tenant : Nat) : Master.kind (masterLegacy tenant) = 3 := by
  have htenant : tenant % 512 < 512 := Nat.mod_lt _ (by decide)
  simp only [Master.kind, masterLegacy, Word.field, BitVec.toNat_ofNat, Nat.shiftRight_eq_div_pow]
  omega

/-- A read of a FREE locket acquires it, and GOT is the highest bit driven. -/
theorem legacy_try {k : BitVec 3} (hst : (s.locket (s.legLock k)).st = 0) (hwait : (s.locket (s.legLock k)).waiters = []) :
    ∃ t, exec (.legacyLocketTry k) s = .next t ∧ (t.locket (s.legLock k)).st = 1 ∧
      (t.locket (s.legLock k)).owner = s.legMaster ∧ t.leg.d.getLsbD 15 = true := by
  have hfull : s.lkFull s.legMaster = false := by simp [State.lkFull, State.legMaster, masterLegacy_kind]
  have htry := lkTry_free hst hwait hfull
  have hgive := State.locket_lkGive s (s.legLock k) s.legMaster
  have hgot := lkWord_got true false false false false ((s.locket (s.legLock k)).hcount + 1)
  refine ⟨_, execLegacyLocketTry_served hlead hshadow hserves k, ?_, ?_, ?_⟩
  · simp only [State.legTryLock, htry]
    exact congrArg Locket.st hgive
  · simp only [State.legTryLock, htry]
    exact congrArg Locket.owner hgive
  · simp only [State.legTryLock, htry, State.legDrive, BitVec.getLsbD_append, BitVec.getLsbD_extractLsb']
    simpa [Word.bit] using hgot

/-- A write of the port's own locket without a waiter frees it. -/
theorem legacy_release {k : BitVec 3} (hst : (s.locket (s.legLock k)).st = 1)
    (hown : (s.locket (s.legLock k)).owner = s.legMaster) (hwait : (s.locket (s.legLock k)).waiters = []) :
    ∃ t, exec (.legacyLocketRelease k) s = .next t ∧ (t.locket (s.legLock k)).st = 0 ∧
      (t.locket (s.legLock k)).owner = 0 := by
  have hfree : s.legReleaseLock k = (s.legDrive s.leg.d false).lkFree (s.legLock k) := if_pos ⟨hst, hown⟩
  have hlocket := lkFree_unawaited (s := s.legDrive s.leg.d false) hwait
  refine ⟨_, (execLegacyLocketRelease_served hlead hshadow hserves k).trans (congrArg _ hfree), ?_, ?_⟩
  · rw [hlocket]
  · rw [hlocket]
end

/-! ### The legacy port is reset and enabled (R493) -/

/-- RST_N low stops the port: its outputs float, it serves nothing, and no interrupt is pending. -/
theorem legRstN_low : ∃ t, exec (.legRstN true) s = .next t ∧ t.leg = ⟨0, false⟩ ∧ t.legServes = false ∧
    t.legInt = false := by
  have hbit (i : Nat) := (legacyStops_regBit (s.setRegField (Reg.legStat 0) 22 1 1) (a := Reg.legStat 0) (by decide) i).trans
    (State.regBit_setRegField _ (Reg.legStat 0) (i := 23) (by decide) false i)
  refine ⟨_, rfl, rfl, legServes_of_reset ((hbit 22).trans ?_), legInt_of_clear (hbit 23)⟩
  exact s.regBit_setRegField (Reg.legStat 0) (by decide) true 22

theorem legRstN_high : ∃ t, exec (.legRstN false) s = .next t ∧ t.regBit (Reg.legStat 0) 22 = false ∧ t.leg = s.leg :=
  ⟨_, rfl, s.regBit_setRegField (Reg.legStat 0) (by decide) false 22, rfl⟩

/-- The bits of LEG.CTL that a write of `w` sets: EN and the mask of the interrupt. -/
def State.setLegCtl (s : State) (w : Word) : State :=
  (s.setRegField 0x0DC000 23 1 (w.bit 23).toNat).setRegField 0x0DC000 20 1 (w.bit 20).toNat

/-- What the warden's write of LEG.CTL does: a port that is disabled stops. -/
def State.writeLegCtl (s : State) (w : Word) : State :=
  if s.legEnabled && !(w.bit 23) then (s.setLegCtl w).legacyStops else s.setLegCtl w

theorem legEnabled_setLegCtl (s : State) (w : Word) : (s.setLegCtl w).legEnabled = w.bit 23 :=
  (State.regBit_setRegField _ 0x0DC000 (by decide) (w.bit 20) 23).trans
    (s.regBit_setRegField 0x0DC000 (by decide) (w.bit 23) 23)

theorem legEnabled_legacyStops (s : State) : s.legacyStops.legEnabled = s.legEnabled :=
  (legacyStops_regBit s (by decide) 23).trans (congrArg (Word.bit · 23) (s.reg_setReg_other _ (by decide)))

theorem legEnabled_writeLegCtl (s : State) (w : Word) : (s.writeLegCtl w).legEnabled = w.bit 23 := by
  unfold State.writeLegCtl
  split
  · exact (legEnabled_legacyStops _).trans (legEnabled_setLegCtl s w)
  · exact legEnabled_setLegCtl s w

theorem execLegacyEnable_granted {q : Req} {w : Word} (h : Claims.reaches s q)
    (hmay : (Claims.arrived s q (.regwr 0x0DC000 w)).mayWarden q 0x0DC000 = true) :
    exec (.legacyEnable q w) s = .next (((Claims.arrived s q (.regwr 0x0DC000 w)).writeLegCtl w).answer q 0) := by
  show execLegacyEnable q w s = _
  exact wardenWrite_of_reaches h hmay
end

/-- Settles O51: an input takes effect at once (`nextInput`), by the lemma about its port; the mailbox touches no memory
(`legMail_memory`), and a stop no configuration but INTPEND (`legacyStops_regBit`). -/
theorem outsidePorts : Obligations.OutsidePorts := by
  intro s q e d fr a v w k late hlead hshadow heth hddr n l m quiet
  refine ⟨fun hoff => ⟨?receiveOff, ?transmitOff⟩, fun hon => ⟨fun hfcs => ?badFcs, fun hfcs hmin hmax hmac => ?accepted,
    fun p rest hmode hkind hhead hgap hfit hmin hmax hduplex => ?transmit⟩, fun htrained hperiod => ?patrol,
    fun hserves => legacy_quiet hlead hshadow hserves a v k late,
    fun hserves => ⟨fun ha => legacy_read hlead hshadow hserves ha late,
      legacy_intRead hlead hshadow hserves late, fun ha => legacy_write hlead hshadow hserves ha v late,
      legacy_mail hlead hshadow hserves rfl v late, legacy_try hlead hshadow hserves, legacy_release hlead hshadow hserves⟩,
    legRstN_low, legRstN_high, fun h hmay => ?enable⟩
  case receiveOff => exact execEthFrameReceive_input hlead hshadow heth (ethReceive_disabled hoff fr)
  case transmitOff => exact execEthFrameTransmit_present heth (ethTake_disabled hoff .sound)
  case badFcs => exact execEthFrameReceive_input hlead hshadow heth (ethReceive_badFcs hon hfcs)
  case accepted => exact execEthFrameReceive_input hlead hshadow heth (ethReceive_accepted hon hfcs hmin hmax hmac)
  case transmit =>
    refine ⟨_, execEthFrameTransmit_present heth
      (ethTake_frame hon rfl hmode hkind hhead hgap rfl rfl hfit hmin hmax hduplex), ?_, ethSend_sent ..⟩
    rw [queue_ethSend, State.queue_setQueue]
  case patrol =>
    exact ⟨_, execPatrolScrub_walks hddr htrained hperiod .sound, scrubAt_patrol .., ddr_patrol ..⟩
  case enable => exact ⟨_, execLegacyEnable_granted h hmay, legEnabled_writeLegCtl .., State.mem_flight_send ..⟩

end Sys2Proof.Machine
